-- ==== Sys2Proof/Word.lean ====
section
/-! DEFINITION. The word types of the block: register words, bytes, binary16 and binary32 patterns. -/

namespace Sys2Proof

/-- One 32-bit register word of BAR0 (R29). -/
abbrev Word := BitVec 32

/-- One byte of an addressed store. -/
abbrev Byte := BitVec 8

/-- One 16-bit pattern: a packet word, a binary16 component (R5, R9). -/
abbrev Half := BitVec 16

/-- One binary32 pattern (R5). -/
abbrev F32 := BitVec 32

/-- A 64-bit quantity: a calibration coefficient set, an NVMe field. -/
abbrev Quad := BitVec 64

end Sys2Proof
end

