-- ==== Sys2Proof/Syntax.lean ====
section
/-! DEFINITION. The commands of the device, with the operands each carries: what arrives at its registers, links, pins and queues, and the events its own engines report. -/

namespace Sys2Proof

/-- Who makes a register access: each holds its own copy of a multi-word read (R38). -/
inductive Requester
  | host | binnacle | jtag
  deriving DecidableEq, Repr

/-- A packet from a sensor-head bridge or a tile chain as it arrives: the codewords that carry it, 544 symbols of 10 bits each, the first
sent lowest (R48), of which the first is data codeword `first` of the port and the earlier ones may carry fill; and the index
in the port stream of the block its header stands in (R52). -/
structure Packet where
  first : Nat
  pos : Nat
  codewords : List (BitVec 5440)
  deriving DecidableEq, Repr

/-- A flit that arrives on a cascade port (R188): the header words, the 46 payload bytes, the CRC. -/
structure Flit where
  h0 : Word
  h1 : Word
  h2 : Word
  h3 : Word
  payload : List Byte
  crc : BitVec 16
  deriving DecidableEq, Repr

/-- How a two-wire transfer ends (R341, R342): with the bytes read, or with what went wrong and where. -/
inductive TwiEnd
  | ok (read : List Byte)
  | addrNack
  | dataNack (index : Fin 64)
  | arbByte (bit : Fin 8) (byte : Fin 64)
  | arbRestart
  | arbStop
  deriving DecidableEq, Repr

/-- A DQ pin and a beat of a burst of external memory whose bit arrives in error (R240). -/
abbrev DqError := Fin 40 × Fin 16

/-- The errors in bursts of a 4 KiB region. -/
abbrev RegionErrors := List (Fin 64 × List DqError)

/-- What a start finds (R353): the CHART balls; whether the retained body's hash matches the stored one; rows (false) and
columns (true) of SRAM macros that fail BIST, with their numbers; the margins memory training measures, per channel, as MEM_MARGIN_TRAIN
holds them, and the channels whose spare rank fails it; journal records whose two copies both fail their CRC. -/
structure StartFacts where
  balls : Fin 4
  bodyIntact : Bool
  bist : List (Nat × Bool × Nat)
  margins : List Word
  spareBad : List Nat
  badJournal : List Nat
  deriving DecidableEq, Repr

/-- The commands and events of the device: one constructor per row of the spec's table of operations. -/
inductive Instr
  /-- REG_WRITE (R42). A register write from the host or the Binnacle to a field with no row of its own is applied to its page in arrival order and counted in PG_SEQ. -/
  | regWrite (who : Requester) (addr : Nat) (value : Word)
  /-- BAD_ACCESS (R29). A BAR0 access that is not a naturally aligned 32-bit or 64-bit access is discarded or reads 0 and completes normally. -/
  | badAccess (who : Requester) (addr : Nat) (bytes : Nat) (write : Option (BitVec 64))
  /-- LO_WORD_READ (R38). A read of the _LO word of a multi-word quantity returns the low word and latches the higher words for that requester. -/
  | loWordRead (who : Requester) (addr : Nat)
  /-- HI_WORD_WRITE (R38). A write of the highest word of a writable multi-word quantity applies the whole quantity after a range check on the whole value. -/
  | hiWordWrite (who : Requester) (addr : Nat) (value : Word)
  /-- ENABLE (R32). Writing PG_CTRL.ENABLE starts a unit after a leave request, or tells it to finish its current work, stop and release leave. -/
  | enable (who : Requester) (page : Fin 288) (value : Word)
  /-- IDLE_REQ (R32). Writing PG_CTRL.IDLE_REQ makes a unit finish its current frame or job and stop with its leave kept, or resumes it. -/
  | idleReq (who : Requester) (page : Fin 288) (value : Word)
  /-- UNIT_IDLE (R32). A stopping unit finishes all work in flight and its page reads IDLE = 1. -/
  | unitIdle (page : Fin 288)
  /-- BLK_RST (R35). Writing PG_CTRL.BLK_RST starts a block reset if the page is idle. -/
  | blkRst (who : Requester) (page : Fin 288) (value : Word)
  /-- BLOCK_RESET_DONE (R35). The block reset completes within 10 us and every page of the block returns to its Cold values, with kept state kept or advanced. -/
  | blockResetDone (block : Fin 18)
  /-- COMMIT (R36). Writing PG_SHADOW.COMMIT sets PENDING, or applies the staged fields within 1 us when the page is idle. -/
  | commit (who : Requester) (page : Fin 288) (value : Word)
  /-- PG_INT_STAT_CLEAR (R34). Writing 1 to PG_INT_STAT bits clears them; bit 0 also clears CODE, INFO, MORE and ERR. -/
  | pgIntStatClear (who : Requester) (page : Fin 288) (value : Word)
  /-- PG_INT_SET (R33). Writing 1 to PG_INT_SET sets the matching PG_INT_STAT bit for test. -/
  | pgIntSet (who : Requester) (page : Fin 288) (value : Word)
  /-- PG_INT_EN_WRITE (R40). A write to PG_INT_EN sends a further message if the page's request is still 1. -/
  | pgIntEnWrite (who : Requester) (page : Fin 288) (value : Word)
  /-- MSIX_UNMASK (R40). Unmasking an MSI-X vector sends the messages held as pending. -/
  | msixUnmask (vector : Fin 2048)
  /-- SOF (R67). A SOF packet from the bridge is stamped, pending commits are applied, and the frame is accepted, discarded or checked for geometry. -/
  | sof (port : Fin 2) (packet : Packet)
  /-- LINE (R63). A LINE packet is checked in order for header, membership, order, payload CRC, width and height, and delivered, padded, cut or discarded. -/
  | line (port : Fin 2) (packet : Packet) (fifoFull : Bool) (stagingFull : Bool)
  /-- EOF (R64). An EOF packet closes the open frame, padding remaining lines or abandoning it under the frame policy. -/
  | eof (port : Fin 2) (packet : Packet)
  /-- META (R69). A META packet stores opaque bridge metadata for the open frame; the last before EOF wins. -/
  | metaPacket (port : Fin 2) (packet : Packet)
  /-- ECHO (R57). SIU sends ECHO to the bridge when the port enters UP and every 1 s after. -/
  | echo (port : Fin 2)
  /-- ECHO_REPLY (R57). An ECHO_REPLY sets the one-way delay from the measured round trip less TURN. -/
  | echoReply (port : Fin 2) (packet : Packet)
  /-- ECHO_TIMEOUT (R57). An ECHO not answered within 100 us is ignored and the previous OWD is kept. -/
  | echoTimeout (port : Fin 2)
  /-- TRIGGER (R58). SIU sends a TRIGGER for each exposure instant no later than LEAD before it, or skips and counts it. -/
  | trigger (port : Fin 2)
  /-- LATE_LINE (R64). LINE_TIMEOUT expires with lines still outstanding, closing the frame with padding or abandoning it. -/
  | lateLine (port : Fin 2)
  /-- LATE_FRAME (R64). FRAME_TIMEOUT expires with no SOF, once per silence; outputs keep their last frame. -/
  | lateFrame (port : Fin 2)
  /-- PAD_LINES_DONE (R65). SIU finishes generating the pad lines of a closed frame at 20 Gpix/s and reports FRAME_DONE. -/
  | padLinesDone (port : Fin 2)
  /-- ALIGNMENT_CODEWORD (R50). An alignment codeword on an ingest lane advances alignment, deskew and the port state. -/
  | alignmentCodeword (port : Fin 2) (lane : Fin 5) (codeword : BitVec 5440) (skew : Nat) (clean : Bool)
  /-- ALIGNMENT_LOST (R50). Three consecutive alignment codewords missing or out of place return the port to ALIGNING and close an open frame as short. -/
  | alignmentLost (port : Fin 2) (lanes : BitVec 4)
  /-- T0_PUBLISH (R68). After a tapped record's last byte is written SIU advances WR in reservation order and sends T0_VEC. -/
  | t0Publish (port : Fin 2)
  /-- PIPELINE_LINE (R90). A colour pipeline emits a developed line to its outputs once the lines it depends on have entered. -/
  | pipelineLine (pipe : Fin 2) (mismatch : Bool) (overrun : BitVec 4)
  /-- KNOWN_ANSWER_TEST_DONE (R93). The slice known-answer test ends and substitution, retirement, or resumption follows from its outcome. -/
  | knownAnswerTestDone (slicePass : Bool) (sparePass : Bool)
  /-- CLR_FORCE (R94). Writing CLR_SPARE.FORCE substitutes the spare for the named slice from the next accepted SOF. -/
  | clrForce (who : Requester) (value : Word)
  /-- CLR_RELEASE (R94). Writing CLR_SPARE.RELEASE returns the spare at the next accepted SOF. -/
  | clrRelease (who : Requester) (value : Word)
  /-- DARK_CAL_START (R82). Writing CLR_DARK_CTRL.START begins dark-frame calibration over 2^FRAMES frames. -/
  | darkCalStart (who : Requester) (pipe : Fin 2) (value : Word)
  /-- CAL_DONE (R83). Calibration ends with PASS, writing the inactive bank, or PRECOND, and raises CAL_DONE. -/
  | calDone (pipe : Fin 2)
  /-- DARK_CAL_CANCEL (R83). Writing CANCEL ends calibration as ABORTED. -/
  | darkCalCancel (who : Requester) (pipe : Fin 2) (value : Word)
  /-- TAP_PUBLISH (R95). A CLR tap record is published in reservation order, WR advanced, then VEC sent. -/
  | tapPublish (pipe : Fin 2)
  /-- LUT_LOAD (R106). Writing CLR_LUT_LOAD.START begins loading a cube image into the target bank. -/
  | lutLoad (who : Requester) (pipe : Fin 2) (value : Word)
  /-- LUT_LOAD_DONE (R106). A LUT load ends, setting the bank READY with LUT_LOADED or INVALID at a bad entry. -/
  | lutLoadDone (pipe : Fin 2)
  /-- OT_PUBLISH (R113). After an OT1 to OT3 buffer's last byte is written the output advances WR_IDX and sends VEC. -/
  | otPublish (pipe : Fin 2) (output : Fin 4)
  /-- TABLE_WRITE (R122). Writing CLR_TW_DATA_HI applies a LUT or transfer-table entry through the page 7 window and increments INDEX. -/
  | tableWrite (who : Requester) (value : Word)
  /-- PICTURE_START (R125). CNV starts composing a picture at a pacing SOF or a compose instant, taking a buffer and applying commits. -/
  | pictureStart
  /-- ROW_COMPOSE (R130). CNV composes a canvas row once every live layer has delivered its line, writes it and advances READY_PTR. -/
  | rowCompose
  /-- MAP_VALIDATE (R133). Writing CNV_MAP_CTRL.VALIDATE starts checking the target tile-map bank. -/
  | mapValidate (who : Requester) (value : Word)
  /-- MAP_VALIDATE_DONE (R133). Tile-map validation ends, setting the bank VALID or INVALID at the first failing check. -/
  | mapValidateDone (bank : Fin 2)
  /-- TILE_SCAN (R135). CNV scans a tile-map entry once its rows are ready, corrects the pixels and hands PIX frames to the port. -/
  | tileScan
  /-- DISPATCH_DEADLINE (R139). At D_k, a launch whose rows are not ready is missed and its picture rebound or dropped. -/
  | dispatchDeadline
  /-- LAUNCH (R140). CNV sends LAUNCH with the next launch ID and instant on every port with valid entries, or a hold-over, by L_k minus LEAD. -/
  | launch
  /-- HOST_REQ (R141). Host software writes CNV_SELFREF.HOST_REQ to request or end self-refresh. -/
  | hostReq (value : Word)
  /-- FW_REQ (R141). Firmware writes CNV_SELFREF.FW_REQ to request or end self-refresh. -/
  | fwReq (value : Word)
  /-- SELFREF (R141). CNV sends SELFREF on every port with valid entries at the next dispatch instant or 2 us, stops scanning and enters STATE 2. -/
  | selfref
  /-- LTR_REPORT (R143). Every 1 us CNV reports its latency tolerance TOL to MEM. -/
  | ltrReport
  /-- CNV_LTR_READ (R143). A read of CNV_LTR returns NOW and the least NOW since the last read. -/
  | cnvLtrRead (who : Requester)
  /-- PASS_BEGIN (R151). A PHO pass begins at the earlier of scan start and D_k, preparing each record's thermal state, K and G. -/
  | passBegin
  /-- PASS_CLOSE (R153). A PHO pass closes when every record is written back, updating power and the limiter. -/
  | passClose
  /-- REF_CAPTURE_START (R158). Writing PHO_REF_CTRL.START begins reference capture. -/
  | refCaptureStart (who : Requester) (value : Word)
  /-- REF_CAPTURE_CANCEL (R158). Writing CANCEL ends reference capture as ABORTED. -/
  | refCaptureCancel (who : Requester) (value : Word)
  /-- REF_CAPTURE_TIMEOUT (R158). TIMEOUT passes before the tiles are steady; RESULT = PRECOND. -/
  | refCaptureTimeout
  /-- REF_CAPTURE_WRITE_DONE (R158). After enough steady passes the capture array is written and RESULT = PASS. -/
  | refCaptureWriteDone
  /-- PHO_PWR_PEAK_READ (R160). A read of PHO_PWR_PEAK returns the highest wall power since the last read. -/
  | phoPwrPeakRead (who : Requester)
  /-- QUERY_SEND (R175). TLK sends the next waiting QUERY on a port once no query is outstanding. -/
  | querySend (port : Fin 16)
  /-- REPLY (R175). A REPLY from a tile completes its query, or is discarded if late or unmatched. -/
  | reply (port : Fin 16) (packet : Packet) (rtt : Nat)
  /-- REPLY_TIMEOUT (R175). A query's timeout passes without its reply. -/
  | replyTimeout (port : Fin 16)
  /-- TEMP_QUERY (R176). Every TEMP_PERIOD TLK sends a broadcast TEMP query on the port. -/
  | tempQuery (port : Fin 16)
  /-- ECHO_REMEASURE (R172). Every ECHO_PERIOD TLK re-measures one tile's delay D and writes it if it moved 0.1 ns. -/
  | echoRemeasure (port : Fin 16)
  /-- STATUS_PROBE (R180). Every PROBE_PERIOD TLK sends STATUS to the last position. -/
  | statusProbe (port : Fin 16)
  /-- ENUM (R177). Writing TLK_PORT_CTRL.ENUM enumerates the port's chain. -/
  | enum (who : Requester) (port : Fin 16) (value : Word)
  /-- RESUME (R180). Writing TLK_PORT_CTRL.RESUME re-extends the chain from REACH after a break. -/
  | resume (who : Requester) (port : Fin 16) (value : Word)
  /-- HOST_QUERY (R184). GO with TYPE 0 sends a host QUERY through the window. -/
  | hostQuery (who : Requester) (port : Fin 16) (value : Word)
  /-- HOST_CONFIG (R184). GO with TYPE 1 sends a maker CONFIG of kind 0x80 to 0xFF through the window. -/
  | hostConfig (who : Requester) (port : Fin 16) (value : Word)
  /-- SIGNAL_DETECT (R223). Signal present for 1 us moves a lane from DETECT to TRAIN. -/
  | signalDetect (page : Fin 5) (lane : Fin 20)
  /-- TRAINING_BLOCK (R222). A valid training block completes TRAIN, setting inversion and order and applying the partner's preset. -/
  | trainingBlock (page : Fin 3) (lane : Fin 18) (before : Int) (levels : List Int)
  /-- TRAIN_TIMEOUT (R223). LAN_TRAIN_TIMEOUT expires in bring-up and the lane returns to DETECT. -/
  | trainTimeout (page : Fin 3) (lane : Fin 18)
  /-- FOM_WINDOW (R227). A lane's figure-of-merit window ends and the thresholds, CHECK and substitution rules are applied. -/
  | fomWindow (page : Fin 5) (lane : Fin 20) (sums : Option (Nat × Nat))
  /-- LINK_LOSS (R223). A lane loses its link and returns to DOWN; the owning block's link-loss rule applies. -/
  | linkLoss (page : Fin 5) (lane : Fin 20)
  /-- TILE_SPARE_CHECK_TIMEOUT (R231). A tile spare that fails CHECK within 16 ms after switching is switched back and marked failed. -/
  | tileSpareCheckTimeout (spare : Fin 2)
  /-- LAN_FORCE (R232). Writing LAN_SPARE_CTRL.FORCE substitutes the spare for FORCE_LANE. -/
  | lanForce (who : Requester) (page : Fin 3) (value : Word)
  /-- LAN_RELEASE (R232). Writing RELEASE returns the spare to STANDBY and retrains the original lane. -/
  | lanRelease (who : Requester) (page : Fin 3) (value : Word)
  /-- RETIRED_CLEAR (R232). Writing 1 to a LAN_RETIRED bit lets the retired lane be trained again. -/
  | retiredClear (who : Requester) (page : Fin 5) (value : Word)
  /-- RETRAIN (R223). Writing CAS_PORT_CTRL.RETRAIN returns the port's lanes to DOWN for bring-up. -/
  | retrain (who : Requester) (port : Fin 4) (value : Word)
  /-- ALIGN (R187). An ALIGN flit deskews a cascade port's lanes. -/
  | align (port : Fin 4) (flit : Flit) (skew : Nat) (spareClean : Bool)
  /-- IDLE (R189). An IDLE flit returns ACK and credits on a cascade link. -/
  | idle (port : Fin 4) (flit : Flit)
  /-- DISCOVER (R198). A DISCOVER flit records the neighbour's ID and GEN. -/
  | discover (port : Fin 4) (flit : Flit)
  /-- DISCOVER_SEND (R198). A trained port sends DISCOVER every 1 ms until it receives one. -/
  | discoverSend (port : Fin 4)
  /-- ISOLATED (R198). 100 ms with no partner makes the device Isolated, Lodestar alone or UNSYNC. -/
  | isolated
  /-- ANNOUNCE (R200). An ANNOUNCE updates election, root port, standby, TAI_OFS and MAXT. -/
  | announce (port : Fin 4) (flit : Flit)
  /-- ANNOUNCE_SEND (R199). The device sends ANNOUNCE on every partnered port every ANN_INTERVAL. -/
  | announceSend (port : Fin 4)
  /-- LODESTAR_DROP (R201). No ANNOUNCE from the Lodestar for ANN_TIMEOUT intervals drops it and holds Meridian. -/
  | lodestarDrop
  /-- TOPO (R201). A TOPO flit teaches routes and, with CHANGE = 1, clears the route table. -/
  | topo (port : Fin 4) (flit : Flit) (change : Bool)
  /-- TOPO_SEND (R201). The device sends TOPO every 100 ms and at each start. -/
  | topoSend
  /-- SYNC (R210). A SYNC on the root port steers or steps Meridian and is forwarded with CF updated. -/
  | sync (port : Fin 4) (flit : Flit)
  /-- SYNC_SEND (R210). The Lodestar sends SYNC on each child port every SYNC_INTERVAL. -/
  | syncSend
  /-- PDELAY_REQ (R209). A PDELAY_REQ is answered with PDELAY_RESP carrying TURN. -/
  | pdelayReq (port : Fin 4) (flit : Flit) (tag : BitVec 16)
  /-- PDELAY_REQ_SEND (R209). Every partnered port sends PDELAY_REQ every 1 ms. -/
  | pdelayReqSend (port : Fin 4)
  /-- PDELAY_RESP (R209). A PDELAY_RESP updates the mean link delay. -/
  | pdelayResp (port : Fin 4) (flit : Flit) (tag : BitVec 16) (turn : BitVec 64)
  /-- LANEMAP (R190). A LANEMAP flit starts or stops spare-lane mirroring on a cascade port. -/
  | lanemap (port : Fin 4) (flit : Flit) (action : Bool) (lane : Fin 4) (start : BitVec 32)
  /-- PIC (R204). A PIC flit is forwarded and reassembled; a complete picture starts a CMP decode into its layer. -/
  | pic (port : Fin 4) (flit : Flit)
  /-- MSG (R205). A MSG message is written to the host receive ring and WR advanced before the vector. -/
  | msg (port : Fin 4) (flit : Flit)
  /-- PIC_SEND (R203). CAS sends a record in a send-stream ring as one class 1 message and advances RD_IDX. -/
  | picSend (stream : Fin 8)
  /-- MSG_SEND (R205). Host software advances CAS_MSG_TX WR and CAS sends the entries as class 2 messages. -/
  | msgSend (who : Requester) (value : Word)
  /-- RETRY_TIMEOUT (R193). No ACK progress for RETRY_TIMEOUT resends the unacknowledged flits. -/
  | retryTimeout (port : Fin 4)
  /-- HOLDOVER (R211). No SYNC accepted for SYNC_TIMEOUT intervals puts Meridian in holdover on the last FREQ. -/
  | holdover
  /-- TAI_SET (R212). Writing MER_TAI_SET_HI on the Lodestar compares Meridian with the TAI reference and slews, steps or breaks the epoch. -/
  | taiSet (who : Requester) (value : Word)
  /-- PPS_IN (R213). A PPS_IN edge is stamped and applies a pending TAI_SET as the reference. -/
  | ppsIn
  /-- PPS_MISSING (R213). No PPS_IN edge for 1.1 s. -/
  | ppsMissing
  /-- REF10M_LOSS (R213). REF10M_IN goes missing and CK_MER falls back to REFCLK. -/
  | ref10mLoss
  /-- MEM_ACCESS (R239). A client's 64-byte access is served as one burst with auto-precharge and ECC. -/
  | memAccess (client : Fin 8 × Nat) (addr : BitVec 48) (write : Option (List Byte)) (mask : BitVec 64) (errors : List DqError)
  /-- PATROL_SCRUB (R241). MEM reads and corrects each burst of every active rank once per SCRUB_HOURS. -/
  | patrolScrub (addr : BitVec 48) (errors : List DqError)
  /-- REFRESH (R242). MEM issues all-bank refresh to each rank every tREFI, postponing up to 4 while TOL is 0. -/
  | refresh (channel : Fin 12) (rank : Fin 3)
  /-- MR4_POLL (R242). MEM reads DRAM mode register 4 every 16 ms to set tREFI. -/
  | mr4Poll (hot : Bool)
  /-- MEM_SELFREF_ENTRY (R243). All channels enter self-refresh after SR_IDLE when exit time is below TOL. -/
  | memSelfrefEntry
  /-- MARGIN_CHECK (R246). Every VERIFY_PERIOD MEM measures margins and requests retraining of a channel below half its training margin. -/
  | marginCheck (channel : Fin 12) (t0 : Byte) (v0 : Byte) (t1 : Byte) (v1 : Byte)
  /-- CHANNEL_RETRAIN (R246). With leave granted and CNV held, MEM holds the channel, saves 64 KiB and retrains DQ centring. -/
  | channelRetrain (channel : Fin 12)
  /-- RETRAIN_DONE (R246). Retraining ends, margins and Log book are updated and MEM_REQ clears unless another channel waits. -/
  | retrainDone (channel : Fin 12) (t0 : Byte) (v0 : Byte) (t1 : Byte) (v1 : Byte)
  /-- MIGRATION_REGION (R248). A 4 KiB region of a retiring rank is copied to the spare and P advances; at the end the rank map switches. -/
  | migrationRegion (channel : Fin 12) (copied : Option RegionErrors)
  /-- JOB_SUBMIT (R265). Host software advances CMP_Qq_WR and CMP takes the queued descriptors. -/
  | jobSubmit (who : Requester) (queue : Fin 4) (value : Word)
  /-- JOB_START (R255). A free lane starts the highest-ranked waiting job. -/
  | jobStart (deflate : Bool)
  /-- JOB_DONE (R265). A compression job ends; its output and completion are committed or it fails whole. -/
  | jobDone (lane : Fin 10)
  /-- JOB_RESUME (R267). A paused ring-output job resumes when the consumer advances RD. -/
  | jobResume (lane : Fin 10)
  /-- PAUSE_TIMEOUT (R267). A job paused for PAUSE_TIMEOUT fails whole. -/
  | pauseTimeout (lane : Fin 10)
  /-- SEND_BIND (R257). Writing CMP_SENDs_CTRL.EN binds a send stream to a CNV layer, refused if the layer is disabled. -/
  | sendBind (who : Requester) (stream : Fin 8) (value : Word)
  /-- COD_PICTURE_START (R274). The free engine takes the waiting picture with the earliest capture across contexts, checking its source buffer. -/
  | codPictureStart
  /-- COD_ROW (R281). The engine codes a CTU row once the ring holds ROW_BOUND, keeping it or recoding it skipped. -/
  | codRow (refPoison : Bool)
  /-- COD_PICTURE_DONE (R284). An access unit record with filler is written, OUT_WR advanced and VEC sent. -/
  | codPictureDone
  /-- STALL_TIMEOUT (R285). A stall lasting STALL_TIMEOUT discards the picture and restarts the stream. -/
  | stallTimeout
  /-- SQ_TAIL_DOORBELL (R293). A submission queue tail doorbell makes REC fetch commands under weighted round robin. -/
  | sqTailDoorbell (queue : Fin 65) (tail : BitVec 16)
  /-- CQ_HEAD_DOORBELL (R289). A completion queue head doorbell frees completion entries. -/
  | cqHeadDoorbell (queue : Fin 65) (head : BitVec 16)
  /-- DELETE_IO_SQ (R291). Admin command 00h deletes an I/O submission queue. -/
  | deleteIoSq
  /-- CREATE_IO_SQ (R291). Admin command 01h creates an I/O submission queue. -/
  | createIoSq
  /-- GET_LOG_PAGE (R291). Admin command 02h returns a log page. -/
  | getLogPage
  /-- DELETE_IO_CQ (R291). Admin command 04h deletes an I/O completion queue. -/
  | deleteIoCq
  /-- CREATE_IO_CQ (R291). Admin command 05h creates an I/O completion queue. -/
  | createIoCq
  /-- IDENTIFY (R291). Admin command 06h returns identify data. -/
  | identify
  /-- ABORT (R297). Admin command 08h discards a not-yet-started command or lets it finish. -/
  | abort
  /-- SET_FEATURES (R291). Admin command 09h sets a supported feature. -/
  | setFeatures
  /-- GET_FEATURES (R291). Admin command 0Ah returns a feature value. -/
  | getFeatures
  /-- ASYNCHRONOUS_EVENT_REQUEST (R291). Admin command 0Ch waits to report an asynchronous event. -/
  | asynchronousEventRequest
  /-- NAMESPACE_MANAGEMENT (R302). Admin command 0Dh allocates or deletes a namespace as a contiguous range. -/
  | namespaceManagement
  /-- NAMESPACE_ATTACHMENT (R291). Admin command 15h attaches or detaches a namespace. -/
  | namespaceAttachment
  /-- FORMAT_NVM (R306). Admin command 80h resets a namespace's allocation, optionally writing zeros with checkpoints. -/
  | formatNvm
  /-- SANITIZE (R306). Admin command 84h block-erases or overwrites the whole array with checkpoints. -/
  | sanitize
  /-- SANITIZE_DONE (R306). Sanitize or Format completes and raises its asynchronous event. -/
  | sanitizeDone
  /-- FLUSH (R296). I/O command 00h completes once earlier completed writes and their journal records are on the media. -/
  | flush
  /-- WRITE (R294). I/O command 01h completes once every sector is held whole in the dirty buffer. -/
  | write
  /-- WRITE_ADMIT (R298). A waiting Write alters the dirty buffer once dirty bytes allow it. -/
  | writeAdmit
  /-- READ (R295). I/O command 02h returns sectors from the dirty buffer or the media. -/
  | read
  /-- COMPARE (R295). I/O command 05h compares data following the Read rule. -/
  | compare
  /-- COMPARE_AND_WRITE (R295). A fused Compare and Write on one sector runs with no command between its halves. -/
  | compareAndWrite
  /-- WRITE_ZEROES (R296). I/O command 08h discards dirty copies and completes once zeros are on the media. -/
  | writeZeroes
  /-- DATASET_MANAGEMENT (R296). I/O command 09h takes Deallocate as a hint passed on for whole stripes. -/
  | datasetManagement
  /-- DRAIN (R298). REC writes the oldest dirty data to the media array, full stripes where possible. -/
  | drain
  /-- FLUSH_DONE (R300). A hold-up flush drains the dirty buffer and writes the CLEAN journal record. -/
  | flushDone
  /-- CLIP_ARM (R305). Writing REC_CLIP_CTRL.ARM applies START_TIME for a clip of the port. -/
  | clipArm (who : Requester) (value : Word)
  /-- CLIP_STOP (R305). Writing REC_CLIP_CTRL.STOP applies STOP_TIME to the open clip. -/
  | clipStop (who : Requester) (value : Word)
  /-- MEDIA_FAIL (R303). A member fails by link down, uncorrectable read or MEDIA_TIMEOUT, moving the array to DEGRADED, REBUILDING or FAILED. -/
  | mediaFail (port : Fin 5)
  /-- COPY_TRIGGER (R303). A readable member reaches a wear, error or SMART trigger and the array enters COPYING. -/
  | copyTrigger (port : Fin 5) (used : Byte) (errs : BitVec 16) (critical : Bool)
  /-- MEDIA_FORCE (R303). Writing REC_MEDIA_FORCE.GO starts COPYING for the member. -/
  | mediaForce (who : Requester) (value : Word)
  /-- MEDIA_MIGRATION_STEP (R303). The copy or rebuild pointer advances; at the end the spare takes the member's place. -/
  | mediaMigrationStep
  /-- MEDIA_RETIRED_CLEAR (R303). Writing 1 to a REC_MEDIA_RETIRED bit clears a retired port. -/
  | mediaRetiredClear (who : Requester) (value : Word)
  /-- CURRENT_LOOP_TICK (R312). At each carrier centre MOT samples currents and runs the current loop and modulation. -/
  | currentLoopTick (axis : Fin 8) (u : List Bool) (v : List Bool)
  /-- VELOCITY_TICK (R312). At each 20 kHz tick MOT computes VEL, runs the velocity loop and starts a serial read. -/
  | velocityTick
  /-- POSITION_TICK (R321). At each 5 kHz tick due setpoints apply and the position loop runs. -/
  | positionTick
  /-- SERIAL_READ_DONE (R319). A serial or SSI encoder frame ends and its position difference is added to POS. -/
  | serialReadDone (axis : Fin 8) (started : Bool) (raw : BitVec 48) (alarm : Bool) (stale : Bool) (crc : Byte) (stamp : Nat)
  /-- QEI_EDGE (R316). A filtered quadrature edge updates POS and direction. -/
  | qeiEdge (axis : Fin 8) (a : Bool) (b : Bool)
  /-- INDEX_EDGE (R317). A rising filtered Z copies POS into IDX. -/
  | indexEdge (axis : Fin 8)
  /-- GATE_FAULT (R326). MOT_FLT_N low latches GATE and holds the axis. -/
  | gateFault (axis : Fin 8) (low : Bool)
  /-- DSM_LOST (R311). A delta-sigma input without transitions for 64 clocks holds the axis. -/
  | dsmLost (channel : Fin 36)
  /-- OFFSET_CAL_DONE (R311). 1,024 filter outputs averaged into I_OFS, after which the PWM outputs are enabled. -/
  | offsetCalDone (axis : Fin 8)
  /-- VOLT_LIMIT (R313). VOLT_LIMITED held for VLIM_TIME holds the axis. -/
  | voltLimit (axis : Fin 8)
  /-- OBS_LOST (R323). Observer confidence below CONF_MIN for OBS_TIME switches to the encoder or starts rotor-loss handling. -/
  | obsLost (axis : Fin 8)
  /-- REACQ_PULSE (R324). Every 250 us a zero-voltage pulse measures the rotor angle; three agreeing angles allow a flying start or alignment. -/
  | reacqPulse (axis : Fin 8) (angle : BitVec 16)
  /-- REACQ_FAIL (R324). No re-acquisition within BRK_DELAY applies the brake and holds the axis. -/
  | reacqFail (axis : Fin 8)
  /-- BRAKE_DELAY (R326). BRK_DELAY after entering HOLD the brake is asserted. -/
  | brakeDelay (axis : Fin 8)
  /-- CMD_RUN (R326). CMD = RUN moves HOLD or OFF to RUN. -/
  | cmdRun (who : Requester) (axis : Fin 8)
  /-- CMD_HOLD (R326). CMD = HOLD opens the inverter and brakes after BRK_DELAY. -/
  | cmdHold (who : Requester) (axis : Fin 8)
  /-- CMD_OFF (R326). CMD = OFF opens the inverter, brakes at once and ends any alignment. -/
  | cmdOff (who : Requester) (axis : Fin 8)
  /-- CMD_ALIGN (R325). CMD = ALIGN releases the brake and runs commutation alignment. -/
  | cmdAlign (who : Requester) (axis : Fin 8)
  /-- ALIGN_PHASE_END (R325). An alignment phase ends; after 90 degrees the checks set ALIGN_OFS and the axis enters HOLD. -/
  | alignPhaseEnd (axis : Fin 8)
  /-- SETPOINT_PUSH (R321). Writing MOT_AX_SP_PUSH.PUSH queues a Meridian-timed setpoint. -/
  | setpointPush (who : Requester) (axis : Fin 8) (value : Word)
  /-- LATCH_ARM (R320). Writing MOT_AX_LATCH_CTRL.ARM arms a latch at LATCH_AT. -/
  | latchArm (who : Requester) (axis : Fin 8) (value : Word)
  /-- LATCH_AT (R320). At LATCH_AT the latch records POS, VEL and time. -/
  | latchAt (axis : Fin 8)
  /-- FAULT_CLEAR (R326). Writing 1 to a MOT_AX_FAULT bit clears it once its condition has gone. -/
  | faultClear (who : Requester) (axis : Fin 8) (value : Word)
  /-- AUD_ARM (R332). Writing AUD_CMD.ARM begins capture at the first grid index 10 us ahead. -/
  | audArm (who : Requester) (port : Fin 4) (value : Word)
  /-- AUD_STOP (R337). Writing STOP ends capture and writes the partial block. -/
  | audStop (who : Requester) (port : Fin 4) (value : Word)
  /-- AUD_FRAME (R333). An audio frame is stamped, aligned to its grid index with repeat or drop, and written in blocks. -/
  | audFrame (port : Fin 4) (stamp : Nat) (bclks : Nat) (bits : List Bool)
  /-- AUD_CLOCK_LOSS (R331). No BCLK edge for 10 us. -/
  | audClockLoss (port : Fin 4)
  /-- DCO_UPDATE (R334). Every 1 ms the PI loop steers CK_AUD from the mean phase and updates LOCKED. -/
  | dcoUpdate
  /-- TWI_GO (R342). Writing TWI_XFER.GO starts a controller transfer or probe. -/
  | twiGo (who : Requester) (bus : Fin 4) (value : Word) (sdaLow : Bool) (freed : Bool)
  /-- TWI_TRANSFER_DONE (R342). A two-wire transfer ends with OK, NACK, arbitration loss or ABSENT status. -/
  | twiTransferDone (bus : Fin 4) (result : TwiEnd)
  /-- TWI_RETRY (R342). RETRY_GAP after a NACK or arbitration loss the controller retries the transfer. -/
  | twiRetry (bus : Fin 4)
  /-- STRETCH_TIMEOUT (R340). SCL held low beyond STRETCH_TIMEOUT ends the transfer. -/
  | stretchTimeout (bus : Fin 4)
  /-- BUS_STUCK (R340). SCL still low 35 ms later, or SDA low after 9 clocks. -/
  | busStuck (bus : Fin 4) (scl : Bool) (sda : Bool)
  /-- TARGET_ADDRESSED (R343). The bus is addressed at OWN_ADDR and answers as target through its FIFOs. -/
  | targetAddressed (bus : Fin 4) (bytes : List Byte) (count : Nat)
  /-- TGT_STRETCH_EXPIRY (R343). TGT_STRETCH expires with RX full or TX empty. -/
  | tgtStretchExpiry (bus : Fin 4)
  /-- TGT_TX_PUSH (R343). A write to TWI_TGT_TX pushes a byte into the TX FIFO. -/
  | tgtTxPush (who : Requester) (bus : Fin 4) (value : Word)
  /-- TGT_RX_POP (R343). A read of TWI_TGT_RX pops a byte from the RX FIFO. -/
  | tgtRxPop (who : Requester) (bus : Fin 4)
  /-- POWER_ON (R346). VDD_AON and VDD_CORE reach power-good and a cold reset begins. -/
  | powerOn
  /-- BROWN_OUT_CORE (R346). VDD_CORE below its brown-out level for 1 us causes a cold reset. -/
  | brownOutCore
  /-- BROWN_OUT_AON (R346). VDD_AON below its brown-out level for 1 us causes a cold reset. -/
  | brownOutAon
  /-- RST_N (R350). An external low on RST_N starts a warm reset. -/
  | rstN
  /-- RST_N_HELD (R350). RST_N still low 100 ms after release makes the reset cold. -/
  | rstNHeld
  /-- BINNACLE_WATCHDOG (R346). No kick within the PLT_WDOG_BIN period starts a warm reset and fails the start. -/
  | binnacleWatchdog
  /-- HOST_WATCHDOG (R346). No kick within the PLT_WDOG_HOST period starts a warm reset and fails the start. -/
  | hostWatchdog
  /-- WDOG_BIN_KICK (R346). Writing PLT_WDOG_BIN.KICK restarts the Binnacle watchdog. -/
  | wdogBinKick (who : Requester) (value : Word)
  /-- WDOG_HOST_KICK (R346). Writing PLT_WDOG_HOST.KICK restarts the host watchdog. -/
  | wdogHostKick (who : Requester) (value : Word)
  /-- START_TIMER (R354). 30 s after RST_N release without START_OK a warm reset fails the start. -/
  | startTimer
  /-- SOFTWARE_WARM_RESET (R346). PLT_RESET_REQ with KIND 1 and the key starts a warm reset. -/
  | softwareWarmReset (who : Requester) (value : Word)
  /-- SOFTWARE_COLD_RESET (R348). PLT_RESET_REQ with KIND 2 drains the dirty buffer and starts a cold reset. -/
  | softwareColdReset (who : Requester) (value : Word)
  /-- DEBUG_REQUEST (R346). A JTAG or DBG_RESET_REQ debug request starts a warm reset. -/
  | debugRequest (who : Requester) (value : Word)
  /-- CLOCK_FAILURE (R348). REFCLK stops or drifts; PLLs move to the backup oscillator, the dirty buffer drains, then a cold reset. -/
  | clockFailure
  /-- BINNACLE_LOCKUP (R346). No instruction retired for 10 ms starts a warm reset. -/
  | binnacleLockup
  /-- FABRIC_DEADLOCK (R346). A fabric transaction outstanding for 1 ms starts a warm reset. -/
  | fabricDeadlock
  /-- DEAD_RECKONING_EXIT (R356). A write of PLT_DR_CTRL with EXIT and KEY 0x5A clears the start count and brings a cold reset. -/
  | deadReckoningExit (who : Requester) (value : Word)
  /-- CORE_RESET (R347). 20 us into a warm reset the core logic resets and RST_N is driven low. -/
  | coreReset
  /-- RST_N_RELEASE (R353). RST_N is released and the boot ROM and firmware run the start steps. -/
  | rstNRelease (facts : StartFacts)
  /-- START_OK (R354). Firmware writes START_OK; the start succeeds, the count clears and a trial image is committed. -/
  | startOk (who : Requester) (value : Word)
  /-- START_FAIL (R354). Firmware writes START_FAIL; the start fails as on timer expiry. -/
  | startFail (who : Requester) (value : Word)
  /-- FW_SLOT_WRITE (R364). Writing PLT_FW_SLOT NEXT or TRIAL writes a new boot record. -/
  | fwSlotWrite (who : Requester) (value : Word)
  /-- SETTINGS_SLOT_WRITE (R364). Writing PLT_SETTINGS_SLOT.NEXT writes a new boot record. -/
  | settingsSlotWrite (who : Requester) (value : Word)
  /-- BOOT_RECORD_WRITTEN (R358). The Binnacle finishes erasing and programming the other boot-record copy. -/
  | bootRecordWritten
  /-- FLASH_READ (R364). GO with OP 0 reads 256 bytes of flash into the buffer. -/
  | flashRead (who : Requester) (value : Word)
  /-- FLASH_PROGRAM (R364). GO with OP 1 programs 256 bytes in an allowed area. -/
  | flashProgram (who : Requester) (value : Word)
  /-- FLASH_ERASE (R364). GO with OP 2 erases 64 KiB in an allowed area. -/
  | flashErase (who : Requester) (value : Word)
  /-- FLASH_DONE (R364). A flash operation ends and sets DONE. -/
  | flashDone (ok : Bool)
  /-- LOCK (R366). Firmware writes PLT_LOCK.LOCK, locking every RW-L field until cold start. -/
  | lock (who : Requester) (value : Word)
  /-- LEAVE_EVALUATE (R370). PLT evaluates the leave queue on arrival, release or every 0.5 us and grants every request that passes. -/
  | leaveEvaluate
  /-- LEAVE_TIMEOUT (R372). A request waiting LEAVE_WAIT_MAX is removed and a start request returns ENABLE to 0. -/
  | leaveTimeout
  /-- LEAVE_BUDGET_WRITE (R374). Writing PLT_LEAVE_BUDGET changes the budgets and, with WITHDRAW, withdraws lowest-priority grants. -/
  | leaveBudgetWrite (who : Requester) (value : Word)
  /-- SENSOR_READING (R375). Every 100 us each die sensor reading is taken and TMAX compared with the thresholds and ladder. -/
  | sensorReading (counts : List Nat)
  /-- PLT_THERM_PEAK_READ (R381). A read of PLT_THERM_PEAK returns the highest TMAX since the last read. -/
  | pltThermPeakRead (who : Requester)
  /-- MAIN_POWER_LOSS (R393). MAIN_V below MAIN_FAIL for 20 us starts the flush, SELFREF, braking and unit stop. -/
  | mainPowerLoss
  /-- MAIN_POWER_GOOD (R393). MAIN_V back above MAIN_FAIL plus 50 mV for 20 us sets outcome 2. -/
  | mainPowerGood
  /-- STORE_EXHAUSTED (R393). HOLD_V below CUTOFF for 20 us ends the flush as interrupted with a brown-out reset. -/
  | storeExhausted
  /-- LOG_RECORD_WRITE (R391). Firmware writes the next queued event as a two-phase Log-book record. -/
  | logRecordWrite (ok : Bool)
  /-- SRAM_CORRECTED_ERROR (R389). A corrected SRAM error is counted, and 3 in one row within 1 s repair the row from a spare. -/
  | sramCorrectedError (sram : Nat) (row : Nat)
  /-- HOLD_TEST_NOW (R417). Writing PLT_HOLD_TEST.NOW starts a store measurement. -/
  | holdTestNow (who : Requester) (value : Word)
  /-- HOLD_TEST (R417). Every PERIOD PLT starts a store measurement, disabling the charger. -/
  | holdTest
  /-- HOLD_TEST_DISCHARGE (R417). After V_OC is sampled the discharge load is switched in and V1 taken. -/
  | holdTestDischarge (vOc : Nat) (v1 : Nat)
  /-- HOLD_TEST_DONE (R417). V2 is taken, the load released and C and ESR computed. -/
  | holdTestDone (v2 : Nat)
  /-- HOLD_ENERGY_UPDATE (R418). Every 10 ms PLT computes E and updates PLT_HOLD_ENERGY when it moved 0.10 J. -/
  | holdEnergyUpdate (v : Nat)
  /-- COUNTER_SELECT (R399). A write to a counter's SEL register configures it and clears it to 0. -/
  | counterSelect (who : Requester) (block : Fin 18) (counter : Fin 8) (value : Word)
  /-- COUNTER_CLEAR (R399). Writing CNT_b_CLEAR clears the block's eight counters. -/
  | counterClear (who : Requester) (block : Fin 18) (value : Word)
  /-- SNAPSHOT (R400). At each snapshot instant every counter in MASK copies its value and a record is reserved. -/
  | snapshot
  /-- SNAPSHOT_RECORD_DONE (R401). The snapshot record is written, WR advanced, VEC sent and the user page updated. -/
  | snapshotRecordDone
  /-- TOKEN_VERIFY (R406). Writing DBG_LOCK.VERIFY starts the ROM check of the unlock token. -/
  | tokenVerify (who : Requester) (value : Word)
  /-- TOKEN_VERIFY_DONE (R406). The token check ends, opening the named scopes or failing. -/
  | tokenVerifyDone
  /-- BYPASS (R405). JTAG instruction BYPASS. -/
  | bypass (tdi : List Bool)
  /-- IDCODE (R405). JTAG instruction IDCODE returns 0x148160BF. -/
  | idcode
  /-- SAMPLE_PRELOAD (R405). JTAG instruction SAMPLE/PRELOAD. -/
  | samplePreload (pins : List Bool) (load : List Bool)
  /-- EXTEST (R405). JTAG instruction EXTEST drives boundary scan. -/
  | extest (pins : List Bool) (load : List Bool)
  /-- JTAG_REGISTER_ACCESS (R405). Private JTAG instruction for BAR0 register access while the lock is open. -/
  | jtagRegisterAccess (addr : Nat) (isWrite : Bool) (value : Word)
  /-- BINNACLE_HALT (R405). Private JTAG instruction halting the Binnacle. -/
  | binnacleHalt
  /-- BINNACLE_STEP (R405). Private JTAG instruction stepping the Binnacle. -/
  | binnacleStep
  /-- SCHEDULE_RESEND (R169). TLK sends a new SCHEDULE CONFIG when any slot edge, converted with the measured transmit-clock ratio, has moved by 1 ns or more. -/
  | scheduleResend (port : Fin 16)
  /-- QUARANTINE_EXPIRY (R197). A class 1 or class 2 message waiting for its SEQ and GEN pair to be 16 us old is released for sending. -/
  | quarantineExpiry
  /-- CONTROLLER_RESET (R289). Host software writes the NVMe controller configuration (CC.EN) of function 1, enabling the controller or performing a Controller Reset. -/
  | controllerReset (cc : Word) (aqa : Word) (asq : BitVec 64) (acq : BitVec 64)
  /-- INTERRUPT_COALESCING_EXPIRY (R291). The aggregation time of Feature 08h Interrupt Coalescing expires and REC sends the held completion interrupt. -/
  | interruptCoalescingExpiry (vector : Fin 65)
  /-- MEDIA_COMMAND_COMPLETION (R295). An SSD on a media port posts a completion for a read or write that REC issued, letting the dependent host command, Flush or Write Zeroes complete. -/
  | mediaCommandCompletion (port : Fin 5) (tag : Nat) (ok : Bool) (data : List Byte)
  /-- MEDIA_PORT_UP (R303). A media port's link comes up with an SSD and the port reaches STANDBY, letting a pending copy or rebuild begin. -/
  | mediaPortUp (port : Fin 5) (sectors : Nat) (used : Byte) (errs : BitVec 16)
  /-- FILTER_OUTPUT (R311). A sinc3 filter produces an output, against which overcurrent, bus voltage and sin/cos amplitude and tracking are checked. -/
  | filterOutput (channel : Fin 36) (bits : List Bool)
  /-- BUS_FREE (R343). The two-wire bus becomes free, by another controller's STOP ending a target transaction or by a stuck SCL going high. -/
  | busFree (bus : Fin 4) (sdaLow : Bool) (freed : Bool)
  /-- RAIL_POWER_FAIL (R410). A rail other than VDD_CORE and VDD_AON falls below its power-good level for 1 us and holds the device in reset with cause bit 1. -/
  | railPowerFail
  /-- RETENTION_LOSS (R356). VDD_AON falls below its 0.55 V retention level, clearing the retention registers, the always-on state and the THERMTRIP latch. -/
  | retentionLoss
  /-- REF10M_RESTORED (R213). REF10M_IN becomes present again and MER_REF_STATE reports it. -/
  | ref10mRestored
  deriving DecidableEq, Repr

end Sys2Proof
end

