-- ==== Sys2Proof/Decode.lean ====
section
/-! DEFINITION. Commands out of table words. The device is a block, not a processor: the spec's table of operations gives no row any bits, so no word spells a command. -/

namespace Sys2Proof

/-- The command that a word of the table spells: the table gives no row a bit, so none. -/
def decodeTableWord (_nbits _w : Nat) : Option Instr := none

end Sys2Proof
end

