-- ==== Sys2Proof/Config.lean ====
section
/-! DEFINITION. What the spec leaves open: constants without a value. Each is applied to the number of the draw (the
state's `drawn`), and to what it may depend on. -/

namespace Sys2Proof

/-- How far a tile port's transmit clock is off 53.125 GBd as measured, in 2^-32; the model holds it to ±100 ppm (R169, R171, R219). -/
opaque Config.tlkClock : Nat → Int

/-- The PI servo's new FREQ from KP_SHIFT, KI_SHIFT and θ: the gains are 2^-shift, but of which units is not given (R210, R216). The servo holds it to ±500 ppm. -/
opaque Config.servoFreq : Nat → Nat → Nat → Int → Int

/-- The transmit preset a lane asks of its partner, and the CTLE and DFE1 settings its adaptation comes to: the algorithm is not given (R222, R223, R228). -/
opaque Config.lanPreset : Nat → Nat → Nat
opaque Config.lanCtle : Nat → Nat
opaque Config.lanDfe : Nat → Nat

/-- The int8 of a NaN that reaches OT2's quantisation: the spec says that none does (R119, R422). -/
opaque Config.int8NaN : BitVec 32 → BitVec 8

/-- What a forwarded flit's passage through the device takes beside its wait in a queue, in 2^-16 ns; the model holds it under the 33 ns that R191 leaves it (R191, R195, R210). -/
opaque Config.casResidence : Nat → Nat

/-- TURN of a PDELAY_RESP, in 2^-16 ns (R209). -/
opaque Config.pdelayTurn : Nat → Nat

/-- The value a channel's pseudo-random generator gives an activation, from the channel, its seed's draw and the activation's number: the seed is jitter (R244). -/
opaque Config.memRandom : Nat → Nat → Nat → Nat

/-- The fixed function from the unit within a channel to bank, row and column is not given; the model lets it turn the banks of each 32 units (R238). -/
opaque Config.memBankTurn : Nat → Nat
opaque Config.memRow : Nat → Nat
opaque Config.memColumn : Nat → Nat

/-- The DRAM reports support of directed refresh management (R244). -/
opaque Config.memRfm : Bool

/-- What the decoder makes of an error beyond 12 symbols: it may detect it, or come to other data (R240). -/
opaque Config.eccWide : Nat → Option (List Byte)

/-- A byte of the data that an uncorrectable burst returns (R240). -/
opaque Config.poisonByte : Nat → Nat → Byte

/-- The code table CMP chooses for a dynamic segment, from its samples' classes (R261). -/
opaque Config.kpcTable : List Nat → List Nat

/-- The stream a DEFLATE lane emits at a LEVEL above 0 (R263). -/
opaque Config.deflateBytes : Nat → List Byte → List Byte

/-- A byte of an output buffer whose job failed (R266). -/
opaque Config.junkByte : Nat → Nat → Byte

/-- SPROG of a Sanitize in progress: how far it has come (R306). -/
opaque Config.sanitizeProgress : Nat → BitVec 16

/-- Bits of a coded CTU row, of a skipped one, and of what precedes the rows of an access unit: mode and QP choices are not specified (R272, R281). -/
opaque Config.codRowBits : Nat → Nat
opaque Config.codSkipBits : Nat → Nat
opaque Config.codHeadBits : Nat → Nat

/-- The vectors the engine would choose in a CTU of a row, from its search, merge and TMVP candidates: block, size and quarter-sample vector (R272, R279). -/
opaque Config.codCandidates : Nat → Nat → List (Nat × Nat × Nat × Nat × Int × Int)

/-- A byte of an access unit, and the mean luma QP that rate control reached (R281, R284). -/
opaque Config.codByte : Nat → Nat → Byte
opaque Config.codQp : Nat → Nat

/-- cos and sin of an electrical angle in turns: the loops' precision is not given (R312). -/
opaque Config.motCos : F32 → F32
opaque Config.motSin : F32 → F32

/-- The integral term of a PI controller's output, and its next integrator value, from KI, the error and the integrator: the discrete form of the integral is not given (R312). -/
opaque Config.motIntegral : F32 → F32 → F32 → F32 × F32

/-- The time, in CK_MOT cycles, that modulation gives the high side of a phase in a carrier period: of TYPE, the two components of the voltage, V_bus, the period and the phase (R310, R312). -/
opaque Config.motOnTime : Nat → F32 → F32 → F32 → Nat → Nat → Nat

/-- What the back-EMF observer gives at a current sample: the predicted currents, its angle in turns, and the counts by which POS moves (R315, R323). -/
opaque Config.motObserve : Nat → F32 × F32 × F32 × Int

/-- The audio DCO's next OFFSET (2^-6 ppm) from mean e (2^-16 ns), KP_SHIFT, KI_SHIFT and OFFSET: the loop's scale is not given (R334). -/
opaque Config.audSteer : Int → Nat → Nat → Int → Int

/-- The latency of a register access, in ns: what the fabric takes is not given (R403). -/
opaque Config.psLatency : Nat → Nat

/-- DIRTY_LIMIT in MiB at P_FLUSH = 0, where the quotient of R299 has no value, from E in 0.01 J. -/
opaque Config.limitNoPower : Nat → Nat

/-- The ROM's public keys 0 to 3, as affine coordinates on P-384 (R359). -/
opaque Config.romKey : Nat → Nat × Nat

/-- The debug challenge, drawn from jitter at a cold start (R406). -/
opaque Config.challenge : Nat → Nat

/-- Fused counts N25 and N100 of a die sensor (R375). -/
opaque Config.sensorFuse : Nat → Nat × Nat

/-- What a temperature field holds of a value it has no room for (R375). -/
opaque Config.thermWide : Nat → Nat

/-- E in 0.01 J where R418 states no value: CUTOFF = 0, or a result beyond 16 bits. -/
opaque Config.holdEnergy : Nat → Nat → Nat

/-- ESR in 0.1 mΩ where the field has no room for it (R417). -/
opaque Config.holdEsr : Nat → Nat

/-- V1 and V2 in the INFO of E_HOLD_TEST that a discarded test had not yet taken (R419). -/
opaque Config.holdUntaken : Nat → Nat

/-- A signal of a page inside a unit's memory path: 6 to 9 of R398. -/
opaque Config.stallSignal : Nat → Nat → Nat → Bool

/-- A byte of flash after a program or erase that failed. -/
opaque Config.flashJunk : Nat → Nat → Byte

/-- The value of a Chart record after firmware's conversion to its own schema, or that the schema does not hold it (R363). -/
opaque Config.migrate : Nat → Nat → Nat → Word → Option (Nat × Word)

/-- The training step named in E_TRAIN_FAIL (R245). -/
opaque Config.trainStep : Nat → Nat

/-- Times that a LOST record at a cold start gives for events lost with the power (R392). -/
opaque Config.lostTime : Nat → Nat

end Sys2Proof
end

