-- ==== Sys2Proof/Machine/Bits.lean ====
section
/-! DEFINITION. Bit fields of words, multi-word values, two's complement readings, and the one sparse map every keyed store of the model is. -/

namespace Sys2Proof.Machine

/-- Field [hi:lo] of a natural number (R6: bit ranges are [msb:lsb]). -/
def bitsOf (n hi lo : Nat) : Nat := (n / 2 ^ lo) % 2 ^ (hi + 1 - lo)

/-- `n` with field [hi:lo] replaced by `v` (cut to the field's width). -/
def withBits (n hi lo v : Nat) : Nat :=
  n / 2 ^ (hi + 1) * 2 ^ (hi + 1) + (v % 2 ^ (hi + 1 - lo)) * 2 ^ lo + n % 2 ^ lo

/-- Field [hi:lo] of a register word. -/
def getBits (w : Word) (hi lo : Nat) : Nat := bitsOf w.toNat hi lo

/-- A register word with field [hi:lo] replaced. -/
def setBits (w : Word) (hi lo v : Nat) : Word := BitVec.ofNat 32 (withBits w.toNat hi lo v)

/-- Bit `k` of a word. -/
def bitAt (w : Word) (k : Nat) : Bool := w.getLsbD k

/-- A word with bit `k` set to `b`. -/
def setBitAt (w : Word) (k : Nat) (b : Bool) : Word := setBits w k k (if b then 1 else 0)

/-- 1 for true, 0 for false: the reading of a one-bit field. -/
def b2n (b : Bool) : Nat := if b then 1 else 0

/-- A word holding `n` modulo 2^32. -/
def w32 (n : Nat) : Word := BitVec.ofNat 32 n

/-- The two's complement reading of the low `bits` bits of `n`. -/
def signedOf (bits n : Nat) : Int :=
  let m := n % 2 ^ bits
  if m < 2 ^ (bits - 1) then (m : Int) else (m : Int) - (2 ^ bits : Nat)

/-- The low `bits` bits of an integer, as a natural number. -/
def unsignedOf (bits : Nat) (i : Int) : Nat := (i % ((2 ^ bits : Nat) : Int)).toNat

/-- An integer held to the range of a signed quantity of `bits` bits. -/
def clampSigned (bits : Nat) (i : Int) : Int :=
  let m : Int := (2 ^ (bits - 1) : Nat)
  if i < -m then -m else if m - 1 < i then m - 1 else i

/-- A natural number that does not rise above `top`. -/
def satTo (top n : Nat) : Nat := if top < n then top else n

/-- Little-endian bytes of `n`, `k` of them. -/
def leBytes : Nat → Nat → List Byte
  | 0, _ => []
  | k + 1, n => BitVec.ofNat 8 n :: leBytes k (n / 256)

/-- The number whose little-endian bytes are `bs`. -/
def leNat : List Byte → Nat
  | [] => 0
  | b :: bs => b.toNat + 256 * leNat bs

/-- The number whose bytes, most significant first, are `bs`. -/
def beNat (bs : List Byte) : Nat := leNat bs.reverse

/-- Big-endian bytes of `n`, `k` of them. -/
def beBytes (k n : Nat) : List Byte := (leBytes k n).reverse

/-! ### Sparse maps

A keyed store is a list of (key, value) pairs, keys strictly rising, holding no entry equal to what an
unlisted key reads as. -/

/-- What key `k` reads as: its entry, else the default. -/
def smGet {α : Type} (d : α) : List (Nat × α) → Nat → α
  | [], _ => d
  | (k', v) :: m, k => if k' = k then v else smGet d m k

/-- The map without any entry for `k`. -/
def smDel {α : Type} : List (Nat × α) → Nat → List (Nat × α)
  | [], _ => []
  | (k', v) :: m, k => if k' = k then smDel m k else (k', v) :: smDel m k

/-- The map with an entry for `k` put in its place. -/
def smPut {α : Type} : List (Nat × α) → Nat → α → List (Nat × α)
  | [], k, v => [(k, v)]
  | (k', v') :: m, k, v =>
    if k < k' then (k, v) :: (k', v') :: m
    else if k = k' then (k, v) :: m
    else (k', v') :: smPut m k v

/-- Write: the entry goes when the value is the default. -/
def smSet {α : Type} [DecidableEq α] (d : α) (m : List (Nat × α)) (k : Nat) (v : α) : List (Nat × α) :=
  if v = d then smDel m k else smPut m k v

/-- Keys strictly rising. -/
def smSorted {α : Type} : List (Nat × α) → Bool
  | [] => true
  | [_] => true
  | (k, _) :: (k', v') :: m => decide (k < k') && smSorted ((k', v') :: m)

/-- The canonical form of a map whose unlisted key `k` reads as `d k`. -/
def smCanon {α : Type} [DecidableEq α] (d : Nat → α) (m : List (Nat × α)) : Bool :=
  smSorted m && m.all fun e => decide (e.2 ≠ d e.1)

/-! ### Lists -/

/-- Element `i`, or `d` past the end. -/
def nth {α : Type} (d : α) : List α → Nat → α
  | [], _ => d
  | x :: _, 0 => x
  | _ :: xs, i + 1 => nth d xs i

/-- The list with element `i` replaced (unchanged past the end). -/
def setNth {α : Type} : List α → Nat → α → List α
  | [], _, _ => []
  | _ :: xs, 0, v => v :: xs
  | x :: xs, i + 1, v => x :: setNth xs i v

/-- The numbers `0 … n-1`. -/
def upto (n : Nat) : List Nat := List.range n

/-- A rising list without repeats, with `k` added. -/
def setInsert : List Nat → Nat → List Nat
  | [], k => [k]
  | x :: xs, k => if k < x then k :: x :: xs else if k = x then x :: xs else x :: setInsert xs k

/-- The list without `k`. -/
def setErase (xs : List Nat) (k : Nat) : List Nat := xs.filter fun x => decide (x ≠ k)

/-- XOR of bits: parity of a natural number below 2^`bits`. -/
def parityOf (bits n : Nat) : Nat := ((upto bits).foldl (fun a i => a + n / 2 ^ i % 2) 0) % 2

/-- How many of the low `bits` bits of `n` are 1. -/
def popCount (bits n : Nat) : Nat := (upto bits).foldl (fun a i => a + n / 2 ^ i % 2) 0

/-- The lowest index below `n` that satisfies `p`. -/
def lowest (n : Nat) (p : Nat → Bool) : Option Nat := (upto n).find? p

end Sys2Proof.Machine
end

