-- ==== Sys2Proof/Machine/Fp.lean ====
section
/-! DEFINITION. IEEE 754 binary32 and binary16 arithmetic, rounded to nearest with ties to even, subnormals kept, nothing fused (R5, R73, R75). -/

namespace Sys2Proof.Machine

/-- A binary32 split into what it denotes: a finite `± m × 2^e`, an infinity, or a NaN. -/
inductive FpVal
  | fin (neg : Bool) (m : Nat) (e : Int)
  | inf (neg : Bool)
  | nan
  deriving DecidableEq, Repr

/-- Split a pattern with `eb` exponent bits and `mb` fraction bits. -/
def fpSplit (eb mb n : Nat) : FpVal :=
  let neg := n / 2 ^ (eb + mb) % 2 == 1
  let ex := n / 2 ^ mb % 2 ^ eb
  let fr := n % 2 ^ mb
  let bias : Int := (2 ^ (eb - 1) : Nat) - 1
  if ex = 2 ^ eb - 1 then (if fr = 0 then .inf neg else .nan)
  else if ex = 0 then .fin neg fr (1 - bias - mb)
  else .fin neg (2 ^ mb + fr) ((ex : Int) - bias - mb)

/-- `m / 2^d` rounded to nearest, ties to even. -/
def rneShift (m d : Nat) : Nat :=
  let q := m / 2 ^ d
  let r := m % 2 ^ d
  if d = 0 then m
  else if 2 ^ (d - 1) < r ∨ (r = 2 ^ (d - 1) ∧ q % 2 = 1) then q + 1 else q

/-- The pattern nearest to `± m × 2^e`, ties to even; an overflow gives an infinity. -/
def fpPack (eb mb : Nat) (neg : Bool) (m : Nat) (e : Int) : Nat :=
  let signBit := if neg then 2 ^ (eb + mb) else 0
  if m = 0 then signBit
  else
    let bias : Int := (2 ^ (eb - 1) : Nat) - 1
    let top : Int := (Nat.log2 m : Int) + e
    let ex : Int := if top < 1 - bias then 1 - bias else top
    let quantum : Int := ex - mb
    let q := if quantum ≤ e then m * 2 ^ (e - quantum).toNat else rneShift m (quantum - e).toNat
    let bits := (ex + bias - 1).toNat * 2 ^ mb + q
    let infBits := (2 ^ eb - 1) * 2 ^ mb
    signBit + (if infBits ≤ bits then infBits else bits)

/-- What a binary32 pattern denotes. -/
def f32Val (x : F32) : FpVal := fpSplit 8 23 x.toNat

/-- The binary32 nearest to `± m × 2^e`. -/
def f32Pack (neg : Bool) (m : Nat) (e : Int) : F32 := BitVec.ofNat 32 (fpPack 8 23 neg m e)

/-- The quiet NaN the engine's own operations give. -/
def f32NaN : F32 := 0x7FC00000#32

def f32Inf (neg : Bool) : F32 := if neg then 0xFF800000#32 else 0x7F800000#32

def f32Zero : F32 := 0#32
def f32One : F32 := 0x3F800000#32
def f32Half : F32 := 0x3F000000#32

def f32Neg (x : F32) : F32 := x ^^^ 0x80000000#32
def f32Abs (x : F32) : F32 := x &&& 0x7FFFFFFF#32
def f32IsNeg (x : F32) : Bool := x.getLsbD 31
def f32IsFinite (x : F32) : Bool := decide (x.toNat % 2 ^ 31 < 0x7F800000)
def f32IsNaN (x : F32) : Bool := decide (0x7F800000 < x.toNat % 2 ^ 31)

/-- Signed magnitude of a finite term as an integer multiple of `2^e0`, for `e0 ≤ e`. -/
def fpScaled (neg : Bool) (m : Nat) (e e0 : Int) : Int :=
  let v : Int := (m * 2 ^ (e - e0).toNat : Nat)
  if neg then -v else v

/-- Addition (R73). -/
def f32Add (x y : F32) : F32 :=
  match f32Val x, f32Val y with
  | .nan, _ => f32NaN
  | _, .nan => f32NaN
  | .inf a, .inf b => if a = b then f32Inf a else f32NaN
  | .inf a, _ => f32Inf a
  | _, .inf b => f32Inf b
  | .fin a m e, .fin b n f =>
    let e0 := if e < f then e else f
    let t := fpScaled a m e e0 + fpScaled b n f e0
    if t = 0 then (if a && b then 0x80000000#32 else f32Zero)
    else f32Pack (decide (t < 0)) t.natAbs e0

/-- Subtraction (R73). -/
def f32Sub (x y : F32) : F32 := f32Add x (f32Neg y)

/-- Multiplication (R73). -/
def f32Mul (x y : F32) : F32 :=
  match f32Val x, f32Val y with
  | .nan, _ => f32NaN
  | _, .nan => f32NaN
  | .inf a, .inf b => f32Inf (a != b)
  | .inf a, .fin b n _ => if n = 0 then f32NaN else f32Inf (a != b)
  | .fin a m _, .inf b => if m = 0 then f32NaN else f32Inf (a != b)
  | .fin a m e, .fin b n f => f32Pack (a != b) (m * n) (e + f)

/-- Division (R73): a 64-bit quotient with a sticky bit rounds as the exact quotient does. -/
def f32Div (x y : F32) : F32 :=
  match f32Val x, f32Val y with
  | .nan, _ => f32NaN
  | _, .nan => f32NaN
  | .inf _, .inf _ => f32NaN
  | .inf a, .fin b _ _ => f32Inf (a != b)
  | .fin a _ _, .inf b => f32Pack (a != b) 0 0
  | .fin a m e, .fin b n f =>
    if n = 0 then (if m = 0 then f32NaN else f32Inf (a != b))
    else
      let q := m * 2 ^ 64 / n
      let sticky := if m * 2 ^ 64 % n = 0 then 0 else 1
      f32Pack (a != b) (q * 2 + sticky) (e - f - 65)

/-- Square root, rounded to nearest; of a negative number, the NaN. -/
def f32Sqrt (x : F32) : F32 :=
  match f32Val x with
  | .nan => f32NaN
  | .inf a => if a then f32NaN else f32Inf false
  | .fin a m e =>
    if m = 0 then x
    else if a then f32NaN
    else
      let sh : Nat := if e % 2 = 0 then 60 else 61
      let n := m * 2 ^ sh
      let r := Nat.sqrt n
      let sticky := if r * r = n then 0 else 1
      f32Pack false (r * 2 + sticky) ((e - sh) / 2 - 1)

/-- The integer a pattern orders as: ±0 both give 0 (NaN aside). -/
def f32Key (x : F32) : Int :=
  let mag : Int := (x.toNat % 2 ^ 31 : Nat)
  if f32IsNeg x then -mag else mag

/-- `x < y` (false with a NaN). -/
def f32Lt (x y : F32) : Bool := !f32IsNaN x && !f32IsNaN y && decide (f32Key x < f32Key y)

/-- `x ≤ y` (false with a NaN). -/
def f32Le (x y : F32) : Bool := !f32IsNaN x && !f32IsNaN y && decide (f32Key x ≤ f32Key y)

def f32Min (x y : F32) : F32 := if f32Lt y x then y else x
def f32Max (x y : F32) : F32 := if f32Lt x y then y else x

/-- The clamp of R422: a lower bound of 0 turns -0.0 into +0.0. -/
def f32Clamp (x lo hi : F32) : F32 :=
  if f32Lt x lo then lo
  else if f32Lt hi x then hi
  else if lo = f32Zero ∧ x = 0x80000000#32 then f32Zero
  else x

/-- An integer as binary32, rounded once. -/
def f32OfInt (i : Int) : F32 := f32Pack (decide (i < 0)) i.natAbs 0

def f32OfNat (n : Nat) : F32 := f32Pack false n 0

/-- A rational `num/den` rounded once to binary32: the value nearest a decimal the spec states. -/
def f32OfRat (num : Int) (den : Nat) : F32 :=
  let q := num.natAbs * 2 ^ 200 / den
  let sticky := if num.natAbs * 2 ^ 200 % den = 0 then 0 else 1
  if den = 0 then f32NaN else f32Pack (decide (num < 0)) (q * 2 + sticky) (-201)

/-- `2^k`. -/
def f32Pow2 (k : Int) : F32 := f32Pack false 1 k

/-- The integer nearest a finite value, ties to even (0 for a NaN or an infinity). -/
def f32ToIntRNE (x : F32) : Int :=
  match f32Val x with
  | .fin a m e =>
    let v := if 0 ≤ e then m * 2 ^ e.toNat else rneShift m (-e).toNat
    if a then -(v : Int) else (v : Int)
  | _ => 0

/-- The largest integer not above a finite value. -/
def f32Floor (x : F32) : Int :=
  match f32Val x with
  | .fin a m e =>
    if 0 ≤ e then (let v : Int := (m * 2 ^ e.toNat : Nat); if a then -v else v)
    else
      let d := 2 ^ (-e).toNat
      let n : Int := if a then -(m : Int) else (m : Int)
      n / (d : Int)
  | _ => 0

/-- Binary16 to binary32, exact (R75). -/
def f16to32 (h : Half) : F32 :=
  match fpSplit 5 10 h.toNat with
  | .nan => f32NaN
  | .inf a => f32Inf a
  | .fin a m e => f32Pack a m e

/-- Binary32 to binary16, to nearest with ties to even (R75). -/
def f32to16 (x : F32) : Half :=
  match f32Val x with
  | .nan => 0x7E00#16
  | .inf a => if a then 0xFC00#16 else 0x7C00#16
  | .fin a m e => BitVec.ofNat 16 (fpPack 5 10 a m e)

/-- A binary16 with an all-ones exponent is a NaN or an infinity. -/
def f16IsFinite (h : Half) : Bool := decide (h.toNat % 2 ^ 15 < 0x7C00)

def f32Top : F32 := 0x477FE000#32

/-- Sanitising at a raw-stage output (R74): the value, and 1 where it was replaced. -/
def f32Sanitise (x : F32) : F32 × Nat :=
  if f32IsNaN x then (f32Zero, 1)
  else if f32Lt f32Top x then (f32Top, 1)
  else if f32Lt x (f32Neg f32Top) then (f32Neg f32Top, 1)
  else (x, 0)

/-- A developed-stage boundary (R99): the clamped value in binary16, and 1 where the clamp acted. -/
def f32Boundary (x : F32) : Half × Nat :=
  if f32Lt f32Top x then (f32to16 f32Top, 1)
  else if f32Lt x (f32Neg f32Top) then (f32to16 (f32Neg f32Top), 1)
  else (f32to16 x, 0)

/-! ### P48 pixels (R9, R76) -/

/-- A P48 as a 48-bit number: R in [47:32], G in [31:16], B in [15:0]. -/
def p48Of (r g b : Half) : Nat := r.toNat * 2 ^ 32 + g.toNat * 2 ^ 16 + b.toNat

def p48R (p : Nat) : Half := BitVec.ofNat 16 (p / 2 ^ 32)
def p48G (p : Nat) : Half := BitVec.ofNat 16 (p / 2 ^ 16)
def p48B (p : Nat) : Half := BitVec.ofNat 16 p

/-- Channel 0 R, 1 G, 2 B of a P48, as binary32. -/
def p48Ch (p k : Nat) : F32 :=
  f16to32 (if k = 0 then p48R p else if k = 1 then p48G p else p48B p)

end Sys2Proof.Machine
end

