-- ==== Sys2Proof/Machine/RegNames.lean ====
section
/-! DEFINITION. The BAR0 byte offset of every named register (R27 and each block's register table); `p` counts the pages that hold the register, from the first of them, and `i`, `j` its repetitions. -/

namespace Sys2Proof.Machine.R

abbrev PLT_RESET_CAUSE : Nat := 0x40
abbrev PLT_RESET_REQ : Nat := 0x44
abbrev PLT_START_STATE : Nat := 0x48
abbrev PLT_START_COUNT : Nat := 0x4C
abbrev PLT_START_OK : Nat := 0x50
abbrev PLT_START_TIMER : Nat := 0x54
abbrev PLT_WDOG_BIN : Nat := 0x58
abbrev PLT_WDOG_HOST : Nat := 0x5C
abbrev PLT_DROPPED_WRITES : Nat := 0x60
abbrev PLT_INTPIN_EN : Nat := 0x64
abbrev PLT_DR_CTRL : Nat := 0x68
abbrev PLT_LOCK : Nat := 0x6C
abbrev PLT_CHART_SEL : Nat := 0x1040
abbrev PLT_CHART_ACTIVE : Nat := 0x1044
abbrev PLT_FW_SLOT : Nat := 0x1048
abbrev PLT_FW_VERSION : Nat := 0x104C
abbrev PLT_SETTINGS_SLOT : Nat := 0x1050
abbrev PLT_FLASH_ADDR : Nat := 0x1054
abbrev PLT_FLASH_CMD : Nat := 0x1058
abbrev PLT_FLASH_DATA (i : Nat) : Nat := 0x1100 + 4 * i
abbrev PLT_LEAVE_BUDGET : Nat := 0x2040
abbrev PLT_LEAVE_GRANTED : Nat := 0x2044
abbrev PLT_LEAVE_WAIT_MAX : Nat := 0x2048
abbrev PLT_LEAVE_QUEUE : Nat := 0x204C
abbrev PLT_LEAVE_OVER : Nat := 0x2050
abbrev PLT_LEAVE_REQ (i : Nat) : Nat := 0x2080 + 4 * i
abbrev PLT_LEAVE_GNT (i : Nat) : Nat := 0x2100 + 4 * i
abbrev PLT_THERM_THR : Nat := 0x3040
abbrev PLT_THERM_CTRL : Nat := 0x3044
abbrev PLT_THERM_STATE : Nat := 0x3048
abbrev PLT_THERM_PEAK : Nat := 0x304C
abbrev PLT_THERM_EXCL : Nat := 0x3050
abbrev PLT_THERM_CNT_LEVEL : Nat := 0x3054
abbrev PLT_THERM_S (i : Nat) : Nat := 0x3080 + 4 * i
abbrev PLT_HOLD_ENERGY : Nat := 0x4040
abbrev PLT_HOLD_TEST : Nat := 0x4044
abbrev PLT_HOLD_THR : Nat := 0x4048
abbrev PLT_HOLD_STATE : Nat := 0x404C
abbrev PLT_DIRTY_LIMIT : Nat := 0x4050
abbrev PLT_HOLD_LOAD : Nat := 0x4054
abbrev PLT_HOLD_CAP : Nat := 0x4058
abbrev PLT_HOLD_ESR : Nat := 0x405C
abbrev PLT_LOGBOOK_HEAD : Nat := 0x4060
abbrev PLT_LOGBOOK_SEQ : Nat := 0x4064
abbrev PLT_LOGBOOK_QUEUE : Nat := 0x4068
abbrev PLT_LOGBOOK_LOST : Nat := 0x406C
abbrev SIU_LINECFG (p : Nat) : Nat := 0x10040 + 0x1000 * p
abbrev SIU_POLICY (p : Nat) : Nat := 0x10044 + 0x1000 * p
abbrev SIU_TIMEOUT (p : Nat) : Nat := 0x10048 + 0x1000 * p
abbrev SIU_PORT (p : Nat) : Nat := 0x1004C + 0x1000 * p
abbrev SIU_OWD (p : Nat) : Nat := 0x10050 + 0x1000 * p
abbrev SIU_LAST_FRAME (p : Nat) : Nat := 0x10054 + 0x1000 * p
abbrev SIU_SOF_TIME (p : Nat) : Nat := 0x10058 + 0x1000 * p
abbrev SIU_TRIG_CTRL (p : Nat) : Nat := 0x10064 + 0x1000 * p
abbrev SIU_TRIG_FIRST (p : Nat) : Nat := 0x10068 + 0x1000 * p
abbrev SIU_TRIG_PERIOD (p : Nat) : Nat := 0x10074 + 0x1000 * p
abbrev SIU_TRIG_DEV (p : Nat) : Nat := 0x1007C + 0x1000 * p
abbrev SIU_T0_CTRL (p : Nat) : Nat := 0x10080 + 0x1000 * p
abbrev SIU_T0_BASE (p : Nat) : Nat := 0x10084 + 0x1000 * p
abbrev SIU_T0_SIZE (p : Nat) : Nat := 0x1008C + 0x1000 * p
abbrev SIU_T0_WR (p : Nat) : Nat := 0x10090 + 0x1000 * p
abbrev SIU_T0_RD (p : Nat) : Nat := 0x10094 + 0x1000 * p
abbrev SIU_REC_CTRL (p : Nat) : Nat := 0x10098 + 0x1000 * p
abbrev SIU_CNT_FRAMES_OK (p : Nat) : Nat := 0x100A0 + 0x1000 * p
abbrev SIU_CNT_ABANDONED (p : Nat) : Nat := 0x100A4 + 0x1000 * p
abbrev SIU_CNT_NOPIPE (p : Nat) : Nat := 0x100A8 + 0x1000 * p
abbrev SIU_CNT_PADDED (p : Nat) : Nat := 0x100AC + 0x1000 * p
abbrev SIU_CNT_CUT (p : Nat) : Nat := 0x100B0 + 0x1000 * p
abbrev SIU_CNT_PKT_DISCARDED (p : Nat) : Nat := 0x100B4 + 0x1000 * p
abbrev SIU_CNT_FEC_UNCORR (p : Nat) : Nat := 0x100B8 + 0x1000 * p
abbrev SIU_CNT_TAP_SKIPS (p : Nat) : Nat := 0x100BC + 0x1000 * p
abbrev CLR_CFA_SIZE (p : Nat) : Nat := 0x20040 + 0x1000 * p
abbrev CLR_CFA_ROW (p i : Nat) : Nat := 0x20044 + 0x1000 * p + 4 * i
abbrev CLR_CH_MAP (p : Nat) : Nat := 0x20064 + 0x1000 * p
abbrev CLR_BLACK (p i : Nat) : Nat := 0x20068 + 0x1000 * p + 4 * i
abbrev CLR_NORM (p i : Nat) : Nat := 0x20078 + 0x1000 * p + 4 * i
abbrev CLR_DARK_CTRL (p : Nat) : Nat := 0x20098 + 0x1000 * p
abbrev CLR_DARK_BASE0 (p : Nat) : Nat := 0x2009C + 0x1000 * p
abbrev CLR_DARK_BASE1 (p : Nat) : Nat := 0x200A4 + 0x1000 * p
abbrev CLR_DARK_STRIDE (p : Nat) : Nat := 0x200AC + 0x1000 * p
abbrev CLR_CAL_SCRATCH (p : Nat) : Nat := 0x200B0 + 0x1000 * p
abbrev CLR_CAL_MEAN_MAX (p : Nat) : Nat := 0x200B8 + 0x1000 * p
abbrev CLR_CAL_VAR_MAX (p : Nat) : Nat := 0x200BC + 0x1000 * p
abbrev CLR_CAL_HOT_THR (p : Nat) : Nat := 0x200C0 + 0x1000 * p
abbrev CLR_CAL_HOT_MAX (p : Nat) : Nat := 0x200C4 + 0x1000 * p
abbrev CLR_CAL_RESULT (p : Nat) : Nat := 0x200C8 + 0x1000 * p
abbrev CLR_CAL_MEAS_MEAN (p : Nat) : Nat := 0x200CC + 0x1000 * p
abbrev CLR_CAL_MEAS_VAR (p : Nat) : Nat := 0x200D0 + 0x1000 * p
abbrev CLR_CAL_MEAS_HOT (p : Nat) : Nat := 0x200D4 + 0x1000 * p
abbrev CLR_DEF_BASE (p : Nat) : Nat := 0x200D8 + 0x1000 * p
abbrev CLR_DEF_CTRL (p : Nat) : Nat := 0x200E0 + 0x1000 * p
abbrev CLR_DEF_THR (p : Nat) : Nat := 0x200E4 + 0x1000 * p
abbrev CLR_FF_CTRL (p : Nat) : Nat := 0x200E8 + 0x1000 * p
abbrev CLR_FF_BASE (p : Nat) : Nat := 0x200EC + 0x1000 * p
abbrev CLR_FF_STRIDE (p : Nat) : Nat := 0x200F4 + 0x1000 * p
abbrev CLR_FF_GBASE (p i : Nat) : Nat := 0x200F8 + 0x1000 * p + 4 * i
abbrev CLR_FF_GSTEP (p i : Nat) : Nat := 0x20118 + 0x1000 * p + 4 * i
abbrev CLR_DM_EPS (p : Nat) : Nat := 0x20138 + 0x1000 * p
abbrev CLR_DM_DETAIL (p : Nat) : Nat := 0x2013C + 0x1000 * p
abbrev CLR_TAP_CTRL (p : Nat) : Nat := 0x20140 + 0x1000 * p
abbrev CLR_TAP_BASE (p : Nat) : Nat := 0x20144 + 0x1000 * p
abbrev CLR_TAP_SIZE (p : Nat) : Nat := 0x2014C + 0x1000 * p
abbrev CLR_TAP_WR (p : Nat) : Nat := 0x20150 + 0x1000 * p
abbrev CLR_TAP_RD (p : Nat) : Nat := 0x20154 + 0x1000 * p
abbrev CLR_CNT_SANITISED (p : Nat) : Nat := 0x20158 + 0x1000 * p
abbrev CLR_CNT_DEFECTS (p : Nat) : Nat := 0x2015C + 0x1000 * p
abbrev CLR_CNT_TAP_SKIPS (p : Nat) : Nat := 0x20160 + 0x1000 * p
abbrev CLR_SPARE : Nat := 0x22040
abbrev CLR_CNT_MISMATCH : Nat := 0x22044
abbrev CLR_CNT_TRANSIENT : Nat := 0x22048
abbrev CLR_WB (p i : Nat) : Nat := 0x23040 + 0x1000 * p + 4 * i
abbrev CLR_WS_MAT (p i : Nat) : Nat := 0x2304C + 0x1000 * p + 4 * i
abbrev CLR_WS_SEL (p : Nat) : Nat := 0x23070 + 0x1000 * p
abbrev CLR_LUT_CTRL (p : Nat) : Nat := 0x23074 + 0x1000 * p
abbrev CLR_LUT_IN_SCALE (p i : Nat) : Nat := 0x23078 + 0x1000 * p + 4 * i
abbrev CLR_LUT_IN_OFFSET (p i : Nat) : Nat := 0x23084 + 0x1000 * p + 4 * i
abbrev CLR_LUT_HLO (p : Nat) : Nat := 0x23090 + 0x1000 * p
abbrev CLR_LUT_HK (p : Nat) : Nat := 0x23094 + 0x1000 * p
abbrev CLR_LUT_LOAD (p : Nat) : Nat := 0x23098 + 0x1000 * p
abbrev CLR_LUT_SRC (p : Nat) : Nat := 0x2309C + 0x1000 * p
abbrev CLR_TG_CTRL (p : Nat) : Nat := 0x230A4 + 0x1000 * p
abbrev CLR_GAMUT_FLOOR (p : Nat) : Nat := 0x230A8 + 0x1000 * p
abbrev CLR_GAMUT_K (p i : Nat) : Nat := 0x230AC + 0x1000 * p + 4 * i
abbrev CLR_TONE_KNEE (p : Nat) : Nat := 0x230B8 + 0x1000 * p
abbrev CLR_TONE_D (p : Nat) : Nat := 0x230BC + 0x1000 * p
abbrev CLR_CNT_CLAMPED (p : Nat) : Nat := 0x230C0 + 0x1000 * p
abbrev CLR_CNT_GAMUT (p : Nat) : Nat := 0x230C4 + 0x1000 * p
abbrev CLR_OT_CTRL (p i : Nat) : Nat := 0x25100 + 0x1000 * p + 256 * i
abbrev CLR_OT_MAT (p i j : Nat) : Nat := 0x25104 + 0x1000 * p + 256 * i + 4 * j
abbrev CLR_OT_GAIN (p i : Nat) : Nat := 0x25128 + 0x1000 * p + 256 * i
abbrev CLR_OT_CROP_XY (p i : Nat) : Nat := 0x2512C + 0x1000 * p + 256 * i
abbrev CLR_OT_CROP_WH (p i : Nat) : Nat := 0x25130 + 0x1000 * p + 256 * i
abbrev CLR_OT_OUT_WH (p i : Nat) : Nat := 0x25134 + 0x1000 * p + 256 * i
abbrev CLR_OT_SX (p i : Nat) : Nat := 0x25138 + 0x1000 * p + 256 * i
abbrev CLR_OT_SY (p i : Nat) : Nat := 0x2513C + 0x1000 * p + 256 * i
abbrev CLR_OT_BASE (p i : Nat) : Nat := 0x25140 + 0x1000 * p + 256 * i
abbrev CLR_OT_STRIDE (p i : Nat) : Nat := 0x25148 + 0x1000 * p + 256 * i
abbrev CLR_OT_BUFSZ (p i : Nat) : Nat := 0x2514C + 0x1000 * p + 256 * i
abbrev CLR_OT_RING (p i : Nat) : Nat := 0x25150 + 0x1000 * p + 256 * i
abbrev CLR_OT_WR_IDX (p i : Nat) : Nat := 0x25154 + 0x1000 * p + 256 * i
abbrev CLR_OT_RD_IDX (p i : Nat) : Nat := 0x25158 + 0x1000 * p + 256 * i
abbrev CLR_OT_CNT_SKIP (p i : Nat) : Nat := 0x2515C + 0x1000 * p + 256 * i
abbrev CLR_OT1_FMT (p : Nat) : Nat := 0x25260 + 0x1000 * p
abbrev CLR_OT2_FMT (p : Nat) : Nat := 0x25360 + 0x1000 * p
abbrev CLR_OT2_QSCALE (p : Nat) : Nat := 0x25364 + 0x1000 * p
abbrev CLR_OT2_QZERO (p : Nat) : Nat := 0x25368 + 0x1000 * p
abbrev CLR_OT3_FMT (p : Nat) : Nat := 0x25460 + 0x1000 * p
abbrev CLR_ROI_XY (p i : Nat) : Nat := 0x25500 + 0x1000 * p + 32 * i
abbrev CLR_ROI_WH (p i : Nat) : Nat := 0x25504 + 0x1000 * p + 32 * i
abbrev CLR_ROI_OUT_WH (p i : Nat) : Nat := 0x25508 + 0x1000 * p + 32 * i
abbrev CLR_ROI_SX (p i : Nat) : Nat := 0x2550C + 0x1000 * p + 32 * i
abbrev CLR_ROI_SY (p i : Nat) : Nat := 0x25510 + 0x1000 * p + 32 * i
abbrev CLR_ROI_BOX (p i : Nat) : Nat := 0x25514 + 0x1000 * p + 32 * i
abbrev CLR_TW_SEL : Nat := 0x27040
abbrev CLR_TW_INDEX : Nat := 0x27044
abbrev CLR_TW_DATA : Nat := 0x27048
abbrev CLR_TW_VALID : Nat := 0x27050
abbrev CNV_CANVAS_WH : Nat := 0x30040
abbrev CNV_CANVAS_BASE0 : Nat := 0x30044
abbrev CNV_CANVAS_BASE1 : Nat := 0x3004C
abbrev CNV_CANVAS_STRIDE : Nat := 0x30054
abbrev CNV_BG : Nat := 0x30058
abbrev CNV_SCHED : Nat := 0x30060
abbrev CNV_LOCK_DELAY : Nat := 0x30064
abbrev CNV_SYNC_WIN : Nat := 0x30068
abbrev CNV_FILL_TIME : Nat := 0x3006C
abbrev CNV_WF_FIRST : Nat := 0x30070
abbrev CNV_WF_PERIOD : Nat := 0x3007C
abbrev CNV_SELFREF : Nat := 0x30084
abbrev CNV_LTR : Nat := 0x30088
abbrev CNV_STATUS : Nat := 0x3008C
abbrev CNV_LAUNCH_ID : Nat := 0x30090
abbrev CNV_LAST_LAUNCH : Nat := 0x30094
abbrev CNV_PIC_SEQ : Nat := 0x300A0
abbrev CNV_CNT_LAUNCHES : Nat := 0x300A4
abbrev CNV_CNT_MISSES : Nat := 0x300A8
abbrev CNV_CNT_HOLDOVERS : Nat := 0x300AC
abbrev CNV_CNT_HOLD_SKIPPED : Nat := 0x300B0
abbrev CNV_CNT_PIC_DROPPED : Nat := 0x300B4
abbrev CNV_CNT_ABANDONED : Nat := 0x300B8
abbrev CNV_CNT_SANITISED : Nat := 0x300BC
abbrev CNV_CNT_CLAMPED : Nat := 0x300C0
abbrev CNV_CNT_POISON : Nat := 0x300C4
abbrev CNV_LYR_CTRL (i : Nat) : Nat := 0x31040 + 64 * i
abbrev CNV_LYR_XY (i : Nat) : Nat := 0x31044 + 64 * i
abbrev CNV_LYR_WH (i : Nat) : Nat := 0x31048 + 64 * i
abbrev CNV_LYR_ALPHA (i : Nat) : Nat := 0x3104C + 64 * i
abbrev CNV_LYR_STORE0 (i : Nat) : Nat := 0x31050 + 64 * i
abbrev CNV_LYR_STORE1 (i : Nat) : Nat := 0x31058 + 64 * i
abbrev CNV_LYR_STRIDE (i : Nat) : Nat := 0x31060 + 64 * i
abbrev CNV_LYR_ALPHA0 (i : Nat) : Nat := 0x31064 + 64 * i
abbrev CNV_LYR_ALPHA1 (i : Nat) : Nat := 0x3106C + 64 * i
abbrev CNV_LYR_HOST_SEL (i : Nat) : Nat := 0x31074 + 64 * i
abbrev CNV_LYR_CNT_OVERWRITE (i : Nat) : Nat := 0x31078 + 64 * i
abbrev CNV_LYR_STATE (i : Nat) : Nat := 0x3107C + 64 * i
abbrev CNV_MAP_BASE0 : Nat := 0x32040
abbrev CNV_MAP_BASE1 : Nat := 0x32048
abbrev CNV_MAP_COUNT0 : Nat := 0x32050
abbrev CNV_MAP_COUNT1 : Nat := 0x32054
abbrev CNV_MAP_CTRL : Nat := 0x32058
abbrev CNV_MAP_RESULT : Nat := 0x3205C
abbrev CNV_MAP_PIX_TOTAL : Nat := 0x32060
abbrev CNV_MAP_PIX_PORT : Nat := 0x32064
abbrev CNV_VIEWS : Nat := 0x32068
abbrev CNV_VIEW_XY (i : Nat) : Nat := 0x32080 + 4 * i
abbrev CNV_SLOT_OFS (i : Nat) : Nat := 0x320A0 + 8 * i
abbrev CNV_SLOT_LEN (i : Nat) : Nat := 0x320A4 + 8 * i
abbrev CNV_MON_CTRL : Nat := 0x33040
abbrev CNV_MON_CROP_XY : Nat := 0x33044
abbrev CNV_MON_CROP_WH : Nat := 0x33048
abbrev CNV_MON_BASE : Nat := 0x3304C
abbrev CNV_MON_STRIDE : Nat := 0x33054
abbrev CNV_MON_BUFSZ : Nat := 0x33058
abbrev CNV_MON_RING : Nat := 0x3305C
abbrev CNV_MON_WR_IDX : Nat := 0x33060
abbrev CNV_MON_RD_IDX : Nat := 0x33064
abbrev CNV_MON_CNT_SKIP : Nat := 0x33068
abbrev PHO_CTRL : Nat := 0x40040
abbrev PHO_BANK0 : Nat := 0x40044
abbrev PHO_BANK1 : Nat := 0x4004C
abbrev PHO_CLASS_BASE : Nat := 0x40054
abbrev PHO_T_AMB : Nat := 0x4005C
abbrev PHO_BUDGET : Nat := 0x40060
abbrev PHO_GLIM_MIN : Nat := 0x40064
abbrev PHO_SLEW_DOWN : Nat := 0x40068
abbrev PHO_SLEW_UP : Nat := 0x4006C
abbrev PHO_GLIM : Nat := 0x40070
abbrev PHO_PWR_WALL : Nat := 0x40074
abbrev PHO_PWR_PEAK : Nat := 0x40078
abbrev PHO_PASS_SEQ : Nat := 0x4007C
abbrev PHO_STATUS : Nat := 0x40080
abbrev PHO_CNT_SCAN_WAIT : Nat := 0x40084
abbrev PHO_CNT_CAL_MISSING : Nat := 0x40088
abbrev PHO_CNT_SHARED : Nat := 0x4008C
abbrev PHO_CNT_CLAMPED : Nat := 0x40090
abbrev PHO_OBS_REJECT : Nat := 0x41040
abbrev PHO_MEAS_MAX_AGE : Nat := 0x41044
abbrev PHO_REF_CTRL : Nat := 0x41048
abbrev PHO_REF_TOL : Nat := 0x4104C
abbrev PHO_REF_BASE : Nat := 0x41050
abbrev PHO_REF_UNSTEADY : Nat := 0x41058
abbrev PHO_CNT_MEAS : Nat := 0x4105C
abbrev PHO_CNT_MEAS_REJECT : Nat := 0x41060
abbrev PHO_CNT_MEAS_OVERWRITE : Nat := 0x41064
abbrev TLK_PORT_CTRL (p : Nat) : Nat := 0x50040 + 0x1000 * p
abbrev TLK_PORT_STATE (p : Nat) : Nat := 0x50044 + 0x1000 * p
abbrev TLK_REACH (p : Nat) : Nat := 0x50048 + 0x1000 * p
abbrev TLK_CHAIN_BASE (p : Nat) : Nat := 0x5004C + 0x1000 * p
abbrev TLK_CHAIN_DELAY (p : Nat) : Nat := 0x50054 + 0x1000 * p
abbrev TLK_TEMP_CTRL (p : Nat) : Nat := 0x50058 + 0x1000 * p
abbrev TLK_REPLY_TIMEOUT (p : Nat) : Nat := 0x5005C + 0x1000 * p
abbrev TLK_PROBE_PERIOD (p : Nat) : Nat := 0x50060 + 0x1000 * p
abbrev TLK_ECHO_PERIOD (p : Nat) : Nat := 0x50064 + 0x1000 * p
abbrev TLK_HQ_CTRL (p : Nat) : Nat := 0x50068 + 0x1000 * p
abbrev TLK_HQ_DATA (p i : Nat) : Nat := 0x5006C + 0x1000 * p + 4 * i
abbrev TLK_HQ_H4 (p : Nat) : Nat := 0x5008C + 0x1000 * p
abbrev TLK_CNT_PIX (p : Nat) : Nat := 0x50090 + 0x1000 * p
abbrev TLK_CNT_DROPPED (p : Nat) : Nat := 0x50094 + 0x1000 * p
abbrev TLK_CNT_TIMEOUT (p : Nat) : Nat := 0x50098 + 0x1000 * p
abbrev TLK_CNT_REPLY_DISCARD (p : Nat) : Nat := 0x5009C + 0x1000 * p
abbrev TLK_CNT_BACK_UNCORR (p : Nat) : Nat := 0x500A0 + 0x1000 * p
abbrev TLK_CNT_BACK_CRC (p : Nat) : Nat := 0x500A4 + 0x1000 * p
abbrev TLK_CNT_NO_TILE (p : Nat) : Nat := 0x500A8 + 0x1000 * p
abbrev TLK_CNT_TEMP (p : Nat) : Nat := 0x500AC + 0x1000 * p
abbrev CAS_PORT_STATE (p : Nat) : Nat := 0x60040 + 0x1000 * p
abbrev CAS_PORT_CTRL (p : Nat) : Nat := 0x60044 + 0x1000 * p
abbrev CAS_LINK_DELAY (p : Nat) : Nat := 0x60048 + 0x1000 * p
abbrev CAS_ASYM (p : Nat) : Nat := 0x60050 + 0x1000 * p
abbrev CAS_IN_LAT (p : Nat) : Nat := 0x60054 + 0x1000 * p
abbrev CAS_OUT_LAT (p : Nat) : Nat := 0x60058 + 0x1000 * p
abbrev CAS_RETRY_TIMEOUT (p : Nat) : Nat := 0x6005C + 0x1000 * p
abbrev CAS_CNT_TX (p : Nat) : Nat := 0x60060 + 0x1000 * p
abbrev CAS_CNT_RX (p : Nat) : Nat := 0x60064 + 0x1000 * p
abbrev CAS_CNT_CRC (p : Nat) : Nat := 0x60068 + 0x1000 * p
abbrev CAS_CNT_RESEND (p : Nat) : Nat := 0x6006C + 0x1000 * p
abbrev CAS_CNT_STOMP (p : Nat) : Nat := 0x60070 + 0x1000 * p
abbrev CAS_CNT_STALE (p : Nat) : Nat := 0x60074 + 0x1000 * p
abbrev CAS_CNT_GEN (p : Nat) : Nat := 0x60078 + 0x1000 * p
abbrev CAS_ID : Nat := 0x64040
abbrev CAS_ELECT : Nat := 0x64044
abbrev CAS_STATE : Nat := 0x64048
abbrev CAS_STANDBY : Nat := 0x6404C
abbrev CAS_ANN : Nat := 0x64050
abbrev CAS_TXS_CTRL (i : Nat) : Nat := 0x64060 + 8 * i
abbrev CAS_TXS_STREAM (i : Nat) : Nat := 0x64064 + 8 * i
abbrev CAS_RXPOOL : Nat := 0x640A0
abbrev CAS_RXPOOL_SIZE : Nat := 0x640A8
abbrev CAS_MSG_TX : Nat := 0x640B0
abbrev CAS_MSG_TX_COUNT : Nat := 0x640B8
abbrev CAS_MSG_TX_WR : Nat := 0x640BC
abbrev CAS_MSG_TX_RD : Nat := 0x640C0
abbrev CAS_MSG_RX : Nat := 0x640C4
abbrev CAS_MSG_RX_COUNT : Nat := 0x640CC
abbrev CAS_MSG_RX_WR : Nat := 0x640D0
abbrev CAS_MSG_RX_RD : Nat := 0x640D4
abbrev CAS_MSG_VEC : Nat := 0x640D8
abbrev CAS_CNT_QUAR_WAIT : Nat := 0x640DC
abbrev CAS_CNT_PIC_OK : Nat := 0x640E0
abbrev CAS_CNT_PIC_DROP : Nat := 0x640E4
abbrev CAS_CNT_MSG_DROP : Nat := 0x640E8
abbrev MER_TIME : Nat := 0x70040
abbrev MER_SHORT : Nat := 0x7004C
abbrev MER_STATE : Nat := 0x70050
abbrev MER_THETA : Nat := 0x70054
abbrev MER_FREQ : Nat := 0x70058
abbrev MER_TAI_OFS : Nat := 0x7005C
abbrev MER_EPOCH_BREAKS : Nat := 0x70064
abbrev MER_CNT_STEPS : Nat := 0x70068
abbrev MER_SYNC : Nat := 0x7006C
abbrev MER_JUMP_THR : Nat := 0x70070
abbrev MER_SERVO : Nat := 0x70074
abbrev MER_TAI_SET : Nat := 0x70078
abbrev MER_PPS_CTRL : Nat := 0x71040
abbrev MER_PPS_STAMP : Nat := 0x71044
abbrev MER_PPS_ERR : Nat := 0x71050
abbrev MER_REF_STATE : Nat := 0x71054
abbrev MER_CNT_PPS : Nat := 0x71058
abbrev LAN_FOM_THR (p : Nat) : Nat := 0x80040 + 0x1000 * p
abbrev LAN_SPARE_CTRL (p : Nat) : Nat := 0x80044 + 0x1000 * p
abbrev LAN_SPARE_STATE (p : Nat) : Nat := 0x80048 + 0x1000 * p
abbrev LAN_RETIRED (p : Nat) : Nat := 0x80050 + 0x1000 * p
abbrev LAN_TRAIN_TIMEOUT (p : Nat) : Nat := 0x80054 + 0x1000 * p
abbrev LAN_CNT_SUBST (p : Nat) : Nat := 0x80058 + 0x1000 * p
abbrev LAN_L_STATE (p i : Nat) : Nat := 0x80100 + 0x1000 * p + 16 * i
abbrev LAN_L_FOM (p i : Nat) : Nat := 0x80104 + 0x1000 * p + 16 * i
abbrev LAN_L_EQ (p i : Nat) : Nat := 0x80108 + 0x1000 * p + 16 * i
abbrev LAN_L_CNT_TRAIN (p i : Nat) : Nat := 0x8010C + 0x1000 * p + 16 * i
abbrev LAN_SPARE_WIRE (p : Nat) : Nat := 0x8004C + 0x1000 * p
abbrev MEM_CFG : Nat := 0x90040
abbrev MEM_SR_IDLE : Nat := 0x90044
abbrev MEM_NR_K : Nat := 0x90048
abbrev MEM_VERIFY : Nat := 0x9004C
abbrev MEM_GW : Nat := 0x90050
abbrev MEM_URGENT_US : Nat := 0x90054
abbrev MEM_MIG_RATE : Nat := 0x90058
abbrev MEM_STATE : Nat := 0x9005C
abbrev MEM_CNT_SR : Nat := 0x90060
abbrev MEM_RANK_MAP (p : Nat) : Nat := 0x91040 + 0x1000 * p
abbrev MEM_MIG (p : Nat) : Nat := 0x91044 + 0x1000 * p
abbrev MEM_MARGIN_TRAIN (p : Nat) : Nat := 0x91048 + 0x1000 * p
abbrev MEM_MARGIN_NOW (p : Nat) : Nat := 0x9104C + 0x1000 * p
abbrev MEM_CE_THR (p : Nat) : Nat := 0x91050 + 0x1000 * p
abbrev MEM_CNT_CE (p : Nat) : Nat := 0x91054 + 0x1000 * p
abbrev MEM_CNT_UE (p : Nat) : Nat := 0x91058 + 0x1000 * p
abbrev MEM_UE_ADDR (p : Nat) : Nat := 0x9105C + 0x1000 * p
abbrev MEM_CNT_RETRAIN (p : Nat) : Nat := 0x91064 + 0x1000 * p
abbrev MEM_CNT_NR (p : Nat) : Nat := 0x91068 + 0x1000 * p
abbrev MEM_CNT_POSTPONED (p : Nat) : Nat := 0x9106C + 0x1000 * p
abbrev CMP_LANE_STATE : Nat := 0xA0040
abbrev CMP_TABLE_W0 (i : Nat) : Nat := 0xA0044 + 12 * i
abbrev CMP_TABLE_W1 (i : Nat) : Nat := 0xA0048 + 12 * i
abbrev CMP_TABLE_W2 (i : Nat) : Nat := 0xA004C + 12 * i
abbrev CMP_PAUSE_TIMEOUT : Nat := 0xA00A4
abbrev CMP_REC_CTRL : Nat := 0xA00A8
abbrev CMP_SEND_CTRL (i : Nat) : Nat := 0xA0100 + 32 * i
abbrev CMP_SEND_BASE (i : Nat) : Nat := 0xA0104 + 32 * i
abbrev CMP_SEND_SIZE (i : Nat) : Nat := 0xA010C + 32 * i
abbrev CMP_CNT_JOBS : Nat := 0xA01F0
abbrev CMP_CNT_FAILED : Nat := 0xA01F4
abbrev CMP_CNT_PAUSES : Nat := 0xA01F8
abbrev CMP_CNT_SEND_SKIP : Nat := 0xA01FC
abbrev CMP_Q_CTRL (i : Nat) : Nat := 0xA1040 + 64 * i
abbrev CMP_Q_BASE (i : Nat) : Nat := 0xA1044 + 64 * i
abbrev CMP_Q_CPL (i : Nat) : Nat := 0xA104C + 64 * i
abbrev CMP_Q_COUNT (i : Nat) : Nat := 0xA1054 + 64 * i
abbrev CMP_Q_WR (i : Nat) : Nat := 0xA1058 + 64 * i
abbrev CMP_Q_RD (i : Nat) : Nat := 0xA105C + 64 * i
abbrev CMP_Q_CPL_WR (i : Nat) : Nat := 0xA1060 + 64 * i
abbrev CMP_Q_ORING (i : Nat) : Nat := 0xA1064 + 64 * i
abbrev CMP_Q_ORING_SIZE (i : Nat) : Nat := 0xA106C + 64 * i
abbrev CMP_Q_ORING_WR (i : Nat) : Nat := 0xA1070 + 64 * i
abbrev CMP_Q_ORING_RD (i : Nat) : Nat := 0xA1074 + 64 * i
abbrev COD_ENG_STATE : Nat := 0xB0040
abbrev COD_LOAD : Nat := 0xB0044
abbrev COD_CNT_PICS : Nat := 0xB0048
abbrev COD_CNT_SWITCH : Nat := 0xB004C
abbrev COD_CTX_CFG (p : Nat) : Nat := 0xB1040 + 0x1000 * p
abbrev COD_CTX_SIZE (p : Nat) : Nat := 0xB1044 + 0x1000 * p
abbrev COD_CTX_TILES (p : Nat) : Nat := 0xB1048 + 0x1000 * p
abbrev COD_CTX_FPS (p : Nat) : Nat := 0xB104C + 0x1000 * p
abbrev COD_CTX_GOP (p : Nat) : Nat := 0xB1050 + 0x1000 * p
abbrev COD_CTX_RATE (p : Nat) : Nat := 0xB1054 + 0x1000 * p
abbrev COD_CTX_BITRATE (p : Nat) : Nat := 0xB1058 + 0x1000 * p
abbrev COD_CTX_CPB (p : Nat) : Nat := 0xB105C + 0x1000 * p
abbrev COD_CTX_INIT_DELAY (p : Nat) : Nat := 0xB1060 + 0x1000 * p
abbrev COD_CTX_MARGIN (p : Nat) : Nat := 0xB1064 + 0x1000 * p
abbrev COD_CTX_OUT (p : Nat) : Nat := 0xB1068 + 0x1000 * p
abbrev COD_CTX_OUT_BASE (p : Nat) : Nat := 0xB106C + 0x1000 * p
abbrev COD_CTX_OUT_SIZE (p : Nat) : Nat := 0xB1074 + 0x1000 * p
abbrev COD_CTX_OUT_WR (p : Nat) : Nat := 0xB1078 + 0x1000 * p
abbrev COD_CTX_OUT_RD (p : Nat) : Nat := 0xB107C + 0x1000 * p
abbrev COD_CTX_STALL_TIMEOUT (p : Nat) : Nat := 0xB1080 + 0x1000 * p
abbrev COD_CTX_CPB_NOW (p : Nat) : Nat := 0xB1084 + 0x1000 * p
abbrev COD_CTX_CNT (p : Nat) : Nat := 0xB1088 + 0x1000 * p
abbrev COD_CTX_CNT_FILLER (p : Nat) : Nat := 0xB108C + 0x1000 * p
abbrev REC_DIRTY_BASE : Nat := 0xC0040
abbrev REC_DIRTY_SIZE : Nat := 0xC0048
abbrev REC_RESERVE : Nat := 0xC004C
abbrev REC_P_FLUSH : Nat := 0xC0050
abbrev REC_T_FIXED : Nat := 0xC0054
abbrev REC_FLUSH_RATE : Nat := 0xC0058
abbrev REC_DIRTY_LIMIT : Nat := 0xC005C
abbrev REC_DIRTY_NOW : Nat := 0xC0060
abbrev REC_AON_DIRTY : Nat := 0xC0064
abbrev REC_FLUSH_STATE : Nat := 0xC0068
abbrev REC_CNT_WAIT : Nat := 0xC006C
abbrev REC_CNT_DIRTY_FULL : Nat := 0xC0070
abbrev REC_CNT_FLUSH_BYTES : Nat := 0xC0074
abbrev REC_MEDIA_MAP : Nat := 0xC1040
abbrev REC_ARRAY_STATE : Nat := 0xC1044
abbrev REC_MEDIA_RETIRED : Nat := 0xC1048
abbrev REC_WEAR_THR : Nat := 0xC104C
abbrev REC_MERR_THR : Nat := 0xC1050
abbrev REC_MEDIA_TIMEOUT : Nat := 0xC1054
abbrev REC_MEDIA_MIG_RATE : Nat := 0xC1058
abbrev REC_MEDIA_FORCE : Nat := 0xC105C
abbrev REC_PORT_STATE (i : Nat) : Nat := 0xC1060 + 4 * i
abbrev REC_NSID : Nat := 0xC2040
abbrev REC_NEXT_LBA : Nat := 0xC2044
abbrev REC_CLIP_CTRL : Nat := 0xC204C
abbrev REC_CLIP_START : Nat := 0xC2050
abbrev REC_CLIP_STOP : Nat := 0xC205C
abbrev REC_CLIP_OPEN : Nat := 0xC2068
abbrev REC_CNT_FRAMES : Nat := 0xC206C
abbrev REC_CNT_MEDIA_FULL : Nat := 0xC2070
abbrev REC_CNT_CLIPS : Nat := 0xC2074
abbrev MOT_DSM_CTRL : Nat := 0xD0040
abbrev MOT_BUS_SCALE (i : Nat) : Nat := 0xD0044 + 16 * i
abbrev MOT_BUS_MIN (i : Nat) : Nat := 0xD0048 + 16 * i
abbrev MOT_BUS_MAX (i : Nat) : Nat := 0xD004C + 16 * i
abbrev MOT_BUS_V (i : Nat) : Nat := 0xD0050 + 16 * i
abbrev MOT_FAULT : Nat := 0xD0084
abbrev MOT_BRK_STATE : Nat := 0xD0088
abbrev MOT_SAFE : Nat := 0xD008C
abbrev MOT_AX_CFG (p : Nat) : Nat := 0xD1040 + 0x1000 * p
abbrev MOT_AX_CMD (p : Nat) : Nat := 0xD1044 + 0x1000 * p
abbrev MOT_AX_STATE (p : Nat) : Nat := 0xD1048 + 0x1000 * p
abbrev MOT_AX_PWM (p : Nat) : Nat := 0xD104C + 0x1000 * p
abbrev MOT_AX_I_SCALE (p : Nat) : Nat := 0xD1050 + 0x1000 * p
abbrev MOT_AX_I_OFS (p : Nat) : Nat := 0xD1054 + 0x1000 * p
abbrev MOT_AX_GAIN (p i : Nat) : Nat := 0xD1058 + 0x1000 * p + 4 * i
abbrev MOT_AX_I_LIM (p i : Nat) : Nat := 0xD106C + 0x1000 * p + 4 * i
abbrev MOT_AX_MOD_MAX (p : Nat) : Nat := 0xD1078 + 0x1000 * p
abbrev MOT_AX_VEL_MAX (p : Nat) : Nat := 0xD107C + 0x1000 * p
abbrev MOT_AX_POS_MIN (p : Nat) : Nat := 0xD1080 + 0x1000 * p
abbrev MOT_AX_POS_MAX (p : Nat) : Nat := 0xD1088 + 0x1000 * p
abbrev MOT_AX_FOLLOW_MAX (p : Nat) : Nat := 0xD1090 + 0x1000 * p
abbrev MOT_AX_COUNTS_REV (p : Nat) : Nat := 0xD1094 + 0x1000 * p
abbrev MOT_AX_ALIGN_OFS (p : Nat) : Nat := 0xD109C + 0x1000 * p
abbrev MOT_AX_ENC (p : Nat) : Nat := 0xD10A0 + 0x1000 * p
abbrev MOT_AX_AMP (p : Nat) : Nat := 0xD10A4 + 0x1000 * p
abbrev MOT_AX_TIMES (p : Nat) : Nat := 0xD10A8 + 0x1000 * p
abbrev MOT_AX_OBS (p : Nat) : Nat := 0xD10AC + 0x1000 * p
abbrev MOT_AX_I_RESID (p : Nat) : Nat := 0xD10B0 + 0x1000 * p
abbrev MOT_AX_ALIGN_SPEED (p : Nat) : Nat := 0xD10B4 + 0x1000 * p
abbrev MOT_AX_CONF (p : Nat) : Nat := 0xD10B8 + 0x1000 * p
abbrev MOT_AX_POS (p : Nat) : Nat := 0xD10BC + 0x1000 * p
abbrev MOT_AX_IDX (p : Nat) : Nat := 0xD10C4 + 0x1000 * p
abbrev MOT_AX_VEL (p : Nat) : Nat := 0xD10CC + 0x1000 * p
abbrev MOT_AX_LATCH_CTRL (p : Nat) : Nat := 0xD10D0 + 0x1000 * p
abbrev MOT_AX_LATCH_AT (p : Nat) : Nat := 0xD10D4 + 0x1000 * p
abbrev MOT_AX_LATCH_POS (p : Nat) : Nat := 0xD10E0 + 0x1000 * p
abbrev MOT_AX_LATCH_TIME (p : Nat) : Nat := 0xD10E8 + 0x1000 * p
abbrev MOT_AX_LATCH_VEL (p : Nat) : Nat := 0xD10F4 + 0x1000 * p
abbrev MOT_AX_SP_TIME (p : Nat) : Nat := 0xD1100 + 0x1000 * p
abbrev MOT_AX_SP_POS (p : Nat) : Nat := 0xD110C + 0x1000 * p
abbrev MOT_AX_SP_VEL (p : Nat) : Nat := 0xD1114 + 0x1000 * p
abbrev MOT_AX_SP_PUSH (p : Nat) : Nat := 0xD1118 + 0x1000 * p
abbrev MOT_AX_SP_STATE (p : Nat) : Nat := 0xD111C + 0x1000 * p
abbrev MOT_AX_CNT_SP_LATE (p : Nat) : Nat := 0xD1120 + 0x1000 * p
abbrev MOT_AX_CNT_SP_SUPERSEDED (p : Nat) : Nat := 0xD1124 + 0x1000 * p
abbrev MOT_AX_CNT_SP_DISCARD (p : Nat) : Nat := 0xD1128 + 0x1000 * p
abbrev MOT_AX_CNT_QEI_ILLEGAL (p : Nat) : Nat := 0xD112C + 0x1000 * p
abbrev MOT_AX_CNT_ENC_CRC (p : Nat) : Nat := 0xD1130 + 0x1000 * p
abbrev MOT_AX_CNT_REACQ (p : Nat) : Nat := 0xD1134 + 0x1000 * p
abbrev MOT_AX_FAULT (p : Nat) : Nat := 0xD1138 + 0x1000 * p
abbrev AUD_DCO : Nat := 0xE0040
abbrev AUD_DCO_STATE : Nat := 0xE0044
abbrev AUD_CTRL (p : Nat) : Nat := 0xE1040 + 0x1000 * p
abbrev AUD_MASK (p : Nat) : Nat := 0xE1044 + 0x1000 * p
abbrev AUD_CMD (p : Nat) : Nat := 0xE1048 + 0x1000 * p
abbrev AUD_START (p : Nat) : Nat := 0xE104C + 0x1000 * p
abbrev AUD_BASE (p : Nat) : Nat := 0xE1058 + 0x1000 * p
abbrev AUD_SIZE (p : Nat) : Nat := 0xE1060 + 0x1000 * p
abbrev AUD_BLOCK (p : Nat) : Nat := 0xE1064 + 0x1000 * p
abbrev AUD_WR (p : Nat) : Nat := 0xE1068 + 0x1000 * p
abbrev AUD_RD (p : Nat) : Nat := 0xE106C + 0x1000 * p
abbrev AUD_INDEX (p : Nat) : Nat := 0xE1070 + 0x1000 * p
abbrev AUD_PHASE (p : Nat) : Nat := 0xE1078 + 0x1000 * p
abbrev AUD_CNT_REPEAT (p : Nat) : Nat := 0xE107C + 0x1000 * p
abbrev AUD_CNT_DROP (p : Nat) : Nat := 0xE1080 + 0x1000 * p
abbrev AUD_CNT_OVERRUN (p : Nat) : Nat := 0xE1084 + 0x1000 * p
abbrev AUD_CNT_FRAMING (p : Nat) : Nat := 0xE1088 + 0x1000 * p
abbrev TWI_CTRL (p : Nat) : Nat := 0xF0040 + 0x1000 * p
abbrev TWI_TIMING0 (p : Nat) : Nat := 0xF0044 + 0x1000 * p
abbrev TWI_TIMING1 (p : Nat) : Nat := 0xF0048 + 0x1000 * p
abbrev TWI_TIMING2 (p : Nat) : Nat := 0xF004C + 0x1000 * p
abbrev TWI_XFER (p : Nat) : Nat := 0xF0050 + 0x1000 * p
abbrev TWI_XSTAT (p : Nat) : Nat := 0xF0054 + 0x1000 * p
abbrev TWI_DATA (p i : Nat) : Nat := 0xF0058 + 0x1000 * p + 4 * i
abbrev TWI_ABSENT (p i : Nat) : Nat := 0xF0078 + 0x1000 * p + 4 * i
abbrev TWI_TGT_TX (p : Nat) : Nat := 0xF0088 + 0x1000 * p
abbrev TWI_TGT_RX (p : Nat) : Nat := 0xF008C + 0x1000 * p
abbrev TWI_TGT_STATE (p : Nat) : Nat := 0xF0090 + 0x1000 * p
abbrev TWI_CNT_RETRY (p : Nat) : Nat := 0xF0094 + 0x1000 * p
abbrev TWI_CNT_ARB (p : Nat) : Nat := 0xF0098 + 0x1000 * p
abbrev TWI_CNT_CLEAR (p : Nat) : Nat := 0xF009C + 0x1000 * p
abbrev TWI_CNT_TGT_ERR (p : Nat) : Nat := 0xF00A0 + 0x1000 * p
abbrev CNT_CTRL : Nat := 0x100040
abbrev CNT_FIRST : Nat := 0x100044
abbrev CNT_PERIOD : Nat := 0x100050
abbrev CNT_MASK : Nat := 0x100054
abbrev CNT_BASE : Nat := 0x100058
abbrev CNT_SIZE : Nat := 0x100060
abbrev CNT_WR : Nat := 0x100064
abbrev CNT_RD : Nat := 0x100068
abbrev CNT_USER_PERMIT : Nat := 0x10006C
abbrev CNT_CNT_SKIP : Nat := 0x100070
abbrev CNT_SEL (p i j : Nat) : Nat := 0x101100 + 0x1000 * p + 256 * i + 16 * j
abbrev CNT_VAL (p i j : Nat) : Nat := 0x101104 + 0x1000 * p + 256 * i + 16 * j
abbrev CNT_CLEAR (p i : Nat) : Nat := 0x101180 + 0x1000 * p + 256 * i
abbrev CNT_PS_CTRL : Nat := 0x10A040
abbrev CNT_PS_N (i : Nat) : Nat := 0x10A044 + 4 * i
abbrev CNT_PS_BASE : Nat := 0x10A050
abbrev CNT_PS_WR : Nat := 0x10A058
abbrev CNT_PS_RD : Nat := 0x10A05C
abbrev CNT_PS_LOST : Nat := 0x10A060
abbrev DBG_TMUX_SEL (i : Nat) : Nat := 0x110040 + 4 * i
abbrev DBG_LOCK : Nat := 0x110080
abbrev DBG_CHALLENGE : Nat := 0x110084
abbrev DBG_TOKEN (i : Nat) : Nat := 0x110100 + 4 * i
abbrev DBG_RESET_REQ : Nat := 0x110170

end Sys2Proof.Machine.R
end

