-- ==== Sys2Proof/Machine/RegTypes.lean ====
section
/-! DEFINITION. What a register table row says: access codes (R7), warm rules (R9), stated ranges (R34, R424). -/

namespace Sys2Proof.Machine

/-- The access codes of R7. -/
inductive Access
  | ro | rw | rws | rwl | w1c | w1s | wo
  deriving DecidableEq, Repr

/-- The Warm column of R9: kept; zero; back to the Cold value (until the Chart's record is written); another value. -/
inductive WarmRule
  | kept | zero | cold | value (v : Nat)
  deriving DecidableEq, Repr

/-- A field's stated range (R34, R424). -/
inductive RangeCheck
  /-- No range stated. -/
  | any
  /-- A minimum and a maximum. -/
  | range (lo hi : Nat)
  /-- A multiple or an alignment. -/
  | multiple (n : Nat)
  /-- A vector of R39: 0, or 288 to 2,047. -/
  | vec
  /-- A finite binary32. -/
  | f32
  /-- A finite binary32 between two patterns, ordered as numbers. -/
  | f32Range (lo hi : F32)
  /-- WIDTH − 1 of R60: WIDTH from 256 to 32,768 in steps of 16. -/
  | geoW
  /-- Picture width − 1 of the coder: even, 64 to 8,192. -/
  | codW
  /-- Picture height − 1 of the coder: even, 64 to 4,320. -/
  | codH
  /-- The wall frame period: 24 Hz to 240 Hz in 2^-16 ns. -/
  | wfp
  /-- A Meridian long time: NS, in the lowest word, 0 to 999,999,999 (R206). -/
  | longTime
  deriving DecidableEq, Repr

/-- One field of a register. -/
structure FieldDesc where
  hi : Nat
  lo : Nat
  acc : Access
  cold : Nat
  chart : Bool
  warm : WarmRule
  check : RangeCheck
  deriving DecidableEq, Repr

/-- One row of a register table: pages `plo` to `phi`, the offset, `words` consecutive words (R38), repeated
`cnt` times at `stride` and within that `cnt2` times at `stride2`. -/
structure RegDesc where
  plo : Nat
  phi : Nat
  off : Nat
  words : Nat
  cnt : Nat
  stride : Nat
  cnt2 : Nat
  stride2 : Nat
  fields : List FieldDesc
  deriving DecidableEq, Repr

/-- A field row. -/
def fd (hi lo : Nat) (acc : Access) (cold : Nat) (chart : Bool) (warm : WarmRule) (check : RangeCheck) : FieldDesc :=
  { hi := hi, lo := lo, acc := acc, cold := cold, chart := chart, warm := warm, check := check }

/-- A register row. -/
def rd (plo phi off words cnt stride cnt2 stride2 : Nat) (fields : List FieldDesc) : RegDesc :=
  { plo := plo, phi := phi, off := off, words := words, cnt := cnt, stride := stride,
    cnt2 := cnt2, stride2 := stride2, fields := fields }

end Sys2Proof.Machine
end

