-- ==== Sys2Proof/Machine/RegTable.lean ====
section
/-! DEFINITION. The register tables of the spec, block by block: every register with its page, offset, width in words, repetition, and its fields with their access, cold value, warm rule and range. The rows follow the spec's own tables (SIU R71; CLR R97, R121; CNV R145; PHO R160; TLK R184; CAS R215; MER R216; LAN R235; MEM R252; CMP R269; COD R287; REC R309; MOT R328; AUD and TWI R344; PLT R365, R379, R396; CNT and DBG R407). -/

namespace Sys2Proof.Machine

/-- Registers of PLT, part 1. -/
def tablePLT1 : List RegDesc :=
  [
    -- PLT_RESET_CAUSE: SOURCES, FIRST, COLD
    rd 0 0 0x040 1 1 4 1 4 [fd 14 0 .ro 0 false .kept .any, fd 19 16 .ro 0 false .kept .any, fd 24 24 .ro 0 false .kept .any],
    -- PLT_RESET_REQ: KIND, KEY
    rd 0 0 0x044 1 1 4 1 4 [fd 1 0 .wo 0 false .zero .any, fd 15 8 .wo 0 false .zero .any],
    -- PLT_START_STATE: STEP, DEAD_RECKONING, FALLBACK
    rd 0 0 0x048 1 1 4 1 4 [fd 3 0 .ro 0 false .zero .any, fd 8 8 .ro 0 false .zero .any, fd 10 9 .ro 0 false .zero .any],
    -- PLT_START_COUNT: COUNT
    rd 0 0 0x04C 1 1 4 1 4 [fd 1 0 .ro 0 false .kept .any],
    -- PLT_START_OK: START_OK, START_FAIL
    rd 0 0 0x050 1 1 4 1 4 [fd 0 0 .w1s 0 false .zero .any, fd 1 1 .w1s 0 false .zero .any],
    -- PLT_START_TIMER: TIMER
    rd 0 0 0x054 1 1 4 1 4 [fd 15 0 .ro 0 false .zero .any],
    -- PLT_WDOG_BIN: PERIOD, KICK, EN
    rd 0 0 0x058 1 1 4 1 4 [fd 15 0 .rw 0 false .zero (.range 1 65535), fd 30 30 .w1s 0 false .zero .any, fd 31 31 .rw 0 false .zero .any],
    -- PLT_WDOG_HOST: PERIOD, KICK, EN
    rd 0 0 0x05C 1 1 4 1 4 [fd 15 0 .rw 0 false .zero (.range 1 65535), fd 30 30 .w1s 0 false .zero .any, fd 31 31 .rw 0 false .zero .any],
    -- PLT_DROPPED_WRITES: COUNT
    rd 0 0 0x060 1 1 4 1 4 [fd 31 0 .ro 0 false .kept .any],
    -- PLT_INTPIN_EN: EN
    rd 0 0 0x064 1 1 4 1 4 [fd 0 0 .rw 0 true .cold .any],
    -- PLT_DR_CTRL: ACTIVE, KEY, EXIT
    rd 0 0 0x068 1 1 4 1 4 [fd 0 0 .ro 0 false .zero .any, fd 15 8 .wo 0 false .zero .any, fd 16 16 .w1s 0 false .zero .any],
    -- PLT_LOCK: LOCK
    rd 0 0 0x06C 1 1 4 1 4 [fd 0 0 .w1s 0 false .kept .any],
    -- PLT_CHART_SEL: CHART, VALID
    rd 1 1 0x040 1 1 4 1 4 [fd 1 0 .rw 0 false .kept .any, fd 31 31 .rw 0 false .kept .any],
    -- PLT_CHART_ACTIVE: CHART, SOURCE, BALLS, ROLE, SCHEMA
    rd 1 1 0x044 1 1 4 1 4 [fd 1 0 .ro 0 false .zero .any, fd 5 4 .ro 0 false .zero .any, fd 9 8 .ro 0 false .zero .any, fd 15 12 .ro 0 false .zero .any, fd 31 16 .ro 0 false .zero .any],
    -- PLT_FW_SLOT: RUNNING, NEXT, TRIAL, BUSY, INCOMPAT, FALLBACK
    rd 1 1 0x048 1 1 4 1 4 [fd 0 0 .ro 0 false .zero .any, fd 4 4 .rw 0 false .zero .any, fd 5 5 .rw 0 false .zero .any, fd 8 8 .ro 0 false .zero .any, fd 17 16 .ro 0 false .zero .any, fd 25 24 .ro 0 false .zero .any],
    -- PLT_FW_VERSION: FW_VERSION
    rd 1 1 0x04C 1 1 4 1 4 [fd 31 0 .ro 0 false .zero .any],
    -- PLT_SETTINGS_SLOT: ACTIVE, NEXT, BUSY, SCHEMA
    rd 1 1 0x050 1 1 4 1 4 [fd 0 0 .ro 0 false .zero .any, fd 4 4 .rw 0 false .zero .any, fd 8 8 .ro 0 false .zero .any, fd 31 16 .ro 0 false .zero .any],
    -- PLT_FLASH_ADDR: ADDR
    rd 1 1 0x054 1 1 4 1 4 [fd 28 0 .rw 0 false .zero .any],
    -- PLT_FLASH_CMD: OP, GO, DONE, ERR, FLASH_GRANT
    rd 1 1 0x058 1 1 4 1 4 [fd 1 0 .rw 0 false .zero .any, fd 8 8 .w1s 0 false .zero .any, fd 9 9 .ro 0 false .zero .any, fd 10 10 .ro 0 false .zero .any, fd 16 16 .ro 0 false .zero .any],
    -- PLT_FLASH_DATA: DATA
    rd 1 1 0x100 1 64 4 1 4 [fd 31 0 .rw 0 false .zero .any],
    -- PLT_LEAVE_BUDGET: TOTAL, STEP, WITHDRAW
    rd 2 2 0x040 1 1 4 1 4 [fd 8 0 .rw 0xDC true .cold (.range 40 400), fd 23 16 .rw 0x28 true .cold (.range 2 200), fd 31 31 .rw 0 true .cold .any],
    -- PLT_LEAVE_GRANTED: SUM, STEP_NOW
    rd 2 2 0x044 1 1 4 1 4 [fd 8 0 .ro 0 false .zero .any, fd 23 16 .ro 0 false .zero .any],
    -- PLT_LEAVE_WAIT_MAX: WAIT
    rd 2 2 0x048 1 1 4 1 4 [fd 15 0 .rw 0x64 true .cold (.range 1 65535)],
    -- PLT_LEAVE_QUEUE: DEPTH, HEAD
    rd 2 2 0x04C 1 1 4 1 4 [fd 5 0 .ro 0 false .zero .any, fd 20 16 .ro 0 false .zero .any],
    -- PLT_LEAVE_OVER: COUNT
    rd 2 2 0x050 1 1 4 1 4 [fd 31 0 .ro 0 false .kept .any],
    -- PLT_LEAVE_REQ: AMOUNT, RAMP, PRIO, PENDING
    rd 2 2 0x080 1 32 4 1 4 [fd 8 0 .ro 0 false .zero .any, fd 15 12 .ro 0 false .zero .any, fd 17 16 .ro 0 false .zero .any, fd 31 31 .ro 0 false .zero .any],
    -- PLT_LEAVE_GNT: GRANTED, FORCED, WAIT
    rd 2 2 0x100 1 32 4 1 4 [fd 0 0 .ro 0 false .zero .any, fd 1 1 .ro 0 false .zero .any, fd 31 16 .ro 0 false .zero .any],
    -- PLT_THERM_THR: WARN, THROTTLE, HYST, CRIT
    rd 3 3 0x040 1 1 4 1 4 [fd 7 0 .rw 0x5F true .cold (.range 60 105), fd 15 8 .rw 0x64 true .cold (.range 60 105), fd 19 16 .rw 0x3 true .cold (.range 1 15), fd 31 24 .ro 0x73 false .kept .any],
    -- PLT_THERM_CTRL: STEP_INTERVAL, MAX_LEVEL, FORCE_EN, FORCE_LEVEL
    rd 3 3 0x044 1 1 4 1 4 [fd 7 0 .rw 0xA true .cold (.range 1 255), fd 10 8 .rw 0x6 true .cold (.range 0 6), fd 16 16 .rw 0 true .cold .any, fd 19 17 .rw 0 true .cold (.range 0 6)],
    -- PLT_THERM_STATE: LEVEL, WARN, THROTTLING, TRIPPED, HOT_SENSOR, TMAX
    rd 3 3 0x048 1 1 4 1 4 [fd 2 0 .ro 0 false .kept .any, fd 8 8 .ro 0 false .kept .any, fd 9 9 .ro 0 false .kept .any, fd 10 10 .ro 0 false .kept .any, fd 20 16 .ro 0 false .kept .any, fd 31 24 .ro 0 false .kept .any] ]

/-- Registers of PLT, part 2. -/
def tablePLT2 : List RegDesc :=
  [
    -- PLT_THERM_PEAK: PEAK
    rd 3 3 0x04C 1 1 4 1 4 [fd 15 0 .ro 0 false .zero .any],
    -- PLT_THERM_EXCL: EXCL
    rd 3 3 0x050 1 1 4 1 4 [fd 31 0 .ro 0 false .kept .any],
    -- PLT_THERM_CNT_LEVEL: COUNT
    rd 3 3 0x054 1 1 4 1 4 [fd 31 0 .ro 0 false .kept .any],
    -- PLT_THERM_S: T, VALID
    rd 3 3 0x080 1 32 4 1 4 [fd 15 0 .ro 0 false .kept .any, fd 16 16 .ro 0 false .kept .any],
    -- PLT_HOLD_ENERGY: E
    rd 4 4 0x040 1 1 4 1 4 [fd 15 0 .ro 0 false .kept .any],
    -- PLT_HOLD_TEST: PERIOD, NOW
    rd 4 4 0x044 1 1 4 1 4 [fd 15 0 .rw 0xE10 true .cold (.range 60 65535), fd 16 16 .w1s 0 false .zero .any],
    -- PLT_HOLD_THR: MAIN_FAIL, CUTOFF
    rd 4 4 0x048 1 1 4 1 4 [fd 11 0 .rwl 0 true .kept .any, fd 27 16 .rwl 0 true .kept .any],
    -- PLT_HOLD_STATE: OUTCOME, ON_HOLDUP, MAIN_GOOD, OUT_OF_SPEC
    rd 4 4 0x04C 1 1 4 1 4 [fd 1 0 .ro 0 false .kept .any, fd 4 4 .ro 0 false .kept .any, fd 5 5 .ro 0 false .kept .any, fd 6 6 .ro 0 false .kept .any],
    -- PLT_DIRTY_LIMIT: LIMIT
    rd 4 4 0x050 1 1 4 1 4 [fd 15 0 .ro 0 false .kept .any],
    -- PLT_HOLD_LOAD: LOAD
    rd 4 4 0x054 1 1 4 1 4 [fd 15 0 .rwl 0 true .kept (.range 100 65535)],
    -- PLT_HOLD_CAP: C
    rd 4 4 0x058 1 1 4 1 4 [fd 23 0 .ro 0 false .kept .any],
    -- PLT_HOLD_ESR: ESR, VALID
    rd 4 4 0x05C 1 1 4 1 4 [fd 15 0 .ro 0 false .kept .any, fd 31 31 .ro 0 false .kept .any],
    -- PLT_LOGBOOK_HEAD: SECTOR, SLOT
    rd 4 4 0x060 1 1 4 1 4 [fd 7 0 .ro 0 false .kept .any, fd 17 8 .ro 0 false .kept .any],
    -- PLT_LOGBOOK_SEQ: SEQ
    rd 4 4 0x064 1 1 4 1 4 [fd 31 0 .ro 0 false .kept .any],
    -- PLT_LOGBOOK_QUEUE: DEPTH, PEAK
    rd 4 4 0x068 1 1 4 1 4 [fd 8 0 .ro 0 false .kept .any, fd 24 16 .ro 0 false .kept .any],
    -- PLT_LOGBOOK_LOST: COUNT
    rd 4 4 0x06C 1 1 4 1 4 [fd 31 0 .ro 0 false .kept .any] ]

/-- The register table of PLT. -/
def tablePLT : List RegDesc := tablePLT1 ++ tablePLT2

/-- Registers of SIU, part 1. -/
def tableSIU1 : List RegDesc :=
  [
    -- SIU_LINECFG: WIDTH_M1, HEIGHT_M1, DEPTH
    rd 0 1 0x040 1 1 4 1 4 [fd 15 0 .rws 0 true .cold .geoW, fd 29 16 .rws 0 true .cold (.range 63 16383), fd 31 30 .rws 0 true .cold .any],
    -- SIU_POLICY: LONG_LINE, PAD_DY, PAD_DX, PAD_VALUE, PAD_MODE, FRAME, SHORT_LINE, MISSING
    rd 0 1 0x044 1 1 4 1 4 [fd 28 28 .rws 0 true .cold .any, fd 27 24 .rws 0x2 true .cold (.range 1 8), fd 23 20 .rws 0x2 true .cold (.range 1 8), fd 19 4 .rws 0 true .cold .any, fd 3 3 .rws 0 true .cold .any, fd 2 2 .rws 0 true .cold .any, fd 1 1 .rws 0 true .cold .any, fd 0 0 .rws 0 true .cold .any],
    -- SIU_TIMEOUT: FRAME_TIMEOUT, LINE_TIMEOUT
    rd 0 1 0x048 1 1 4 1 4 [fd 31 16 .rw 0x1388 true .cold (.range 1 65535), fd 15 0 .rw 0x7D0 true .cold (.range 1 65535)],
    -- SIU_PORT: SKEW, SPARE_FOR, STATE
    rd 0 1 0x04C 1 1 4 1 4 [fd 23 16 .ro 0 false .zero .any, fd 15 8 .ro 0xF false .kept .any, fd 2 0 .ro 0 false .zero .any],
    -- SIU_OWD: OWD
    rd 0 1 0x050 1 1 4 1 4 [fd 31 0 .ro 0 false .zero .any],
    -- SIU_LAST_FRAME: FLAGS, FRAME_ID
    rd 0 1 0x054 1 1 4 1 4 [fd 31 16 .ro 0 false .zero .any, fd 15 0 .ro 0 false .zero .any],
    -- SIU_SOF_TIME: T
    rd 0 1 0x058 3 1 12 1 12 [fd 31 0 .ro 0 false .zero .any],
    -- SIU_TRIG_CTRL: LEAD, EN
    rd 0 1 0x064 1 1 4 1 4 [fd 16 1 .rw 0x3E8 true .cold (.range 100 65535), fd 0 0 .rw 0 true .cold .any],
    -- SIU_TRIG_FIRST: T
    rd 0 1 0x068 3 1 12 1 12 [fd 31 0 .rw 0 true .cold .longTime],
    -- SIU_TRIG_PERIOD: P
    rd 0 1 0x074 2 1 8 1 8 [fd 15 0 .rw 0 true .cold .any],
    -- SIU_TRIG_DEV: DEV
    rd 0 1 0x07C 1 1 4 1 4 [fd 31 0 .ro 0 false .zero .any],
    -- SIU_T0_CTRL: T0_VEC, HOST, DECIM, EN
    rd 0 1 0x080 1 1 4 1 4 [fd 31 21 .rw 0 true .cold .vec, fd 9 9 .rw 0 true .cold .any, fd 8 1 .rw 0 true .cold .any, fd 0 0 .rw 0 true .cold .any],
    -- SIU_T0_BASE: B
    rd 0 1 0x084 2 1 8 1 8 [fd 31 0 .rw 0 true .cold (.multiple 4096)],
    -- SIU_T0_SIZE: SIZE
    rd 0 1 0x08C 1 1 4 1 4 [fd 31 0 .rw 0 true .cold (.multiple 4096)],
    -- SIU_T0_WR: WR
    rd 0 1 0x090 1 1 4 1 4 [fd 31 0 .ro 0 false .zero .any],
    -- SIU_T0_RD: RD
    rd 0 1 0x094 1 1 4 1 4 [fd 31 0 .rw 0 false .zero .any],
    -- SIU_REC_CTRL: EN
    rd 0 1 0x098 1 1 4 1 4 [fd 0 0 .rw 0 true .cold .any],
    -- SIU_CNT_FRAMES_OK: COUNT
    rd 0 1 0x0A0 1 1 4 1 4 [fd 31 0 .ro 0 false .zero .any],
    -- SIU_CNT_ABANDONED: COUNT
    rd 0 1 0x0A4 1 1 4 1 4 [fd 31 0 .ro 0 false .zero .any],
    -- SIU_CNT_NOPIPE: COUNT
    rd 0 1 0x0A8 1 1 4 1 4 [fd 31 0 .ro 0 false .zero .any],
    -- SIU_CNT_PADDED: COUNT
    rd 0 1 0x0AC 1 1 4 1 4 [fd 31 0 .ro 0 false .zero .any],
    -- SIU_CNT_CUT: COUNT
    rd 0 1 0x0B0 1 1 4 1 4 [fd 31 0 .ro 0 false .zero .any],
    -- SIU_CNT_PKT_DISCARDED: COUNT
    rd 0 1 0x0B4 1 1 4 1 4 [fd 31 0 .ro 0 false .zero .any],
    -- SIU_CNT_FEC_UNCORR: COUNT
    rd 0 1 0x0B8 1 1 4 1 4 [fd 31 0 .ro 0 false .zero .any],
    -- SIU_CNT_TAP_SKIPS: T0, REC_TRIG
    rd 0 1 0x0BC 1 1 4 1 4 [fd 15 0 .ro 0 false .zero .any, fd 31 16 .ro 0 false .zero .any] ]

/-- The register table of SIU. -/
def tableSIU : List RegDesc := tableSIU1

/-- Registers of CLR, part 1. -/
def tableCLR1 : List RegDesc :=
  [
    -- CLR_CFA_SIZE: PY_M1, PX_M1
    rd 0 1 0x040 1 1 4 1 4 [fd 6 4 .rws 0 true .cold .any, fd 2 0 .rws 0 true .cold .any],
    -- CLR_CFA_ROW: IDS
    rd 0 1 0x044 1 8 4 1 4 [fd 23 0 .rws 0 true .cold .any],
    -- CLR_CH_MAP: CH
    rd 0 1 0x064 1 1 4 1 4 [fd 15 0 .rws 0 true .cold .any],
    -- CLR_BLACK: EVEN, ODD
    rd 0 1 0x068 1 4 4 1 4 [fd 15 0 .rws 0 true .cold .any, fd 31 16 .rws 0 true .cold .any],
    -- CLR_NORM: NORM
    rd 0 1 0x078 1 8 4 1 4 [fd 31 0 .rws 0 true .cold (.f32Range 0x33800000 0x43800000)],
    -- CLR_DARK_CTRL: EN, BANK, START, CANCEL, FRAMES, CAL_STATE
    rd 0 1 0x098 1 1 4 1 4 [fd 0 0 .rws 0 true .cold .any, fd 1 1 .rws 0 true .cold .any, fd 8 8 .w1s 0 false .zero .any, fd 9 9 .w1s 0 false .zero .any, fd 14 12 .rw 0 true .cold (.range 0 6), fd 17 16 .ro 0 false .zero .any],
    -- CLR_DARK_BASE0: B
    rd 0 1 0x09C 2 1 8 1 8 [fd 31 0 .rws 0 true .cold (.multiple 4096)],
    -- CLR_DARK_BASE1: B
    rd 0 1 0x0A4 2 1 8 1 8 [fd 31 0 .rws 0 true .cold (.multiple 4096)],
    -- CLR_DARK_STRIDE: S
    rd 0 1 0x0AC 1 1 4 1 4 [fd 31 0 .rws 0 true .cold (.multiple 64)],
    -- CLR_CAL_SCRATCH: B
    rd 0 1 0x0B0 2 1 8 1 8 [fd 31 0 .rw 0 true .cold .any],
    -- CLR_CAL_MEAN_MAX: V
    rd 0 1 0x0B8 1 1 4 1 4 [fd 31 0 .rw 0 true .cold (.f32Range 0x00000000 0x477FFF00)],
    -- CLR_CAL_VAR_MAX: V
    rd 0 1 0x0BC 1 1 4 1 4 [fd 31 0 .rw 0 true .cold (.f32Range 0x00000000 0x4F800000)],
    -- CLR_CAL_HOT_THR: V
    rd 0 1 0x0C0 1 1 4 1 4 [fd 15 0 .rw 0 true .cold .any],
    -- CLR_CAL_HOT_MAX: V
    rd 0 1 0x0C4 1 1 4 1 4 [fd 31 0 .rw 0 true .cold .any],
    -- CLR_CAL_RESULT: RESULT, MEAN, VAR, HOT
    rd 0 1 0x0C8 1 1 4 1 4 [fd 1 0 .ro 0 false .zero .any, fd 4 4 .ro 0 false .zero .any, fd 5 5 .ro 0 false .zero .any, fd 6 6 .ro 0 false .zero .any],
    -- CLR_CAL_MEAS_MEAN: V
    rd 0 1 0x0CC 1 1 4 1 4 [fd 31 0 .ro 0 false .zero .any],
    -- CLR_CAL_MEAS_VAR: V
    rd 0 1 0x0D0 1 1 4 1 4 [fd 31 0 .ro 0 false .zero .any],
    -- CLR_CAL_MEAS_HOT: V
    rd 0 1 0x0D4 1 1 4 1 4 [fd 31 0 .ro 0 false .zero .any],
    -- CLR_DEF_BASE: B
    rd 0 1 0x0D8 2 1 8 1 8 [fd 31 0 .rws 0 true .cold (.multiple 64)],
    -- CLR_DEF_CTRL: EN, COUNT
    rd 0 1 0x0E0 1 1 4 1 4 [fd 31 31 .rws 0 true .cold .any, fd 22 0 .rws 0 true .cold (.range 0 4194304)],
    -- CLR_DEF_THR: V
    rd 0 1 0x0E4 1 1 4 1 4 [fd 31 0 .rws 0 true .cold (.f32Range 0x00000000 0x3F800000)],
    -- CLR_FF_CTRL: EN, FMT
    rd 0 1 0x0E8 1 1 4 1 4 [fd 0 0 .rws 0 true .cold .any, fd 1 1 .rws 0 true .cold .any],
    -- CLR_FF_BASE: B
    rd 0 1 0x0EC 2 1 8 1 8 [fd 31 0 .rws 0 true .cold (.multiple 4096)],
    -- CLR_FF_STRIDE: S
    rd 0 1 0x0F4 1 1 4 1 4 [fd 31 0 .rws 0 true .cold (.multiple 64)],
    -- CLR_FF_GBASE: V
    rd 0 1 0x0F8 1 8 4 1 4 [fd 31 0 .rws 0 true .cold (.f32Range 0xC3800000 0x43800000)],
    -- CLR_FF_GSTEP: V
    rd 0 1 0x118 1 8 4 1 4 [fd 31 0 .rws 0 true .cold (.f32Range 0xC3800000 0x43800000)],
    -- CLR_DM_EPS: V
    rd 0 1 0x138 1 1 4 1 4 [fd 31 0 .rws 0x3A800000 true .cold (.f32Range 0x33800000 0x3F800000)],
    -- CLR_DM_DETAIL: V
    rd 0 1 0x13C 1 1 4 1 4 [fd 31 0 .rws 0 true .cold (.f32Range 0x00000000 0x3F800000)],
    -- CLR_TAP_CTRL: VEC, HOST, DECIM, SEL, EN
    rd 0 1 0x140 1 1 4 1 4 [fd 31 21 .rw 0 true .cold .vec, fd 12 12 .rw 0 true .cold .any, fd 11 4 .rw 0 true .cold .any, fd 3 1 .rw 0 true .cold (.range 1 5), fd 0 0 .rw 0 true .cold .any],
    -- CLR_TAP_BASE: B
    rd 0 1 0x144 2 1 8 1 8 [fd 31 0 .rw 0 true .cold (.multiple 4096)] ]

/-- Registers of CLR, part 2. -/
def tableCLR2 : List RegDesc :=
  [
    -- CLR_TAP_SIZE: SIZE
    rd 0 1 0x14C 1 1 4 1 4 [fd 31 0 .rw 0 true .cold (.multiple 4096)],
    -- CLR_TAP_WR: WR
    rd 0 1 0x150 1 1 4 1 4 [fd 31 0 .ro 0 false .zero .any],
    -- CLR_TAP_RD: RD
    rd 0 1 0x154 1 1 4 1 4 [fd 31 0 .rw 0 false .zero .any],
    -- CLR_CNT_SANITISED: COUNT
    rd 0 1 0x158 1 1 4 1 4 [fd 31 0 .ro 0 false .zero .any],
    -- CLR_CNT_DEFECTS: COUNT
    rd 0 1 0x15C 1 1 4 1 4 [fd 31 0 .ro 0 false .zero .any],
    -- CLR_CNT_TAP_SKIPS: COUNT
    rd 0 1 0x160 1 1 4 1 4 [fd 31 0 .ro 0 false .zero .any],
    -- CLR_SPARE: RELEASE, FORCE, FORCE_SLICE, FORCE_PIPE, CHECK_EN, FOR_SLICE, FOR_PIPE, STATE
    rd 2 2 0x040 1 1 4 1 4 [fd 25 25 .w1s 0 false .zero .any, fd 24 24 .w1s 0 false .zero .any, fd 23 20 .rw 0 false .zero .any, fd 19 19 .rw 0 false .zero .any, fd 16 16 .rw 0 true .cold .any, fd 15 12 .ro 0 false .kept .any, fd 8 8 .ro 0 false .kept .any, fd 2 0 .ro 0 false .kept .any],
    -- CLR_CNT_MISMATCH: COUNT
    rd 2 2 0x044 1 1 4 1 4 [fd 31 0 .ro 0 false .kept .any],
    -- CLR_CNT_TRANSIENT: COUNT
    rd 2 2 0x048 1 1 4 1 4 [fd 31 0 .ro 0 false .kept .any],
    -- CLR_WB: V
    rd 3 4 0x040 1 3 4 1 4 [fd 31 0 .rws 0 true .cold (.f32Range 0x3B800000 0x43800000)],
    -- CLR_WS_MAT: V
    rd 3 4 0x04C 1 9 4 1 4 [fd 31 0 .rws 0 true .cold (.f32Range 0xC1800000 0x41800000)],
    -- CLR_WS_SEL: SEL
    rd 3 4 0x070 1 1 4 1 4 [fd 1 0 .rws 0 true .cold (.range 0 2)],
    -- CLR_LUT_CTRL: EN, BANK, SHAPER, BANK0_STATE, BANK1_STATE
    rd 3 4 0x074 1 1 4 1 4 [fd 0 0 .rws 0 true .cold .any, fd 1 1 .rws 0 true .cold .any, fd 2 2 .rws 0 true .cold .any, fd 9 8 .ro 0 false .kept .any, fd 11 10 .ro 0 false .kept .any],
    -- CLR_LUT_IN_SCALE: V
    rd 3 4 0x078 1 3 4 1 4 [fd 31 0 .rws 0 true .cold (.f32Range 0x37800000 0x43800000)],
    -- CLR_LUT_IN_OFFSET: V
    rd 3 4 0x084 1 3 4 1 4 [fd 31 0 .rws 0 true .cold (.f32Range 0xBF800000 0x3F800000)],
    -- CLR_LUT_HLO: V
    rd 3 4 0x090 1 1 4 1 4 [fd 14 0 .rws 0 true .cold (.range 0 31743)],
    -- CLR_LUT_HK: V
    rd 3 4 0x094 1 1 4 1 4 [fd 31 0 .rws 0 true .cold (.f32Range 0x38000000 0x3F800000)],
    -- CLR_LUT_LOAD: START, TARGET
    rd 3 4 0x098 1 1 4 1 4 [fd 0 0 .w1s 0 false .zero .any, fd 1 1 .rw 0 false .zero .any],
    -- CLR_LUT_SRC: B
    rd 3 4 0x09C 2 1 8 1 8 [fd 31 0 .rw 0 true .cold (.multiple 64)],
    -- CLR_TG_CTRL: GAMUT_EN, TONE_EN
    rd 3 4 0x0A4 1 1 4 1 4 [fd 0 0 .rws 0 true .cold .any, fd 1 1 .rws 0 true .cold .any],
    -- CLR_GAMUT_FLOOR: V
    rd 3 4 0x0A8 1 1 4 1 4 [fd 31 0 .rws 0 true .cold (.f32Range 0xBF800000 0x00000000)],
    -- CLR_GAMUT_K: V
    rd 3 4 0x0AC 1 3 4 1 4 [fd 31 0 .rws 0 true .cold (.f32Range 0x00000000 0x3F800000)],
    -- CLR_TONE_KNEE: V
    rd 3 4 0x0B8 1 1 4 1 4 [fd 31 0 .rws 0x3F800000 true .cold (.f32Range 0x00000000 0x477FE000)],
    -- CLR_TONE_D: V
    rd 3 4 0x0BC 1 1 4 1 4 [fd 31 0 .rws 0x3F800000 true .cold (.f32Range 0x38800000 0x477FE000)],
    -- CLR_CNT_CLAMPED: COUNT
    rd 3 4 0x0C0 1 1 4 1 4 [fd 31 0 .ro 0 false .zero .any],
    -- CLR_CNT_GAMUT: COUNT
    rd 3 4 0x0C4 1 1 4 1 4 [fd 31 0 .ro 0 false .zero .any],
    -- CLR_OT_CTRL: VEC, HOST, DECIM, BOX, TF_SEL, OUT_PRIM, MAT_SRC, EN
    rd 5 6 0x100 1 4 256 1 256 [fd 31 21 .rws 0 true .cold .vec, fd 16 16 .rws 0 true .cold .any, fd 15 12 .rws 0 true .cold .any, fd 9 8 .rws 0 true .cold (.range 0 2), fd 6 4 .rws 0 true .cold (.range 0 4), fd 2 2 .rws 0 true .cold .any, fd 1 1 .rws 0 true .cold .any, fd 0 0 .rws 0 true .cold .any],
    -- CLR_OT_MAT: V
    rd 5 6 0x104 1 4 256 9 4 [fd 31 0 .rws 0 true .cold (.f32Range 0xC1800000 0x41800000)],
    -- CLR_OT_GAIN: V
    rd 5 6 0x128 1 4 256 1 256 [fd 31 0 .rws 0x3F800000 true .cold (.f32Range 0x00000000 0x43800000)],
    -- CLR_OT_CROP_XY: X0, Y0
    rd 5 6 0x12C 1 4 256 1 256 [fd 15 0 .rws 0 true .cold .any, fd 31 16 .rws 0 true .cold .any] ]

/-- Registers of CLR, part 3. -/
def tableCLR3 : List RegDesc :=
  [
    -- CLR_OT_CROP_WH: CW_M1, CH_M1
    rd 5 6 0x130 1 4 256 1 256 [fd 15 0 .rws 0 true .cold .any, fd 31 16 .rws 0 true .cold .any],
    -- CLR_OT_OUT_WH: OW_M1, OH_M1
    rd 5 6 0x134 1 4 256 1 256 [fd 15 0 .rws 0 true .cold .any, fd 31 16 .rws 0 true .cold .any],
    -- CLR_OT_SX: V
    rd 5 6 0x138 1 4 256 1 256 [fd 31 0 .rws 0x3F800000 true .cold (.f32Range 0x3E800000 0x40800000)],
    -- CLR_OT_SY: V
    rd 5 6 0x13C 1 4 256 1 256 [fd 31 0 .rws 0x3F800000 true .cold (.f32Range 0x3E800000 0x40800000)],
    -- CLR_OT_BASE: B
    rd 5 6 0x140 2 4 256 1 256 [fd 31 0 .rws 0 true .cold (.multiple 4096)],
    -- CLR_OT_STRIDE: S
    rd 5 6 0x148 1 4 256 1 256 [fd 31 0 .rws 0 true .cold (.multiple 64)],
    -- CLR_OT_BUFSZ: S
    rd 5 6 0x14C 1 4 256 1 256 [fd 31 0 .rws 0 true .cold (.multiple 4096)],
    -- CLR_OT_RING: COUNT_M1
    rd 5 6 0x150 1 4 256 1 256 [fd 5 0 .rws 0 true .cold (.range 1 63)],
    -- CLR_OT_WR_IDX: IDX
    rd 5 6 0x154 1 4 256 1 256 [fd 5 0 .ro 0 false .zero .any],
    -- CLR_OT_RD_IDX: IDX
    rd 5 6 0x158 1 4 256 1 256 [fd 5 0 .rw 0 false .zero .any],
    -- CLR_OT_CNT_SKIP: COUNT
    rd 5 6 0x15C 1 4 256 1 256 [fd 31 0 .ro 0 false .zero .any],
    -- CLR_OT1_FMT: CHROMA, YCC, STREAM
    rd 5 6 0x260 1 1 4 1 4 [fd 0 0 .rws 0 true .cold .any, fd 1 1 .rws 0 true .cold .any, fd 3 2 .rws 0 true .cold .any],
    -- CLR_OT2_FMT: DTYPE, ROI_EN
    rd 5 6 0x360 1 1 4 1 4 [fd 0 0 .rws 0 true .cold .any, fd 4 1 .rws 0 true .cold .any],
    -- CLR_OT2_QSCALE: V
    rd 5 6 0x364 1 1 4 1 4 [fd 31 0 .rws 0x3F800000 true .cold .f32],
    -- CLR_OT2_QZERO: V
    rd 5 6 0x368 1 1 4 1 4 [fd 31 0 .rws 0 true .cold .f32],
    -- CLR_OT3_FMT: RANGE
    rd 5 6 0x460 1 1 4 1 4 [fd 0 0 .rws 0 true .cold .any],
    -- CLR_ROI_XY: X0, Y0
    rd 5 6 0x500 1 4 32 1 32 [fd 15 0 .rws 0 true .cold .any, fd 31 16 .rws 0 true .cold .any],
    -- CLR_ROI_WH: CW_M1, CH_M1
    rd 5 6 0x504 1 4 32 1 32 [fd 15 0 .rws 0 true .cold .any, fd 31 16 .rws 0 true .cold .any],
    -- CLR_ROI_OUT_WH: OW_M1, OH_M1
    rd 5 6 0x508 1 4 32 1 32 [fd 15 0 .rws 0 true .cold .any, fd 31 16 .rws 0 true .cold .any],
    -- CLR_ROI_SX: V
    rd 5 6 0x50C 1 4 32 1 32 [fd 31 0 .rws 0x3F800000 true .cold (.f32Range 0x3E800000 0x40800000)],
    -- CLR_ROI_SY: V
    rd 5 6 0x510 1 4 32 1 32 [fd 31 0 .rws 0x3F800000 true .cold (.f32Range 0x3E800000 0x40800000)],
    -- CLR_ROI_BOX: BOX
    rd 5 6 0x514 1 4 32 1 32 [fd 1 0 .rws 0 true .cold (.range 0 2)],
    -- CLR_TW_SEL: PIPE, TABLE
    rd 7 7 0x040 1 1 4 1 4 [fd 0 0 .rw 0 false .zero .any, fd 3 1 .rw 0 false .zero (.range 0 4)],
    -- CLR_TW_INDEX: INDEX
    rd 7 7 0x044 1 1 4 1 4 [fd 18 0 .rw 0 false .zero .any],
    -- CLR_TW_DATA: D
    rd 7 7 0x048 2 1 8 1 8 [fd 31 0 .rw 0 false .zero .any],
    -- CLR_TW_VALID: A1, A2, A3, B1, B2, B3
    rd 7 7 0x050 1 1 4 1 4 [fd 0 0 .ro 0 false .zero .any, fd 1 1 .ro 0 false .zero .any, fd 2 2 .ro 0 false .zero .any, fd 4 4 .ro 0 false .zero .any, fd 5 5 .ro 0 false .zero .any, fd 6 6 .ro 0 false .zero .any] ]

/-- The register table of CLR. -/
def tableCLR : List RegDesc := tableCLR1 ++ tableCLR2 ++ tableCLR3

/-- Registers of CNV, part 1. -/
def tableCNV1 : List RegDesc :=
  [
    -- CNV_CANVAS_WH: W_M1, H_M1
    rd 0 0 0x040 1 1 4 1 4 [fd 13 0 .rws 0 true .cold (.range 15 16383), fd 28 16 .rws 0 true .cold (.range 15 8191)],
    -- CNV_CANVAS_BASE0: B
    rd 0 0 0x044 2 1 8 1 8 [fd 31 0 .rws 0 true .cold (.multiple 4096)],
    -- CNV_CANVAS_BASE1: B
    rd 0 0 0x04C 2 1 8 1 8 [fd 31 0 .rws 0 true .cold (.multiple 4096)],
    -- CNV_CANVAS_STRIDE: S
    rd 0 0 0x054 1 1 4 1 4 [fd 31 0 .rws 0 true .cold (.multiple 64)],
    -- CNV_BG: V
    rd 0 0 0x058 2 1 8 1 8 [fd 15 0 .rws 0 true .cold .any],
    -- CNV_SCHED: PACE, LOCK, LOCK_MULT_M1, LEAD
    rd 0 0 0x060 1 1 4 1 4 [fd 1 0 .rws 0 true .cold (.range 0 2), fd 2 2 .rws 0 true .cold .any, fd 5 4 .rws 0 true .cold .any, fd 17 8 .rws 0x32 true .cold (.range 50 1000)],
    -- CNV_LOCK_DELAY: D
    rd 0 0 0x064 1 1 4 1 4 [fd 31 0 .rws 0 true .cold .any],
    -- CNV_SYNC_WIN: W
    rd 0 0 0x068 1 1 4 1 4 [fd 15 0 .rws 0x64 true .cold (.range 0 1000)],
    -- CNV_FILL_TIME: T
    rd 0 0 0x06C 1 1 4 1 4 [fd 15 0 .rws 0 true .cold (.range 1 42000)],
    -- CNV_WF_FIRST: T
    rd 0 0 0x070 3 1 12 1 12 [fd 31 0 .rws 0 true .cold .longTime],
    -- CNV_WF_PERIOD: P
    rd 0 0 0x07C 2 1 8 1 8 [fd 15 0 .rws 0 true .cold .wfp],
    -- CNV_SELFREF: HOST_REQ, FW_REQ, MEM_REQ, RESET, STATE
    rd 0 0 0x084 1 1 4 1 4 [fd 0 0 .rw 0 false .zero .any, fd 1 1 .rw 0 false .zero .any, fd 2 2 .ro 0 false .zero .any, fd 3 3 .ro 0 false (.value 0x1) .any, fd 9 8 .ro 0 false (.value 0x2) .any],
    -- CNV_LTR: NOW, MIN
    rd 0 0 0x088 1 1 4 1 4 [fd 15 0 .ro 0xFFFF false (.value 0xFFFF) .any, fd 31 16 .ro 0xFFFF false (.value 0xFFFF) .any],
    -- CNV_STATUS: SHOW_BUF, WRITE_BUF, COMPOSING, HOST_FREE0, HOST_FREE1, READY_PTR
    rd 0 0 0x08C 1 1 4 1 4 [fd 0 0 .ro 0 false .zero .any, fd 1 1 .ro 0 false .zero .any, fd 2 2 .ro 0 false .zero .any, fd 3 3 .ro 0 false .zero .any, fd 4 4 .ro 0 false .zero .any, fd 28 16 .ro 0 false .zero .any],
    -- CNV_LAUNCH_ID: ID
    rd 0 0 0x090 1 1 4 1 4 [fd 15 0 .ro 0 false .kept .any],
    -- CNV_LAST_LAUNCH: T
    rd 0 0 0x094 3 1 12 1 12 [fd 31 0 .ro 0 false .zero .any],
    -- CNV_PIC_SEQ: SEQ
    rd 0 0 0x0A0 1 1 4 1 4 [fd 31 0 .ro 0 false .kept .any],
    -- CNV_CNT_LAUNCHES: COUNT
    rd 0 0 0x0A4 1 1 4 1 4 [fd 31 0 .ro 0 false .zero .any],
    -- CNV_CNT_MISSES: COUNT
    rd 0 0 0x0A8 1 1 4 1 4 [fd 31 0 .ro 0 false .zero .any],
    -- CNV_CNT_HOLDOVERS: COUNT
    rd 0 0 0x0AC 1 1 4 1 4 [fd 31 0 .ro 0 false .zero .any],
    -- CNV_CNT_HOLD_SKIPPED: COUNT
    rd 0 0 0x0B0 1 1 4 1 4 [fd 31 0 .ro 0 false .zero .any],
    -- CNV_CNT_PIC_DROPPED: COUNT
    rd 0 0 0x0B4 1 1 4 1 4 [fd 31 0 .ro 0 false .zero .any],
    -- CNV_CNT_ABANDONED: COUNT
    rd 0 0 0x0B8 1 1 4 1 4 [fd 31 0 .ro 0 false .zero .any],
    -- CNV_CNT_SANITISED: COUNT
    rd 0 0 0x0BC 1 1 4 1 4 [fd 31 0 .ro 0 false .zero .any],
    -- CNV_CNT_CLAMPED: COUNT
    rd 0 0 0x0C0 1 1 4 1 4 [fd 31 0 .ro 0 false .zero .any],
    -- CNV_CNT_POISON: COUNT
    rd 0 0 0x0C4 1 1 4 1 4 [fd 31 0 .ro 0 false .zero .any],
    -- CNV_LYR_CTRL: EN, SRC, HOST_ALPHA, HOST_MEM, STREAM
    rd 1 1 0x040 1 8 64 1 64 [fd 0 0 .rws 0 true .cold .any, fd 2 1 .rws 0 true .cold .any, fd 4 4 .rws 0 true .cold .any, fd 5 5 .rws 0 true .cold .any, fd 31 16 .rws 0 true .cold .any],
    -- CNV_LYR_XY: LX, LY
    rd 1 1 0x044 1 8 64 1 64 [fd 13 0 .rws 0 true .cold .any, fd 28 16 .rws 0 true .cold .any],
    -- CNV_LYR_WH: LW_M1, LH_M1
    rd 1 1 0x048 1 8 64 1 64 [fd 13 0 .rws 0 true .cold .any, fd 28 16 .rws 0 true .cold .any],
    -- CNV_LYR_ALPHA: V
    rd 1 1 0x04C 1 8 64 1 64 [fd 31 0 .rws 0x3F800000 true .cold (.f32Range 0x00000000 0x3F800000)] ]

/-- Registers of CNV, part 2. -/
def tableCNV2 : List RegDesc :=
  [
    -- CNV_LYR_STORE0: B
    rd 1 1 0x050 2 8 64 1 64 [fd 31 0 .rws 0 true .cold (.multiple 4096)],
    -- CNV_LYR_STORE1: B
    rd 1 1 0x058 2 8 64 1 64 [fd 31 0 .rws 0 true .cold (.multiple 4096)],
    -- CNV_LYR_STRIDE: S
    rd 1 1 0x060 1 8 64 1 64 [fd 31 0 .rws 0 true .cold (.multiple 192)],
    -- CNV_LYR_ALPHA0: B
    rd 1 1 0x064 2 8 64 1 64 [fd 31 0 .rws 0 true .cold .any],
    -- CNV_LYR_ALPHA1: B
    rd 1 1 0x06C 2 8 64 1 64 [fd 31 0 .rws 0 true .cold .any],
    -- CNV_LYR_HOST_SEL: SEL
    rd 1 1 0x074 1 8 64 1 64 [fd 0 0 .rws 0 true .cold .any],
    -- CNV_LYR_CNT_OVERWRITE: COUNT
    rd 1 1 0x078 1 8 64 1 64 [fd 31 0 .ro 0 false .zero .any],
    -- CNV_LYR_STATE: CURRENT, LIVE
    rd 1 1 0x07C 1 8 64 1 64 [fd 0 0 .ro 0 false .zero .any, fd 1 1 .ro 0 false .zero .any],
    -- CNV_MAP_BASE0: B
    rd 2 2 0x040 2 1 8 1 8 [fd 31 0 .rw 0 true .cold (.multiple 64)],
    -- CNV_MAP_BASE1: B
    rd 2 2 0x048 2 1 8 1 8 [fd 31 0 .rw 0 true .cold (.multiple 64)],
    -- CNV_MAP_COUNT0: COUNT
    rd 2 2 0x050 1 1 4 1 4 [fd 17 0 .rw 0 true .cold (.range 0 131072)],
    -- CNV_MAP_COUNT1: COUNT
    rd 2 2 0x054 1 1 4 1 4 [fd 17 0 .rw 0 true .cold (.range 0 131072)],
    -- CNV_MAP_CTRL: SEL, VALIDATE, TARGET, BANK0_STATE, BANK1_STATE
    rd 2 2 0x058 1 1 4 1 4 [fd 0 0 .rws 0 true .cold .any, fd 4 4 .w1s 0 false .zero .any, fd 5 5 .rw 0 true .cold .any, fd 9 8 .ro 0 false .kept .any, fd 11 10 .ro 0 false .kept .any],
    -- CNV_MAP_RESULT: INDEX, CHECK
    rd 2 2 0x05C 1 1 4 1 4 [fd 17 0 .ro 0 false .kept .any, fd 27 24 .ro 0 false .kept .any],
    -- CNV_MAP_PIX_TOTAL: PIX
    rd 2 2 0x060 1 1 4 1 4 [fd 31 0 .ro 0 false .kept .any],
    -- CNV_MAP_PIX_PORT: PIXELS, PORT
    rd 2 2 0x064 1 1 4 1 4 [fd 27 0 .ro 0 false .kept .any, fd 31 28 .ro 0 false .kept .any],
    -- CNV_VIEWS: V_M1
    rd 2 2 0x068 1 1 4 1 4 [fd 2 0 .rws 0 true .cold .any],
    -- CNV_VIEW_XY: VX, VY
    rd 2 2 0x080 1 8 4 1 4 [fd 13 0 .rws 0 true .cold .any, fd 28 16 .rws 0 true .cold .any],
    -- CNV_SLOT_OFS: OFS
    rd 2 2 0x0A0 1 8 8 1 8 [fd 31 0 .rws 0 true .cold .any],
    -- CNV_SLOT_LEN: LEN
    rd 2 2 0x0A4 1 8 8 1 8 [fd 31 0 .rws 0 true .cold .any],
    -- CNV_MON_CTRL: EN, BOX, HOST, VEC
    rd 3 3 0x040 1 1 4 1 4 [fd 0 0 .rws 0 true .cold .any, fd 2 1 .rws 0 true .cold .any, fd 16 16 .rws 0 true .cold .any, fd 31 21 .rws 0 true .cold .vec],
    -- CNV_MON_CROP_XY: MX0, MY0
    rd 3 3 0x044 1 1 4 1 4 [fd 13 0 .rws 0 true .cold .any, fd 28 16 .rws 0 true .cold .any],
    -- CNV_MON_CROP_WH: MW_M1, MH_M1
    rd 3 3 0x048 1 1 4 1 4 [fd 13 0 .rws 0 true .cold .any, fd 28 16 .rws 0 true .cold .any],
    -- CNV_MON_BASE: B
    rd 3 3 0x04C 2 1 8 1 8 [fd 31 0 .rws 0 true .cold (.multiple 4096)],
    -- CNV_MON_STRIDE: S
    rd 3 3 0x054 1 1 4 1 4 [fd 31 0 .rws 0 true .cold (.multiple 64)],
    -- CNV_MON_BUFSZ: S
    rd 3 3 0x058 1 1 4 1 4 [fd 31 0 .rws 0 true .cold (.multiple 4096)],
    -- CNV_MON_RING: COUNT_M1
    rd 3 3 0x05C 1 1 4 1 4 [fd 5 0 .rws 0 true .cold (.range 1 63)],
    -- CNV_MON_WR_IDX: IDX
    rd 3 3 0x060 1 1 4 1 4 [fd 5 0 .ro 0 false .zero .any],
    -- CNV_MON_RD_IDX: IDX
    rd 3 3 0x064 1 1 4 1 4 [fd 5 0 .rw 0 false .zero .any],
    -- CNV_MON_CNT_SKIP: COUNT
    rd 3 3 0x068 1 1 4 1 4 [fd 31 0 .ro 0 false .zero .any] ]

/-- The register table of CNV. -/
def tableCNV : List RegDesc := tableCNV1 ++ tableCNV2

/-- Registers of PHO, part 1. -/
def tablePHO1 : List RegDesc :=
  [
    -- PHO_CTRL: SEL, LIM_EN, OBS_EN, INIT_MODE
    rd 0 0 0x040 1 1 4 1 4 [fd 0 0 .rws 0 true .cold .any, fd 1 1 .rws 0 true .cold .any, fd 2 2 .rws 0 true .cold .any, fd 3 3 .rws 0 true .cold .any],
    -- PHO_BANK0: B
    rd 0 0 0x044 2 1 8 1 8 [fd 31 0 .rws 0 true .cold (.multiple 4096)],
    -- PHO_BANK1: B
    rd 0 0 0x04C 2 1 8 1 8 [fd 31 0 .rws 0 true .cold (.multiple 4096)],
    -- PHO_CLASS_BASE: B
    rd 0 0 0x054 2 1 8 1 8 [fd 31 0 .rws 0 true .cold (.multiple 4096)],
    -- PHO_T_AMB: V
    rd 0 0 0x05C 1 1 4 1 4 [fd 31 0 .rws 0x41C80000 true .cold (.f32Range 0xC2200000 0x42AA0000)],
    -- PHO_BUDGET: V
    rd 0 0 0x060 1 1 4 1 4 [fd 31 0 .rws 0x4B189680 true .cold (.f32Range 0x3F800000 0x4B189680)],
    -- PHO_GLIM_MIN: V
    rd 0 0 0x064 1 1 4 1 4 [fd 31 0 .rws 0x3D800000 true .cold (.f32Range 0x3D800000 0x3F800000)],
    -- PHO_SLEW_DOWN: V
    rd 0 0 0x068 1 1 4 1 4 [fd 31 0 .rws 0x40800000 true .cold (.f32Range 0x3C23D70A 0x447A0000)],
    -- PHO_SLEW_UP: V
    rd 0 0 0x06C 1 1 4 1 4 [fd 31 0 .rws 0x3F000000 true .cold (.f32Range 0x3C23D70A 0x447A0000)],
    -- PHO_GLIM: V
    rd 0 0 0x070 1 1 4 1 4 [fd 31 0 .ro 0x3F800000 false .kept .any],
    -- PHO_PWR_WALL: V
    rd 0 0 0x074 1 1 4 1 4 [fd 31 0 .ro 0 false .zero .any],
    -- PHO_PWR_PEAK: V
    rd 0 0 0x078 1 1 4 1 4 [fd 31 0 .ro 0 false .zero .any],
    -- PHO_PASS_SEQ: SEQ
    rd 0 0 0x07C 1 1 4 1 4 [fd 31 0 .ro 0 false .kept .any],
    -- PHO_STATUS: LIMITING, FLOOR, PASS_ACTIVE
    rd 0 0 0x080 1 1 4 1 4 [fd 0 0 .ro 0 false .zero .any, fd 1 1 .ro 0 false .zero .any, fd 2 2 .ro 0 false .zero .any],
    -- PHO_CNT_SCAN_WAIT: COUNT
    rd 0 0 0x084 1 1 4 1 4 [fd 31 0 .ro 0 false .zero .any],
    -- PHO_CNT_CAL_MISSING: COUNT
    rd 0 0 0x088 1 1 4 1 4 [fd 31 0 .ro 0 false .zero .any],
    -- PHO_CNT_SHARED: COUNT
    rd 0 0 0x08C 1 1 4 1 4 [fd 31 0 .ro 0 false .zero .any],
    -- PHO_CNT_CLAMPED: COUNT
    rd 0 0 0x090 1 1 4 1 4 [fd 31 0 .ro 0 false .zero .any],
    -- PHO_OBS_REJECT: V
    rd 1 1 0x040 1 1 4 1 4 [fd 31 0 .rws 0x41700000 true .cold (.f32Range 0x3F000000 0x42C80000)],
    -- PHO_MEAS_MAX_AGE: AGE
    rd 1 1 0x044 1 1 4 1 4 [fd 15 0 .rws 0x78 true .cold (.range 1 65534)],
    -- PHO_REF_CTRL: START, CANCEL, STATE, RESULT, PASSES, TIMEOUT
    rd 1 1 0x048 1 1 4 1 4 [fd 0 0 .w1s 0 false .zero .any, fd 1 1 .w1s 0 false .zero .any, fd 3 2 .ro 0 false .zero .any, fd 5 4 .ro 0 false .zero .any, fd 15 8 .rw 0 false .zero (.range 1 255), fd 31 16 .rw 0 false .zero (.range 1 65535)],
    -- PHO_REF_TOL: V
    rd 1 1 0x04C 1 1 4 1 4 [fd 31 0 .rw 0x3E800000 true .cold (.f32Range 0x3C23D70A 0x41200000)],
    -- PHO_REF_BASE: B
    rd 1 1 0x050 2 1 8 1 8 [fd 31 0 .rw 0 true .cold (.multiple 64)],
    -- PHO_REF_UNSTEADY: COUNT
    rd 1 1 0x058 1 1 4 1 4 [fd 17 0 .ro 0 false .zero .any],
    -- PHO_CNT_MEAS: COUNT
    rd 1 1 0x05C 1 1 4 1 4 [fd 31 0 .ro 0 false .zero .any],
    -- PHO_CNT_MEAS_REJECT: COUNT
    rd 1 1 0x060 1 1 4 1 4 [fd 31 0 .ro 0 false .zero .any],
    -- PHO_CNT_MEAS_OVERWRITE: COUNT
    rd 1 1 0x064 1 1 4 1 4 [fd 31 0 .ro 0 false .zero .any] ]

/-- The register table of PHO. -/
def tablePHO : List RegDesc := tablePHO1

/-- Registers of TLK, part 1. -/
def tableTLK1 : List RegDesc :=
  [
    -- TLK_PORT_CTRL: ENUM, RESUME, PROBE_EN, ECHO_EN
    rd 0 15 0x040 1 1 4 1 4 [fd 0 0 .w1s 0 false .zero .any, fd 1 1 .w1s 0 false .zero .any, fd 2 2 .rw 0 true .cold .any, fd 3 3 .rw 0 true .cold .any],
    -- TLK_PORT_STATE: STATE, COUNT
    rd 0 15 0x044 1 1 4 1 4 [fd 2 0 .ro 0 false .zero .any, fd 29 16 .ro 0 false .kept .any],
    -- TLK_REACH: REACH
    rd 0 15 0x048 1 1 4 1 4 [fd 13 0 .ro 0 false .kept .any],
    -- TLK_CHAIN_BASE: B
    rd 0 15 0x04C 2 1 8 1 8 [fd 31 0 .rw 0 true .cold (.multiple 4096)],
    -- TLK_CHAIN_DELAY: D
    rd 0 15 0x054 1 1 4 1 4 [fd 31 0 .ro 0 false .kept .any],
    -- TLK_TEMP_CTRL: PERIOD, TIMEOUT
    rd 0 15 0x058 1 1 4 1 4 [fd 15 0 .rw 0 true .cold .any, fd 31 16 .rw 0x64 true .cold (.range 1 65535)],
    -- TLK_REPLY_TIMEOUT: T
    rd 0 15 0x05C 1 1 4 1 4 [fd 15 0 .rw 0x64 true .cold (.range 1 65535)],
    -- TLK_PROBE_PERIOD: T
    rd 0 15 0x060 1 1 4 1 4 [fd 15 0 .rw 0x64 true .cold (.range 1 65535)],
    -- TLK_ECHO_PERIOD: T
    rd 0 15 0x064 1 1 4 1 4 [fd 15 0 .rw 0xA true .cold (.range 1 65535)],
    -- TLK_HQ_CTRL: DST, BCAST, KIND, TYPE, TIMEOUT, DONE, GO
    rd 0 15 0x068 1 1 4 1 4 [fd 12 0 .rw 0 false .zero .any, fd 15 15 .rw 0 false .zero .any, fd 23 16 .rw 0 false .zero .any, fd 24 24 .rw 0 false .zero .any, fd 29 29 .ro 0 false .zero .any, fd 30 30 .ro 0 false .zero .any, fd 31 31 .w1s 0 false .zero .any],
    -- TLK_HQ_DATA: D
    rd 0 15 0x06C 1 8 4 1 4 [fd 31 0 .rw 0 false .zero .any],
    -- TLK_HQ_H4: H4
    rd 0 15 0x08C 1 1 4 1 4 [fd 31 0 .ro 0 false .zero .any],
    -- TLK_CNT_PIX: COUNT
    rd 0 15 0x090 1 1 4 1 4 [fd 31 0 .ro 0 false .zero .any],
    -- TLK_CNT_DROPPED: COUNT
    rd 0 15 0x094 1 1 4 1 4 [fd 31 0 .ro 0 false .zero .any],
    -- TLK_CNT_TIMEOUT: COUNT
    rd 0 15 0x098 1 1 4 1 4 [fd 31 0 .ro 0 false .zero .any],
    -- TLK_CNT_REPLY_DISCARD: COUNT
    rd 0 15 0x09C 1 1 4 1 4 [fd 31 0 .ro 0 false .zero .any],
    -- TLK_CNT_BACK_UNCORR: COUNT
    rd 0 15 0x0A0 1 1 4 1 4 [fd 31 0 .ro 0 false .zero .any],
    -- TLK_CNT_BACK_CRC: COUNT
    rd 0 15 0x0A4 1 1 4 1 4 [fd 31 0 .ro 0 false .zero .any],
    -- TLK_CNT_NO_TILE: COUNT
    rd 0 15 0x0A8 1 1 4 1 4 [fd 31 0 .ro 0 false .zero .any],
    -- TLK_CNT_TEMP: COUNT
    rd 0 15 0x0AC 1 1 4 1 4 [fd 31 0 .ro 0 false .zero .any] ]

/-- The register table of TLK. -/
def tableTLK : List RegDesc := tableTLK1

/-- Registers of CAS, part 1. -/
def tableCAS1 : List RegDesc :=
  [
    -- CAS_PORT_STATE: STATE, NBR_ID, NBR_VALID
    rd 0 3 0x040 1 1 4 1 4 [fd 2 0 .ro 0 false .zero .any, fd 29 16 .ro 0 false .zero .any, fd 31 31 .ro 0 false .zero .any],
    -- CAS_PORT_CTRL: FORCE_BLOCK, RETRAIN
    rd 0 3 0x044 1 1 4 1 4 [fd 0 0 .rw 0 true .cold .any, fd 1 1 .w1s 0 false .zero .any],
    -- CAS_LINK_DELAY: D
    rd 0 3 0x048 2 1 8 1 8 [fd 15 0 .ro 0 false .zero .any],
    -- CAS_ASYM: ASYM
    rd 0 3 0x050 1 1 4 1 4 [fd 31 0 .rw 0 true .cold .any],
    -- CAS_IN_LAT: LAT
    rd 0 3 0x054 1 1 4 1 4 [fd 31 0 .ro 0 false .kept .any],
    -- CAS_OUT_LAT: LAT
    rd 0 3 0x058 1 1 4 1 4 [fd 31 0 .ro 0 false .kept .any],
    -- CAS_RETRY_TIMEOUT: T
    rd 0 3 0x05C 1 1 4 1 4 [fd 15 0 .rw 0x190 true .cold (.range 10 65535)],
    -- CAS_CNT_TX: COUNT
    rd 0 3 0x060 1 1 4 1 4 [fd 31 0 .ro 0 false .zero .any],
    -- CAS_CNT_RX: COUNT
    rd 0 3 0x064 1 1 4 1 4 [fd 31 0 .ro 0 false .zero .any],
    -- CAS_CNT_CRC: COUNT
    rd 0 3 0x068 1 1 4 1 4 [fd 31 0 .ro 0 false .zero .any],
    -- CAS_CNT_RESEND: COUNT
    rd 0 3 0x06C 1 1 4 1 4 [fd 31 0 .ro 0 false .zero .any],
    -- CAS_CNT_STOMP: COUNT
    rd 0 3 0x070 1 1 4 1 4 [fd 31 0 .ro 0 false .zero .any],
    -- CAS_CNT_STALE: COUNT
    rd 0 3 0x074 1 1 4 1 4 [fd 31 0 .ro 0 false .zero .any],
    -- CAS_CNT_GEN: COUNT
    rd 0 3 0x078 1 1 4 1 4 [fd 31 0 .ro 0 false .zero .any],
    -- CAS_ID: DEV_ID, GEN
    rd 4 4 0x040 1 1 4 1 4 [fd 13 0 .rw 0 true .cold .any, fd 17 14 .ro 0 false .kept .any],
    -- CAS_ELECT: CAND, PRIO, ALONE_OK
    rd 4 4 0x044 1 1 4 1 4 [fd 1 0 .rw 0 true .cold (.range 0 2), fd 15 8 .rw 0 true .cold .any, fd 16 16 .rw 0 true .cold .any],
    -- CAS_STATE: STATE, STEPS, LODESTAR_ID
    rd 4 4 0x048 1 1 4 1 4 [fd 2 0 .ro 0 false .zero .any, fd 15 8 .ro 0 false .zero .any, fd 29 16 .ro 0 false .zero .any],
    -- CAS_STANDBY: ID, VALID
    rd 4 4 0x04C 1 1 4 1 4 [fd 13 0 .ro 0 false .zero .any, fd 31 31 .ro 0 false .zero .any],
    -- CAS_ANN: ANN_INTERVAL, ANN_TIMEOUT
    rd 4 4 0x050 1 1 4 1 4 [fd 15 0 .rw 0x3E8 true .cold (.range 125 16000), fd 19 16 .rw 0x3 true .cold (.range 2 15)],
    -- CAS_TXS_CTRL: EN, BCAST, DST
    rd 4 4 0x060 1 8 8 1 8 [fd 0 0 .rw 0 true .cold .any, fd 1 1 .rw 0 true .cold .any, fd 29 16 .rw 0 true .cold .any],
    -- CAS_TXS_STREAM: STREAM
    rd 4 4 0x064 1 8 8 1 8 [fd 15 0 .rw 0 true .cold .any],
    -- CAS_RXPOOL: B
    rd 4 4 0x0A0 2 1 8 1 8 [fd 31 0 .rw 0 true .cold (.multiple 4096)],
    -- CAS_RXPOOL_SIZE: SIZE
    rd 4 4 0x0A8 1 1 4 1 4 [fd 31 0 .rw 0 true .cold .any],
    -- CAS_MSG_TX: B
    rd 4 4 0x0B0 2 1 8 1 8 [fd 31 0 .rw 0 true .cold .any],
    -- CAS_MSG_TX_COUNT: COUNT
    rd 4 4 0x0B8 1 1 4 1 4 [fd 11 0 .rw 0 true .cold .any],
    -- CAS_MSG_TX_WR: WR
    rd 4 4 0x0BC 1 1 4 1 4 [fd 11 0 .rw 0 false .zero .any],
    -- CAS_MSG_TX_RD: RD
    rd 4 4 0x0C0 1 1 4 1 4 [fd 11 0 .ro 0 false .zero .any],
    -- CAS_MSG_RX: B
    rd 4 4 0x0C4 2 1 8 1 8 [fd 31 0 .rw 0 true .cold .any],
    -- CAS_MSG_RX_COUNT: COUNT
    rd 4 4 0x0CC 1 1 4 1 4 [fd 11 0 .rw 0 true .cold .any],
    -- CAS_MSG_RX_WR: WR
    rd 4 4 0x0D0 1 1 4 1 4 [fd 11 0 .ro 0 false .zero .any] ]

/-- Registers of CAS, part 2. -/
def tableCAS2 : List RegDesc :=
  [
    -- CAS_MSG_RX_RD: RD
    rd 4 4 0x0D4 1 1 4 1 4 [fd 11 0 .rw 0 false .zero .any],
    -- CAS_MSG_VEC: VEC
    rd 4 4 0x0D8 1 1 4 1 4 [fd 10 0 .rw 0 true .cold .vec],
    -- CAS_CNT_QUAR_WAIT: COUNT
    rd 4 4 0x0DC 1 1 4 1 4 [fd 31 0 .ro 0 false .zero .any],
    -- CAS_CNT_PIC_OK: COUNT
    rd 4 4 0x0E0 1 1 4 1 4 [fd 31 0 .ro 0 false .zero .any],
    -- CAS_CNT_PIC_DROP: COUNT
    rd 4 4 0x0E4 1 1 4 1 4 [fd 31 0 .ro 0 false .zero .any],
    -- CAS_CNT_MSG_DROP: COUNT
    rd 4 4 0x0E8 1 1 4 1 4 [fd 31 0 .ro 0 false .zero .any] ]

/-- The register table of CAS. -/
def tableCAS : List RegDesc := tableCAS1 ++ tableCAS2

/-- Registers of MER, part 1. -/
def tableMER1 : List RegDesc :=
  [
    -- MER_TIME: T
    rd 0 0 0x040 3 1 12 1 12 [fd 31 0 .ro 0 false .kept .any],
    -- MER_SHORT: T
    rd 0 0 0x04C 1 1 4 1 4 [fd 31 0 .ro 0 false .kept .any],
    -- MER_STATE: STATE, EPOCH_VALID, LODESTAR
    rd 0 0 0x050 1 1 4 1 4 [fd 2 0 .ro 0 false (.value 0x3) .any, fd 8 8 .ro 0 false .kept .any, fd 9 9 .ro 0 false .kept .any],
    -- MER_THETA: THETA
    rd 0 0 0x054 1 1 4 1 4 [fd 31 0 .ro 0 false .zero .any],
    -- MER_FREQ: FREQ
    rd 0 0 0x058 1 1 4 1 4 [fd 31 0 .ro 0 false .kept .any],
    -- MER_TAI_OFS: OFS
    rd 0 0 0x05C 2 1 8 1 8 [fd 31 0 .ro 0 false .kept .any],
    -- MER_EPOCH_BREAKS: COUNT
    rd 0 0 0x064 1 1 4 1 4 [fd 15 0 .ro 0 false .kept .any],
    -- MER_CNT_STEPS: COUNT
    rd 0 0 0x068 1 1 4 1 4 [fd 31 0 .ro 0 false .kept .any],
    -- MER_SYNC: INTERVAL, TIMEOUT
    rd 0 0 0x06C 1 1 4 1 4 [fd 15 0 .rw 0x3E8 true .cold (.range 125 16000), fd 19 16 .rw 0x4 true .cold (.range 2 15)],
    -- MER_JUMP_THR: THR
    rd 0 0 0x070 1 1 4 1 4 [fd 9 0 .rw 0xA true .cold (.range 1 1000)],
    -- MER_SERVO: KP_SHIFT, KI_SHIFT
    rd 0 0 0x074 1 1 4 1 4 [fd 4 0 .rw 0x6 true .cold .any, fd 12 8 .rw 0xC true .cold .any],
    -- MER_TAI_SET: T
    rd 0 0 0x078 3 1 12 1 12 [fd 31 0 .rw 0 false .zero .longTime],
    -- MER_PPS_CTRL: PPS_IN_EN, PPS_OUT_EN, REF_SEL, REF10M_OUT_EN, IN_FALLING, OUT_WIDTH
    rd 1 1 0x040 1 1 4 1 4 [fd 0 0 .rw 0 true .cold .any, fd 1 1 .rw 0 true .cold .any, fd 2 2 .rw 0 true .cold .any, fd 3 3 .rw 0 true .cold .any, fd 4 4 .rw 0 true .cold .any, fd 15 8 .rw 0x64 true .cold (.range 1 200)],
    -- MER_PPS_STAMP: T
    rd 1 1 0x044 3 1 12 1 12 [fd 31 0 .ro 0 false .zero .any],
    -- MER_PPS_ERR: ERR
    rd 1 1 0x050 1 1 4 1 4 [fd 31 0 .ro 0 false .zero .any],
    -- MER_REF_STATE: REF10M, PPS
    rd 1 1 0x054 1 1 4 1 4 [fd 0 0 .ro 0 false .zero .any, fd 1 1 .ro 0 false .zero .any],
    -- MER_CNT_PPS: COUNT
    rd 1 1 0x058 1 1 4 1 4 [fd 31 0 .ro 0 false .zero .any] ]

/-- The register table of MER. -/
def tableMER : List RegDesc := tableMER1

/-- Registers of LAN, part 1. -/
def tableLAN1 : List RegDesc :=
  [
    -- LAN_FOM_THR: WARN, SPARE, DOWN
    rd 0 0 0x040 1 1 4 1 4 [fd 9 0 .rw 0xE0 true .cold .any, fd 19 10 .rw 0xD0 true .cold .any, fd 29 20 .rw 0xB8 true .cold .any],
    -- LAN_SPARE_CTRL: AUTO, FORCE, RELEASE, SPARE, FORCE_LANE
    rd 0 0 0x044 1 1 4 1 4 [fd 0 0 .rw 0 true .cold .any, fd 1 1 .w1s 0 false .zero .any, fd 2 2 .w1s 0 false .zero .any, fd 3 3 .rw 0 true .cold .any, fd 12 8 .rw 0 true .cold .any],
    -- LAN_SPARE_STATE: FOR_LANE0, STATE0, FOR_LANE1, STATE1
    rd 0 0 0x048 1 1 4 1 4 [fd 4 0 .ro 0 false .kept .any, fd 7 5 .ro 0 false .kept .any, fd 12 8 .ro 0 false .kept .any, fd 15 13 .ro 0 false .kept .any],
    -- LAN_RETIRED: RETIRED
    rd 0 0 0x050 1 1 4 1 4 [fd 19 0 .w1c 0 false .kept .any],
    -- LAN_TRAIN_TIMEOUT: T
    rd 0 0 0x054 1 1 4 1 4 [fd 15 0 .rw 0x32 true .cold (.range 1 65535)],
    -- LAN_CNT_SUBST: COUNT
    rd 0 0 0x058 1 1 4 1 4 [fd 31 0 .ro 0 false .kept .any],
    -- LAN_L_STATE: STATE, RX_INV, REVERSED, PEER_LANE
    rd 0 0 0x100 1 10 16 1 16 [fd 2 0 .ro 0 false .kept .any, fd 3 3 .ro 0 false .kept .any, fd 4 4 .ro 0 false .kept .any, fd 11 8 .ro 0 false .kept .any],
    -- LAN_L_FOM: FOM, FOM_MIN
    rd 0 0 0x104 1 10 16 1 16 [fd 9 0 .ro 0 false .zero .any, fd 25 16 .ro 0 false .zero .any],
    -- LAN_L_EQ: TX_PRESET, CTLE, DFE1
    rd 0 0 0x108 1 10 16 1 16 [fd 3 0 .ro 0 false .kept .any, fd 11 4 .ro 0 false .kept .any, fd 31 16 .ro 0 false .kept .any],
    -- LAN_L_CNT_TRAIN: COUNT
    rd 0 0 0x10C 1 10 16 1 16 [fd 31 0 .ro 0 false .kept .any],
    -- LAN_FOM_THR: WARN, SPARE, DOWN
    rd 1 1 0x040 1 1 4 1 4 [fd 9 0 .rw 0xE0 true .cold .any, fd 19 10 .rw 0xD0 true .cold .any, fd 29 20 .rw 0xB8 true .cold .any],
    -- LAN_SPARE_CTRL: AUTO, FORCE, RELEASE, SPARE, FORCE_LANE
    rd 1 1 0x044 1 1 4 1 4 [fd 0 0 .rw 0 true .cold .any, fd 1 1 .w1s 0 false .zero .any, fd 2 2 .w1s 0 false .zero .any, fd 3 3 .rw 0 true .cold .any, fd 12 8 .rw 0 true .cold .any],
    -- LAN_SPARE_STATE: FOR_LANE0, STATE0, FOR_LANE1, STATE1
    rd 1 1 0x048 1 1 4 1 4 [fd 4 0 .ro 0 false .kept .any, fd 7 5 .ro 0 false .kept .any, fd 12 8 .ro 0 false .kept .any, fd 15 13 .ro 0 false .kept .any],
    -- LAN_SPARE_WIRE: PORT0, PORT1, WIRED0, WIRED1
    rd 1 1 0x04C 1 1 4 1 4 [fd 3 0 .rw 0 true .cold .any, fd 7 4 .rw 0 true .cold .any, fd 8 8 .rw 0 true .cold .any, fd 9 9 .rw 0 true .cold .any],
    -- LAN_RETIRED: RETIRED
    rd 1 1 0x050 1 1 4 1 4 [fd 19 0 .w1c 0 false .kept .any],
    -- LAN_TRAIN_TIMEOUT: T
    rd 1 1 0x054 1 1 4 1 4 [fd 15 0 .rw 0x32 true .cold (.range 1 65535)],
    -- LAN_CNT_SUBST: COUNT
    rd 1 1 0x058 1 1 4 1 4 [fd 31 0 .ro 0 false .kept .any],
    -- LAN_L_STATE: STATE, RX_INV, REVERSED, PEER_LANE
    rd 1 1 0x100 1 18 16 1 16 [fd 2 0 .ro 0 false .kept .any, fd 3 3 .ro 0 false .kept .any, fd 4 4 .ro 0 false .kept .any, fd 11 8 .ro 0 false .kept .any],
    -- LAN_L_FOM: FOM, FOM_MIN
    rd 1 1 0x104 1 18 16 1 16 [fd 9 0 .ro 0 false .zero .any, fd 25 16 .ro 0 false .zero .any],
    -- LAN_L_EQ: TX_PRESET, CTLE, DFE1
    rd 1 1 0x108 1 18 16 1 16 [fd 3 0 .ro 0 false .kept .any, fd 11 4 .ro 0 false .kept .any, fd 31 16 .ro 0 false .kept .any],
    -- LAN_L_CNT_TRAIN: COUNT
    rd 1 1 0x10C 1 18 16 1 16 [fd 31 0 .ro 0 false .kept .any],
    -- LAN_FOM_THR: WARN, SPARE, DOWN
    rd 2 2 0x040 1 1 4 1 4 [fd 9 0 .rw 0x120 true .cold .any, fd 19 10 .rw 0x110 true .cold .any, fd 29 20 .rw 0xF0 true .cold .any],
    -- LAN_SPARE_CTRL: AUTO, FORCE, RELEASE, SPARE, FORCE_LANE
    rd 2 2 0x044 1 1 4 1 4 [fd 0 0 .rw 0 true .cold .any, fd 1 1 .w1s 0 false .zero .any, fd 2 2 .w1s 0 false .zero .any, fd 3 3 .rw 0 true .cold .any, fd 12 8 .rw 0 true .cold .any],
    -- LAN_SPARE_STATE: FOR_LANE0, STATE0, FOR_LANE1, STATE1
    rd 2 2 0x048 1 1 4 1 4 [fd 4 0 .ro 0 false .kept .any, fd 7 5 .ro 0 false .kept .any, fd 12 8 .ro 0 false .kept .any, fd 15 13 .ro 0 false .kept .any],
    -- LAN_SPARE_WIRE: PORT0, PORT1, WIRED0, WIRED1
    rd 2 2 0x04C 1 1 4 1 4 [fd 3 0 .rw 0 true .cold .any, fd 7 4 .rw 0 true .cold .any, fd 8 8 .rw 0 true .cold .any, fd 9 9 .rw 0 true .cold .any],
    -- LAN_RETIRED: RETIRED
    rd 2 2 0x050 1 1 4 1 4 [fd 19 0 .w1c 0 false .kept .any],
    -- LAN_TRAIN_TIMEOUT: T
    rd 2 2 0x054 1 1 4 1 4 [fd 15 0 .rw 0x32 true .cold (.range 1 65535)],
    -- LAN_CNT_SUBST: COUNT
    rd 2 2 0x058 1 1 4 1 4 [fd 31 0 .ro 0 false .kept .any],
    -- LAN_L_STATE: STATE, RX_INV, REVERSED, PEER_LANE
    rd 2 2 0x100 1 18 16 1 16 [fd 2 0 .ro 0 false .kept .any, fd 3 3 .ro 0 false .kept .any, fd 4 4 .ro 0 false .kept .any, fd 11 8 .ro 0 false .kept .any],
    -- LAN_L_FOM: FOM, FOM_MIN
    rd 2 2 0x104 1 18 16 1 16 [fd 9 0 .ro 0 false .zero .any, fd 25 16 .ro 0 false .zero .any] ]

/-- Registers of LAN, part 2. -/
def tableLAN2 : List RegDesc :=
  [
    -- LAN_L_EQ: TX_PRESET, CTLE, DFE1
    rd 2 2 0x108 1 18 16 1 16 [fd 3 0 .ro 0 false .kept .any, fd 11 4 .ro 0 false .kept .any, fd 31 16 .ro 0 false .kept .any],
    -- LAN_L_CNT_TRAIN: COUNT
    rd 2 2 0x10C 1 18 16 1 16 [fd 31 0 .ro 0 false .kept .any],
    -- LAN_FOM_THR: WARN, SPARE, DOWN
    rd 3 3 0x040 1 1 4 1 4 [fd 9 0 .rw 0xE0 true .cold .any, fd 19 10 .rw 0 true .cold .any, fd 29 20 .rw 0xC0 true .cold .any],
    -- LAN_RETIRED: RETIRED
    rd 3 3 0x050 1 1 4 1 4 [fd 19 0 .w1c 0 false .kept .any],
    -- LAN_TRAIN_TIMEOUT: T
    rd 3 3 0x054 1 1 4 1 4 [fd 15 0 .rw 0x32 true .cold (.range 1 65535)],
    -- LAN_CNT_SUBST: COUNT
    rd 3 3 0x058 1 1 4 1 4 [fd 31 0 .ro 0 false .kept .any],
    -- LAN_L_STATE: STATE, RX_INV, REVERSED, PEER_LANE
    rd 3 3 0x100 1 8 16 1 16 [fd 2 0 .ro 0 false .kept .any, fd 3 3 .ro 0 false .kept .any, fd 4 4 .ro 0 false .kept .any, fd 11 8 .ro 0 false .kept .any],
    -- LAN_L_FOM: FOM, FOM_MIN
    rd 3 3 0x104 1 8 16 1 16 [fd 9 0 .ro 0 false .zero .any, fd 25 16 .ro 0 false .zero .any],
    -- LAN_L_EQ: TX_PRESET, CTLE, DFE1
    rd 3 3 0x108 1 8 16 1 16 [fd 3 0 .ro 0 false .kept .any, fd 11 4 .ro 0 false .kept .any, fd 31 16 .ro 0 false .kept .any],
    -- LAN_L_CNT_TRAIN: COUNT
    rd 3 3 0x10C 1 8 16 1 16 [fd 31 0 .ro 0 false .kept .any],
    -- LAN_FOM_THR: WARN, SPARE, DOWN
    rd 4 4 0x040 1 1 4 1 4 [fd 9 0 .rw 0xE0 true .cold .any, fd 19 10 .rw 0 true .cold .any, fd 29 20 .rw 0xC0 true .cold .any],
    -- LAN_RETIRED: RETIRED
    rd 4 4 0x050 1 1 4 1 4 [fd 19 0 .w1c 0 false .kept .any],
    -- LAN_TRAIN_TIMEOUT: T
    rd 4 4 0x054 1 1 4 1 4 [fd 15 0 .rw 0x32 true .cold (.range 1 65535)],
    -- LAN_CNT_SUBST: COUNT
    rd 4 4 0x058 1 1 4 1 4 [fd 31 0 .ro 0 false .kept .any],
    -- LAN_L_STATE: STATE, RX_INV, REVERSED, PEER_LANE
    rd 4 4 0x100 1 20 16 1 16 [fd 2 0 .ro 0 false .kept .any, fd 3 3 .ro 0 false .kept .any, fd 4 4 .ro 0 false .kept .any, fd 11 8 .ro 0 false .kept .any],
    -- LAN_L_FOM: FOM, FOM_MIN
    rd 4 4 0x104 1 20 16 1 16 [fd 9 0 .ro 0 false .zero .any, fd 25 16 .ro 0 false .zero .any],
    -- LAN_L_EQ: TX_PRESET, CTLE, DFE1
    rd 4 4 0x108 1 20 16 1 16 [fd 3 0 .ro 0 false .kept .any, fd 11 4 .ro 0 false .kept .any, fd 31 16 .ro 0 false .kept .any],
    -- LAN_L_CNT_TRAIN: COUNT
    rd 4 4 0x10C 1 20 16 1 16 [fd 31 0 .ro 0 false .kept .any] ]

/-- The register table of LAN. -/
def tableLAN : List RegDesc := tableLAN1 ++ tableLAN2

/-- Registers of MEM, part 1. -/
def tableMEM1 : List RegDesc :=
  [
    -- MEM_CFG: CHANNELS, RATE, DENSITY, SPARE_FITTED
    rd 0 0 0x040 1 1 4 1 4 [fd 3 0 .ro 0 true .kept .any, fd 7 4 .ro 0 true .kept .any, fd 9 8 .ro 0 true .kept .any, fd 10 10 .ro 0 true .kept .any],
    -- MEM_SR_IDLE: T
    rd 0 0 0x044 1 1 4 1 4 [fd 15 0 .rw 0x32 true .cold (.range 1 65535)],
    -- MEM_NR_K: K
    rd 0 0 0x048 1 1 4 1 4 [fd 4 0 .rw 0xA true .cold (.range 8 16)],
    -- MEM_VERIFY: PERIOD, SCRUB_HOURS
    rd 0 0 0x04C 1 1 4 1 4 [fd 15 0 .rw 0x3E8 true .cold (.range 10 65535), fd 31 16 .rw 0x18 true .cold (.range 1 720)],
    -- MEM_GW: GW
    rd 0 0 0x050 1 1 4 1 4 [fd 31 0 .rw 0x11111111 true .cold .any],
    -- MEM_URGENT_US: T
    rd 0 0 0x054 1 1 4 1 4 [fd 7 0 .rw 0x5 true .cold .any],
    -- MEM_MIG_RATE: RATE
    rd 0 0 0x058 1 1 4 1 4 [fd 7 0 .rw 0x4 true .cold (.range 1 32)],
    -- MEM_STATE: SELFREF, RETRAINING
    rd 0 0 0x05C 1 1 4 1 4 [fd 0 0 .ro 0 false .zero .any, fd 27 16 .ro 0 false .zero .any],
    -- MEM_CNT_SR: COUNT
    rd 0 0 0x060 1 1 4 1 4 [fd 31 0 .ro 0 false .zero .any],
    -- MEM_RANK_MAP: SLOT0, SLOT1, RETIRED_MASK
    rd 1 12 0x040 1 1 4 1 4 [fd 1 0 .ro 0 false .kept .any, fd 3 2 .ro 0x1 false .kept .any, fd 5 4 .ro 0 false .kept .any],
    -- MEM_MIG: P, ACTIVE, SLOT
    rd 1 12 0x044 1 1 4 1 4 [fd 21 0 .ro 0 false .kept .any, fd 24 24 .ro 0 false .kept .any, fd 25 25 .ro 0 false .kept .any],
    -- MEM_MARGIN_TRAIN: T_SUB0, V_SUB0, T_SUB1, V_SUB1
    rd 1 12 0x048 1 1 4 1 4 [fd 7 0 .ro 0 false .kept .any, fd 15 8 .ro 0 false .kept .any, fd 23 16 .ro 0 false .kept .any, fd 31 24 .ro 0 false .kept .any],
    -- MEM_MARGIN_NOW: T_SUB0, V_SUB0, T_SUB1, V_SUB1
    rd 1 12 0x04C 1 1 4 1 4 [fd 7 0 .ro 0 false .zero .any, fd 15 8 .ro 0 false .zero .any, fd 23 16 .ro 0 false .zero .any, fd 31 24 .ro 0 false .zero .any],
    -- MEM_CE_THR: THR, WINDOW
    rd 1 12 0x050 1 1 4 1 4 [fd 15 0 .rw 0x400 true .cold .any, fd 31 16 .rw 0xE10 true .cold .any],
    -- MEM_CNT_CE: COUNT
    rd 1 12 0x054 1 1 4 1 4 [fd 31 0 .ro 0 false .kept .any],
    -- MEM_CNT_UE: COUNT
    rd 1 12 0x058 1 1 4 1 4 [fd 31 0 .ro 0 false .kept .any],
    -- MEM_UE_ADDR: A
    rd 1 12 0x05C 2 1 8 1 8 [fd 31 0 .ro 0 false .kept .any],
    -- MEM_CNT_RETRAIN: COUNT
    rd 1 12 0x064 1 1 4 1 4 [fd 31 0 .ro 0 false .kept .any],
    -- MEM_CNT_NR: COUNT
    rd 1 12 0x068 1 1 4 1 4 [fd 31 0 .ro 0 false .zero .any],
    -- MEM_CNT_POSTPONED: COUNT
    rd 1 12 0x06C 1 1 4 1 4 [fd 31 0 .ro 0 false .zero .any] ]

/-- The register table of MEM. -/
def tableMEM : List RegDesc := tableMEM1

/-- Registers of CMP, part 1. -/
def tableCMP1 : List RegDesc :=
  [
    -- CMP_LANE_STATE: BUSY, PAUSED
    rd 0 0 0x040 1 1 4 1 4 [fd 9 0 .ro 0 false .zero .any, fd 25 16 .ro 0 false .zero .any],
    -- CMP_TABLE_W0: CL
    rd 0 0 0x044 1 1 12 1 12 [fd 31 0 .rw 0x76543222 true .cold .any],
    -- CMP_TABLE_W0: CL
    rd 0 0 0x050 1 7 12 1 12 [fd 31 0 .rw 0 true .cold .any],
    -- CMP_TABLE_W1: CL
    rd 0 0 0x048 1 1 12 1 12 [fd 31 0 .rw 0xFEDCBA98 true .cold .any],
    -- CMP_TABLE_W1: CL
    rd 0 0 0x054 1 7 12 1 12 [fd 31 0 .rw 0 true .cold .any],
    -- CMP_TABLE_W2: CL
    rd 0 0 0x04C 1 1 12 1 12 [fd 3 0 .rw 0xF true .cold .any],
    -- CMP_TABLE_W2: CL
    rd 0 0 0x058 1 7 12 1 12 [fd 3 0 .rw 0 true .cold .any],
    -- CMP_PAUSE_TIMEOUT: T
    rd 0 0 0x0A4 1 1 4 1 4 [fd 15 0 .rw 0x2710 true .cold (.range 1 65535)],
    -- CMP_REC_CTRL: STRIPES0, STRIPES1, DYNAMIC, TABLE, DX_M1, DY_M1
    rd 0 0 0x0A8 1 1 4 1 4 [fd 2 0 .rw 0 true .cold .any, fd 6 4 .rw 0 true .cold .any, fd 8 8 .rw 0 true .cold .any, fd 14 12 .rw 0 true .cold .any, fd 18 16 .rw 0 true .cold .any, fd 22 20 .rw 0 true .cold .any],
    -- CMP_SEND_CTRL: EN, LAYER, TABLE, DYNAMIC
    rd 0 0 0x100 1 8 32 1 32 [fd 0 0 .rw 0 true .cold .any, fd 3 1 .rw 0 true .cold .any, fd 6 4 .rw 0 true .cold .any, fd 7 7 .rw 0 true .cold .any],
    -- CMP_SEND_BASE: B
    rd 0 0 0x104 2 8 32 1 32 [fd 31 0 .rw 0 true .cold (.multiple 4096)],
    -- CMP_SEND_SIZE: SIZE
    rd 0 0 0x10C 1 8 32 1 32 [fd 31 0 .rw 0 true .cold (.multiple 4096)],
    -- CMP_SEND_WR: WR
    rd 0 0 0x110 1 7 32 1 32 [fd 31 0 .ro 0 false .zero .any],
    -- CMP_SEND_RD: RD
    rd 0 0 0x114 1 7 32 1 32 [fd 31 0 .ro 0 false .zero .any],
    -- CMP_CNT_JOBS: COUNT
    rd 0 0 0x1F0 1 1 4 1 4 [fd 31 0 .ro 0 false .zero .any],
    -- CMP_CNT_FAILED: COUNT
    rd 0 0 0x1F4 1 1 4 1 4 [fd 31 0 .ro 0 false .zero .any],
    -- CMP_CNT_PAUSES: COUNT
    rd 0 0 0x1F8 1 1 4 1 4 [fd 31 0 .ro 0 false .zero .any],
    -- CMP_CNT_SEND_SKIP: COUNT
    rd 0 0 0x1FC 1 1 4 1 4 [fd 31 0 .ro 0 false .zero .any],
    -- CMP_Q_CTRL: EN, VEC
    rd 1 1 0x040 1 4 64 1 64 [fd 0 0 .rw 0 false .zero .any, fd 31 21 .rw 0 false .zero .vec],
    -- CMP_Q_BASE: B
    rd 1 1 0x044 2 4 64 1 64 [fd 31 0 .rw 0 false .zero (.multiple 64)],
    -- CMP_Q_CPL: B
    rd 1 1 0x04C 2 4 64 1 64 [fd 31 0 .rw 0 false .zero (.multiple 16)],
    -- CMP_Q_COUNT: COUNT
    rd 1 1 0x054 1 4 64 1 64 [fd 12 0 .rw 0 false .zero (.range 2 4096)],
    -- CMP_Q_WR: WR
    rd 1 1 0x058 1 4 64 1 64 [fd 11 0 .rw 0 false .zero .any],
    -- CMP_Q_RD: RD
    rd 1 1 0x05C 1 4 64 1 64 [fd 11 0 .ro 0 false .zero .any],
    -- CMP_Q_CPL_WR: WR
    rd 1 1 0x060 1 4 64 1 64 [fd 11 0 .ro 0 false .zero .any],
    -- CMP_Q_ORING: B
    rd 1 1 0x064 2 4 64 1 64 [fd 31 0 .rw 0 false .zero (.multiple 4096)],
    -- CMP_Q_ORING_SIZE: SIZE
    rd 1 1 0x06C 1 4 64 1 64 [fd 31 0 .rw 0 false .zero (.multiple 4096)],
    -- CMP_Q_ORING_WR: WR
    rd 1 1 0x070 1 4 64 1 64 [fd 31 0 .ro 0 false .zero .any],
    -- CMP_Q_ORING_RD: RD
    rd 1 1 0x074 1 4 64 1 64 [fd 31 0 .rw 0 false .zero .any] ]

/-- The register table of CMP. -/
def tableCMP : List RegDesc := tableCMP1

/-- Registers of COD, part 1. -/
def tableCOD1 : List RegDesc :=
  [
    -- COD_ENG_STATE: STATE, CONTEXT
    rd 0 0 0x040 1 1 4 1 4 [fd 1 0 .ro 0 false .zero .any, fd 5 4 .ro 0 false .zero .any],
    -- COD_LOAD: LOAD
    rd 0 0 0x044 1 1 4 1 4 [fd 15 0 .ro 0 false .zero .any],
    -- COD_CNT_PICS: COUNT
    rd 0 0 0x048 1 1 4 1 4 [fd 31 0 .ro 0 false .zero .any],
    -- COD_CNT_SWITCH: COUNT
    rd 0 0 0x04C 1 1 4 1 4 [fd 31 0 .ro 0 false .zero .any],
    -- COD_CTX_CFG: PROFILE, TIER, LEVEL, LOWLAT, BFRAMES, REFS_M1, WPP, SAO, HASH, SRC
    rd 1 4 0x040 1 1 4 1 4 [fd 1 0 .rws 0 true .cold (.range 0 2), fd 2 2 .rws 0 true .cold .any, fd 15 8 .rws 0 true .cold .any, fd 16 16 .rws 0 true .cold .any, fd 18 17 .rws 0 true .cold .any, fd 21 20 .rws 0 true .cold .any, fd 22 22 .rws 0 true .cold .any, fd 23 23 .rws 0 true .cold .any, fd 24 24 .rws 0 true .cold .any, fd 25 25 .rws 0 true .cold .any],
    -- COD_CTX_SIZE: W_M1, H_M1
    rd 1 4 0x044 1 1 4 1 4 [fd 12 0 .rws 0 true .cold .codW, fd 28 16 .rws 0 true .cold .codH],
    -- COD_CTX_TILES: COLS_M1, ROWS_M1
    rd 1 4 0x048 1 1 4 1 4 [fd 4 0 .rws 0 true .cold (.range 0 19), fd 12 8 .rws 0 true .cold (.range 0 21)],
    -- COD_CTX_FPS: FPS_NUM, FPS_DEN
    rd 1 4 0x04C 1 1 4 1 4 [fd 15 0 .rws 0 true .cold .any, fd 31 16 .rws 0 true .cold .any],
    -- COD_CTX_GOP: IDR_PERIOD, REFRESH_W
    rd 1 4 0x050 1 1 4 1 4 [fd 15 0 .rws 0 true .cold .any, fd 23 16 .rws 0 true .cold .any],
    -- COD_CTX_RATE: MODE, QP_INIT, QP_MIN, QP_MAX
    rd 1 4 0x054 1 1 4 1 4 [fd 1 0 .rws 0x2 true .cold (.range 0 2), fd 13 8 .rws 0x1A true .cold .any, fd 21 16 .rws 0 true .cold .any, fd 29 24 .rws 0x33 true .cold .any],
    -- COD_CTX_BITRATE: V
    rd 1 4 0x058 1 1 4 1 4 [fd 31 0 .rws 0 true .cold .any],
    -- COD_CTX_CPB: V
    rd 1 4 0x05C 1 1 4 1 4 [fd 31 0 .rws 0 true .cold .any],
    -- COD_CTX_INIT_DELAY: V
    rd 1 4 0x060 1 1 4 1 4 [fd 31 0 .rws 0 true .cold .any],
    -- COD_CTX_MARGIN: V
    rd 1 4 0x064 1 1 4 1 4 [fd 23 0 .rws 0 true .cold .any],
    -- COD_CTX_OUT: HOST, VEC
    rd 1 4 0x068 1 1 4 1 4 [fd 0 0 .rws 0 true .cold .any, fd 31 21 .rws 0 true .cold .vec],
    -- COD_CTX_OUT_BASE: B
    rd 1 4 0x06C 2 1 8 1 8 [fd 31 0 .rws 0 true .cold (.multiple 4096)],
    -- COD_CTX_OUT_SIZE: SIZE
    rd 1 4 0x074 1 1 4 1 4 [fd 31 0 .rws 0 true .cold (.multiple 4096)],
    -- COD_CTX_OUT_WR: WR
    rd 1 4 0x078 1 1 4 1 4 [fd 31 0 .ro 0 false .zero .any],
    -- COD_CTX_OUT_RD: RD
    rd 1 4 0x07C 1 1 4 1 4 [fd 31 0 .rw 0 false .zero .any],
    -- COD_CTX_STALL_TIMEOUT: T
    rd 1 4 0x080 1 1 4 1 4 [fd 15 0 .rw 0x2710 true .cold (.range 1 65535)],
    -- COD_CTX_CPB_NOW: F
    rd 1 4 0x084 1 1 4 1 4 [fd 31 0 .ro 0 false .zero .any],
    -- COD_CTX_CNT: SKIP_ROWS, INSERTED, RESTARTS, STALLS
    rd 1 4 0x088 1 1 4 1 4 [fd 7 0 .ro 0 false .zero .any, fd 15 8 .ro 0 false .zero .any, fd 23 16 .ro 0 false .zero .any, fd 31 24 .ro 0 false .zero .any],
    -- COD_CTX_CNT_FILLER: COUNT
    rd 1 4 0x08C 1 1 4 1 4 [fd 31 0 .ro 0 false .zero .any] ]

/-- The register table of COD. -/
def tableCOD : List RegDesc := tableCOD1

/-- Registers of REC, part 1. -/
def tableREC1 : List RegDesc :=
  [
    -- REC_DIRTY_BASE: B
    rd 0 0 0x040 2 1 8 1 8 [fd 31 0 .rwl 0 true .kept (.multiple 4096)],
    -- REC_DIRTY_SIZE: SIZE
    rd 0 0 0x048 1 1 4 1 4 [fd 15 0 .rwl 0 true .kept (.range 13312 65535)],
    -- REC_RESERVE: V
    rd 0 0 0x04C 1 1 4 1 4 [fd 15 0 .rw 0x800 true .cold .any],
    -- REC_P_FLUSH: V
    rd 0 0 0x050 1 1 4 1 4 [fd 15 0 .rw 0x8C true .cold (.range 1 1000)],
    -- REC_T_FIXED: V
    rd 0 0 0x054 1 1 4 1 4 [fd 15 0 .rw 0x14 true .cold (.range 1 1000)],
    -- REC_FLUSH_RATE: V
    rd 0 0 0x058 1 1 4 1 4 [fd 7 0 .rw 0x50 true .cold (.range 1 80)],
    -- REC_DIRTY_LIMIT: V
    rd 0 0 0x05C 1 1 4 1 4 [fd 15 0 .ro 0 false .kept .any],
    -- REC_DIRTY_NOW: V
    rd 0 0 0x060 1 1 4 1 4 [fd 15 0 .ro 0 false .kept .any],
    -- REC_AON_DIRTY: V
    rd 0 0 0x064 1 1 4 1 4 [fd 31 0 .ro 0 false .kept .any],
    -- REC_FLUSH_STATE: STATE
    rd 0 0 0x068 1 1 4 1 4 [fd 1 0 .ro 0 false .kept .any],
    -- REC_CNT_WAIT: COUNT
    rd 0 0 0x06C 1 1 4 1 4 [fd 31 0 .ro 0 false .zero .any],
    -- REC_CNT_DIRTY_FULL: COUNT
    rd 0 0 0x070 1 1 4 1 4 [fd 31 0 .ro 0 false .zero .any],
    -- REC_CNT_FLUSH_BYTES: COUNT
    rd 0 0 0x074 1 1 4 1 4 [fd 31 0 .ro 0 false .kept .any],
    -- REC_MEDIA_MAP: M0, M1, M2, M3, SPARE
    rd 1 1 0x040 1 1 4 1 4 [fd 2 0 .ro 0 true .kept .any, fd 6 4 .ro 0 true .kept .any, fd 10 8 .ro 0 true .kept .any, fd 14 12 .ro 0 true .kept .any, fd 18 16 .ro 0 true .kept .any],
    -- REC_ARRAY_STATE: STATE, MEMBER, POINTER
    rd 1 1 0x044 1 1 4 1 4 [fd 2 0 .ro 0 false .kept .any, fd 5 4 .ro 0 false .kept .any, fd 31 8 .ro 0 false .kept .any],
    -- REC_MEDIA_RETIRED: RETIRED
    rd 1 1 0x048 1 1 4 1 4 [fd 4 0 .w1c 0 false .kept .any],
    -- REC_WEAR_THR: V
    rd 1 1 0x04C 1 1 4 1 4 [fd 7 0 .rw 0x5A true .cold (.range 1 255)],
    -- REC_MERR_THR: V
    rd 1 1 0x050 1 1 4 1 4 [fd 15 0 .rw 0x10 true .cold .any],
    -- REC_MEDIA_TIMEOUT: T
    rd 1 1 0x054 1 1 4 1 4 [fd 15 0 .rw 0x1F4 true .cold (.range 10 65535)],
    -- REC_MEDIA_MIG_RATE: V
    rd 1 1 0x058 1 1 4 1 4 [fd 7 0 .rw 0x8 true .cold (.range 1 40)],
    -- REC_MEDIA_FORCE: MEMBER, GO
    rd 1 1 0x05C 1 1 4 1 4 [fd 2 0 .rw 0 false .zero .any, fd 8 8 .w1s 0 false .zero .any],
    -- REC_PORT_STATE: STATE, USED, ERRS
    rd 1 1 0x060 1 5 4 1 4 [fd 2 0 .ro 0 false .kept .any, fd 15 8 .ro 0 false .kept .any, fd 31 16 .ro 0 false .kept .any],
    -- REC_NSID: NSID
    rd 2 2 0x040 1 1 4 1 4 [fd 4 0 .rw 0 true .cold (.range 0 16)],
    -- REC_NEXT_LBA: L
    rd 2 2 0x044 2 1 8 1 8 [fd 31 0 .rw 0 false .kept .any],
    -- REC_CLIP_CTRL: PORT, ARM, STOP
    rd 2 2 0x04C 1 1 4 1 4 [fd 0 0 .rw 0 false .zero .any, fd 1 1 .w1s 0 false .zero .any, fd 2 2 .w1s 0 false .zero .any],
    -- REC_CLIP_START: T
    rd 2 2 0x050 3 1 12 1 12 [fd 31 0 .rw 0 false .zero .longTime],
    -- REC_CLIP_STOP: T
    rd 2 2 0x05C 3 1 12 1 12 [fd 31 0 .rw 0 false .zero .longTime],
    -- REC_CLIP_OPEN: P0, P1
    rd 2 2 0x068 1 1 4 1 4 [fd 15 0 .ro 0xFFFF false .kept .any, fd 31 16 .ro 0xFFFF false .kept .any],
    -- REC_CNT_FRAMES: COUNT
    rd 2 2 0x06C 1 1 4 1 4 [fd 31 0 .ro 0 false .zero .any],
    -- REC_CNT_MEDIA_FULL: COUNT
    rd 2 2 0x070 1 1 4 1 4 [fd 31 0 .ro 0 false .zero .any] ]

/-- Registers of REC, part 2. -/
def tableREC2 : List RegDesc :=
  [
    -- REC_CNT_CLIPS: COUNT
    rd 2 2 0x074 1 1 4 1 4 [fd 31 0 .ro 0 false .kept .any] ]

/-- The register table of REC. -/
def tableREC : List RegDesc := tableREC1 ++ tableREC2

/-- Registers of MOT, part 1. -/
def tableMOT1 : List RegDesc :=
  [
    -- MOT_DSM_CTRL: CLK_DIV, OSR
    rd 0 0 0x040 1 1 4 1 4 [fd 3 0 .rw 0x9 true .cold .any, fd 9 8 .rw 0x1 true .cold .any],
    -- MOT_BUS_SCALE: V
    rd 0 0 0x044 1 4 16 1 16 [fd 31 0 .rw 0 true .cold .f32],
    -- MOT_BUS_MIN: V
    rd 0 0 0x048 1 4 16 1 16 [fd 31 0 .rw 0 true .cold .f32],
    -- MOT_BUS_MAX: V
    rd 0 0 0x04C 1 4 16 1 16 [fd 31 0 .rw 0 true .cold .f32],
    -- MOT_BUS_V: V
    rd 0 0 0x050 1 4 16 1 16 [fd 31 0 .ro 0 false .zero .any],
    -- MOT_FAULT: F
    rd 0 0 0x084 1 1 4 1 4 [fd 7 0 .ro 0 false .kept .any],
    -- MOT_BRK_STATE: B
    rd 0 0 0x088 1 1 4 1 4 [fd 7 0 .ro 0xFF false .kept .any],
    -- MOT_SAFE: SAFE_PWM, RESUME
    rd 0 0 0x08C 1 1 4 1 4 [fd 7 0 .rw 0 true .cold .any, fd 15 8 .rw 0 true .cold .any],
    -- MOT_AX_CFG: TYPE, FB_SEL, FB_ALT, BUS_SEL, PWM_DIV, POLE_PAIRS
    rd 1 8 0x040 1 1 4 1 4 [fd 1 0 .rws 0 true .cold .any, fd 4 2 .rws 0 true .cold .any, fd 7 5 .rws 0 true .cold .any, fd 9 8 .rws 0 true .cold .any, fd 11 10 .rws 0 true .cold .any, fd 23 16 .rws 0 true .cold .any],
    -- MOT_AX_CMD: CMD
    rd 1 8 0x044 1 1 4 1 4 [fd 2 0 .wo 0 false .zero (.range 1 4)],
    -- MOT_AX_STATE: STATE, VOLT_LIMITED, DIR, DIR_CHG, POS_DOUBT, FB_ACTIVE
    rd 1 8 0x048 1 1 4 1 4 [fd 2 0 .ro 0 false .kept .any, fd 8 8 .ro 0 false .kept .any, fd 9 9 .ro 0 false .kept .any, fd 10 10 .w1c 0 false .kept .any, fd 11 11 .w1c 0 false .kept .any, fd 12 12 .ro 0 false .kept .any],
    -- MOT_AX_PWM: DEADTIME, MIN_PULSE
    rd 1 8 0x04C 1 1 4 1 4 [fd 7 0 .rws 0 true .cold .any, fd 15 8 .rws 0 true .cold .any],
    -- MOT_AX_I_SCALE: V
    rd 1 8 0x050 1 1 4 1 4 [fd 31 0 .rws 0 true .cold .f32],
    -- MOT_AX_I_OFS: OFS_U, OFS_V
    rd 1 8 0x054 1 1 4 1 4 [fd 15 0 .ro 0 false .kept .any, fd 31 16 .ro 0 false .kept .any],
    -- MOT_AX_GAIN: V
    rd 1 8 0x058 1 5 4 1 4 [fd 31 0 .rws 0 true .cold .f32],
    -- MOT_AX_I_LIM: V
    rd 1 8 0x06C 1 3 4 1 4 [fd 31 0 .rws 0 true .cold .f32],
    -- MOT_AX_MOD_MAX: V
    rd 1 8 0x078 1 1 4 1 4 [fd 31 0 .rws 0 true .cold (.f32Range 0x3F000000 0x3F800000)],
    -- MOT_AX_VEL_MAX: V
    rd 1 8 0x07C 1 1 4 1 4 [fd 31 0 .rws 0 true .cold .f32],
    -- MOT_AX_POS_MIN: P
    rd 1 8 0x080 2 1 8 1 8 [fd 15 0 .rws 0 true .cold .any],
    -- MOT_AX_POS_MAX: P
    rd 1 8 0x088 2 1 8 1 8 [fd 15 0 .rws 0 true .cold .any],
    -- MOT_AX_FOLLOW_MAX: V
    rd 1 8 0x090 1 1 4 1 4 [fd 31 0 .rws 0 true .cold .any],
    -- MOT_AX_COUNTS_REV: V
    rd 1 8 0x094 2 1 8 1 8 [fd 15 0 .rws 0 true .cold .any],
    -- MOT_AX_ALIGN_OFS: V
    rd 1 8 0x09C 1 1 4 1 4 [fd 15 0 .rw 0 true .kept .any],
    -- MOT_AX_ENC: QEI_FILT, SER_BITS, SER_CLK, INTERP
    rd 1 8 0x0A0 1 1 4 1 4 [fd 2 0 .rws 0 true .cold .any, fd 9 4 .rws 0 true .cold (.range 8 48), fd 13 12 .rws 0 true .cold .any, fd 19 16 .rws 0 true .cold (.range 8 14)],
    -- MOT_AX_AMP: AMP_MIN, AMP_MAX
    rd 1 8 0x0A4 1 1 4 1 4 [fd 15 0 .rws 0 true .cold .any, fd 31 16 .rws 0 true .cold .any],
    -- MOT_AX_TIMES: VLIM_TIME, BRK_DELAY
    rd 1 8 0x0A8 1 1 4 1 4 [fd 15 0 .rws 0 true .cold .any, fd 31 16 .rws 0 true .cold .any],
    -- MOT_AX_OBS: CONF_MIN, OBS_TIME, ZV_PULSE, REACQ_EN, ALIGN_TOL
    rd 1 8 0x0AC 1 1 4 1 4 [fd 7 0 .rws 0 true .cold .any, fd 15 8 .rws 0 true .cold .any, fd 20 16 .rws 0 true .cold (.range 1 20), fd 23 23 .rws 0 true .cold .any, fd 31 24 .rws 0 true .cold .any],
    -- MOT_AX_I_RESID: V
    rd 1 8 0x0B0 1 1 4 1 4 [fd 31 0 .rws 0 true .cold .f32],
    -- MOT_AX_ALIGN_SPEED: V
    rd 1 8 0x0B4 1 1 4 1 4 [fd 31 0 .rws 0 true .cold .f32],
    -- MOT_AX_CONF: V
    rd 1 8 0x0B8 1 1 4 1 4 [fd 31 0 .ro 0 false .zero .any] ]

/-- Registers of MOT, part 2. -/
def tableMOT2 : List RegDesc :=
  [
    -- MOT_AX_POS: P
    rd 1 8 0x0BC 2 1 8 1 8 [fd 15 0 .ro 0 false .kept .any],
    -- MOT_AX_IDX: P
    rd 1 8 0x0C4 2 1 8 1 8 [fd 31 0 .ro 0 false .kept .any],
    -- MOT_AX_VEL: V
    rd 1 8 0x0CC 1 1 4 1 4 [fd 31 0 .ro 0 false .zero .any],
    -- MOT_AX_LATCH_CTRL: SRC, ARM
    rd 1 8 0x0D0 1 1 4 1 4 [fd 1 0 .rw 0 true .cold .any, fd 2 2 .w1s 0 false .zero .any],
    -- MOT_AX_LATCH_AT: T
    rd 1 8 0x0D4 3 1 12 1 12 [fd 31 0 .rw 0 false .zero .longTime],
    -- MOT_AX_LATCH_POS: P
    rd 1 8 0x0E0 2 1 8 1 8 [fd 15 0 .ro 0 false .zero .any],
    -- MOT_AX_LATCH_TIME: T
    rd 1 8 0x0E8 3 1 12 1 12 [fd 31 0 .ro 0 false .zero .any],
    -- MOT_AX_LATCH_VEL: V
    rd 1 8 0x0F4 1 1 4 1 4 [fd 31 0 .ro 0 false .zero .any],
    -- MOT_AX_SP_TIME: T
    rd 1 8 0x100 3 1 12 1 12 [fd 31 0 .rw 0 false .zero .longTime],
    -- MOT_AX_SP_POS: P
    rd 1 8 0x10C 2 1 8 1 8 [fd 15 0 .rw 0 false .zero .any],
    -- MOT_AX_SP_VEL: V
    rd 1 8 0x114 1 1 4 1 4 [fd 31 0 .rw 0 false .zero .f32],
    -- MOT_AX_SP_PUSH: PUSH, MODE
    rd 1 8 0x118 1 1 4 1 4 [fd 0 0 .w1s 0 false .zero .any, fd 1 1 .rw 0 false .zero .any],
    -- MOT_AX_SP_STATE: QUEUED
    rd 1 8 0x11C 1 1 4 1 4 [fd 4 0 .ro 0 false .zero .any],
    -- MOT_AX_CNT_SP_LATE: COUNT
    rd 1 8 0x120 1 1 4 1 4 [fd 31 0 .ro 0 false .zero .any],
    -- MOT_AX_CNT_SP_SUPERSEDED: COUNT
    rd 1 8 0x124 1 1 4 1 4 [fd 31 0 .ro 0 false .zero .any],
    -- MOT_AX_CNT_SP_DISCARD: COUNT
    rd 1 8 0x128 1 1 4 1 4 [fd 31 0 .ro 0 false .zero .any],
    -- MOT_AX_CNT_QEI_ILLEGAL: COUNT
    rd 1 8 0x12C 1 1 4 1 4 [fd 31 0 .ro 0 false .zero .any],
    -- MOT_AX_CNT_ENC_CRC: COUNT
    rd 1 8 0x130 1 1 4 1 4 [fd 31 0 .ro 0 false .zero .any],
    -- MOT_AX_CNT_REACQ: COUNT
    rd 1 8 0x134 1 1 4 1 4 [fd 31 0 .ro 0 false .zero .any],
    -- MOT_AX_FAULT: FAULT
    rd 1 8 0x138 1 1 4 1 4 [fd 8 0 .w1c 0 false .kept .any] ]

/-- The register table of MOT. -/
def tableMOT : List RegDesc := tableMOT1 ++ tableMOT2

/-- Registers of AUD, part 1. -/
def tableAUD1 : List RegDesc :=
  [
    -- AUD_DCO: FAMILY, MODE, STEER_PORT, KP_SHIFT, KI_SHIFT, MCLK_DIV
    rd 0 0 0x040 1 1 4 1 4 [fd 0 0 .rw 0 true .cold .any, fd 1 1 .rw 0 true .cold .any, fd 5 4 .rw 0 true .cold .any, fd 12 8 .rw 0x6 true .cold .any, fd 20 16 .rw 0xB true .cold .any, fd 25 24 .rw 0 true .cold .any],
    -- AUD_DCO_STATE: LOCKED, OFFSET
    rd 0 0 0x044 1 1 4 1 4 [fd 0 0 .ro 0 false .kept .any, fd 31 16 .ro 0 false .kept .any],
    -- AUD_CTRL: LEADER, FORMAT, DELAY, WIDTH, PACK16, HOST, SLOTS_M1, RATE_MUL, FAMILY, VEC
    rd 1 4 0x040 1 1 4 1 4 [fd 0 0 .rw 0 true .cold .any, fd 1 1 .rw 0 true .cold .any, fd 2 2 .rw 0 true .cold .any, fd 4 3 .rw 0 true .cold (.range 0 2), fd 5 5 .rw 0 true .cold .any, fd 6 6 .rw 0 true .cold .any, fd 11 8 .rw 0 true .cold .any, fd 13 12 .rw 0 true .cold (.range 0 2), fd 14 14 .rw 0 true .cold .any, fd 31 21 .rw 0 true .cold .vec],
    -- AUD_MASK: MASK
    rd 1 4 0x044 1 1 4 1 4 [fd 15 0 .rw 0 true .cold .any],
    -- AUD_CMD: ARM, STOP, ARMED, LATE
    rd 1 4 0x048 1 1 4 1 4 [fd 0 0 .w1s 0 false .zero .any, fd 1 1 .w1s 0 false .zero .any, fd 2 2 .ro 0 false .zero .any, fd 3 3 .ro 0 false .zero .any],
    -- AUD_START: T
    rd 1 4 0x04C 3 1 12 1 12 [fd 31 0 .rw 0 false .zero .longTime],
    -- AUD_BASE: B
    rd 1 4 0x058 2 1 8 1 8 [fd 31 0 .rw 0 true .cold (.multiple 4096)],
    -- AUD_SIZE: SIZE
    rd 1 4 0x060 1 1 4 1 4 [fd 31 0 .rw 0 true .cold (.multiple 4096)],
    -- AUD_BLOCK: BLOCK
    rd 1 4 0x064 1 1 4 1 4 [fd 12 0 .rw 0 true .cold (.range 16 4096)],
    -- AUD_WR: WR
    rd 1 4 0x068 1 1 4 1 4 [fd 31 0 .ro 0 false .zero .any],
    -- AUD_RD: RD
    rd 1 4 0x06C 1 1 4 1 4 [fd 31 0 .rw 0 false .zero .any],
    -- AUD_INDEX: N
    rd 1 4 0x070 2 1 8 1 8 [fd 31 0 .ro 0 false .zero .any],
    -- AUD_PHASE: E
    rd 1 4 0x078 1 1 4 1 4 [fd 31 0 .ro 0 false .zero .any],
    -- AUD_CNT_REPEAT: COUNT
    rd 1 4 0x07C 1 1 4 1 4 [fd 31 0 .ro 0 false .zero .any],
    -- AUD_CNT_DROP: COUNT
    rd 1 4 0x080 1 1 4 1 4 [fd 31 0 .ro 0 false .zero .any],
    -- AUD_CNT_OVERRUN: COUNT
    rd 1 4 0x084 1 1 4 1 4 [fd 31 0 .ro 0 false .zero .any],
    -- AUD_CNT_FRAMING: COUNT
    rd 1 4 0x088 1 1 4 1 4 [fd 31 0 .ro 0 false .zero .any] ]

/-- The register table of AUD. -/
def tableAUD : List RegDesc := tableAUD1

/-- Registers of TWI, part 1. -/
def tableTWI1 : List RegDesc :=
  [
    -- TWI_CTRL: CTL_EN, TGT_EN, OWN_ADDR, RETRIES, RETRY_GAP
    rd 0 3 0x040 1 1 4 1 4 [fd 0 0 .rw 0 true .cold .any, fd 1 1 .rw 0 true .cold .any, fd 14 8 .rw 0 true .cold .any, fd 19 16 .rw 0 true .cold .any, fd 31 24 .rw 0 true .cold .any],
    -- TWI_TIMING0: SCL_LOW, SCL_HIGH, FILT, HD_DAT
    rd 0 3 0x044 1 1 4 1 4 [fd 9 0 .rw 0x1F4 true .cold .any, fd 19 10 .rw 0x1F4 true .cold .any, fd 23 20 .rw 0x5 true .cold .any, fd 31 24 .rw 0x1E true .cold .any],
    -- TWI_TIMING1: SU_STA, HD_STA, SU_STO
    rd 0 3 0x048 1 1 4 1 4 [fd 9 0 .rw 0x1D6 true .cold .any, fd 19 10 .rw 0x190 true .cold .any, fd 29 20 .rw 0x190 true .cold .any],
    -- TWI_TIMING2: BUF, STRETCH_TIMEOUT, TGT_STRETCH
    rd 0 3 0x04C 1 1 4 1 4 [fd 9 0 .rw 0x1D6 true .cold .any, fd 23 16 .rw 0x19 true .cold (.range 1 255), fd 31 24 .rw 0xA true .cold (.range 1 255)],
    -- TWI_XFER: ADDR, WR_LEN, RD_LEN, GO
    rd 0 3 0x050 1 1 4 1 4 [fd 6 0 .rw 0 false .zero .any, fd 13 8 .rw 0 false .zero (.range 0 32), fd 21 16 .rw 0 false .zero (.range 0 32), fd 31 31 .w1s 0 false .zero .any],
    -- TWI_XSTAT: DONE, BUSY, STATUS, BYTES
    rd 0 3 0x054 1 1 4 1 4 [fd 0 0 .ro 0 false .zero .any, fd 1 1 .ro 0 false .zero .any, fd 4 2 .ro 0 false .zero .any, fd 13 8 .ro 0 false .zero .any],
    -- TWI_DATA: D
    rd 0 3 0x058 1 8 4 1 4 [fd 31 0 .rw 0 false .zero .any],
    -- TWI_ABSENT: A
    rd 0 3 0x078 1 4 4 1 4 [fd 31 0 .w1c 0 false .kept .any],
    -- TWI_TGT_TX: TX
    rd 0 3 0x088 1 1 4 1 4 [fd 7 0 .wo 0 false .zero .any],
    -- TWI_TGT_RX: RX, VALID
    rd 0 3 0x08C 1 1 4 1 4 [fd 7 0 .ro 0 false .zero .any, fd 8 8 .ro 0 false .zero .any],
    -- TWI_TGT_STATE: RX_LEVEL, TX_LEVEL, ADDRESSED
    rd 0 3 0x090 1 1 4 1 4 [fd 5 0 .ro 0 false .zero .any, fd 13 8 .ro 0 false .zero .any, fd 16 16 .ro 0 false .zero .any],
    -- TWI_CNT_RETRY: COUNT
    rd 0 3 0x094 1 1 4 1 4 [fd 31 0 .ro 0 false .zero .any],
    -- TWI_CNT_ARB: COUNT
    rd 0 3 0x098 1 1 4 1 4 [fd 31 0 .ro 0 false .zero .any],
    -- TWI_CNT_CLEAR: COUNT
    rd 0 3 0x09C 1 1 4 1 4 [fd 31 0 .ro 0 false .zero .any],
    -- TWI_CNT_TGT_ERR: COUNT
    rd 0 3 0x0A0 1 1 4 1 4 [fd 31 0 .ro 0 false .zero .any] ]

/-- The register table of TWI. -/
def tableTWI : List RegDesc := tableTWI1

/-- Registers of CNT, part 1. -/
def tableCNT1 : List RegDesc :=
  [
    -- CNT_CTRL: EN, HOST, VEC
    rd 0 0 0x040 1 1 4 1 4 [fd 0 0 .rw 0 true .cold .any, fd 1 1 .rw 0 true .cold .any, fd 31 21 .rw 0 true .cold .vec],
    -- CNT_FIRST: T
    rd 0 0 0x044 3 1 12 1 12 [fd 31 0 .rw 0 true .cold .longTime],
    -- CNT_PERIOD: P
    rd 0 0 0x050 1 1 4 1 4 [fd 19 0 .rw 0x3E8 true .cold (.range 1 1000000)],
    -- CNT_MASK: MASK
    rd 0 0 0x054 1 1 4 1 4 [fd 17 0 .rw 0 true .cold .any],
    -- CNT_BASE: B
    rd 0 0 0x058 2 1 8 1 8 [fd 31 0 .rw 0 true .cold (.multiple 4096)],
    -- CNT_SIZE: SIZE
    rd 0 0 0x060 1 1 4 1 4 [fd 31 0 .rw 0 true .cold (.multiple 4096)],
    -- CNT_WR: WR
    rd 0 0 0x064 1 1 4 1 4 [fd 31 0 .ro 0 false .zero .any],
    -- CNT_RD: RD
    rd 0 0 0x068 1 1 4 1 4 [fd 31 0 .rw 0 false .zero .any],
    -- CNT_USER_PERMIT: BLOCKS, EN
    rd 0 0 0x06C 1 1 4 1 4 [fd 17 0 .rw 0 true .cold .any, fd 31 31 .rw 0 true .cold .any],
    -- CNT_CNT_SKIP: COUNT
    rd 0 0 0x070 1 1 4 1 4 [fd 31 0 .ro 0 false .zero .any],
    -- CNT_SEL: SIGNAL, LEVEL, EN
    rd 1 9 0x100 1 2 256 8 16 [fd 7 0 .rw 0 true .cold .any, fd 8 8 .rw 0 true .cold .any, fd 9 9 .rw 0 true .cold .any],
    -- CNT_VAL: V
    rd 1 9 0x104 2 2 256 8 16 [fd 15 0 .ro 0 false .zero .any],
    -- CNT_CLEAR: CLEAR
    rd 1 9 0x180 1 2 256 1 256 [fd 0 0 .w1s 0 false .zero .any],
    -- CNT_PS_CTRL: NVME, REG, DMA, HOST, VEC
    rd 10 10 0x040 1 1 4 1 4 [fd 0 0 .rw 0 false .zero .any, fd 1 1 .rw 0 false .zero .any, fd 2 2 .rw 0 false .zero .any, fd 3 3 .rw 0 false .zero .any, fd 31 21 .rw 0 false .zero .vec],
    -- CNT_PS_N: N_M1
    rd 10 10 0x044 1 3 4 1 4 [fd 15 0 .rw 0 false .zero .any],
    -- CNT_PS_BASE: B
    rd 10 10 0x050 2 1 8 1 8 [fd 31 0 .rw 0 false .zero (.multiple 4096)],
    -- CNT_PS_WR: WR
    rd 10 10 0x058 1 1 4 1 4 [fd 11 0 .ro 0 false .zero .any],
    -- CNT_PS_RD: RD
    rd 10 10 0x05C 1 1 4 1 4 [fd 11 0 .rw 0 false .zero .any],
    -- CNT_PS_LOST: COUNT
    rd 10 10 0x060 1 1 4 1 4 [fd 31 0 .ro 0 false .zero .any] ]

/-- The register table of CNT. -/
def tableCNT : List RegDesc := tableCNT1

/-- Registers of DBG, part 1. -/
def tableDBG1 : List RegDesc :=
  [
    -- DBG_TMUX_SEL: SIGNAL, BLOCK, RAW, DOMAIN
    rd 0 0 0x040 1 16 4 1 4 [fd 7 0 .rw 0 false .zero .any, fd 12 8 .rw 0 false .zero .any, fd 16 16 .rw 0 false .zero .any, fd 23 20 .ro 0 false .zero .any],
    -- DBG_LOCK: SCOPE_OPEN, VERIFY, BUSY, FAILS, KEY_INDEX
    rd 0 0 0x080 1 1 4 1 4 [fd 2 0 .ro 0 false .kept .any, fd 3 3 .w1s 0 false .zero .any, fd 4 4 .ro 0 false .kept .any, fd 9 8 .ro 0 false .kept .any, fd 17 16 .rw 0 false .kept .any],
    -- DBG_CHALLENGE: C
    rd 0 0 0x084 2 1 8 1 8 [fd 31 0 .ro 0 false .kept .any],
    -- DBG_TOKEN: T
    rd 0 0 0x100 1 28 4 1 4 [fd 31 0 .wo 0 false .zero .any],
    -- DBG_RESET_REQ: REQ
    rd 0 0 0x170 1 1 4 1 4 [fd 0 0 .w1s 0 false .zero .any] ]

/-- The register table of DBG. -/
def tableDBG : List RegDesc := tableDBG1

/-- The register table of the block with code `c` (R27). -/
def regTable : Nat → List RegDesc
  | 1 => tablePLT
  | 2 => tableSIU
  | 3 => tableCLR
  | 4 => tableCNV
  | 5 => tablePHO
  | 6 => tableTLK
  | 7 => tableCAS
  | 8 => tableMER
  | 9 => tableLAN
  | 10 => tableMEM
  | 11 => tableCMP
  | 12 => tableCOD
  | 13 => tableREC
  | 14 => tableMOT
  | 15 => tableAUD
  | 16 => tableTWI
  | 17 => tableCNT
  | 18 => tableDBG
  | _ => []

end Sys2Proof.Machine
end

