-- ==== Sys2Proof/Machine/Crc.lean ====
section
/-! DEFINITION. The cyclic checks of the spec's own formats: CRC-32 (R52), and the generic reflected and unreflected forms. -/

namespace Sys2Proof.Machine

/-- One bit of a reflected CRC with polynomial `poly`. -/
def crcStepR (poly c : Nat) : Nat := if c % 2 = 1 then Nat.xor (c / 2) poly else c / 2

/-- `n` reflected steps. -/
def crcStepsR (poly : Nat) : Nat → Nat → Nat
  | 0, c => c
  | n + 1, c => crcStepsR poly n (crcStepR poly c)

/-- A reflected CRC over bytes. -/
def crcReflected (poly init : Nat) (bs : List Byte) : Nat :=
  bs.foldl (fun c b => crcStepsR poly 8 (Nat.xor c b.toNat)) init

/-- CRC-32 of R52: polynomial 0x04C1_1DB7 reflected, initial value and final XOR of all ones. -/
def crc32 (bs : List Byte) : Nat := Nat.xor (crcReflected 0xEDB88320 0xFFFFFFFF bs) 0xFFFFFFFF

/-- One bit of an unreflected CRC of `w` bits. -/
def crcStepF (w poly c : Nat) : Nat :=
  let d := (2 * c) % 2 ^ w
  if 2 ^ (w - 1) ≤ c % 2 ^ w then Nat.xor d poly else d

def crcStepsF (w poly : Nat) : Nat → Nat → Nat
  | 0, c => c
  | n + 1, c => crcStepsF w poly n (crcStepF w poly c)

/-- An unreflected CRC of `w` bits (8 or more) over bytes. -/
def crcForward (w poly init : Nat) (bs : List Byte) : Nat :=
  bs.foldl (fun c b => crcStepsF w poly 8 (Nat.xor c (b.toNat * 2 ^ (w - 8)))) init

end Sys2Proof.Machine
end

