-- ==== Sys2Proof/Machine/Kpc.lean ====
section
/-! DEFINITION. The Kolkolyn pixel codec: prediction, code tables, segments, streams, both ways (R258 to R262). -/

namespace Sys2Proof.Machine

/-- What an encode or decode is told: the header of R258. -/
structure KpcHeader where
  p48 : Bool
  w : Nat
  h : Nat
  depth : Nat
  dx : Nat
  dy : Nat
  dynamic : Bool
  table : List Nat
  prefixBytes : Nat
  lineBytes : Nat
  deriving DecidableEq, Repr

/-! ### Samples (R259) -/

def kpcChannels (k : KpcHeader) : Nat := if k.p48 then 3 else 1
/-- Samples of a line. -/
def kpcPerLine (k : KpcHeader) : Nat := k.w * kpcChannels k

/-- The mapped value of a binary16 pattern: value order follows numeric order. -/
def kpcMap (h : Nat) : Nat := if h / 2 ^ 15 % 2 = 0 then Nat.xor h 0x8000 else Nat.xor h 0xFFFF
def kpcUnmap (m : Nat) : Nat := if m / 2 ^ 15 % 2 = 1 then Nat.xor m 0x8000 else Nat.xor m 0xFFFF

/-- `n` values of `d` bits from bytes packed as R55. -/
def unpackBits (d n : Nat) (bs : List Byte) : List Nat :=
  let v := leNat bs
  (upto n).map fun i => v / 2 ^ (d * i) % 2 ^ d

/-- Values of `d` bits packed as R55 into `k` bytes. -/
def packBits (d k : Nat) (xs : List Nat) : List Byte := leBytes k (xs.foldr (fun v acc => v + acc * 2 ^ d) 0)

/-- The prediction of one sample from its neighbours. -/
def kpcPredict (d dx dy y i a b c : Nat) : Nat :=
  if y < dy then (if i < dx then 2 ^ (d - 1) else a)
  else if i < dx then b
  else if max a b ≤ c then min a b
  else if c ≤ min a b then max a b
  else a + b - c

/-- The residual of a sample, mapped to a natural number. -/
def kpcResidual (d x p : Nat) : Nat :=
  let e := (x + 2 ^ d - p) % 2 ^ d
  if e < 2 ^ (d - 1) then 2 * e else 2 * (2 ^ d - e) - 1

/-- The sample whose residual is `z`. -/
def kpcSample (d z p : Nat) : Nat :=
  if z % 2 = 0 then (p + z / 2) % 2 ^ d else (p + 2 ^ d - (z + 1) / 2) % 2 ^ d

/-- The prediction of sample `n` of a line, given the line's earlier samples and the line DY above. -/
def kpcAt (k : KpcHeader) (y n : Nat) (before above : List Nat) : Nat :=
  let ch := kpcChannels k
  let back := k.dx * ch
  kpcPredict k.depth k.dx k.dy y (n / ch) (nth 0 before (n - back)) (nth 0 above n) (nth 0 above (n - back))

/-- Residuals of one line. -/
def kpcLine (k : KpcHeader) (y : Nat) (above line : List Nat) : List Nat :=
  (upto line.length).map fun n => kpcResidual k.depth (nth 0 line n) (kpcAt k y n line above)

/-- Residuals of a whole picture, in order. -/
def kpcResiduals (k : KpcHeader) (lines : List (List Nat)) : List Nat :=
  (upto lines.length).flatMap fun y => kpcLine k y (nth [] lines (y - k.dy)) (nth [] lines y)

/-! ### Code tables (R261) -/

/-- The class of a residual: its bit length. -/
def bitLength : Nat → Nat → Nat
  | 0, _ => 0
  | fuel + 1, z => if z = 0 then 0 else bitLength fuel (z / 2) + 1
def kpcClass (z : Nat) : Nat := bitLength 17 z

/-- Valid: the sum of 2^-length over the nonzero lengths is at most 1. -/
def codeTableValid (lens : List Nat) : Bool :=
  decide ((lens.foldl (fun a l => if l = 0 then a else a + 2 ^ (15 - l)) 0) ≤ 2 ^ 15) && lens.all fun l => decide (l ≤ 15)

/-- Usable as a static table at depth `d`. -/
def codeTableUsable (d : Nat) (lens : List Nat) : Bool := codeTableValid lens && (upto (d + 1)).all fun k => decide (0 < nth 0 lens k)

/-- First canonical code of length `l` (RFC 1951, 3.2.2). -/
def firstCode (lens : List Nat) : Nat → Nat
  | 0 => 0
  | l + 1 => (firstCode lens l + (if l = 0 then 0 else (lens.filter fun x => x == l).length)) * 2

/-- The canonical code of symbol `k`. -/
def codeOf (lens : List Nat) (k : Nat) : Nat :=
  let l := nth 0 lens k
  firstCode lens l + ((lens.take k).filter fun x => x == l).length

/-- The symbol whose code of length `l` is `c`. -/
def symbolOf (lens : List Nat) (l c : Nat) : Option Nat :=
  lowest lens.length fun k => decide (nth 0 lens k = l ∧ 0 < l) && codeOf lens k == c

/-- The nibble layout of a table: 9 bytes. -/
def tableBytes (lens : List Nat) : List Byte :=
  (upto 9).map fun j => BitVec.ofNat 8 (nth 0 lens (2 * j) * 16 + (if j = 8 then 0 else nth 0 lens (2 * j + 1)))
/-- The table's last nibble is 0 (R261). -/
def tableEnds (bs : List Byte) : Bool := decide ((nth 0#8 bs 8).toNat % 16 = 0)
def tableOf (bs : List Byte) : List Nat :=
  ((upto 9).flatMap fun j => let b := (nth 0#8 bs j).toNat; [b / 16, b % 16]).take 17

/-! ### Bits, most significant first -/

def msbBits (n v : Nat) : List Bool := (upto n).map fun i => decide (v / 2 ^ (n - 1 - i) % 2 = 1)
def bitsNat (bs : List Bool) : Nat := bs.foldl (fun a b => 2 * a + b2n b) 0

/-- Bits packed to bytes, most significant bit first, zero-filled. -/
def packMsb : Nat → List Bool → List Byte
  | 0, _ => []
  | fuel + 1, bs =>
    if bs.isEmpty then []
    else BitVec.ofNat 8 (bitsNat ((bs ++ List.replicate 8 false).take 8)) :: packMsb fuel (bs.drop 8)
def bytesMsb (bs : List Bool) : List Byte := packMsb (bs.length / 8 + 1) bs
def bitsOfBytes (bs : List Byte) : List Bool := bs.flatMap fun b => msbBits 8 b.toNat

/-- One residual coded: its class's code word, and for classes from 2 its low bits. -/
def kpcCode (lens : List Nat) (z : Nat) : List Bool :=
  let k := kpcClass z
  msbBits (nth 0 lens k) (codeOf lens k) ++ (if 2 ≤ k then msbBits (k - 1) (z % 2 ^ (k - 1)) else [])

/-! ### Encoding (R258, R260) -/

/-- One segment: stored, unless its coded payload is shorter. The table of a dynamic segment is CMP's own choice. -/
def kpcSegment (k : KpcHeader) (values zs : List Nat) : List Byte :=
  let n := values.length
  let stored := packBits k.depth ((n * k.depth + 7) / 8) values
  let lens := if k.dynamic then Config.kpcTable (zs.map kpcClass) else k.table
  let able := codeTableValid lens && zs.all fun z => decide (0 < nth 0 lens (kpcClass z))
  let bits := zs.flatMap (kpcCode lens)
  let coded := if k.dynamic then tableBytes lens ++ bytesMsb bits else bytesMsb bits
  let use := able && decide (lens.length = 17) && decide (coded.length < stored.length)
  let payload := if use then coded else stored
  leBytes 1 (if use then (if k.dynamic then 2 else 1) else 0) ++ [0#8] ++ leBytes 2 (n - 1) ++ leBytes 4 payload.length ++ payload

/-- Segments of 4,096 samples. -/
def kpcSegments (k : KpcHeader) : Nat → List Nat → List Nat → List Byte
  | 0, _, _ => []
  | fuel + 1, values, zs =>
    if values.isEmpty then []
    else kpcSegment k (values.take 4096) (zs.take 4096) ++ kpcSegments k fuel (values.drop 4096) (zs.drop 4096)

def kpcHeaderBytes (k : KpcHeader) : List Byte :=
  leBytes 2 0x504B ++ [0x01#8] ++ leBytes 1 (b2n k.p48) ++ leBytes 2 (k.w - 1) ++ leBytes 2 (k.h - 1) ++
    leBytes 1 k.depth ++ leBytes 1 k.dx ++ leBytes 1 k.dy ++ leBytes 1 (b2n k.dynamic) ++
    (if k.dynamic then List.replicate 9 0#8 else tableBytes k.table) ++ List.replicate 3 0#8 ++
    leBytes 4 k.prefixBytes ++ leBytes 4 k.lineBytes

/-- The lines of uncompressed data after its prefix. -/
def kpcLines (k : KpcHeader) (data : List Byte) : List (List Nat) :=
  (upto k.h).map fun y => unpackBits k.depth (kpcPerLine k) ((data.drop (k.prefixBytes + y * k.lineBytes)).take k.lineBytes)

/-- The uncompressed data as the stream's CRC sees it: each line zero-filled. -/
def kpcData (k : KpcHeader) (pre : List Byte) (lines : List (List Nat)) : List Byte :=
  pre ++ lines.flatMap fun l => packBits k.depth k.lineBytes l

/-- A KPC stream, and the CRC-32 of its uncompressed data. -/
def kpcEncode (k : KpcHeader) (data : List Byte) : List Byte × Nat :=
  let pre := (data ++ List.replicate k.prefixBytes 0#8).take k.prefixBytes
  let lines := kpcLines k data
  let mapped := if k.p48 then lines.map fun l => l.map kpcMap else lines
  let crc := crc32 (kpcData k pre lines)
  let n := k.h * kpcPerLine k
  (kpcHeaderBytes k ++ pre ++ kpcSegments k (n / 4096 + 1) lines.flatten (kpcResiduals k mapped) ++
    [0xFF#8, 0#8, 0#8, 0#8] ++ leBytes 4 crc, crc)

/-! ### Decoding (R258 to R261, R268) -/

/-- Why a decode fails: E_KPC_DATA with the segment's index, or E_KPC_CRC with the CRC read. -/
inductive KpcFail
  | data (segment : Nat)
  | crc (value : Nat)
  deriving DecidableEq, Repr

/-- One code word off the bits. -/
def readCode (lens : List Nat) : Nat → Nat → Nat → List Bool → Option (Nat × List Bool)
  | 0, _, _, _ => none
  | _ + 1, _, _, [] => none
  | fuel + 1, l, c, b :: bs =>
    let c1 := 2 * c + b2n b
    match symbolOf lens (l + 1) c1 with
    | some k => some (k, bs)
    | none => readCode lens fuel (l + 1) c1 bs

/-- `n` residuals off the bits, and what is left. -/
def readResiduals (d : Nat) (lens : List Nat) : Nat → List Bool → Option (List Nat × List Bool)
  | 0, bs => some ([], bs)
  | n + 1, bs =>
    match readCode lens 15 0 0 bs with
    | none => none
    | some (k, rest) =>
      let m := k - 1
      if 2 ≤ k ∧ rest.length < m then none
      else
        let z := if k = 0 then 0 else if k = 1 then 1 else 2 ^ m + bitsNat (rest.take m)
        if 2 ^ d ≤ z then none
        else
          match readResiduals d lens n (if 2 ≤ k then rest.drop m else rest) with
          | some (zs, left) => some (z :: zs, left)
          | none => none

/-- What a segment holds: stored values, or residuals. -/
inductive KpcSeg
  | values (xs : List Nat)
  | residuals (zs : List Nat)
  deriving DecidableEq, Repr

/-- One segment of `n` samples off the bytes. -/
def readSegment (k : KpcHeader) (n : Nat) (bs : List Byte) : Option (KpcSeg × List Byte) :=
  let f := fun i j => leNat ((bs.drop j).take i)
  let len := f 4 4
  let body := (bs.drop 8).take len
  if bs.length < 8 + len ∨ f 1 1 ≠ 0 ∨ f 2 2 + 1 ≠ n then none
  else
    let coded := fun (lens : List Nat) (b : List Byte) (extra : Nat) =>
      if !codeTableValid lens then none
      else
        match readResiduals k.depth lens n (bitsOfBytes b) with
        | some (zs, left) =>
          if len = extra + (8 * b.length - left.length + 7) / 8 ∧ left.all (! ·) then some (KpcSeg.residuals zs, bs.drop (8 + len)) else none
        | none => none
    match f 1 0 with
    | 0 => if len = (n * k.depth + 7) / 8 then some (.values (unpackBits k.depth n body), bs.drop (8 + len)) else none
    | 1 => if k.dynamic then none else coded k.table body 0
    | 2 => if k.dynamic ∧ 9 ≤ len ∧ tableEnds body then coded (tableOf body) (body.drop 9) 9 else none
    | _ => none

/-- Samples decoded so far, whole lines first; `line` is the one in progress. -/
structure KpcRun where
  lines : List (List Nat)
  line : List Nat
  deriving DecidableEq, Repr

/-- One more sample. -/
def kpcPush (k : KpcHeader) (r : KpcRun) (v : Nat) : KpcRun :=
  let l := r.line ++ [v]
  if l.length = kpcPerLine k then { lines := r.lines ++ [l], line := [] } else { r with line := l }

/-- Take a segment's samples up, in mapped values. -/
def kpcTake (k : KpcHeader) (r : KpcRun) : KpcSeg → KpcRun
  | .values xs => xs.foldl (fun r x => kpcPush k r (if k.p48 then kpcMap x else x)) r
  | .residuals zs => zs.foldl (fun r z =>
      let y := r.lines.length
      kpcPush k r (kpcSample k.depth z (kpcAt k y r.line.length r.line (nth [] r.lines (y - k.dy))))) r

/-- All segments. -/
def readSegments (k : KpcHeader) : Nat → Nat → Nat → KpcRun → List Byte → Except KpcFail (KpcRun × List Byte)
  | 0, seg, _, _, _ => .error (.data seg)
  | fuel + 1, seg, left, r, bs =>
    if left = 0 then .ok (r, bs)
    else
      let n := if 4096 < left then 4096 else left
      match readSegment k n bs with
      | none => .error (.data seg)
      | some (x, rest) => readSegments k fuel (seg + 1) (left - n) (kpcTake k r x) rest

/-- The header off a stream, if it is good. -/
def readKpcHeader (bs : List Byte) : Option KpcHeader :=
  let f := fun i j => leNat ((bs.drop j).take i)
  let k : KpcHeader :=
    { p48 := decide (f 1 3 = 1), w := f 2 4 + 1, h := f 2 6 + 1, depth := f 1 8, dx := f 1 9, dy := f 1 10,
      dynamic := decide (f 1 11 % 2 = 1), table := tableOf ((bs.drop 12).take 9), prefixBytes := f 4 24, lineBytes := f 4 28 }
  let depthOk := if k.p48 then decide (k.depth = 16) else decide (k.depth = 10 ∨ k.depth = 12 ∨ k.depth = 14 ∨ k.depth = 16)
  let distOk := if k.p48 then decide (k.dx = 1 ∧ k.dy = 1) else decide (1 ≤ k.dx ∧ k.dx ≤ 8 ∧ 1 ≤ k.dy ∧ k.dy ≤ 8)
  let tabOk := if k.dynamic then decide (f 9 12 = 0) else codeTableUsable k.depth k.table && tableEnds ((bs.drop 12).take 9)
  if 32 ≤ bs.length ∧ f 2 0 = 0x504B ∧ f 1 2 = 1 ∧ f 1 3 ≤ 1 ∧ depthOk ∧ distOk ∧ f 1 11 ≤ 1 ∧ tabOk ∧
    f 3 21 = 0 ∧ k.lineBytes % 32 = 0 ∧ kpcPerLine k * k.depth ≤ 8 * k.lineBytes then some k else none

/-- A whole stream decoded: its uncompressed data and their CRC-32. -/
def kpcDecode (bs : List Byte) : Except KpcFail (List Byte × Nat) :=
  match readKpcHeader bs with
  | none => .error (.data 0)
  | some k =>
    let pre := (bs.drop 32).take k.prefixBytes
    let n := k.h * kpcPerLine k
    if pre.length ≠ k.prefixBytes then .error (.data 0)
    else
      match readSegments k (n / 4096 + 2) 0 n { lines := [], line := [] } (bs.drop (32 + k.prefixBytes)) with
      | .error e => .error e
      | .ok (r, rest) =>
        if rest.take 4 ≠ [0xFF#8, 0#8, 0#8, 0#8] ∨ rest.length ≠ 8 then .error (.data (n / 4096))
        else
          let lines := if k.p48 then r.lines.map fun l => l.map kpcUnmap else r.lines
          let data := kpcData k pre lines
          let crc := crc32 data
          let got := leNat (rest.drop 4)
          if got = crc then .ok (data, crc) else .error (.crc got)

end Sys2Proof.Machine
end

