-- ==== Sys2Proof/Machine/Types.lean ====
section
/-! DEFINITION. The plain data the blocks of the device hold beside their registers, and what the device sends. -/

namespace Sys2Proof.Machine

/-- A record ring of R68 and R423: RES, the ring in effect, what is reserved and not yet published. -/
structure Reserved where
  start : Nat
  len : Nat
  frameId : Nat
  void : Bool
  published : Bool
  /-- The vector its publication sends: VEC as it stood at the frame's SOF. -/
  vec : Nat := 0
  deriving DecidableEq, Repr

/-- A record ring beside its registers (R423). `due` counts accepted frames since the decimation restarted (R68). -/
structure RecordRing where
  res : Nat := 0
  base : Nat := 0
  size : Nat := 0
  host : Bool := false
  held : List Reserved := []
  due : Nat := 0
  wasOn : Bool := false
  deriving DecidableEq, Repr

/-- The frame a sensor port has open (R63 to R70). Times are Meridian, in units of 2^-16 ns. -/
structure SiuFrame where
  id : Nat
  sof : Nat
  bridgeTs : Nat
  width : Nat
  height : Nat
  depth : Nat
  next : Nat := 0
  passed : Nat := 0
  padded : Nat := 0
  cut : Nat := 0
  flags : Nat := 0
  metaBytes : List Byte := []
  lines : List (List Nat) := []
  lastStamp : Nat
  t0 : Option Nat := none
  recording : Bool := false
  toClr : Bool := false
  /-- Closed, with pad lines still to be generated (R65, R67). -/
  closing : Bool := false
  deriving DecidableEq, Repr

/-- A trigger sent and not yet matched by a SOF (R58). -/
structure Trigger where
  id : Nat
  at16 : Nat
  deriving DecidableEq, Repr

/-- The spare-lane bring-in of R59. -/
structure SpareTest where
  logical : Nat
  start : Nat
  clean : Nat
  periods : Nat
  deriving DecidableEq, Repr

/-- What a sensor port holds beside its registers. -/
structure SiuPort where
  frame : Option SiuFrame := none
  /-- FRAME_ID of a frame abandoned, discarded or closed by timeout: its packets are dropped silently (R66, R67). -/
  dead : Option Nat := none
  echoTag : Nat := 0
  echoOut : Option (Nat × Nat) := none
  nextTrig : Nat := 0
  trigs : List Trigger := []
  ring : RecordRing := {}
  /-- SOFs seen at throttle levels 5 and 6, for the decimation of R378. -/
  keep : Nat := 0
  /-- Per logical lane: alignment codewords found in a row, the last count, and how many are missing in a row. -/
  lanes : List (Nat × Nat × Nat) := [(0, 0, 0), (0, 0, 0), (0, 0, 0), (0, 0, 0)]
  spare : Option SpareTest := none
  sofSeen : Bool := false
  lateRaised : Bool := false
  lastId : Nat := 0
  /-- After a packet that failed step 1 the port hunts for the next header (R63); data codewords before `fecNext` have been counted. -/
  hunting : Bool := false
  fecNext : Nat := 0
  /-- The number of the next data codeword the device sends, and the alignment count it last sent (R49). -/
  txNext : Nat := 0
  txCount : Nat := 0
  /-- The alignment count from which the original lane carries again, after RELEASE (R59, R232). -/
  back : Option Nat := none
  deriving DecidableEq, Repr

/-- A site named by the defect list, and whether it is replaced whatever the threshold (R84, R85). -/
structure DefectSite where
  x : Nat
  y : Nat
  always : Bool
  deriving DecidableEq, Repr

/-- A frame in a colour pipeline. `use` holds the shadowed values in use for it (OP2). -/
structure ClrFrame where
  id : Nat
  sof : Nat
  width : Nat
  height : Nat
  flags : Nat := 0
  use : List (Nat × Word)
  lines : List (List Nat) := []
  closed : Bool := false
  black : List (List F32) := []
  defect : List (List F32) := []
  flat : List (List F32) := []
  dev : List (List Nat) := []
  tap : Option (Nat × Nat) := none
  /-- Per output: due to publish this frame, and still able to. -/
  due : List Bool
  live : List Bool
  /-- The ring buffer each output writes. -/
  bufs : List Nat := [0, 0, 0, 0]
  ot0Next : Nat := 0
  /-- The defect list as far as it is read: sites listed, entries read, one more than the last (LINE, COLUMN) as a number, and
  whether a bad entry has ended it (R84, R86). -/
  sites : List DefectSite := []
  listPos : Nat := 0
  listKey : Nat := 0
  listError : Bool := false
  /-- A calibration was accumulating when the frame began (R82). -/
  calibrates : Bool := false
  deriving DecidableEq, Repr

/-- A buffer of an output written whole that waits to be published: the output, and its COUNT and VEC as the frame used them (R113). -/
structure OtBuffer where
  output : Nat
  count : Nat
  vec : Nat
  deriving DecidableEq, Repr

/-- A dark-frame calibration (R82, R83). -/
structure ClrCal where
  target : Nat
  taken : Nat
  deriving DecidableEq, Repr

/-- What a colour pipeline holds beside its registers. -/
structure ClrPipe where
  frames : List ClrFrame := []
  cal : Option ClrCal := none
  ring : RecordRing := {}
  /-- The two LUT banks: entries that differ from +0.0 (R103, R106). -/
  lut0 : List (Nat × Nat) := []
  lut1 : List (Nat × Nat) := []
  loading : Option Nat := none
  /-- Where the cube image of the load that runs lies: CLR_LUT_SRC as START found it (R106). -/
  loadSrc : Nat := 0
  /-- Custom transfer tables of OT1 to OT3: entries other than +0.0, and which are written (R122). -/
  tables : List (List (Nat × F32)) := [[], [], []]
  written : List (List Nat) := [[], [], []]
  otDue : List Nat := [0, 0, 0, 0]
  otVision : Nat := 0
  /-- Outputs whose buffer is written whole and waits to be published (R113). -/
  otWait : List OtBuffer := []
  otRaised : List Bool := [false, false, false, false]
  deriving DecidableEq, Repr

/-- The shared spare slice (R92 to R94). -/
structure ClrSpare where
  /-- A substitution waiting for its pipeline's next accepted SOF. -/
  take : Option (Nat × Nat) := none
  /-- A return of the spare waiting for that SOF. -/
  giveBack : Bool := false
  testing : Option (Nat × Nat) := none
  /-- The spare has begun to shadow the slice it names, at a SOF of its pipeline (R92). -/
  shadowing : Bool := false
  /-- Slices marked failed when both they and the spare failed the test (R93). -/
  failed : List (Nat × Nat) := []
  deriving DecidableEq, Repr

/-- One store buffer of a canvas layer (R128): holds a complete picture; no composition has used it; how late it came; its capture time. -/
structure StoreBuf where
  complete : Bool := false
  unused : Bool := false
  order : Nat := 0
  sof : Nat := 0
  deriving DecidableEq, Repr

/-- A canvas layer's stores, and the buffers pictures are being written to. -/
structure CnvLayer where
  st0 : StoreBuf := {}
  st1 : StoreBuf := {}
  writing : List Nat := []
  deriving DecidableEq, Repr

/-- An OT0 picture a pipeline is delivering (R116, R128), known by its pipeline and its SOF stamp. -/
structure Ot0Pic where
  pipe : Nat
  id : Nat
  sof : Nat
  layer : Option Nat
  /-- The store buffer it is also written to. -/
  store : Option Nat := none
  rows : List (List Nat) := []
  withdrawn : Bool := false
  done : Bool := false
  deriving DecidableEq, Repr

/-- A picture being composed (R125 to R130). `use` holds the shadowed values in use for it. -/
structure CnvPic where
  seq : Nat
  buf : Nat
  start : Nat
  next : Nat := 0
  /-- Live layers: layer, pipeline, SOF stamp of the OT0 picture. -/
  live : List (Nat × Nat × Nat) := []
  /-- Stored layers in the composition, with the store buffer each contributes. -/
  stored : List (Nat × Nat) := []
  use : List (Nat × Word)
  /-- The monitor buffer this picture's clone goes to. -/
  mon : Option Nat := none
  deriving DecidableEq, Repr

/-- A canvas buffer: its picture, how many rows are ready, and whether it holds a picture at all. -/
structure CanvasBuf where
  seq : Nat := 0
  ready : Nat := 0
  holds : Bool := false
  launched : Bool := false
  mon : Option Nat := none
  use : List (Nat × Word) := []
  /-- The live layers of its picture, as the picture has them. -/
  live : List (Nat × Nat × Nat) := []
  deriving DecidableEq, Repr

/-- A picture bound to a launch instant (R138). -/
structure CnvBound where
  buf : Nat
  at16 : Nat
  deriving DecidableEq, Repr

/-- Per-view channel sums of one tile (R135), under 8192 × port + chain. -/
structure TileSums where
  key : Nat
  views : List (F32 × F32 × F32)
  deriving DecidableEq, Repr

/-- The scan of one launch (R135): its buffer, its instant, the next valid entry, the sums handed over so far. -/
structure CnvScan where
  buf : Nat
  at16 : Nat
  bound : Bool
  id : Nat
  entry : Nat := 0
  sums : List TileSums := []
  poisonSeen : Bool := false
  done : Bool := false
  deriving DecidableEq, Repr

/-- What the canvas engine holds beside its registers. -/
structure CnvState where
  layers : List CnvLayer := [{}, {}, {}, {}, {}, {}, {}, {}]
  ot0 : List Ot0Pic := []
  /-- The stamp of the pacing pipeline's SOF that has not yet started a picture. -/
  paceSof : Option Nat := none
  /-- Pictures in composition, oldest first. -/
  pics : List CnvPic := []
  bufs : List CanvasBuf := [{}, {}]
  bounds : List CnvBound := []
  scan : Option CnvScan := none
  /-- The last launch instant dealt with: sent, held over, missed, skipped or passed in self-refresh. -/
  lastAt : Option Nat := none
  /-- No launch before this instant is sent: the instant self-refresh ends at (R141). -/
  notBefore : Option Nat := none
  /-- The buffer the tiles show and the number of the picture sent from it, and the hold-overs since its bound launch. -/
  shown : Option (Nat × Nat) := none
  holdOvers : Nat := 0
  /-- The number of the last launch since a cold start or a block reset (R384), and whether one ID is skipped (R140). -/
  lastId : Option Nat := none
  skipId : Bool := false
  /-- What each map bank was checked against (R133), and the words of pages 0 to 2 as they stood at its VALIDATE. -/
  checked : List (List Word) := [[], []]
  atCheck : List (List (Nat × Word)) := [[], []]
  /-- A layer store has gained a complete picture, HOST_SEL has changed, since the last picture start (R125). -/
  storeNews : Bool := false
  /-- The launch instant whose compose instant was the last to come (R125). -/
  composed : Option Nat := none
  orderCount : Nat := 0
  /-- The sums of the last launch sent (R141), and their launch ID. -/
  lastSums : List TileSums := []
  deriving DecidableEq, Repr

/-- One tile's record in a pass (R149, R152): what CNV gets, what is written back. -/
structure PhoTile where
  key : Nat
  cal : Nat
  /-- Unusable (R154) or a second use (R154): no record is written. -/
  plain : Bool
  missing : Bool := false
  k : List F32
  g : List F32
  calPart : List Byte := []
  cls : List Byte := []
  tj : F32 := 0#32
  tb : F32 := 0#32
  pLast : F32 := 0#32
  upd : Nat := 0
  tmeas : Nat := 0
  age : Nat := 0
  launchId : Nat := 0
  applied : Bool := false
  rejected : Bool := false
  tPred : F32 := 0#32
  deriving DecidableEq, Repr

/-- The pass that runs (R151): its launch instant, the bank it writes, the map its weights come from. -/
structure PhoPass where
  at16 : Nat
  bank : Nat
  tiles : List PhoTile
  weights : List F32
  sums : Option (Nat × Bool × List TileSums) := none
  deriving DecidableEq, Repr

/-- A measured temperature (R155). -/
structure PhoMeas where
  temp : Nat
  steady : Bool
  fresh : Bool
  deriving DecidableEq, Repr

/-- What the Sextant holds beside its registers. -/
structure PhoState where
  pass : Option PhoPass := none
  meas : List (Nat × PhoMeas) := []
  /-- The last pass's launch instant (R156). -/
  lastAt : Option Nat := none
  /-- Launch instants dealt with before their pass could begin, and the values in use for what they showed (R151). -/
  owed : List (Nat × List (Nat × Word)) := []
  /-- Where the state parts lie, when a commit on the idle page has changed SEL since the last pass: the old bank's base (R157). -/
  oldBank : Option Nat := none
  /-- Steady passes in a row in the reference capture, and what it will write: CAL index, T_PRED, TMEAS (R158). -/
  steadyRun : Nat := 0
  refOut : List (Nat × Word × Word) := []
  deriving DecidableEq, Repr

/-- Why TLK asks a query (R175 to R182). -/
inductive TlkWhy
  | host | temp | echo | probe
  /-- Halving for the last position that answers: it answers below `lo`, not at `hi`. -/
  | search (lo hi : Nat)
  | enumIdent | enumEcho | enumStatus
  | warmFirst | warmLast | warmStatus
  | resumeIdent | resumeAssign | resumeEcho
  | adjust
  /-- A query whose answer no longer matters (R182). -/
  | void
  deriving DecidableEq, Repr

/-- A query waiting or outstanding on a port. -/
structure TlkQuery where
  kind : Nat
  dst : Nat
  bcast : Bool
  why : TlkWhy
  /-- Position to be assigned just ahead of the query (R177). -/
  assign : Bool := false
  /-- A maker CONFIG of the host window, which takes no reply (R184). -/
  config : Bool := false
  tag : Nat := 0
  /-- When its timeout passes, in ns (R175). -/
  due : Nat := 0
  deriving DecidableEq, Repr

/-- What a tile port holds beside its registers. -/
structure TlkPort where
  waiting : List TlkQuery := []
  asked : Option TlkQuery := none
  nextTag : Nat := 0
  /-- Positions whose reply to the broadcast TEMP query is still to come. -/
  tempLeft : List Nat := []
  echoNext : Nat := 0
  /-- No query leaves before this time, in ns: the wait after UNNUMBER. -/
  readyAt : Nat := 0
  /-- What the last SCHEDULE was made from, and its edges in 2^-8 UI (R169). -/
  slots : List Nat := []
  edges : List Nat := []
  /-- PIX and LAUNCH frames are discarded until a scan begins after the port is ready again (R182). -/
  withheld : Bool := false
  /-- Banks for which E_NO_TILE has been raised since they went into use (R181). -/
  noTile : List Nat := []
  leadSeen : Option (Nat × Nat) := none
  /-- The launch ID that position 0 last reported applied (R384). -/
  statusId : Nat := 0
  /-- The port was UP when it lost its lane; the chain was checked since the last start. -/
  wasUp : Bool := false
  /-- The forward stream: the count of its latest alignment codeword, and the local Meridian time (2^-16 ns) that one left at (R164, R171). -/
  refCount : Nat := 0
  refAt : Nat := 0
  /-- Data codewords of the back channel before this one have been counted. -/
  fecNext : Nat := 0
  deriving DecidableEq, Repr

/-- An event in the Log-book queue (R390, R391). -/
structure LogEvent where
  source : Nat
  inst : Nat
  kind : Nat
  at16 : Nat
  epochValid : Bool
  breaks : Nat
  detail : List Byte
  deriving DecidableEq, Repr

/-- The ordering codes of R2: full, wall, camera. -/
inductive OrderingCode
  | full | wall | camera
  deriving DecidableEq, Repr

/-- A power-leave request waiting (R370): its number and its arrival, in ns. -/
structure LeaveWait where
  n : Nat
  at_ : Nat
  deriving DecidableEq, Repr

/-- A power-leave grant held: its number, when it was granted, and the length of its ramp, in ns (R368, R371). -/
structure LeaveGrant where
  n : Nat
  at_ : Nat
  ramp : Nat
  deriving DecidableEq, Repr

/-- What a flit carries of time, set as it leaves each port (R210). -/
inductive CasStamp
  | none
  /-- The Lodestar's ORIGIN. -/
  | origin
  /-- CF as received, and the root port's t_ingress and d_in. -/
  | correct (cf tIn dIn : Int)
  deriving DecidableEq, Repr

/-- A flit in a cascade port's retry buffer or egress queue: H0, H1 and H2 without the link's own fields, H3 without credits, the payload. AGE
and what a SYNC carries of time are set as it leaves each port (R195, R210). -/
structure CasItem where
  uid : Nat
  /-- The ingress port that holds a credit for it (R192). -/
  origin : Option Nat
  /-- Of a forwarded flit: AGE as received, the device's time in ns at its arrival, and the mean delay of its ingress link (R195). -/
  age : Nat := 0
  since : Nat := 0
  delay : Nat := 0
  stamp : CasStamp := .none
  h0 : Word
  h1 : Word
  h2 : Word
  h3 : Word
  payload : List Byte
  deriving DecidableEq, Repr

/-- The last ANNOUNCE heard on a port (R199). -/
structure CasHeard where
  lodestar : Nat
  cand : Nat
  root : Bool
  epochValid : Bool
  prio : Nat
  steps : Nat
  standby : Option Nat
  annSeq : Nat
  breaks : Nat
  taiOfs : Nat
  maxt : Nat
  subId : Nat
  subCand : Nat
  subPrio : Nat
  deriving DecidableEq, Repr

/-- What a cascade port holds beside its registers (R192, R193, R209). -/
structure CasPort where
  heard : Option CasHeard := none
  /-- LSEQ of the next forwarded flit to send, and of the next expected. -/
  txSeq : Nat := 0
  rxSeq : Nat := 0
  unacked : List (Nat × CasItem) := []
  credits : List Nat := [64, 2048, 2048]
  queue0 : List CasItem := []
  queue1 : List CasItem := []
  queue2 : List CasItem := []
  /-- Class 2 has its turn next. -/
  turn : Bool := false
  /-- Resends in a row without progress. -/
  resends : Nat := 0
  crcSeen : Bool := false
  delays : List Nat := []
  pdTag : Nat := 0
  pdOut : Option (Nat × Nat) := none
  /-- Content of the last ANNOUNCE sent, without what only counts. -/
  announced : List Nat := []
  /-- The count of the last ALIGN flit received, and of the next one to send. -/
  alignCount : Nat := 0
  txAlign : Nat := 0
  /-- ALIGN flits have deskewed the lanes (R187). -/
  deskewed : Bool := false
  /-- A forwarded flit has been accepted since the port came up: ACK is valid. -/
  rxAny : Bool := false
  spare : Option SpareTest := none
  mirror : Option Nat := none
  /-- The ALIGN count from which the original lane carries again, after RELEASE (R190, R232). -/
  back : Option Nat := none
  deriving DecidableEq, Repr

/-- A message under reassembly (R197). For a picture: its header, the bitstream bytes taken so far, and its layer's staging slot, unless it is being discarded. -/
structure CasOpen where
  src : Nat
  cls : Nat
  seq : Nat
  gen : Nat
  /-- A message's bytes; a picture's 46-byte header. -/
  bytes : List Byte
  got : Nat := 0
  slot : Option (Nat × Nat) := none
  dropped : Bool := false
  deriving DecidableEq, Repr

/-- What ends when a message of this device has left the balls: a send stream's record, an entry of the send ring. -/
inductive CasDone
  | stream (n : Nat)
  | entry
  deriving DecidableEq, Repr

/-- A message of this device to send: its payload cut to flits. -/
structure CasMessage where
  cls : Nat
  dst : Nat
  bcast : Bool
  seq : Nat
  chunks : List (List Byte)
  done : CasDone
  deriving DecidableEq, Repr

/-- A complete cascade picture in its staging slot, waiting for its decode (R204). -/
structure CasPicture where
  layer : Nat
  addr : Nat
  bytes : Nat
  w : Nat
  h : Nat
  sof : Nat
  deriving DecidableEq, Repr

/-- What the cascade holds beside its registers. -/
structure CasState where
  ports : List CasPort := [{}, {}, {}, {}]
  /-- Route table: port by device ID. Generation + 1 by device ID, 0 when unknown. -/
  routes : List (Nat × Nat) := []
  gens : List (Nat × Nat) := []
  rootPort : Option Nat := none
  lodestar : Option Nat := none
  annSeq : Nat := 0
  syncSeq : Nat := 0
  nextUid : Nat := 0
  nextSeq : Nat := 0
  /-- For each SEQ of this generation, 1 + the time in ns at which its last use ended (R197). -/
  seqUsed : List (Nat × Nat) := []
  open_ : List CasOpen := []
  waiting : List CasMessage := []
  /-- The last flit of each message on its way, by uid: its SEQ and what it ends. -/
  leaving : List (Nat × Nat × CasDone) := []
  /-- Next entry of the send ring to take up. -/
  taken : Nat := 0
  /-- Per layer: the staging slot used last, and SOF_TIME of the newest complete picture. -/
  slotSel : List Nat := [0, 0, 0, 0, 0, 0, 0, 0]
  newest : List (Option Nat) := [none, none, none, none, none, none, none, none]
  pictures : List CasPicture := []
  deriving DecidableEq, Repr

/-- A lane among those LAN brings up: windows in a row below SPARE, below DOWN, and at or above SPARE in CHECK; READY from the partner; a training block has been found; what has been raised. -/
structure LanLane where
  below : Nat := 0
  down : Nat := 0
  good : Nat := 0
  ready : Bool := false
  seen : Bool := false
  low : Bool := false
  noSpare : Bool := false
  /-- A window has ended since FOM_MIN was last read. -/
  minHeld : Bool := false
  /-- The partner's last block was another group's; returns to DETECT by timeout (R223). -/
  alien : Bool := false
  returns : Nat := 0
  /-- The PRBS31 register and the last symbol of the training blocks sent (R220, R222). -/
  prbs : Nat := 0
  txSymbol : Nat := 0
  deriving DecidableEq, Repr

/-- What the PCIe endpoint reports of power states (R233): ASPM Support of Link Capabilities, L1 PM Substates, L0p. -/
structure PcieCaps where
  aspmSupport : BitVec 2 := 0#2
  l1Substates : Bool := false
  l0p : Bool := false
  deriving DecidableEq, Repr

/-- A request at MEM (R239, R250): the group and number of its client, its burst, what it writes, and the bits that will arrive in error.
A patrol scrub's read belongs to group 8 here: it is weighted apart from the rest of group 7. -/
structure MemReq where
  group : Nat
  client : Nat
  burst : Nat
  isWrite : Bool
  data : List Byte
  mask : Nat
  errors : List DqError
  deriving DecidableEq, Repr

/-- What a memory channel holds beside its registers. -/
structure MemChan where
  /-- Per physical rank: times in ns of its corrected bursts, whether their count is above THR, whether E_NO_SPARE_RANK was raised (R247). -/
  ce : List (List Nat) := [[], [], []]
  over_ : List Bool := [false, false, false]
  noSpare : List Bool := [false, false, false]
  /-- The spare failed its training or a migration. -/
  spareBad : Bool := false
  /-- Per rank: postponed refreshes, and the instant in ns from which the next is due (R242). -/
  postponed : List Nat := [0, 0, 0]
  nextRefresh : List Nat := [0, 0, 0]
  /-- The pseudo-random generator: its seed's draw, and the activations since (R244). -/
  seed : Nat := 0
  acts : Nat := 0
  /-- Per subchannel: the instant in ps up to which a burst occupies it. -/
  busy : List Nat := [0, 0]
  /-- Deficit round robin: the group whose turn it is, each group's deficit, and the client each served last (R250). -/
  turn : Nat := 0
  deficit : List Nat := [0, 0, 0, 0, 0, 0, 0, 0, 0]
  last : List Nat := [0, 0, 0, 0, 0, 0, 0, 0, 0]
  /-- Group, client and instant in ns of the clients' latest requests; ACTIVE of each group as last sampled (R250). -/
  recent : List (Nat × Nat × Nat) := []
  active : List Nat := [0, 0, 0, 0, 0, 0, 0, 0]
  deriving DecidableEq, Repr

/-- What the memory controller holds beside its registers. -/
structure MemState where
  chans : List MemChan := List.replicate 12 {}
  /-- Requests not served yet, in arrival order (R239). -/
  queue : List MemReq := []
  /-- Channels that wait to retrain, and the on-chip copy of the region that the one retraining uses (R246). -/
  retrain : List Nat := []
  saved : List Host.Cell := []
  /-- Ranks to migrate: channel and slot; the first runs once leave is granted (R248). The next region is due from `migNext`, in ns. -/
  migrate : List (Nat × Nat) := []
  migNext : Nat := 0
  /-- tREFI in ns (R242). -/
  trefi : Nat := 3900
  /-- The burst that patrol scrub reads next (R241). -/
  scrubAt : Nat := 0
  deriving DecidableEq, Repr

/-- What a compression job is for (R255): a cascade picture; a stripe of a recorded frame; a send stream's picture in a layer's store buffer; a descriptor of a host queue. -/
inductive CmpUser
  | cascade (pic : CasPicture)
  | record (port id stripe : Nat)
  | send (stream layer buf sof : Nat)
  | host (queue slot : Nat)
  deriving DecidableEq, Repr

/-- A job, numbered in the order of submission. A recording stripe carries its input, a host job its descriptor. -/
structure CmpJob where
  order : Nat
  user : CmpUser
  deflate : Bool := false
  bytes : List Byte := []
  /-- What a stripe's encoder is told. -/
  head : Option KpcHeader := none
  deriving DecidableEq, Repr

/-- A job on its lane: the static table it took at its start, the store buffer a decode fills. -/
structure CmpRun where
  job : CmpJob
  table : List Nat := []
  buf : Nat := 0
  deriving DecidableEq, Repr

/-- A host job's slot: its completion once it has one, with its vector (R265). -/
structure CmpSlot where
  queue : Nat
  slot : Nat
  done : Option (List Byte × Nat) := none
  deriving DecidableEq, Repr

/-- What the compression engine holds beside its registers. -/
structure CmpState where
  waiting : List CmpJob := []
  lanes : List (Option CmpRun) := List.replicate 10 none
  next : Nat := 0
  /-- The host queue whose turn is next (R255). -/
  turn : Nat := 0
  /-- Queues stopped on a bad descriptor (R269). -/
  stopped : List Nat := []
  slots : List CmpSlot := []
  /-- Pictures sent per send stream (PIC_SEQ of R203). -/
  picSeq : List Nat := [0, 0, 0, 0, 0, 0, 0, 0]
  deriving DecidableEq, Repr

/-- A frame on the recording path of a port (R256): its packed lines, the prefix once it is known, what each stripe reserved and gave. -/
structure RecFrame where
  port : Nat
  id : Nat
  sof : Nat
  w : Nat
  h : Nat
  depth : Nat
  stripes : Nat
  lines : List (List Byte) := []
  /-- Bytes reserved in the dirty buffer (R298) by the stripes submitted. -/
  reserved : Nat := 0
  /-- Streams of the stripes that have ended. -/
  outs : List (Nat × List Byte) := []
  deriving DecidableEq, Repr

/-- A dirty sector (R294, R298): its place in the volume, its 4 KiB of the dirty buffer, and its number in the order of writing. -/
structure DirtySector where
  v : Nat
  slot : Nat
  order : Nat
  deriving DecidableEq, Repr

/-- A namespace (R302). -/
structure RecNs where
  nsid : Nat
  start : Nat
  sectors : Nat
  attached : Bool
  formatting : Bool := false
  deriving DecidableEq, Repr

/-- What a media operation does for whom. -/
inductive RecWhy
  /-- Sector `i` of host command `cmd` is read. -/
  | read (cmd i : Nat)
  /-- Dirty sectors are written: their order numbers. -/
  | drain (orders : List Nat)
  /-- Zeros of host command `cmd`. -/
  | zeroes (cmd : Nat)
  /-- The parity of a row whose update was in flight at a reset (R301). -/
  | replay
  deriving DecidableEq, Repr

/-- A media operation on one row of a stripe (R302): the units it writes with their new data, what it has read, what it waits for. -/
structure RecOp where
  why : RecWhy
  stripe : Nat
  row : Nat
  /-- The unit a read is after. -/
  unit : Nat
  news : List (Nat × List Byte) := []
  /-- 0 reading, 1 the journal, 2 writing. -/
  phase : Nat := 0
  /-- Media commands outstanding: tag, port, and the member a read is of. -/
  wants : List (Nat × Nat × Nat) := []
  got : List (Nat × List Byte) := []
  deriving DecidableEq, Repr

/-- A submission queue of the NVMe function. -/
structure NvmeSq where
  id : Nat
  base : Nat
  size : Nat
  cq : Nat
  prio : Nat
  head : Nat := 0
  tail : Nat := 0
  /-- Entries aborted before they were fetched (R297). -/
  aborted : List Nat := []
  deriving DecidableEq, Repr

/-- A completion queue, with the completions that wait for room. -/
structure NvmeCq where
  id : Nat
  base : Nat
  size : Nat
  vector : Nat
  ien : Bool
  head : Nat := 0
  tail : Nat := 0
  phase : Bool := true
  waiting : List (List Byte) := []
  deriving DecidableEq, Repr

/-- A command REC has begun: who sent it, its sectors, what it has read, what is left. -/
structure NvmeCmd where
  id : Nat
  sq : Nat
  cid : Nat
  op : Nat
  nsid : Nat
  /-- First volume sector. -/
  v : Nat
  n : Nat
  prp1 : Nat
  prp2 : Nat
  left : Nat := 0
  data : List (Nat × List Byte) := []
  status : Nat := 0
  /-- Second half of a fused pair: its CID and PRPs. -/
  fused : Option (Nat × Nat × Nat) := none
  /-- Orders that must be on the media before it completes (R296). -/
  until_ : List Nat := []
  /-- Commands that must end before it completes (R296, R297). -/
  after : List Nat := []
  deriving DecidableEq, Repr

/-- A clip (R305). -/
structure RecClip where
  clipId : Nat
  port : Nat
  opened : Bool
  abandoned : Bool := false
  breakDuring : Bool := false
  first : Nat
  sectors : Nat := 0
  frames : Nat := 0
  lost : Nat := 0
  sofFirst : Nat
  sofLast : Nat
  taiOfs : Nat
  breaks0 : Nat
  breaks1 : Nat
  deriving DecidableEq, Repr

/-- The NVMe controller of function 1 (R289 to R297). -/
structure Nvme where
  cc : Word := 0#32
  /-- AQA, ASQ and ACQ as software wrote them (R289). -/
  aqa : Word := 0#32
  asq : Nat := 0
  acq : Nat := 0
  ready : Bool := false
  shst : Nat := 0
  sqs : List NvmeSq := []
  cqs : List NvmeCq := []
  /-- Feature values by identifier; an unlisted one holds its default. -/
  feats : List (Nat × Nat) := []
  /-- Vectors with interrupt coalescing disabled; completions held per vector. -/
  noCoalesce : List Nat := []
  heldInts : List (Nat × Nat) := []
  aers : List (Nat × Nat) := []
  events : List Nat := []
  masked : List Nat := []
  /-- The Critical Warning bits last looked at. -/
  warned : Nat := 0
  errors : List (List Byte) := []
  errCount : Nat := 0
  nextCmd : Nat := 0
  cmds : List NvmeCmd := []
  /-- Writes that wait for room (R298). -/
  writeWait : List NvmeCmd := []
  /-- Arbitration: commands left in the present queue's burst, its ID, and per class (high, medium, low) the commands left of its weight and the queue served last. -/
  burstLeft : Nat := 0
  burstQ : Nat := 0
  credits : List Nat := [0, 0, 0]
  lastQ : List Nat := [0, 0, 0, 0]
  deriving DecidableEq, Repr

/-- Sanitize and Format (R306): what runs, for whom, whether its leave is granted. -/
structure RecErase where
  /-- 0 nothing has run, 1 completed, 2 in progress, 3 failed. -/
  sanStatus : Nat := 0
  action : Nat := 0
  /-- Format: the command that waits, its namespace; SES. -/
  format : Option (Nat × Nat) := none
  ses : Nat := 0
  deriving DecidableEq, Repr

/-- What the recorder holds beside its registers. -/
structure RecState where
  frames : List RecFrame := []
  ns : List RecNs := []
  dirty : List DirtySector := []
  nextOrder : Nat := 0
  reserved : Nat := 0
  /-- Capacity of the SSD on each media port, in sectors; 0 with none. -/
  caps : List Nat := [0, 0, 0, 0, 0]
  /-- The copy or rebuild pointer, in stripes; members lost; a member that waits to be copied. -/
  pointer : Nat := 0
  lost : List Nat := []
  ops : List RecOp := []
  nextTag : Nat := 0
  /-- Rows (stripe, row) whose update the journal holds as in flight, to be replayed at the start (R301). -/
  torn : List (Nat × Nat) := []
  journal : Nat := 0
  clips : List RecClip := []
  nextClip : Nat := 0
  /-- START_TIME and STOP_TIME armed, per port. -/
  starts : List (Option Nat) := [none, none]
  stops : List (Option Nat) := [none, none]
  erase : RecErase := {}
  nvme : Nvme := {}
  /-- Extents that a flush cut short left undrained: volume sector, count (C2h, R300). -/
  lostExtents : List (Nat × Nat) := []
  /-- A hold-up flush runs: no fetch, no recording. -/
  flushing : Bool := false
  drained : Nat := 0
  lowRaised : Bool := false
  deriving DecidableEq, Repr

/-- A picture a coder context will code (R276, R277): 0 IDR, 1 P, 2 B, 3 an inserted skipped P; its ring buffer and what that buffer's header says. -/
structure CodItem where
  kind : Nat
  buf : Nat := 0
  id : Nat
  flags : Nat
  sof : Nat
  poc : Nat
  deriving DecidableEq, Repr

/-- A stream context (R273 to R283). -/
structure CodCtx where
  /-- The next picture is an IDR that starts a new coded video sequence. -/
  restart : Bool := true
  /-- The next buffer of the OT1 ring to take; buffers taken and not yet freed, oldest first, with whether each is coded. -/
  take : Nat := 0
  held : List (Nat × Bool) := []
  /-- Pictures to code, in coding order. -/
  gop : List CodItem := []
  lastId : Option Nat := none
  lastSof : Nat := 0
  /-- Display order of the next picture, since the last IDR. -/
  poc : Nat := 0
  /-- F of the last picture of this coded video sequence (R280). -/
  cpb : Option Nat := none
  /-- Pictures since the refresh cycle began (R278). -/
  cycle : Nat := 0
  deriving DecidableEq, Repr

/-- A block of a CTU and its motion vector into a reference, in quarter luma samples (R272, R279). -/
structure CodVector where
  ctu : Nat
  x : Nat
  y : Nat
  w : Nat
  h : Nat
  dx : Int
  dy : Int
  deriving DecidableEq, Repr

/-- The picture being coded (R280, R281): A(n), U, the next row, rows skipped. -/
structure CodPic where
  ctx : Fin 4
  item : CodItem
  fresh : Bool
  a : Nat
  u : Nat
  row : Nat := 0
  skipped : Nat := 0
  stalled : Bool := false
  cycleStart : Bool := false
  /-- Its place in a refresh cycle (R278), and the vectors chosen so far, by row (R279). -/
  sweep : Option Nat := none
  vectors : List (List CodVector) := []
  deriving DecidableEq, Repr

/-- What the coder holds beside its registers. -/
structure CodState where
  ctxs : List CodCtx := [{}, {}, {}, {}]
  cur : Option CodPic := none
  lastCtx : Option Nat := none
  deriving DecidableEq, Repr

/-- A Meridian-timed setpoint (R321). -/
structure MotSp where
  at16 : Nat
  pos : Nat
  vel : F32
  velMode : Bool
  deriving DecidableEq, Repr

/-- What an axis holds beside its registers (R309 to R327). -/
structure MotAxis where
  queue : List MotSp := []
  /-- SP_TIME of the last entry pushed. -/
  lastPush : Option Nat := none
  /-- The entry in force since the axis entered RUN. -/
  entry : Option MotSp := none
  posCmd : Int := 0
  velCmd : F32 := 0#32
  iqCmd : F32 := 0#32
  /-- Integrators of the d, q and velocity loops. -/
  intD : F32 := 0#32
  intQ : F32 := 0#32
  intV : F32 := 0#32
  /-- MOT_EN is high; the PWM outputs switch; offsets are being averaged: counts and sums of U and V. -/
  en : Bool := false
  pwmOn : Bool := false
  cal : Option (Nat × Int × Nat × Int) := none
  /-- HOLD has been entered and the brake is still to be applied. -/
  brakeDue : Bool := false
  /-- POS at the last velocity tick; the sign of the last counted movement. -/
  posTick : Nat := 0
  lastDir : Option Bool := none
  qa : Bool := false
  qb : Bool := false
  illegal : Nat := 0
  /-- Feedback found bad: quadrature, sin/cos, serial. -/
  badQuad : Bool := false
  badSin : Bool := false
  badSerial : Bool := false
  sinS : Int := 0
  sinC : Int := 0
  /-- The last sin/cos position within a period, and when its sample was taken. -/
  sinIdx : Option Nat := none
  sinAt : Nat := 0
  serPrev : Option Nat := none
  serFails : Nat := 0
  serAt : Nat := 0
  /-- MOT_FLT_N is low; inputs without transitions. -/
  gateLow : Bool := false
  dsmLost : List Nat := []
  /-- The last filter outputs of U and V, the currents they give, and |i_meas − i_pred| of the last samples, newest first; the observer's angle. -/
  su : Int := 0
  sv : Int := 0
  iu : F32 := 0#32
  iv : F32 := 0#32
  resid : List F32 := []
  obsAngle : F32 := 0#32
  /-- Angles of re-acquisition pulses, newest first, in 2^-16 electrical turns; a rotor loss not yet re-acquired. -/
  angles : List Nat := []
  reacq : Bool := false
  /-- Alignment: 0 waiting, 1 driving angle 0, 2 driving 90°; P0. -/
  phase : Nat := 0
  p0 : Nat := 0
  /-- When VOLT_LIMITED rose, when CONF fell below CONF_MIN (R313, R323); when the phase of an alignment began, the inverter opened on rotor
  loss, HOLD was entered (R324 to R326). -/
  limitedAt : Option Nat := none
  doubtAt : Option Nat := none
  phaseAt : Nat := 0
  openedAt : Nat := 0
  heldAt : Nat := 0
  /-- The side of the travel limits the position command is clamped to. -/
  soft : Option Bool := none
  armed : Bool := false
  deriving DecidableEq, Repr

/-- A sinc3 filter of a ΔΣ input (R311): integrators, combs, clocks since its last output; the input's last bit, and clocks without a transition. -/
structure Sinc where
  i1 : Int := 0
  i2 : Int := 0
  i3 : Int := 0
  c1 : Int := 0
  c2 : Int := 0
  c3 : Int := 0
  count : Nat := 0
  last : Bool := false
  still : Nat := 0
  deriving DecidableEq, Repr

/-- An audio block being filled (R336). -/
structure AudBlock where
  first : Nat
  frames : Nat := 0
  bytes : List Byte := []
  flags : Nat := 0
  /-- There was room for it when it began. -/
  fits : Bool
  deriving DecidableEq, Repr

/-- What an audio port holds beside its registers (R332 to R337). -/
structure AudPort where
  /-- START, as applied at ARM. -/
  start : Nat := 0
  /-- The first frame has its index. -/
  begun : Bool := false
  last : List Word := []
  block : Option AudBlock := none
  /-- Repeats or drops to flag in the block that is next, blocks lost, a late start to flag. -/
  nextFlags : Nat := 0
  /-- Sum of e in 2^-16 ns and frames since the last DCO update. -/
  sumE : Int := 0
  countE : Nat := 0
  deriving DecidableEq, Repr

/-- What a two-wire bus holds beside its registers (R338 to R343). -/
structure TwiBus where
  /-- The transfer in hand: address, bytes to write, how many to read. -/
  addr : Nat := 0
  write : List Byte := []
  read : Nat := 0
  retries : Nat := 0
  retryDue : Bool := false
  /-- When a retry may begin (R342). -/
  retryAt : Nat := 0
  /-- A GO waits for the bus; a bus clear comes before the next transfer; SCL is stuck low. -/
  goWaits : Bool := false
  clearFirst : Bool := false
  stuck : Bool := false
  rx : List Byte := []
  tx : List Byte := []
  /-- The target stretches: bytes received that RX has no room for, bytes still to be sent. -/
  rxWait : List Byte := []
  txWait : Nat := 0
  deriving DecidableEq, Repr

/-- Where the device stands between resets (R346 to R350): the core runs; a warm reset before its core reset; a cold reset
that waits for REC's flush; the core held in reset; tripped, every core clock gated (R380). -/
inductive BootPhase
  | running | quiesce | flush | held | tripped
  deriving DecidableEq, Repr

/-- A boot record (R358); `settings` has bit 0 for A and bit 1 for B. -/
structure BootRec where
  seq : Nat
  next : Nat
  prev : Nat
  trial : Bool := false
  incompA : Bool := false
  incompB : Bool := false
  settings : Nat := 0
  fallback : Nat := 0
  deriving DecidableEq, Repr

/-- The firmware body in Binnacle SRAM (R359): slot and BODY_HASH as the retention registers hold them, and what its header says. -/
structure FwImage where
  slot : Nat
  version : Nat
  schema : Nat
  schemaMin : Nat
  secVer : Nat
  raises : Bool
  hash : List Byte
  deriving DecidableEq, Repr

/-- A flash operation that runs (R364): 0 read, 1 program, 2 erase; its address; the bytes to program. -/
structure FlashOp where
  op : Nat
  addr : Nat
  data : List Byte := []
  deriving DecidableEq, Repr

/-- A measurement of the hold-up store (R417), in µV: none, the charger is off, the load is on with V_OC and V1 taken. -/
inductive HoldTest
  | none
  | settling
  | loaded (vOc v1 : Nat)
  deriving DecidableEq, Repr

/-- A row of an SRAM macro with corrected errors (R389): their times in ns. -/
structure SramRow where
  macro_ : Nat
  row : Nat
  times : List Nat
  deriving DecidableEq, Repr

/-- A mark of the Log book's spare state (R388, R391): resource kind, page, replaced unit, spare. -/
structure SpareMark where
  kind : Nat
  page : Nat
  unit : Nat
  spare : Nat
  deriving DecidableEq, Repr

/-- What the platform block holds beside its registers (R346 to R397, R417). -/
structure PltState where
  phase : BootPhase := .running
  /-- The reset that runs, or the last one, is cold. -/
  cold : Bool := true
  /-- A start runs that has neither succeeded nor failed (R354). -/
  inStart : Bool := true
  /-- The start of slot `lastSlot` failed (R354, R360). -/
  prevFailed : Bool := false
  lastSlot : Nat := 0
  /-- Times in ns: RST_N released; the watchdogs kicked (R346). -/
  releasedAt : Nat := 0
  kickBin : Nat := 0
  kickHost : Nat := 0
  /-- Dead-reckoning mode has been entered and not left (R355, R356). -/
  deadReckoning : Bool := false
  /-- Fuses (R359): revoked key indices, the security floor. -/
  revoked : List Nat := []
  floor : Nat := 0
  /-- The firmware flash: bytes that differ from 0xFF (R357). -/
  flash : List Host.Cell := []
  flashOp : Option FlashOp := none
  /-- Boot records on their way to flash, oldest first (R358). -/
  bootQueue : List BootRec := []
  image : Option FwImage := none
  /-- The Chart active before the reset, and its SCHEMA (R362). -/
  chart : Nat := 0
  chartKnown : Bool := false
  /-- THERMTRIP_N is latched low; the reading left no time for the flush (R380). -/
  trip : Bool := false
  /-- Sensors (R376): out-of-range readings in a row; when LEVEL last changed, in ns (R378). -/
  outOfRange : List Nat := List.replicate 32 0
  levelAt : Option Nat := none
  /-- PLT_THERM_PEAK holds a reading taken since it was last read. -/
  peakHeld : Bool := false
  /-- Supervisor (R393): a loss whose flush has not ended; an outcome to record at the next cold start; the loss instant; E when last measured (R394). -/
  lossActive : Bool := false
  lossLogged : Bool := true
  /-- A flush cut short has been reported at a start (R300, R394). -/
  cutReported : Bool := true
  lossAt : Nat := 0
  lastEnergy : Nat := 0
  test : HoldTest := .none
  /-- SRAM (R389): rows with errors; spares used per macro (rows, columns); macros that reported E_SRAM_NO_SPARE; rows to repair at the next cold start. -/
  rows : List SramRow := []
  rowsUsed : List (Nat × Nat) := []
  columnUsed : List Nat := []
  noSpare : List Nat := []
  /-- What the newest complete snapshot and the records after it say (R388, R391). -/
  marks : List SpareMark := []
  /-- Records that the Log book holds, per SOURCE × 256 + INSTANCE (R390). -/
  srcSeq : List (Nat × Nat) := []
  /-- The Binnacle is halted through JTAG (R405). -/
  halted : Bool := false
  deriving DecidableEq, Repr

/-- A sampled operation that has not completed (R403): its class and key, the record's KIND, SOURCE, QUEUE, TAG and ADDR, its start as a Meridian time and in ns. -/
structure PsOpen where
  cls : Nat
  key : Nat
  kind : Nat
  source : Nat
  queue : Nat
  tag : Nat
  addr : Nat
  at16 : Nat
  atNs : Nat
  deriving DecidableEq, Repr

/-- A snapshot record being written (R401): its bytes, and the snapshot values for the user page. -/
structure CntRecord where
  bytes : List Byte
  at16 : Nat
  values : List (Nat × List Nat)
  deriving DecidableEq, Repr

/-- What the counter block holds beside its registers (R398 to R403). -/
structure CntState where
  /-- The index of the next snapshot instant. -/
  next : Nat := 0
  writing : Option CntRecord := none
  skipped : Nat := 0
  reconfigured : Bool := false
  /-- MER_EPOCH_BREAKS at the last record. -/
  breaks : Nat := 0
  /-- The user page (R402): TIME, USEQ and the counters of each block. -/
  userTime : Nat := 0
  useq : Nat := 0
  user : List (Nat × List Nat) := []
  /-- Signals of enabled counters as last seen, by the address of the counter's SEL register. -/
  seen : List (Nat × Nat) := []
  /-- Precise sampling: operations counted since the enable, per class; sampled operations that run. -/
  counts : List Nat := [0, 0, 0]
  open_ : List PsOpen := []
  /-- 4,096 samples are unread: WR has come round to RD. -/
  psFull : Bool := false
  deriving DecidableEq, Repr

/-- What the test block holds beside its registers (R405, R406): the token under check, the JTAG instruction, the boundary latches. -/
structure DbgState where
  token : Option (List Byte × Nat) := none
  /-- 0 BYPASS, 1 IDCODE, 2 SAMPLE/PRELOAD, 3 EXTEST. -/
  jtag : Nat := 1
  boundary : List Bool := []
  deriving DecidableEq, Repr

/-- What the device sends out of itself, newest first in the state's `out`. -/
inductive Emit
  /-- An MSI-X message on a vector (R40). -/
  | msix (vector : Nat)
  /-- A codeword to a sensor-head bridge on a lane of a port, 4 the spare (R48, R49). -/
  | bridge (port lane : Nat) (codeword : BitVec 5440)
  /-- A codeword on a tile port's forward lane (R164). -/
  | tile (port : Nat) (codeword : BitVec 5440)
  /-- A flit on a cascade port (R188): its 64 bytes. -/
  | flit (port : Nat) (bytes : List Byte)
  /-- A flit whose payload's layout the spec does not give: TYPE, and the values it carries (TOPO, PDELAY, LANEMAP). -/
  | flitFields (port type : Nat) (header : List Word) (values : List Nat)
  /-- The selector of a tile spare: ball TSP_SEL (R230). -/
  | tspSel (spare : Nat) (level : Bool)
  /-- The levels of a training block on a lane (R220, R222). -/
  | laneSymbols (page lane : Nat) (levels : List Int)
  /-- PCIe recovery and re-equalisation of a lane (R229). -/
  | pcieRecovery (page lane : Nat)
  /-- A burst MEM returns to a client, and whether it is marked poisoned (R240). -/
  | memData (burst : Nat) (bytes : List Byte) (poisoned : Bool)
  /-- A burst on a subchannel, its row closed after it (R239). -/
  | dram (channel sub rank bank row column : Nat) (write : Bool)
  /-- An all-bank refresh of a rank (R242). -/
  | refresh (channel rank : Nat)
  /-- A directed refresh management command for a row's neighbours, or a row activated and precharged in its place (R244). -/
  | refreshNeighbours (channel rank bank row : Nat)
  | activate (channel rank bank row : Nat)
  /-- A 4 KiB region of a rank copied to another (R248). -/
  | rankCopy (channel src dst region : Nat)
  /-- A step of the training of all channels: 0 ZQ calibration, 1 CS and CA, 2 write levelling, 3 read gating, 4 DQ centring (R245). -/
  | memTraining (step : Nat)
  /-- An MSI-X message of function 1 (R289). -/
  | msix1 (vector : Nat)
  /-- A read or a write of one sector that REC issues to an SSD, with its tag (R295, R302). -/
  | mediaRead (port lba tag : Nat)
  | mediaWrite (port lba tag : Nat) (data : List Byte)
  /-- A journal record to a media port (R301): its number, and what it logs: 0 stripe update, 1 allocation, 2 clips, 3 dirty extents, 4 checkpoint, 5 CLEAN. -/
  | journal (port record kind tag : Nat) (values : List Nat)
  /-- A Deallocate hint for a whole stripe, an erase or overwrite of a media port, a stripe copied to the spare. -/
  | mediaHint (port stripe : Nat)
  | mediaErase (port action : Nat)
  /-- Zeros written over volume sectors by Format NVM (R306). -/
  | mediaZero (first sectors : Nat)
  | mediaCopy (src dst stripe : Nat)
  /-- Motion outputs of an axis (R310): MOT_EN, MOT_BRK, the carrier period and each phase's high-side and low-side pulse in CK_MOT cycles, none while the inverter is open; a zero-voltage pulse; a read of its serial encoder begins (R319). -/
  | motEnable (axis : Nat) (high : Bool)
  | motBrake (axis : Nat) (high : Bool)
  | motPwm (axis period : Nat) (pulses : List (Nat × Nat))
  | motZeroPulse (axis us : Nat)
  | motSerialRead (axis : Nat)
  /-- A leader port drives BCLK at CK_AUD ÷ DIV, with its first FS edge at an instant in 2^-16 ns; its BCLK and FS stop low (R331, R332, R337). -/
  | audClock (port div first : Nat)
  | audQuiet (port : Nat)
  /-- A transfer on a two-wire bus begins: address, bytes to write, how many to read (R342); a bus clear (R340); a byte sent as target (R343). -/
  | twiStart (bus addr : Nat) (bytes : List Byte) (read : Nat)
  | twiClear (bus : Nat)
  | twiByte (bus : Nat) (byte : Byte)
  /-- What a register read returns to its requester (R38). -/
  | readData (who : Requester) (value : Word)
  /-- The PWM outputs of an axis take SAFE_PWM (R327). -/
  | motSafe (axis : Nat) (lowSides : Bool)
  /-- RST_N (R350) and THERMTRIP_N (R380): driven low, or released. -/
  | rstN (low : Bool)
  | thermTrip
  /-- HOLD_CHG_N driven low or high; HOLD_DIS high or low (R417). -/
  | holdCharge (low : Bool)
  | holdLoad (high : Bool)
  /-- TDO of a JTAG scan (R405); the balls that EXTEST drives; the Binnacle runs one instruction. -/
  | tdo (bits : List Bool)
  | boundary (bits : List Bool)
  | binnacleStep
  deriving DecidableEq, Repr

end Sys2Proof.Machine
end

