-- ==== Sys2Proof/Machine/State.lean ====
section
/-! DEFINITION. The state of the device, and what it holds right after reset. -/

namespace Sys2Proof.Machine

/-- Why the machine stops. -/
inductive Fault
  /-- Raised by no command: every command of the table has an effect. Safe. -/
  | unreachable
  deriving DecidableEq, Repr

/-- Why an instruction has no meaning. -/
inductive Refusal
  /-- Raised by an arm of `exec` whose command is not modelled; safe. -/
  | notModelled (mnemonic : String)
  deriving DecidableEq, Repr

/-- The device, with the queue of commands that wait for it. -/
structure State where
  /-- The ordering code fused into the part (R1, R2). -/
  code : OrderingCode := .full
  /-- Nanoseconds since power-on, for intervals that are not Meridian time. -/
  now : Nat := 0
  /-- The Meridian counter, in units of 2^-48 ns (R208). -/
  meridian : Nat := 0
  /-- Register words by BAR0 byte offset; an unlisted word holds its Cold value (R9, R27). For an RW-S field this is the staged copy (R36). -/
  regs : List (Nat × Word) := []
  /-- The RW-S words in use (R36); an unlisted word holds its Cold value. -/
  inUse : List (Nat × Word) := []
  /-- Lower words of multi-word quantities written since the last apply (R38). -/
  held : List (Nat × Word) := []
  /-- The latched higher words, per requester (R38). -/
  latch : List (Nat × Word) := []
  /-- Block codes whose block reset runs (R35). -/
  resetting : List Nat := []
  /-- A warm reset has begun: writes that arrive are discarded (R43). -/
  warmBegun : Bool := false
  /-- The boot ROM has released the register fabric; until then only PLT page 0 is served (R351). -/
  fabricOpen : Bool := true
  /-- MSI-X vectors unmasked, and vectors with their pending bit set (R40). -/
  msixOn : List Nat := []
  msixPending : List Nat := []
  /-- How many free values have been drawn: the model's own field. -/
  drawn : Nat := 0
  /-- Device memory, host memory: bytes that differ from zero. -/
  mem : List Host.Cell := []
  hostMem : List Host.Cell := []
  /-- 64-byte bursts of device memory that read as poisoned (R240). -/
  poison : List Nat := []
  /-- Power-leave requests waiting, in queue order, and grants held, newest first (R370). -/
  leaveQueue : List LeaveWait := []
  leaveGrants : List LeaveGrant := []
  /-- The Log-book queue, oldest first; events lost since the queue filled, with their earliest and latest times (R391). -/
  logQueue : List LogEvent := []
  logLost : Nat := 0
  logLostFirst : Nat := 0
  logLostLast : Nat := 0
  siu : List SiuPort := [{}, {}]
  clr : List ClrPipe := [{}, {}]
  clrSpare : ClrSpare := {}
  cnv : CnvState := {}
  pho : PhoState := {}
  tlk : List TlkPort := List.replicate 16 {}
  /-- The last launch ID that TLK sent on any port (R384). -/
  tlkLastId : Nat := 0
  /-- The start that runs is a warm one (R179, R342). -/
  warmStart : Bool := false
  cas : CasState := {}
  lan : List (List LanLane) := [List.replicate 10 {}, List.replicate 18 {}, List.replicate 18 {}, List.replicate 8 {}, List.replicate 20 {}]
  /-- A spare is on its way back to standby, per page and spare (R232). -/
  lanRelease : List (Nat × Nat) := []
  /-- The endpoint's report of power states: it never changes (R233). -/
  pcie : PcieCaps := {}
  memCtl : MemState := {}
  cmp : CmpState := {}
  recorder : RecState := {}
  cod : CodState := {}
  mot : List MotAxis := List.replicate 8 {}
  /-- The filters of the 36 ΔΣ inputs: U, V, S, C of each axis, then the four buses (R311). -/
  sinc : List Sinc := List.replicate 36 {}
  aud : List AudPort := [{}, {}, {}, {}]
  /-- DCO updates in a row with |mean e| ≤ 100 ns (R334). -/
  audGood : Nat := 0
  twi : List TwiBus := [{}, {}, {}, {}]
  plt : PltState := {}
  cnt : CntState := {}
  dbg : DbgState := {}
  /-- Units stopped whatever their pages say: 0 none; 1 those a warm reset stops (R347); 2 all but PLT, MEM and REC (R348, R380, R393). -/
  stopped : Nat := 0
  /-- MER_TAI_SET waits for a PPS_IN edge (R212). -/
  taiPending : Bool := false
  /-- T_LAST: the Meridian time of the newest committed Log-book record, in 2^-16 ns (R385). -/
  tLast : Nat := 0
  /-- What the device has sent out, newest first. -/
  out : List Emit := []
  /-- The commands that wait, first in, first out. -/
  pending : List Instr := []
  deriving DecidableEq, Repr

/-- The machine right after reset: a first power-on's cold reset (R346), GEN of the cascade at 1 (R196), every other register at its Cold value. -/
def State.reset : State := { regs := [(R.PLT_RESET_CAUSE, 0x01000001#32), (R.CAS_ID, 0x4000#32)] }

end Sys2Proof.Machine
end

