-- ==== Sys2Proof/Machine/Ops.lean ====
section
/-! DEFINITION. The named operations over registers and memory that every meaning is written with. -/

namespace Sys2Proof.Machine

/-! ### Pages (R27, R28, R31) -/

/-- BAR0 offset of page `n`, counted over the blocks: page p of block code c is page (c - 1) × 16 + p. -/
def pageBase (n : Nat) : Nat := n * 0x1000

/-- The page an offset lies on. -/
def pageOf (addr : Nat) : Nat := addr / 0x1000

/-- The block code of a page. -/
def blockOfPage (n : Nat) : Nat := n / 16 + 1

/-- The first page of a block. -/
def firstPage (code : Nat) : Nat := (code - 1) * 16

/-- The number of pages a block uses, minus 1 (PG_CAPS.PAGES of each block's chapter). -/
def blockPagesM1 : Nat → Nat
  | 1 => 4 | 2 => 1 | 3 => 7 | 4 => 3 | 5 => 1 | 6 => 15 | 7 => 4 | 8 => 1 | 9 => 4 | 10 => 12
  | 11 => 1 | 12 => 4 | 13 => 2 | 14 => 8 | 15 => 4 | 16 => 3 | 17 => 10 | 18 => 0 | _ => 0

/-- A unit fused off on this ordering code (R2). -/
def fusedBlock (code : OrderingCode) (b : Nat) : Bool :=
  match code with
  | .wall => b == 2 || b == 3 || b == 12 || b == 14
  | _ => false

/-- A page its block uses on this ordering code (R4, R28, R184): the other pages read 0 and take no write. -/
def pageUsed (code : OrderingCode) (n : Nat) : Bool :=
  let b := blockOfPage n
  decide (n < 288) && decide (n % 16 ≤ blockPagesM1 b) && !fusedBlock code b &&
    !(code == .camera && b == 6 && decide (3 < n % 16))

/-! ### Register descriptors -/

/-- The word index, within its row, that `off` on page `p` falls on. -/
def regMatch (r : RegDesc) (p off : Nat) : Option Nat :=
  if r.plo ≤ p ∧ p ≤ r.phi ∧ r.off ≤ off then
    let d := off - r.off
    let i := d / r.stride
    let m := d % r.stride
    let j := m / r.stride2
    let w := m % r.stride2
    if i < r.cnt ∧ j < r.cnt2 ∧ w % 4 = 0 ∧ w / 4 < r.words then some (w / 4) else none
  else none

/-- The row and word index of `off` on page `p`, in a table. -/
def findReg (p off : Nat) : List RegDesc → Option (RegDesc × Nat)
  | [] => none
  | r :: rs =>
    match regMatch r p off with
    | some w => some (r, w)
    | none => findReg p off rs

/-- The row and word index of a BAR0 offset. -/
def regAt (addr : Nat) : Option (RegDesc × Nat) :=
  let n := pageOf addr
  findReg (n % 16) (addr % 0x1000) (regTable (blockOfPage n))

/-- The Cold value of a one-word row (R9): its fields' cold values. -/
def coldOfFields (fs : List FieldDesc) : Nat := fs.foldl (fun a f => a + f.cold * 2 ^ f.lo) 0

/-- The Cold value of a register word: the page header's, else the row's. PG_STATUS.IDLE is 1 but on PLT pages. -/
def coldWord (addr : Nat) : Word :=
  if addr % 0x1000 = 0x00C then w32 (if pageOf addr < 16 then 0 else 1)
  else if addr % 0x1000 < 0x040 then 0#32
  else
    match regAt addr with
    | some (r, 0) => if r.words = 1 then w32 (coldOfFields r.fields) else 0#32
    | _ => 0#32

/-! ### Raw access to the stored words -/

/-- The stored word (for an RW-S field, the staged copy). -/
def rget (s : State) (addr : Nat) : Word := smGet (coldWord addr) s.regs addr

/-- Store a word. -/
def rset (addr : Nat) (v : Word) (s : State) : State :=
  { s with regs := smSet (coldWord addr) s.regs addr v }

/-- Field [hi:lo] of a stored word. -/
def rfld (s : State) (addr hi lo : Nat) : Nat := getBits (rget s addr) hi lo

/-- Store field [hi:lo] of a word. -/
def rsetFld (addr hi lo v : Nat) (s : State) : State := rset addr (setBits (rget s addr) hi lo v) s

/-- Bit `k` of a stored word. -/
def rbit (s : State) (addr k : Nat) : Bool := bitAt (rget s addr) k

/-- Store bit `k` of a word. -/
def rsetBit (addr k : Nat) (b : Bool) (s : State) : State := rset addr (setBitAt (rget s addr) k b) s

/-- Dead-reckoning mode is on (R355). -/
def deadReckoning (s : State) : Bool := rbit s R.PLT_DR_CTRL 0

/-- A page that is used: the ordering code has it, on a MEM channel page the channel is fitted (R252), and in Dead-reckoning mode it is PLT's or LAN's (R355). -/
def pageThere (s : State) (n : Nat) : Bool :=
  pageUsed s.code n && !(decide (145 ≤ n ∧ n ≤ 156) && decide (rfld s R.MEM_CFG 3 0 ≤ n - 145)) &&
    (!deadReckoning s || blockOfPage n == 1 || blockOfPage n == 9)

/-- A stored word as a number. -/
def rnat (s : State) (addr : Nat) : Nat := (rget s addr).toNat

/-- A 64-bit quantity over two words (R38). -/
def rnat2 (s : State) (addr : Nat) : Nat := rnat s addr + rnat s (addr + 4) * 2 ^ 32

/-- Store a number over two words. -/
def rset2 (addr v : Nat) (s : State) : State := rset (addr + 4) (w32 (v / 2 ^ 32)) (rset addr (w32 v) s)

/-- Add to a counter that wraps modulo 2^32. -/
def rinc (addr k : Nat) (s : State) : State := rset addr (w32 (rnat s addr + k)) s

/-- Add to a counter field that wraps modulo its width. -/
def rincFld (addr hi lo k : Nat) (s : State) : State := rsetFld addr hi lo (rfld s addr hi lo + k) s

/-- The RW-S word in use (R36). -/
def uget (s : State) (addr : Nat) : Word := smGet (coldWord addr) s.inUse addr

/-- A field in use. -/
def ufld (s : State) (addr hi lo : Nat) : Nat := getBits (uget s addr) hi lo

def ubit (s : State) (addr k : Nat) : Bool := bitAt (uget s addr) k

def unat (s : State) (addr : Nat) : Nat := (uget s addr).toNat

/-- A 64-bit quantity in use. -/
def unat2 (s : State) (addr : Nat) : Nat := unat s addr + unat s (addr + 4) * 2 ^ 32

/-- Put a word in use. -/
def uset (addr : Nat) (v : Word) (s : State) : State :=
  { s with inUse := smSet (coldWord addr) s.inUse addr v }

/-! ### Page headers (R31) -/

def hdrCtrl (n : Nat) : Nat := pageBase n + 0x008
def hdrStatus (n : Nat) : Nat := pageBase n + 0x00C
def hdrIntRaw (n : Nat) : Nat := pageBase n + 0x010
def hdrIntEn (n : Nat) : Nat := pageBase n + 0x014
def hdrIntStat (n : Nat) : Nat := pageBase n + 0x018
def hdrErrCode (n : Nat) : Nat := pageBase n + 0x020
def hdrErrInfo (n : Nat) : Nat := pageBase n + 0x024
def hdrShadow (n : Nat) : Nat := pageBase n + 0x028
def hdrSeq (n : Nat) : Nat := pageBase n + 0x02C

/-- Page `p` of block `c`, as a page number. -/
def pg (c p : Nat) : Nat := (c - 1) * 16 + p

def enabled (s : State) (n : Nat) : Bool := rbit s (hdrCtrl n) 0
def idleReq (s : State) (n : Nat) : Bool := rbit s (hdrCtrl n) 1
def isIdle (s : State) (n : Nat) : Bool := rbit s (hdrStatus n) 0
def commitPending (s : State) (n : Nat) : Bool := rbit s (hdrShadow n) 1

/-! ### Memory (R27, R76: least significant byte first) -/

/-- A byte of device memory (`host` false) or of host memory. Unwritten bytes read as 0. -/
def memByte (s : State) (host : Bool) (a : Nat) : Byte := smGet 0#8 (if host then s.hostMem else s.mem) a

/-- The canonical form of a memory: addresses strictly rising, no entry equal to 0. -/
def Memory.wf (m : List Host.Cell) : Bool := smCanon (fun _ => 0#8) m

/-- Write one byte. -/
def memPut (host : Bool) (a : Nat) (b : Byte) (s : State) : State :=
  if host then { s with hostMem := smSet 0#8 s.hostMem a b } else { s with mem := smSet 0#8 s.mem a b }

/-- Read `k` bytes from `a` upwards. -/
def memRead (s : State) (host : Bool) : Nat → Nat → List Byte
  | 0, _ => []
  | k + 1, a => memByte s host a :: memRead s host k (a + 1)

/-- Read `k` bytes as a number, least significant byte first. -/
def memNat (s : State) (host : Bool) (k a : Nat) : Nat := leNat (memRead s host k a)

/-- Bytes stored from `a` upwards. -/
def memPuts (host : Bool) (a : Nat) : List Byte → State → State
  | [], s => s
  | b :: bs, s => memPuts host (a + 1) bs (memPut host a b s)

/-- The bursts that `k` bytes at `a` cover whole are no longer poisoned (R240). -/
def memClean (host : Bool) (a k : Nat) (s : State) : State :=
  if host then s else { s with poison := s.poison.filter fun b => !decide (a ≤ 64 * b ∧ 64 * b + 64 ≤ a + k) }

/-- Bytes out of a ring, wrapping past its end. -/
def ringRead (s : State) (host : Bool) (base size : Nat) : Nat → Nat → List Byte
  | 0, _ => []
  | k + 1, off => memByte s host (base + (if size = 0 then off else off % size)) :: ringRead s host base size k (off + 1)

/-- Whether a read of `k` bytes at `a` of device memory meets a poisoned burst (R240). -/
def memPoisoned (s : State) (host : Bool) (k a : Nat) : Bool :=
  !host && decide (0 < k) && s.poison.any fun b => decide (a / 64 ≤ b ∧ b ≤ (a + k - 1) / 64)

/-! ### What goes out -/

/-- Send something out of the device. -/
def emit (e : Emit) (s : State) : State := { s with out := e :: s.out }

/-- Draw the next free value's index. -/
def draw (s : State) : State := { s with drawn := s.drawn + 1 }

/-! ### Indexed blocks -/

def siuAt (s : State) (p : Nat) : SiuPort := nth {} s.siu p
def setSiu (p : Nat) (v : SiuPort) (s : State) : State := { s with siu := setNth s.siu p v }
def clrAt (s : State) (p : Nat) : ClrPipe := nth {} s.clr p
def setClr (p : Nat) (v : ClrPipe) (s : State) : State := { s with clr := setNth s.clr p v }

/-! ### Meridian time (R206) -/

/-- The Meridian time now, in units of 2^-16 ns. -/
def merNow (s : State) : Nat := s.meridian / 2 ^ 32

/-- The three words of a Meridian long time: NS; SEC[31:0]; SEC[47:32] with FRAC above. -/
def longWords (t : Nat) : Word × Word × Word :=
  let ns := t / 65536
  let sec := ns / 1000000000
  (w32 (ns % 1000000000), w32 sec, w32 (sec / 2 ^ 32 % 65536 + t % 65536 * 65536))

/-- A Meridian long time from its three words. -/
def ofLongWords (a b c : Word) : Nat :=
  ((b.toNat + c.toNat % 65536 * 2 ^ 32) * 1000000000 + a.toNat) * 65536 + c.toNat / 65536

/-- The long time a three-word register holds. -/
def rlong (s : State) (addr : Nat) : Nat := ofLongWords (rget s addr) (rget s (addr + 4)) (rget s (addr + 8))

/-- The long time a three-word register has in use. -/
def ulong (s : State) (addr : Nat) : Nat := ofLongWords (uget s addr) (uget s (addr + 4)) (uget s (addr + 8))

/-- Store a long time over three words. -/
def rsetLong (addr t : Nat) (s : State) : State :=
  let (a, b, c) := longWords t
  rset (addr + 8) c (rset (addr + 4) b (rset addr a s))

/-- The 12 bytes of a long time. -/
def longBytes (t : Nat) : List Byte :=
  let (a, b, c) := longWords t
  leBytes 4 a.toNat ++ leBytes 4 b.toNat ++ leBytes 4 c.toNat

end Sys2Proof.Machine
end

