-- ==== Sys2Proof/Machine/ClrMath.lean ====
section
/-! DEFINITION. The pixel arithmetic of the colour pipelines, to the bit: raw stages (R78 to R90), developed stages (R99 to R108), resampling (R111) and the output formats (R112, R116 to R120). `u` is the map of register words in use; `p` the pipeline. -/

namespace Sys2Proof.Machine

/-! ### CFA (R78, R79) -/

def cfaPX (u : Nat → Word) (p : Nat) : Nat := getBits (u (R.CLR_CFA_SIZE p)) 2 0 + 1
def cfaPY (u : Nat → Word) (p : Nat) : Nat := getBits (u (R.CLR_CFA_SIZE p)) 6 4 + 1

/-- The colour ID of site (x, y). -/
def cfaId (u : Nat → Word) (p x y : Nat) : Nat :=
  let k := x % cfaPX u p
  getBits (u (R.CLR_CFA_ROW p (y % cfaPY u p))) (3 * k + 2) (3 * k)

/-- The channel of an ID: 0 R, 1 G, 2 B, 3 mono. -/
def cfaCh (u : Nat → Word) (p id : Nat) : Nat := getBits (u (R.CLR_CH_MAP p)) (2 * id + 1) (2 * id)

/-- The channels used within one period. -/
def cfaChannels (u : Nat → Word) (p : Nat) : List Nat :=
  (upto (cfaPY u p)).flatMap fun y => (upto (cfaPX u p)).map fun x => cfaCh u p (cfaId u p x y)

/-- The CFA rule of R79: all mono, or R, G and B all present and no mono. -/
def cfaValid (u : Nat → Word) (p : Nat) : Bool :=
  let cs := cfaChannels u p
  cs.all (· == 3) || (cs.all (· != 3) && cs.contains 0 && cs.contains 1 && cs.contains 2)

def cfaMono (u : Nat → Word) (p : Nat) : Bool := (cfaChannels u p).all (· == 3)

/-! ### Black stage (R80, R81) -/

/-- BLACK[id]. -/
def blackLevel (u : Nat → Word) (p id : Nat) : Nat :=
  let w := u (R.CLR_BLACK p (id / 2))
  if id % 2 = 0 then getBits w 15 0 else getBits w 31 16

def u64At (u : Nat → Word) (addr : Nat) : Nat := (u addr).toNat + (u (addr + 4)).toNat * 2 ^ 32

/-- The base of the dark bank in use. -/
def darkBase (u : Nat → Word) (p : Nat) : Nat :=
  if bitAt (u (R.CLR_DARK_CTRL p)) 1 then u64At u (R.CLR_DARK_BASE1 p) else u64At u (R.CLR_DARK_BASE0 p)

def darkOn (u : Nat → Word) (p : Nat) : Bool := bitAt (u (R.CLR_DARK_CTRL p)) 0

/-- Where site (x, y) of the dark bank in use lies. -/
def darkAddr (u : Nat → Word) (p x y : Nat) : Nat :=
  darkBase u p + y * (u (R.CLR_DARK_STRIDE p)).toNat + 2 * x

/-- DARK(x, y), signed. -/
def darkValue (s : State) (u : Nat → Word) (p x y : Nat) : Int :=
  if darkOn u p then signedOf 16 (memNat s false 2 (darkAddr u p x y)) else 0

/-- The black-stage output of one site before sanitising. -/
def blackSite (s : State) (u : Nat → Word) (p x y sample : Nat) : F32 :=
  let id := cfaId u p x y
  let d : Int := (sample : Int) - (blackLevel u p id : Int) - darkValue s u p x y
  f32Mul (f32OfInt d) (u (R.CLR_NORM p id))

/-- Sanitise a row, with the count of replacements (R74). -/
def sanitiseRow (xs : List F32) : List F32 × Nat :=
  let ys := xs.map f32Sanitise
  (ys.map (·.1), ys.foldl (fun a y => a + y.2) 0)

def blackRow (s : State) (u : Nat → Word) (p y : Nat) (samples : List Nat) : List F32 × Nat :=
  sanitiseRow (samples.mapIdx fun x smp => blackSite s u p x y smp)

/-! ### Defects (R84 to R86) -/

/-- What the defect stage finds as it reads on: nothing amiss, a poisoned read, or the bad entry that ends the list. -/
inductive ListRead where
  | fine
  | poisoned
  | bad (index : Nat)
  deriving DecidableEq, Repr

/-- The address of the next entry of the defect list. -/
def listAddr (u : Nat → Word) (p : Nat) (f : ClrFrame) : Nat := u64At u (R.CLR_DEF_BASE p) + 4 * f.listPos

/-- One entry of the defect list is read and checked (R84, R86). -/
def defectEntry (s : State) (u : Nat → Word) (p : Nat) (f : ClrFrame) : ListRead × ClrFrame :=
  let a := listAddr u p f
  if memPoisoned s false 4 a then (.poisoned, f)
  else
    let e := memNat s false 4 a
    let col := bitsOf e 15 0
    let line := bitsOf e 29 16
    let kind := bitsOf e 31 30
    let key := line * 65536 + col + 1
    if kind = 3 ∨ f.width ≤ col ∨ f.height ≤ line ∨ key ≤ f.listKey then (.bad f.listPos, { f with listError := true })
    else
      let right := if kind = 1 ∧ col + 1 < f.width then [{ x := col + 1, y := line, always := true : DefectSite }] else []
      (.fine, { f with sites := f.sites ++ { x := col, y := line, always := kind != 2 } :: right,
                       listPos := f.listPos + 1, listKey := key })

/-- The defect stage reads the list in order, ahead of the lines its entries name: until an entry names a line past `lim`
(R86). DESIGN CHOICE (log 127): it reads no further ahead than that one entry. -/
def defectRead (s : State) (u : Nat → Word) (p lim : Nat) : Nat → ClrFrame → ListRead × ClrFrame
  | 0, f => (.fine, f)
  | n + 1, f =>
    let c := u (R.CLR_DEF_CTRL p)
    if !bitAt c 31 || f.listError || decide (getBits c 22 0 ≤ f.listPos ∨ (0 < f.listKey ∧ lim < (f.listKey - 1) / 65536)) then (.fine, f)
    else
      match defectEntry s u p f with
      | (.fine, f') => defectRead s u p lim n f'
      | r => r

def isListed (ds : List DefectSite) (x y : Nat) : Bool := ds.any fun d => d.x == x && d.y == y

/-- K_n of R85. -/
def defectK (n : Nat) : F32 :=
  if n = 1 then 0x3F800000#32 else if n = 2 then 0x3F000000#32
  else if n = 3 then 0x3EAAAAAB#32 else 0x3E800000#32

/-- The value of a row list at (x, y). -/
def rowAt (rows : List (List F32)) (x y : Nat) : F32 := nth f32Zero (nth [] rows y) x

/-- The defect stage at one listed site: `a` are black-stage rows, `d` defect-stage rows above. The result, and whether it was replaced. -/
def defectSite (u : Nat → Word) (p width height : Nat) (ds : List DefectSite) (a d : List (List F32)) (x y : Nat) :
    F32 × Bool :=
  let px := cfaPX u p
  let py := cfaPY u p
  let here := rowAt a x y
  let ok := fun (cx cy : Nat) => decide (cx < width ∧ cy < height) && !isListed ds cx cy
  let cl := if px ≤ x ∧ ok (x - px) y then [rowAt a (x - px) y] else []
  let cr := if ok (x + px) y then [rowAt a (x + px) y] else []
  let cu := if py ≤ y ∧ ok x (y - py) then [rowAt d x (y - py)] else []
  let cd := if py = 1 ∧ ok x (y + 1) then [rowAt a x (y + 1)] else []
  let cs := cl ++ cr ++ cu ++ cd
  match cs with
  | [] => (here, false)
  | c :: rest =>
    let r := f32Mul (rest.foldl f32Add c) (defectK cs.length)
    let always := ds.any fun e => e.x == x && e.y == y && e.always
    if always || f32Lt (u (R.CLR_DEF_THR p)) (f32Abs (f32Sub here r)) then (r, true) else (here, false)

/-- One row of the defect stage: values, sanitise count, sites replaced. -/
def defectRow (u : Nat → Word) (p width height : Nat) (ds : List DefectSite) (a d : List (List F32)) (y : Nat) :
    List F32 × Nat × Nat :=
  let sites := (upto width).map fun x =>
    if isListed ds x y then defectSite u p width height ds a d x y else (rowAt a x y, false)
  let sn := sanitiseRow (sites.map (·.1))
  (sn.1, sn.2, (sites.filter (·.2)).length)

/-! ### Flat field (R87) -/

def flatOn (u : Nat → Word) (p : Nat) : Bool := bitAt (u (R.CLR_FF_CTRL p)) 0
def flatFmt (u : Nat → Word) (p : Nat) : Nat := b2n (bitAt (u (R.CLR_FF_CTRL p)) 1)

def flatAddr (u : Nat → Word) (p x y : Nat) : Nat :=
  u64At u (R.CLR_FF_BASE p) + y * (u (R.CLR_FF_STRIDE p)).toNat + x * (1 + flatFmt u p)

/-- The gain at a site. -/
def flatGain (s : State) (u : Nat → Word) (p x y : Nat) : F32 :=
  if !flatOn u p then f32One
  else if flatFmt u p = 1 then f16to32 (BitVec.ofNat 16 (memNat s false 2 (flatAddr u p x y)))
  else
    let id := cfaId u p x y
    let g := memNat s false 1 (flatAddr u p x y)
    f32Add (u (R.CLR_FF_GBASE p id)) (f32Mul (f32OfNat g) (u (R.CLR_FF_GSTEP p id)))

def flatRow (s : State) (u : Nat → Word) (p y : Nat) (row : List F32) : List F32 × Nat :=
  sanitiseRow (row.mapIdx fun x v => f32Mul v (flatGain s u p x y))

/-! ### Demosaic (R88, R89) -/

/-- A coordinate folded back into `0 … n-1` by whole periods (R89). -/
def foldCoord (period n : Nat) (x : Int) : Nat :=
  if x < 0 then (x + (period : Int) * ((-x + (period : Int) - 1) / (period : Int))).toNat
  else if (n : Int) ≤ x then (x - (period : Int) * ((x - (n : Int) + 1 + (period : Int) - 1) / (period : Int))).toNat
  else x.toNat

/-- `lo … hi` as integers. -/
def span (lo hi : Int) : List Int := (upto (hi - lo + 1).toNat).map fun (k : Nat) => lo + (k : Int)

/-- Demosaic of one site from flat-field rows. -/
def demosaicSite (u : Nat → Word) (p width height : Nat) (rows : List (List F32)) (x y : Nat) : F32 × F32 × F32 :=
  let px := cfaPX u p
  let py := cfaPY u p
  let fx := fun (dx : Int) => foldCoord px width ((x : Int) + dx)
  let fy := fun (dy : Int) => foldCoord py height ((y : Int) + dy)
  let v := fun (dx dy : Int) => rowAt rows (fx dx) (fy dy)
  let c := cfaCh u p (cfaId u p x y)
  if cfaMono u p then (let a := v 0 0; (a, a, a))
  else
    let hs := (span (-1) 1).flatMap fun dy => (span (-4) (4 - px)).map fun dx => (dx, dy)
    let hv := hs.foldl (fun a q => f32Add a (f32Abs (f32Sub (v (q.1 + px) q.2) (v q.1 q.2)))) f32Zero
    let vs := (span (-1) 1).flatMap fun dx => (span (-4) (4 - py)).map fun dy => (dx, dy)
    let vv := vs.foldl (fun a q => f32Add a (f32Abs (f32Sub (v q.1 (q.2 + py)) (v q.1 q.2)))) f32Zero
    let kh := f32OfRat 1 (3 * (9 - px))
    let kv := f32OfRat 1 (3 * (9 - py))
    let eps := u (R.CLR_DM_EPS p)
    let wh := f32Div f32One (f32Add eps (f32Mul hv kh))
    let wv := f32Div f32One (f32Add eps (f32Mul vv kv))
    let win := (span (-4) 4).flatMap fun dy => (span (-4) 4).map fun dx => (dx, dy)
    let estimate := fun (k : Nat) =>
      let nd := win.foldl (fun (acc : F32 × F32) q =>
        if cfaCh u p (cfaId u p (fx q.1) (fy q.2)) = k then
          let ax : Int := q.1.natAbs
          let ay : Int := q.2.natAbs
          let w := f32Add (f32Mul wh (f32Pow2 (-(ax + 2 * ay)))) (f32Mul wv (f32Pow2 (-(2 * ax + ay))))
          (f32Add acc.1 (f32Mul w (v q.1 q.2)), f32Add acc.2 w)
        else acc) (f32Zero, f32Zero)
      f32Div nd.1 nd.2
    let detail := u (R.CLR_DM_DETAIL p)
    let own := v 0 0
    let corr := f32Mul detail (f32Sub own (estimate c))
    let out := fun (k : Nat) =>
      if k = c then own
      else if f32Key detail ≠ 0 then f32Add (estimate k) corr else estimate k
    (out 0, out 1, out 2)

/-- One demosaiced row as P48, with the sanitise count (R74, R75, R88). -/
def demosaicRow (u : Nat → Word) (p width height : Nat) (rows : List (List F32)) (y : Nat) : List Nat × Nat :=
  let sites := (upto width).map fun x =>
    let (r, g, b) := demosaicSite u p width height rows x y
    let r' := f32Sanitise r
    let g' := f32Sanitise g
    let b' := f32Sanitise b
    (p48Of (f32to16 r'.1) (f32to16 g'.1) (f32to16 b'.1), r'.2 + g'.2 + b'.2)
  (sites.map (·.1), sites.foldl (fun a q => a + q.2) 0)

/-! ### Developed stages (R99 to R108) -/

/-- A stage boundary over three channels: the P48, and how many channels the clamp altered (R99). -/
def boundary3 (r g b : F32) : Nat × Nat :=
  let r' := f32Boundary r
  let g' := f32Boundary g
  let b' := f32Boundary b
  (p48Of r'.1 g'.1 b'.1, r'.2 + g'.2 + b'.2)

/-- White balance (R100). -/
def whiteBalance (u : Nat → Word) (p v : Nat) : Nat × Nat :=
  boundary3 (f32Mul (p48Ch v 0) (u (R.CLR_WB p 0))) (f32Mul (p48Ch v 1) (u (R.CLR_WB p 1)))
    (f32Mul (p48Ch v 2) (u (R.CLR_WB p 2)))

/-- A row of a 3 × 3 matrix applied to r, g, b (R101). -/
def matRow (m0 m1 m2 r g b : F32) : F32 := f32Add (f32Add (f32Mul m0 r) (f32Mul m1 g)) (f32Mul m2 b)

/-- The working-space matrix (R101): tap point T4. -/
def wsMatrix (u : Nat → Word) (p v : Nat) : Nat × Nat :=
  let m := fun (k : Nat) => u (R.CLR_WS_MAT p k)
  let r := p48Ch v 0
  let g := p48Ch v 1
  let b := p48Ch v 2
  boundary3 (matRow (m 0) (m 1) (m 2) r g b) (matRow (m 3) (m 4) (m 5) r g b) (matRow (m 6) (m 7) (m 8) r g b)

/-- The shaper's coordinate of a channel (R104). -/
def shaperT (u : Nat → Word) (p k : Nat) (y : Half) : F32 :=
  if bitAt (u (R.CLR_LUT_CTRL p)) 2 then
    let h : Nat := if y.getLsbD 15 then 0 else y.toNat % 2 ^ 15
    let hlo := getBits (u (R.CLR_LUT_HLO p)) 14 0
    f32Clamp (f32Mul (f32OfInt ((h : Int) - (hlo : Int))) (u (R.CLR_LUT_HK p))) f32Zero f32One
  else
    f32Clamp (f32Add (f32Mul (f16to32 y) (u (R.CLR_LUT_IN_SCALE p k))) (u (R.CLR_LUT_IN_OFFSET p k))) f32Zero f32One

/-- The LUT index and fraction of a coordinate (R105). -/
def lutCell (t : F32) : Nat × F32 :=
  let q := f32Mul t (f32OfNat 64)
  let i := if f32Floor q < 63 then (f32Floor q).toNat else 63
  (i, f32Sub q (f32OfNat i))

/-- An entry's place in a bank (R103). -/
def lutIndex (ir ig ib : Nat) : Nat := ir + 65 * ig + 4225 * ib

/-- Tetrahedral interpolation (R105) in a bank. -/
def lutStage (u : Nat → Word) (bank : List (Nat × Nat)) (p v : Nat) : Nat × Nat :=
  let (ir, fr) := lutCell (shaperT u p 0 (p48R v))
  let (ig, fg) := lutCell (shaperT u p 1 (p48G v))
  let (ib, fb) := lutCell (shaperT u p 2 (p48B v))
  let e := fun (x y z : Nat) => smGet 0 bank (lutIndex (ir + x) (ig + y) (ib + z))
  let sel : F32 × F32 × F32 × Nat × Nat :=
    if f32Le fg fr then
      if f32Le fb fg then (fr, fg, fb, e 1 0 0, e 1 1 0)
      else if f32Le fb fr then (fr, fb, fg, e 1 0 0, e 1 0 1)
      else (fb, fr, fg, e 0 0 1, e 1 0 1)
    else
      if f32Le fb fr then (fg, fr, fb, e 0 1 0, e 1 1 0)
      else if f32Le fb fg then (fg, fb, fr, e 0 1 0, e 0 1 1)
      else (fb, fg, fr, e 0 0 1, e 0 1 1)
  let (f1, f2, f3, ca, cb) := sel
  let c0 := e 0 0 0
  let c7 := e 1 1 1
  let ch := fun (k : Nat) =>
    f32Add (f32Add (f32Add (p48Ch c0 k) (f32Mul f1 (f32Sub (p48Ch ca k) (p48Ch c0 k))))
      (f32Mul f2 (f32Sub (p48Ch cb k) (p48Ch ca k)))) (f32Mul f3 (f32Sub (p48Ch c7 k) (p48Ch cb k)))
  boundary3 (ch 0) (ch 1) (ch 2)

def lutOn (u : Nat → Word) (p : Nat) : Bool := bitAt (u (R.CLR_LUT_CTRL p)) 0

/-- The gamut map (R108): the channels, and whether the site was altered. -/
def gamutMap (u : Nat → Word) (p : Nat) (r g b : F32) : F32 × F32 × F32 × Bool :=
  let y := f32Add (f32Add (f32Mul (u (R.CLR_GAMUT_K p 0)) r) (f32Mul (u (R.CLR_GAMUT_K p 1)) g)) (f32Mul (u (R.CLR_GAMUT_K p 2)) b)
  let fl := u (R.CLR_GAMUT_FLOOR p)
  let m := f32Min (f32Min r g) b
  if f32Lt m fl then
    if f32Lt fl y then
      let sc := f32Div (f32Sub y fl) (f32Sub y m)
      let f := fun (c : F32) => f32Add y (f32Mul sc (f32Sub c y))
      (f r, f g, f b, true)
    else (fl, fl, fl, true)
  else (r, g, b, false)

/-- The tone map (R108). -/
def toneMap (u : Nat → Word) (p : Nat) (r g b : F32) : F32 × F32 × F32 :=
  let m := f32Max (f32Max r g) b
  let knee := u (R.CLR_TONE_KNEE p)
  let d := u (R.CLR_TONE_D p)
  if f32Lt knee m then
    let e := f32Sub m knee
    let m2 := f32Add knee (f32Div (f32Mul e d) (f32Add e d))
    let f := fun (c : F32) => f32Div (f32Mul c m2) m
    (f r, f g, f b)
  else (r, g, b)

/-- The tone and gamut stage (R108): the P48, clamps, and 1 where the gamut map altered the site. -/
def toneGamut (u : Nat → Word) (p v : Nat) : Nat × Nat × Nat :=
  let c := u (R.CLR_TG_CTRL p)
  let r := p48Ch v 0
  let g := p48Ch v 1
  let b := p48Ch v 2
  let (r1, g1, b1, hit) := if bitAt c 0 then gamutMap u p r g b else (r, g, b, false)
  let (r2, g2, b2) := if bitAt c 1 then toneMap u p r1 g1 b1 else (r1, g1, b1)
  let res := boundary3 r2 g2 b2
  (res.1, res.2, b2n hit)

/-- One developed site. -/
structure DevSite where
  t4 : Nat
  t5 : Nat
  out : Nat
  clamps : Nat
  gamut : Nat
  deriving DecidableEq, Repr

/-- All developed stages on one demosaiced site. -/
def develop (u : Nat → Word) (bank : List (Nat × Nat)) (p v : Nat) : DevSite :=
  let a := whiteBalance u p v
  let b := wsMatrix u p a.1
  let c := if lutOn u p then lutStage u bank p b.1 else (b.1, 0)
  let d := toneGamut u p c.1
  { t4 := b.1, t5 := c.1, out := d.1, clamps := a.2 + b.2 + c.2 + d.2.1, gamut := d.2.2 }

/-! ### Outputs: crop, box, resampling, matrix, gain, transfer (R110 to R112) -/

/-- The geometry of one output or region: crop, boxed factor, output size and steps. -/
structure OutGeom where
  x0 : Nat
  y0 : Nat
  cw : Nat
  ch : Nat
  box : Nat
  ow : Nat
  oh : Nat
  sx : F32
  sy : F32
  deriving DecidableEq, Repr

def geomOf (xy wh owh boxField : Word) (boxHi boxLo : Nat) (sx sy : F32) : OutGeom :=
  { x0 := getBits xy 15 0, y0 := getBits xy 31 16, cw := getBits wh 15 0 + 1, ch := getBits wh 31 16 + 1,
    box := 2 ^ getBits boxField boxHi boxLo, ow := getBits owh 15 0 + 1, oh := getBits owh 31 16 + 1, sx := sx, sy := sy }

/-- The geometry of output `n` of pipeline `p`. -/
def otGeom (u : Nat → Word) (p n : Nat) : OutGeom :=
  geomOf (u (R.CLR_OT_CROP_XY p n)) (u (R.CLR_OT_CROP_WH p n)) (u (R.CLR_OT_OUT_WH p n)) (u (R.CLR_OT_CTRL p n)) 9 8
    (u (R.CLR_OT_SX p n)) (u (R.CLR_OT_SY p n))

/-- The geometry of region `r` of OT2. -/
def roiGeom (u : Nat → Word) (p r : Nat) : OutGeom :=
  geomOf (u (R.CLR_ROI_XY p r)) (u (R.CLR_ROI_WH p r)) (u (R.CLR_ROI_OUT_WH p r)) (u (R.CLR_ROI_BOX p r)) 1 0
    (u (R.CLR_ROI_SX p r)) (u (R.CLR_ROI_SY p r))

/-- A boxed value b(x, y) of channel `k` (R111): the block summed row by row, left to right. -/
def boxed (g : OutGeom) (rows : List (List Nat)) (k x y : Nat) : F32 :=
  let cell := fun (i : Nat) => p48Ch (nth 0 (nth [] rows (g.y0 + g.box * y + i / g.box)) (g.x0 + g.box * x + i % g.box)) k
  f32Mul ((upto (g.box * g.box - 1)).foldl (fun a i => f32Add a (cell (i + 1))) (cell 0))
    (f32OfRat 1 (g.box * g.box))

/-- The two taps and the weight of output position `o` (R111). -/
def tapOf (step : F32) (n o : Nat) : Nat × Nat × F32 :=
  let q := f32Sub (f32Mul (f32Add (f32OfNat o) f32Half) step) f32Half
  let i := f32Floor q
  let cl := fun (j : Int) => if j < 0 then 0 else if (n : Int) - 1 < j then n - 1 else j.toNat
  (cl i, cl (i + 1), f32Sub q (f32OfInt i))

/-- The resampled value of channel `k` at output site (xo, yo) (R111). -/
def resample (g : OutGeom) (rows : List (List Nat)) (k xo yo : Nat) : F32 :=
  let (i0, i1, fx) := tapOf g.sx (g.cw / g.box) xo
  let (j0, j1, fy) := tapOf g.sy (g.ch / g.box) yo
  let h := fun (w : Nat) =>
    let a := boxed g rows k i0 w
    f32Add a (f32Mul fx (f32Sub (boxed g rows k i1 w) a))
  f32Add (h j0) (f32Mul fy (f32Sub (h j1) (h j0)))

/-- The last source line that output row `yo` reads. -/
def lastSource (g : OutGeom) (yo : Nat) : Nat :=
  let (j0, j1, _) := tapOf g.sy (g.ch / g.box) yo
  let j := if j0 < j1 then j1 else j0
  g.y0 + g.box * j + (g.box - 1)

/-- The first source line that output row `yo` reads. -/
def firstSource (g : OutGeom) (yo : Nat) : Nat := g.y0 + g.box * (tapOf g.sy (g.ch / g.box) yo).1

/-- The output rows that source line `y` completes. -/
def rowsDue (g : OutGeom) (y : Nat) : List Nat := (upto g.oh).filter fun yo => decide (lastSource g yo = y)

/-- The first source line that the rows of an output still to be formed read, when lines before `n` are developed; output rows are
formed `step` at a time. -/
def neededFrom (g : OutGeom) (step n : Nat) : Nat :=
  match (upto g.oh).find? fun yo => decide (n ≤ lastSource g yo) with
  | some yo => if firstSource g (yo / step * step) < n then firstSource g (yo / step * step) else n
  | none => n

/-- Lines below `k` are no longer held: the path keeps only the lines its stages need (R13). The lines keep their numbers. -/
def dropRows {α : Type} (k : Nat) (rows : List (List α)) : List (List α) := List.replicate (min k rows.length) [] ++ rows.drop k

/-- The output matrix presets of R102. -/
def presetMatrix (ws prim : Nat) : List F32 :=
  if ws = prim then [f32One, 0, 0, 0, f32One, 0, 0, 0, f32One]
  else if ws = 0 then
    [f32OfRat 16605 10000, f32OfRat (-5876) 10000, f32OfRat (-728) 10000,
     f32OfRat (-1246) 10000, f32OfRat 11329 10000, f32OfRat (-83) 10000,
     f32OfRat (-182) 10000, f32OfRat (-1006) 10000, f32OfRat 11187 10000]
  else
    [f32OfRat 6274 10000, f32OfRat 3293 10000, f32OfRat 433 10000,
     f32OfRat 691 10000, f32OfRat 9195 10000, f32OfRat 114 10000,
     f32OfRat 164 10000, f32OfRat 880 10000, f32OfRat 8956 10000]

/-- The output matrix of output `n` (R112). -/
def otMatrix (u : Nat → Word) (p n : Nat) : List F32 :=
  let c := u (R.CLR_OT_CTRL p n)
  if bitAt c 1 then (upto 9).map fun k => u (R.CLR_OT_MAT p n k)
  else presetMatrix (getBits (u (R.CLR_WS_SEL p)) 1 0) (getBits c 2 2)

/-- The transfer through a table of 993 entries (R112). -/
def transfer (tab : Nat → F32) (x : F32) : F32 :=
  let h := (f32to16 (f32Clamp x f32Zero f32Top)).toNat % 2 ^ 15
  let idx := h / 32
  let fr := f32Mul (f32OfNat (h % 32)) (f32Pow2 (-5))
  f32Add (tab idx) (f32Mul fr (f32Sub (tab (idx + 1)) (tab idx)))

/-- Steps 1 to 6 of R110 at one output site: R, G and B before formatting. -/
def outSite (u : Nat → Word) (tab : Nat → F32) (p n : Nat) (g : OutGeom) (rows : List (List Nat)) (xo yo : Nat) :
    F32 × F32 × F32 :=
  let r := resample g rows 0 xo yo
  let gg := resample g rows 1 xo yo
  let b := resample g rows 2 xo yo
  let m := otMatrix u p n
  let gain := u (R.CLR_OT_GAIN p n)
  let ch := fun (i : Nat) =>
    let v := f32Mul (matRow (nth 0 m (3 * i)) (nth 0 m (3 * i + 1)) (nth 0 m (3 * i + 2)) r gg b) gain
    let t := if getBits (u (R.CLR_OT_CTRL p n)) 6 4 = 0 then v else transfer tab v
    if n = 1 ∨ n = 3 then f32Clamp t f32Zero f32One else t
  (ch 0, ch 1, ch 2)

/-- A value clamped to 0 … 65,504 and converted (R116). -/
def wallHalf (x : F32) : Half := f32to16 (f32Clamp x f32Zero f32Top)

/-- One OT0 row as P48 (R116). -/
def ot0Row (u : Nat → Word) (p : Nat) (rows : List (List Nat)) (yo : Nat) : List Nat :=
  let g := otGeom u p 0
  (upto g.ow).map fun xo =>
    let (r, gg, b) := outSite u (fun _ => f32Zero) p 0 g rows xo yo
    p48Of (wallHalf r) (wallHalf gg) (wallHalf b)

/-- An integer result held between two bounds. -/
def clampInt (lo hi i : Int) : Int := if i < lo then lo else if hi < i then hi else i

/-- The luma and chroma of one OT1 site (R117). -/
def yccSite (ycc : Bool) (r g b : F32) : F32 × F32 × F32 :=
  let k : F32 × F32 × F32 × F32 × F32 :=
    if ycc then (f32OfRat 2627 10000, f32OfRat 6780 10000, f32OfRat 593 10000, f32OfRat 10000 18814, f32OfRat 10000 14746)
    else (f32OfRat 2126 10000, f32OfRat 7152 10000, f32OfRat 722 10000, f32OfRat 10000 18556, f32OfRat 10000 15748)
  let y := matRow k.1 k.2.1 k.2.2.1 r g b
  (y, f32Mul (f32Sub b y) k.2.2.2.1, f32Mul (f32Sub r y) k.2.2.2.2)

/-- A quantised sample in [15:6] of its word (R117, R118). -/
def quant10 (scale off : Nat) (v : F32) : Nat :=
  (clampInt 4 1019 (f32ToIntRNE (f32Add (f32Mul (f32OfNat scale) v) (f32OfNat off)))).toNat * 64

/-- Pad bytes with zeros to `n`. -/
def padTo (n : Nat) (bs : List Byte) : List Byte := bs ++ List.replicate (n - bs.length) 0#8

/-- Horizontal chroma filter at even sites (R117). -/
def chromaLine (ow : Nat) (c : List F32) : List F32 :=
  (upto (ow / 2)).map fun (i : Nat) =>
    let at_ := fun (k : Int) => nth f32Zero c (clampInt 0 ((ow : Int) - 1) k).toNat
    let j : Int := 2 * (i : Int)
    f32Mul (f32Add (f32Add (at_ (j - 1)) (f32Mul (f32OfNat 2) (at_ j))) (at_ (j + 1))) (f32OfRat 1 4)

/-- The luma and chroma of one OT1 row (R117). -/
def ot1Sites (u : Nat → Word) (tab : Nat → F32) (p : Nat) (rows : List (List Nat)) (yo : Nat) : List (F32 × F32 × F32) :=
  let g := otGeom u p 1
  (upto g.ow).map fun xo =>
    let (r, gg, b) := outSite u tab p 1 g rows xo yo
    yccSite (bitAt (u (R.CLR_OT1_FMT p)) 1) r gg b

/-- The filtered Cb and Cr of an OT1 row (R117). -/
def ot1Chroma (ow : Nat) (l : List (F32 × F32 × F32)) : List F32 × List F32 :=
  (chromaLine ow (l.map (·.2.1)), chromaLine ow (l.map (·.2.2)))

/-- What OT1 row `yo` writes, at offsets from the buffer's start (R117, R118): its luma line, and its chroma line, or with 4:2:0
the line of the pair it ends. -/
def ot1Writes (u : Nat → Word) (tab : Nat → F32) (p : Nat) (rows : List (List Nat)) (yo : Nat) : List (Nat × List Byte) :=
  let g := otGeom u p 1
  let stride := (u (R.CLR_OT_STRIDE p 1)).toNat
  let l := ot1Sites u tab p rows yo
  let pairs := fun (cb cr : List F32) => (upto (g.ow / 2)).flatMap fun i =>
    leBytes 2 (quant10 896 512 (nth f32Zero cb i)) ++ leBytes 2 (quant10 896 512 (nth f32Zero cr i))
  let chroma := ot1Chroma g.ow l
  let mean := fun (a b : List F32) => (upto (g.ow / 2)).map fun i => f32Mul (f32Add (nth f32Zero a i) (nth f32Zero b i)) f32Half
  let luma := (64 + yo * stride, l.flatMap fun q => leBytes 2 (quant10 876 64 q.1))
  let c := 64 + g.oh * stride
  if !bitAt (u (R.CLR_OT1_FMT p)) 0 then [luma, (c + yo * stride, pairs chroma.1 chroma.2)]
  else if yo % 2 = 0 then [luma]
  else
    let above := ot1Chroma g.ow (ot1Sites u tab p rows (yo - 1))
    [luma, (c + yo / 2 * stride, pairs (mean above.1 chroma.1) (mean above.2 chroma.2))]

/-- The int8 of a quantised value (R119): the clamp holds a value past the range, an infinity among them. The spec says that no
NaN reaches a clamp (R422); one that an overflow makes all the same gives a free value (log 128). -/
def int8Of (q : F32) : Int :=
  if f32IsNaN q then (Config.int8NaN q).toInt
  else if !f32IsFinite q then (if f32IsNeg q then -128 else 127)
  else clampInt (-128) 127 (f32ToIntRNE q)

/-- One quantised OT2 element (R119). -/
def ot2Element (int8 : Bool) (qs qz v : F32) : List Byte :=
  let q := f32Add (f32Mul v qs) qz
  if int8 then leBytes 1 (unsignedOf 8 (int8Of q))
  else leBytes 2 (f32to16 (f32Clamp q (f32Neg f32Top) f32Top)).toNat

/-- Round up to a multiple of 64. -/
def up64 (n : Nat) : Nat := (n + 63) / 64 * 64

/-- The bytes of an OT2 region (R119). -/
def roiBytes (u : Nat → Word) (p r : Nat) : Nat :=
  let g := roiGeom u p r
  3 * g.oh * up64 (g.ow * (if bitAt (u (R.CLR_OT2_FMT p)) 0 then 1 else 2))

/-- Enabled regions of OT2. -/
def roisOn (u : Nat → Word) (p : Nat) : List Nat := (upto 4).filter fun r => bitAt (u (R.CLR_OT2_FMT p)) (1 + r)

/-- Where each enabled region starts in its buffer: the header is 64 bytes, each section starts on 64 bytes. -/
def roiOffset (u : Nat → Word) (p r : Nat) : Nat :=
  64 + ((roisOn u p).filter (· < r)).foldl (fun a q => a + up64 (roiBytes u p q)) 0

/-- What row `yo` of region `r` of OT2 writes: a row of each of the planes R, G and B, padded to a multiple of 64 bytes (R119). -/
def ot2Writes (u : Nat → Word) (tab : Nat → F32) (p r : Nat) (rows : List (List Nat)) (yo : Nat) : List (Nat × List Byte) :=
  let g := roiGeom u p r
  let int8 := bitAt (u (R.CLR_OT2_FMT p)) 0
  let line := up64 (g.ow * (if int8 then 1 else 2))
  let sites := (upto g.ow).map fun xo => outSite u tab p 2 g rows xo yo
  let element := ot2Element int8 (u (R.CLR_OT2_QSCALE p)) (u (R.CLR_OT2_QZERO p))
  (upto 3).map fun k => (roiOffset u p r + (k * g.oh + yo) * line,
    padTo line (sites.flatMap fun q => element (if k = 0 then q.1 else if k = 1 then q.2.1 else q.2.2)))

/-- One OT3 site (R120). -/
def ot3Site (full : Bool) (r g b : F32) : Nat :=
  let q := fun (v : F32) =>
    (f32ToIntRNE (if full then f32Mul (f32OfNat 1023) v else f32Add (f32Mul (f32OfNat 876) v) (f32OfNat 64))).toNat % 1024
  q r * 2 ^ 20 + q g * 2 ^ 10 + q b

/-- What row `yo` of OT3 writes (R120). -/
def ot3Writes (u : Nat → Word) (tab : Nat → F32) (p : Nat) (rows : List (List Nat)) (yo : Nat) : List (Nat × List Byte) :=
  let g := otGeom u p 3
  let full := bitAt (u (R.CLR_OT3_FMT p)) 0
  [(64 + yo * (u (R.CLR_OT_STRIDE p 3)).toNat, (upto g.ow).flatMap fun xo =>
    let (r, gg, b) := outSite u tab p 3 g rows xo yo
    leBytes 4 (ot3Site full r gg b))]

/-- What outputs 1 to 3 write when source line `y` is developed, `rows` being the developed lines held (R113, R118 to R120). -/
def otWrites (u : Nat → Word) (tab : Nat → F32) (p n y : Nat) (rows : List (List Nat)) : List (Nat × List Byte) :=
  if n = 1 then (rowsDue (otGeom u p 1) y).flatMap (ot1Writes u tab p rows)
  else if n = 2 then (roisOn u p).flatMap fun r => (rowsDue (roiGeom u p r) y).flatMap (ot2Writes u tab p r rows)
  else (rowsDue (otGeom u p 3) y).flatMap (ot3Writes u tab p rows)

/-- The first developed line that output `n` still reads, when lines before `m` are developed. -/
def otNeeds (u : Nat → Word) (p n m : Nat) : Nat :=
  if n = 2 then (roisOn u p).foldl (fun a r => min a (neededFrom (roiGeom u p r) 1 m)) m
  else neededFrom (otGeom u p n) (if n = 1 then 2 else 1) m

end Sys2Proof.Machine
end

