-- ==== Sys2Proof/Machine/Flags.lean ====
section
/-! DEFINITION. Interrupt flags, error registers, MSI-X messages and the interrupt balls (R33, R34, R39 to R41). -/

namespace Sys2Proof.Machine

/-- The highest interrupt bit that a page's chapter assigns; bits above it are reserved (R33, R71, R97, R115, R145, R160, R184, R215,
R216, R235, R252, R269, R287, R307, R328, R344, R367, R381, R396, R407). -/
def intTop (n : Nat) : Nat :=
  let p := n % 16
  match blockOfPage n with
  | 1 => if p = 0 then 1 else if p ≤ 2 then 2 else 4
  | 2 => 3
  | 3 => if p ≤ 1 then 1 else if p ≤ 4 then 2 else if p ≤ 6 then 3 else 0
  | 4 => if p = 0 then 3 else 1
  | 5 => if p = 0 then 3 else 1
  | 6 => 4
  | 7 => if p ≤ 3 then 1 else 4
  | 8 => if p = 0 then 3 else 1
  | 9 => 3
  | 10 => if p = 0 then 1 else 3
  | 11 => if p = 0 then 2 else 1
  | 12 => if p = 0 then 1 else 2
  | 13 => if p = 0 then 2 else 1
  | 14 => if p = 0 then 1 else 4
  | 15 => if p = 0 then 1 else 3
  | 16 => 2
  | 17 => if p = 0 then 2 else if p = 10 then 1 else 0
  | 18 => 1
  | _ => 0

/-- The assigned bits of a page's interrupt registers: bit 0 is the error source (R33). -/
def intMask (n : Nat) : Word := w32 (2 ^ (intTop n + 1) - 1)

/-- The request of a page: PG_INT_STAT AND PG_INT_EN, ORed (R33). -/
def pageRequest (s : State) (n : Nat) : Bool :=
  decide ((rget s (hdrIntStat n)) &&& (rget s (hdrIntEn n)) ≠ 0#32)

/-- Send a vector's message; while the vector is masked, set its pending bit instead (R40). -/
def sendVector (v : Nat) (s : State) : State :=
  if s.msixOn.contains v then emit (.msix v) s
  else { s with msixPending := setInsert s.msixPending v }

/-- Vector of a job, stream, queue or dump source: 0 sends nothing (R39). -/
def sourceVector (v : Nat) (s : State) : State := if v = 0 then s else sendVector v s

/-- A change of a page's interrupt registers: a message when the request rises from 0 to 1 (R40). Page `n` drives vector `n` (R39). -/
def withRequest (n : Nat) (f : State → State) (s : State) : State :=
  let s1 := f s
  if !pageRequest s n && pageRequest s1 n then sendVector n s1 else s1

/-- Latch bits of PG_INT_STAT (R33). A page that is not used holds none (R3, R28). -/
def latchStat (n : Nat) (mask : Word) (s : State) : State :=
  if pageThere s n then
    withRequest n (fun s => rset (hdrIntStat n) (rget s (hdrIntStat n) ||| mask) s) s
  else s

/-- An event on interrupt bit `k` of a page: it sets PG_INT_STAT, and shows nothing in PG_INT_RAW, which follows live conditions only
(DESIGN CHOICE: the spec gives RAW as the live condition of each source and says of no event source how long it lasts). -/
def raiseInt (n k : Nat) (s : State) : State := latchStat n (w32 (2 ^ k)) s

/-- A live condition on interrupt bit `k`: PG_INT_RAW follows it, and its rise latches PG_INT_STAT (R33). -/
def levelInt (n k : Nat) (b : Bool) (s : State) : State :=
  let was := rbit s (hdrIntRaw n) k
  let s1 := rsetBit (hdrIntRaw n) k b s
  if b && !was then raiseInt n k s1 else s1

/-- A page detects an error (R34): the first loads CODE and INFO and sets the error bit; later ones count in MORE. -/
def raiseErr (n cause : Nat) (info : Word) (s : State) : State :=
  if !pageThere s n then s
  else if rbit s (hdrIntStat n) 0 then
    rsetFld (hdrErrCode n) 31 16 (satTo 0xFFFF (rfld s (hdrErrCode n) 31 16 + 1)) s
  else
    raiseInt n 0 (rset (hdrErrInfo n) info
      (rset (hdrErrCode n) (w32 (blockOfPage n * 256 + cause)) s))

/-- Writing 1 to PG_INT_STAT[0] clears CODE, INFO, MORE and PG_STATUS.ERR together (R34). -/
def clearStat (n : Nat) (mask : Word) (s : State) : State :=
  let s1 := rset (hdrIntStat n) (rget s (hdrIntStat n) &&& ~~~mask) s
  if bitAt mask 0 then rset (hdrErrInfo n) 0#32 (rset (hdrErrCode n) 0#32 s1) else s1

/-- After any write to PG_INT_STAT or PG_INT_EN, a further message if the request is still 1 (R40). -/
def resignal (n : Nat) (s : State) : State := if pageRequest s n then sendVector n s else s

/-- INT_N[0] is driven low (R41). -/
def intN0Low (s : State) : Bool :=
  rbit s R.PLT_INTPIN_EN 0 && (upto 288).any fun n => pageThere s n && pageRequest s n

/-- INT_N[1] is driven low: a motion fault bit is set (R41). -/
def intN1Low (s : State) : Bool :=
  !fusedBlock s.code 14 && (upto 8).any fun a => decide (rget s (R.MOT_AX_FAULT a) ≠ 0#32)

/-- An event enters the Log-book queue in the order it occurs; with 256 waiting it is counted and lost (R391). -/
def logEvent (source inst kind : Nat) (detail : List Byte) (s : State) : State :=
  if s.logQueue.length < 256 then
    let e : LogEvent :=
      { source := source
        inst := inst
        kind := kind
        at16 := merNow s
        epochValid := rbit s R.MER_STATE 8
        breaks := rfld s R.MER_EPOCH_BREAKS 15 0
        detail := detail.take 24 }
    let q := s.logQueue ++ [e]
    let s1 := rsetFld R.PLT_LOGBOOK_QUEUE 8 0 q.length { s with logQueue := q }
    if rfld s1 R.PLT_LOGBOOK_QUEUE 24 16 < q.length then rsetFld R.PLT_LOGBOOK_QUEUE 24 16 q.length s1 else s1
  else
    raiseInt (pg 1 4) 2 (rinc R.PLT_LOGBOOK_LOST 1
      { s with
        logLost := s.logLost + 1
        logLostFirst := if s.logLost = 0 then merNow s else s.logLostFirst
        logLostLast := merNow s })

/-! Common causes of R34. -/

def causeNotIdle : Nat := 0x01
def causeLocked : Nat := 0x02
def causeRange : Nat := 0x03
def causeCommitBusy : Nat := 0x04
def causeNoLeave : Nat := 0x05

end Sys2Proof.Machine
end

