-- ==== Sys2Proof/Machine/Leave.lean ====
section
/-! DEFINITION. Power leave: the fixed requests, the queue, granting, release and withdrawal (R368 to R374). -/

namespace Sys2Proof.Machine

/-- AMOUNT in 0.5 A, RAMP in 0.5 µs, PRIO of request `n` (R368). -/
def leaveInfo (n : Nat) : Nat × Nat × Nat :=
  if n ≤ 1 then (36, 4, 2)
  else if n ≤ 3 then (4, 1, 2)
  else if n = 4 then (16, 2, 1)
  else if n = 5 then (3, 1, 1)
  else if n = 6 then (10, 2, 1)
  else if n = 7 then (8, 2, 1)
  else if n ≤ 11 then (7, 2, 3)
  else if n ≤ 19 then (4, 1, 2)
  else if n ≤ 21 then (3, 1, 3)
  else if n = 22 then (8, 2, 0)
  else if n = 23 then (5, 2, 3)
  else if n = 24 then (4, 2, 2)
  else if n = 25 then (10, 4, 0)
  else if n = 26 then (5, 2, 2)
  else if n = 27 then (2, 1, 3)
  else if n = 28 then (2, 1, 2)
  else if n = 29 then (1, 1, 3)
  else (0, 0, 0)

def leaveAmount (n : Nat) : Nat := (leaveInfo n).1
def leavePrio (n : Nat) : Nat := (leaveInfo n).2.2

/-- RAMP in ns. -/
def leaveRamp (n : Nat) : Nat := (leaveInfo n).2.1 * 500

/-- Step rate of a grant, in 0.5 A/µs. -/
def stepRate (n ramp : Nat) : Nat := if ramp = 0 then 0 else leaveAmount n * 1000 / ramp

/-- The page a start request belongs to (R368); requests 12 to 21 are CMP's lanes. -/
def startPage (n : Nat) : Option Nat :=
  if n ≤ 1 then some (pg 3 n)
  else if n ≤ 3 then some (pg 2 (n - 2))
  else if n = 4 then some (pg 4 0)
  else if n = 5 then some (pg 5 0)
  else if n = 6 then some (pg 6 0)
  else if n = 7 then some (pg 7 4)
  else if n ≤ 11 then some (pg 12 (n - 7))
  else if n ≤ 21 then some (pg 11 0)
  else if n = 28 then some (pg 14 0)
  else if n = 29 then some (pg 15 0)
  else none

/-- The page whose header reports a request's errors. -/
def leavePage (n : Nat) : Nat :=
  match startPage n with
  | some p => p
  | none => if n ≤ 24 then pg 13 0 else if n ≤ 26 then pg 10 0 else pg 9 0

/-- The start requests that ENABLE of a page makes (R368). -/
def startRequests (n : Nat) : List Nat :=
  if n = pg 3 0 then [0] else if n = pg 3 1 then [1]
  else if n = pg 2 0 then [2] else if n = pg 2 1 then [3]
  else if n = pg 4 0 then [4] else if n = pg 5 0 then [5]
  else if blockOfPage n = 6 then [6]
  else if n = pg 7 4 then [7]
  else if pg 12 1 ≤ n ∧ n ≤ pg 12 4 then [n - pg 12 1 + 8]
  else if n = pg 11 0 then [12, 13, 14, 15, 16, 17, 18, 19, 20, 21]
  else if n = pg 14 0 then [28] else if n = pg 15 0 then [29]
  else []

def granted (s : State) (n : Nat) : Bool := s.leaveGrants.any fun g => g.n == n
def waiting (s : State) (n : Nat) : Bool := s.leaveQueue.any fun w => w.n == n

/-- The sum of AMOUNT over grants held (R370). -/
def grantedSum (s : State) : Nat := s.leaveGrants.foldl (fun a g => a + leaveAmount g.n) 0

/-- A grant still inside its RAMP. -/
def ramping (now : Nat) (g : LeaveGrant) : Bool := decide (now < g.at_ + g.ramp)

/-- The sum of step rates of grants inside their RAMP (R370). -/
def stepNow (s : State) : Nat :=
  s.leaveGrants.foldl (fun a g => if ramping s.now g then a + stepRate g.n g.ramp else a) 0

/-- Queue order: PRIO, then arrival, then lower n (R370). -/
def leaveBefore (a b : LeaveWait) : Bool :=
  decide (leavePrio a.n < leavePrio b.n ∨
    (leavePrio a.n = leavePrio b.n ∧ (a.at_ < b.at_ ∨ (a.at_ = b.at_ ∧ a.n < b.n))))

def leaveInsert (w : LeaveWait) : List LeaveWait → List LeaveWait
  | [] => [w]
  | x :: xs => if leaveBefore w x then w :: x :: xs else x :: leaveInsert w xs

/-- A request joins the queue; interrupt bit 1 of PLT page 2 reports it (R370, R381). A request already waiting or granted is not made again. -/
def leaveRequest (n : Nat) (s : State) : State :=
  if granted s n || waiting s n then s
  else raiseInt (pg 1 2) 1 { s with leaveQueue := leaveInsert { n := n, at_ := s.now } s.leaveQueue }

/-- Give request `n`, which arrived at `at_`, its grant. -/
def grantOne (n at_ ramp : Nat) (s : State) : State :=
  let wait := satTo 0xFFFF ((s.now - at_) / 1000)
  rset (R.PLT_LEAVE_GNT n) (w32 (1 + wait * 65536))
    { s with
      leaveQueue := s.leaveQueue.filter fun w => w.n != n
      leaveGrants := { n := n, at_ := s.now, ramp := ramp } :: s.leaveGrants }

/-- One pass over the queue in order: every request that passes both tests is granted (R370, R371). `ahead` sums the amounts of those left waiting. -/
def leavePass : List LeaveWait → Nat → State → State
  | [], _, s => s
  | w :: ws, ahead, s =>
    let total := rfld s R.PLT_LEAVE_BUDGET 8 0
    let step := rfld s R.PLT_LEAVE_BUDGET 23 16
    let own := stepRate w.n (leaveRamp w.n)
    let totalOk := decide (grantedSum s + ahead + leaveAmount w.n ≤ total)
    let alone := !s.leaveGrants.any (ramping s.now)
    if totalOk && decide (stepNow s + own ≤ step) then
      leavePass ws ahead (grantOne w.n w.at_ (leaveRamp w.n) s)
    else if totalOk && decide (step < own) && alone then
      leavePass ws ahead (grantOne w.n w.at_ (leaveAmount w.n * 1000 / step) s)
    else leavePass ws (ahead + leaveAmount w.n) s

/-- PLT evaluates the queue (R370). -/
def leaveEvaluate (s : State) : State := leavePass s.leaveQueue 0 s

/-- A grant is released (R369); WAIT keeps what it shows (R381). -/
def leaveRelease (n : Nat) (s : State) : State :=
  if granted s n then
    rsetFld (R.PLT_LEAVE_GNT n) 1 0 0 { s with leaveGrants := s.leaveGrants.filter fun g => g.n != n }
  else s

/-- A waiting request is taken out of the queue without a grant (R369). -/
def leaveWithdraw (n : Nat) (s : State) : State :=
  { s with leaveQueue := s.leaveQueue.filter fun w => w.n != n }

/-- The pages a request stands for: every enabled tile port shares request 6 (R368). -/
def leavePages (s : State) (n : Nat) : List Nat :=
  if n = 6 then ((upto 16).map fun p => pg 6 p).filter (enabled s) else [leavePage n]

/-- A request has no leave: E_NO_LEAVE on its page, and a start request's page goes back to ENABLE = 0 (R372, R374). -/
def leaveDenied (n : Nat) (s : State) : State :=
  (leavePages s n).foldl (fun s p =>
    let s1 := raiseErr p causeNoLeave (w32 n) s
    if (startPage n).isSome then rsetBit (hdrCtrl p) 0 false s1 else s1) s

/-- A request that waited LEAVE_WAIT_MAX leaves the queue (R372). -/
def leaveExpire (n : Nat) (s : State) : State := leaveDenied n (leaveWithdraw n s)

/-- The grant to withdraw first: the lowest PRIO, then the newest; 22 and 25 never (R374). `leaveGrants` holds the newest first. -/
def withdrawPick : List LeaveGrant → Option Nat
  | [] => none
  | g :: gs =>
    match withdrawPick gs with
    | none => if g.n = 22 ∨ g.n = 25 then none else some g.n
    | some m => if g.n = 22 ∨ g.n = 25 then some m else if leavePrio g.n < leavePrio m then some m else some g.n

/-- Withdraw grants until the total test holds (R374). -/
def withdrawTo (total : Nat) : Nat → State → State
  | 0, s => s
  | fuel + 1, s =>
    if grantedSum s ≤ total then s
    else
      match withdrawPick s.leaveGrants with
      | none => s
      | some n =>
        withdrawTo total fuel (raiseInt (pg 1 2) 2 (leaveDenied n (leaveRelease n s)))

/-- Request 22 at loss of main power: granted at once and marked FORCED (R373). -/
def leaveForce (n : Nat) (s : State) : State :=
  if granted s n then rsetBit (R.PLT_LEAVE_GNT n) 1 true s
  else
    let at_ := match s.leaveQueue.find? (fun w => w.n == n) with | some w => w.at_ | none => s.now
    let beyond := decide (rfld s R.PLT_LEAVE_BUDGET 8 0 < grantedSum s + leaveAmount n ∨
      rfld s R.PLT_LEAVE_BUDGET 23 16 < stepNow s + stepRate n (leaveRamp n))
    let s1 := raiseInt (pg 1 2) 2 (rsetBit (R.PLT_LEAVE_GNT n) 1 true (grantOne n at_ (leaveRamp n) s))
    if beyond then raiseErr (pg 1 2) 0x1D (w32 (grantedSum s1)) (rinc R.PLT_LEAVE_OVER 1 s1) else s1

/-- Units that a reset or a power loss has stopped whatever their pages say (R347, R348, R380, R393). -/
def unitStopped (s : State) (n : Nat) : Bool :=
  (s.stopped == 1 && [2, 3, 4, 7, 11, 12, 15].contains (blockOfPage n)) ||
    (s.stopped == 2 && !(List.contains [1, 10, 13] (blockOfPage n)))

/-- The grants of a page's start, all held: its unit runs (R32, R368). A page without a start request runs when enabled. -/
def unitRuns (s : State) (n : Nat) : Bool := enabled s n && (startRequests n).all (granted s) && !unitStopped s n

/-- PG_STATUS.LEAVE_HELD of a page (R369): its unit holds a grant. -/
def leaveHeld (s : State) (n : Nat) : Bool :=
  s.leaveGrants.any fun g =>
    if g.n ≤ 1 then n == pg 3 g.n || n == pg 3 (3 + g.n) || n == pg 3 (5 + g.n)
    else if g.n = 6 then blockOfPage n == 6 && enabled s n
    else if g.n = 5 ∨ g.n = 4 ∨ g.n = 7 ∨ g.n = 28 ∨ g.n = 29 ∨ (12 ≤ g.n ∧ g.n ≤ 21)
      then blockOfPage n == blockOfPage (leavePage g.n)
    else n == leavePage g.n

end Sys2Proof.Machine
end

