-- ==== Sys2Proof/Machine/MemBase.lean ====
section
/-! DEFINITION. External memory as other blocks see it: the address map, errors and the ranks they retire, self-refresh, and the
blocks' own reads and writes (R238 to R243, R247). DESIGN CHOICE (log 138): a block's command comes when MEM has served what it
reads and writes, so those accesses are not queued. -/

namespace Sys2Proof.Machine

/-! ### The address map (R238) -/

def memChannels (s : State) : Nat := rfld s R.MEM_CFG 3 0

/-- R_MAP: the bytes of each rank that are mapped. -/
def rankMapped (s : State) : Nat :=
  let gib := 2 ^ 30
  let cap := (8 + 4 * rfld s R.MEM_CFG 9 8) * gib
  if memChannels s = 0 then 0 else min cap (192 * gib / (2 * memChannels s))

/-- Channel of a burst, and its unit V within the channel. -/
def memUnit (s : State) (burst : Nat) : Nat × Nat := (burst / 4 % memChannels s, burst / 4 / memChannels s)

/-- Channel and active slot of a burst. -/
def memPlace (s : State) (burst : Nat) : Nat × Nat :=
  let (ch, v) := memUnit s burst
  (ch, if v < rankMapped s / 256 then 0 else 1)

/-- The 4 KiB region of its rank that a burst lies in (R248). -/
def memRegion (s : State) (burst : Nat) : Nat := (memUnit s burst).2 % (rankMapped s / 256) / 16

/-- The physical rank that serves a slot. -/
def slotRank (s : State) (ch slot : Nat) : Nat := rfld s (R.MEM_RANK_MAP ch) (2 * slot + 1) (2 * slot)

/-- A burst of a slot that migrates and lies below P: the spare holds it too (R248). -/
def memCopied (s : State) (burst : Nat) : Bool :=
  let (ch, slot) := memPlace s burst
  rbit s (R.MEM_MIG ch) 24 && decide (rfld s (R.MEM_MIG ch) 25 25 = slot) && decide (memRegion s burst < rfld s (R.MEM_MIG ch) 21 0)

/-- The physical rank a burst is read from. -/
def readRank (s : State) (burst : Nat) : Nat :=
  let (ch, slot) := memPlace s burst
  if memCopied s burst then 2 else slotRank s ch slot

/-- The physical ranks a burst is written to. -/
def writeRanks (s : State) (burst : Nat) : List Nat :=
  let (ch, slot) := memPlace s burst
  slotRank s ch slot :: if memCopied s burst then [2] else []

def memChan (s : State) (ch : Nat) : MemChan := nth {} s.memCtl.chans ch
def setMemChan (ch : Nat) (v : MemChan) (s : State) : State :=
  { s with memCtl := { s.memCtl with chans := setNth s.memCtl.chans ch v } }
def chanPage (ch : Nat) : Nat := pg 10 (ch + 1)

/-! ### Rank retirement (R247, R248) -/

/-- The first migration that waits starts, with leave granted. -/
def migStart (s : State) : State :=
  match s.memCtl.migrate with
  | [] => s
  | (ch, slot) :: _ => if rbit s (R.MEM_MIG ch) 24 then s else rset (R.MEM_MIG ch) (w32 (2 ^ 24 + slot * 2 ^ 25)) s

/-- The active slot that a physical rank serves. -/
def rankSlot (s : State) (ch rank : Nat) : Option Nat := lowest 2 fun k => decide (slotRank s ch k = rank)

/-- An active rank is to retire: its contents move to the channel's spare, or E_NO_SPARE_RANK once per rank. -/
def memRetire (ch rank : Nat) (s : State) : State :=
  let c := memChan s ch
  match rankSlot s ch rank with
  | none => s
  | some slot =>
    if s.memCtl.migrate.contains (ch, slot) then s
    else
      let free := rbit s R.MEM_CFG 10 && !c.spareBad && decide (slotRank s ch 0 ≠ 2 ∧ slotRank s ch 1 ≠ 2) &&
        !(s.memCtl.migrate.any fun e => e.1 == ch)
      if free then
        (let s1 := { s with memCtl := { s.memCtl with migrate := s.memCtl.migrate ++ [(ch, slot)] } }
         if granted s1 26 then migStart s1 else leaveRequest 26 s1)
      else if nth false c.noSpare rank then s
      else raiseErr (chanPage ch) 0x14 (w32 rank) (setMemChan ch { c with noSpare := setNth c.noSpare rank true } s)

/-- The count of a rank's corrected bursts within CE_WINDOW against CE_THR: passing it raises E_CE_THRESHOLD, and the rank retires. -/
def ceCheck (ch rank : Nat) (s : State) : State :=
  let c := memChan s ch
  let win := rfld s (R.MEM_CE_THR ch) 31 16 * 1000000000
  let ts := (nth [] c.ce rank).filter fun t => decide (s.now < t + win)
  let above := decide (rfld s (R.MEM_CE_THR ch) 15 0 < ts.length)
  let s1 := setMemChan ch { c with ce := setNth c.ce rank ts, over_ := setNth c.over_ rank above } s
  if !above then s1
  else memRetire ch rank
    (if nth false c.over_ rank then s1 else raiseInt (chanPage ch) 3 (raiseErr (chanPage ch) 0x11 (w32 rank) s1))

/-- A corrected burst: counted, and against the threshold within its window (R247). -/
def memCe (ch rank : Nat) (s : State) : State :=
  let s1 := rinc (R.MEM_CNT_CE ch) 1 s
  let c := memChan s1 ch
  ceCheck ch rank (setMemChan ch { c with ce := setNth c.ce rank (s1.now :: nth [] c.ce rank) } s1)

/-- An uncorrectable burst: poisoned from now on (R240), and its rank retires (R247). -/
def memUe (burst : Nat) (s : State) : State :=
  if memChannels s = 0 then s
  else
    let ch := (memPlace s burst).1
    let s1 := { s with poison := setInsert s.poison burst }
    let s2 := rset2 (R.MEM_UE_ADDR ch) (burst * 64) (rinc (R.MEM_CNT_UE ch) 1 s1)
    memRetire ch (readRank s burst) (raiseErr (chanPage ch) 0x10 (w32 (burst * 64)) s2)

/-! ### Self-refresh (R243, R252) -/

/-- All channels leave self-refresh together. -/
def memWake (s : State) : State :=
  if rbit s R.MEM_STATE 0 then raiseInt (pg 10 0) 1 (rsetBit R.MEM_STATE 0 false s) else s

/-- All channels enter self-refresh together. -/
def memSleep (s : State) : State :=
  if rbit s R.MEM_STATE 0 then s else raiseInt (pg 10 0) 1 (rinc R.MEM_CNT_SR 1 (rsetBit R.MEM_STATE 0 true s))

/-! ### The blocks' reads and writes -/

/-- The poisoned bursts that `k` bytes at `a` meet. -/
def poisonMet (s : State) (k a : Nat) : List Nat :=
  if k = 0 then [] else s.poison.filter fun b => decide (a / 64 ≤ b ∧ b ≤ (a + k - 1) / 64)

/-- A block reads device memory: self-refresh ends, and each poisoned burst it meets is an uncorrectable error again (R240, R243). -/
def memSee (host : Bool) (k a : Nat) (s : State) : State :=
  if host || decide (k = 0) then s else (poisonMet s k a).foldl (fun s b => memUe b s) (memWake s)

/-- A block writes bytes from `a` upwards. A burst of device memory that is written whole is no longer poisoned; one that is written in part
is read for it first, and stays poisoned (R239, R240). -/
def memWrite (host : Bool) (a : Nat) (bs : List Byte) (s : State) : State :=
  if host then memPuts true a bs s
  else if bs.isEmpty then s
  else
    let partly := (poisonMet s bs.length a).filter fun b => !decide (a ≤ 64 * b ∧ 64 * b + 64 ≤ a + bs.length)
    memClean false a bs.length (memPuts false a bs (partly.foldl (fun s b => memUe b s) (memWake s)))

/-- Bytes into a ring of `size` bytes at `base`, from offset `off`, wrapping past its end. -/
def ringWrite (host : Bool) (base size off : Nat) (bs : List Byte) (s : State) : State :=
  if size = 0 then memWrite host (base + off) bs s
  else
    let o := off % size
    memWrite host base (bs.drop (size - o)) (memWrite host (base + o) (bs.take (size - o)) s)

end Sys2Proof.Machine
end

