-- ==== Sys2Proof/Machine/CntBase.lean ====
section
/-! DEFINITION. Clock domains of the blocks (R16, R398), and precise sampling (R403). -/

namespace Sys2Proof.Machine

def setCnt (v : CntState) (s : State) : State := { s with cnt := v }

/-- The domain a block's signals live in, in the order of R16's table; of two domains the second (R398). -/
def domainOf (block : Nat) : Nat :=
  if block = 2 ∨ block = 3 ∨ block = 4 then 0
  else if block = 10 then 2
  else if block = 8 then 3
  else if block = 14 then 5
  else if block = 15 then 6
  else if block = 6 ∨ block = 9 then 8
  else if block = 0 then 0
  else 1

/-- Samples in the ring that have not been read. -/
def psUnread (s : State) : Nat :=
  if s.cnt.psFull then 4096 else (rfld s R.CNT_PS_WR 11 0 + 4096 - rfld s R.CNT_PS_RD 11 0) % 4096

/-- The 32-byte record of a sample. -/
def psRecord (o : PsOpen) (latency : Nat) : List Byte :=
  leBytes 1 o.kind ++ leBytes 1 o.source ++ leBytes 2 o.queue ++ leBytes 4 o.tag ++ leBytes 8 o.addr ++
    longBytes o.at16 ++ leBytes 4 (satTo 0xFFFFFFFF latency)

/-- A sample goes to the ring: the record, then WR, then VEC. With 4,096 unread it is dropped and counted. -/
def psWrite (o : PsOpen) (latency : Nat) (s : State) : State :=
  if psUnread s = 4096 then raiseInt (pg 17 10) 1 (raiseErr (pg 17 10) 0x12 (w32 o.cls) (rinc R.CNT_PS_LOST 1 s))
  else
    let wr := rfld s R.CNT_PS_WR 11 0
    let s1 := memWrite (rbit s R.CNT_PS_CTRL 3) (rnat2 s R.CNT_PS_BASE + 32 * wr) (psRecord o latency) s
    let next := (wr + 1) % 4096
    let s2 := setCnt { s1.cnt with psFull := decide (next = rfld s R.CNT_PS_RD 11 0) } (rset R.CNT_PS_WR (w32 next) s1)
    sourceVector (rfld s2 R.CNT_PS_CTRL 31 21) s2

/-- An operation of an enabled class is counted; whether it is one of the N-th. -/
def psTakes (s : State) (cls : Nat) : Bool × State :=
  if !rbit s R.CNT_PS_CTRL cls then (false, s)
  else
    let k := nth 0 s.cnt.counts cls + 1
    (decide (k % (rfld s (R.CNT_PS_N cls) 15 0 + 1) = 0), setCnt { s.cnt with counts := setNth s.cnt.counts cls k } s)

/-- An operation begins. -/
def psBegin (cls key kind source queue tag addr : Nat) (s : State) : State :=
  let (taken, s1) := psTakes s cls
  if taken then
    setCnt { s1.cnt with open_ := s1.cnt.open_ ++
      [{ cls := cls, key := key, kind := kind, source := source, queue := queue, tag := tag, addr := addr, at16 := merNow s1, atNs := s1.now }] } s1
  else s1

/-- An operation completes; `f` adds what its record could not know at its start. -/
def psEnd (cls key : Nat) (f : PsOpen → PsOpen) (s : State) : State :=
  match s.cnt.open_.find? fun o => o.cls == cls && o.key == key with
  | none => s
  | some o =>
    psWrite (f o) (s.now - o.atNs)
      (setCnt { s.cnt with open_ := s.cnt.open_.filter fun x => !(x.cls == cls && x.key == key) } s)

/-- Operations discarded without completion leave no record and are counted. -/
def psDiscard (cls : Nat) (gone : Nat → Bool) (s : State) : State :=
  let hit := fun (o : PsOpen) => o.cls == cls && gone o.key
  let n := (s.cnt.open_.filter hit).length
  if n = 0 then s
  else rinc R.CNT_PS_LOST n (setCnt { s.cnt with open_ := s.cnt.open_.filter fun o => !hit o } s)

/-- A register access by the host or the Binnacle: its latency in the device is a free value. -/
def psRegister (who : Requester) (isWrite : Bool) (addr : Nat) (s : State) : State :=
  if who = .jtag then s
  else
    let (taken, s1) := psTakes s 1
    if taken then
      draw (psWrite
        { cls := 1, key := 0, kind := 1 + 4 * b2n isWrite + 8 * b2n (decide (who = .binnacle)),
          source := blockOfPage (pageOf addr), queue := 0xFFFF, tag := rnat s1 (hdrSeq (pageOf addr)), addr := addr,
          at16 := merNow s1, atNs := s1.now }
        (Config.psLatency s1.drawn) s1)
    else s1

/-- A write of CNT_PS_CTRL: a class counts from its enable; a write of CNT_PS_RD: what it passes has been read. -/
def psControl (before s : State) : State :=
  let fresh := fun k => !rbit before R.CNT_PS_CTRL k && rbit s R.CNT_PS_CTRL k
  let counts := (upto 3).map fun k => if fresh k then 0 else nth 0 s.cnt.counts k
  setCnt { s.cnt with counts := counts } s

end Sys2Proof.Machine
end

