-- ==== Sys2Proof/Machine/Work.lean ====
section
/-! DEFINITION. Work in flight on each page (PG_STATUS.BUSY, R31). -/

namespace Sys2Proof.Machine

/-- Work in flight on page `p` of block `c`. -/
def blockBusy (s : State) (c p : Nat) : Bool :=
  match c with
  | 1 => p == 1 && (s.plt.flashOp.isSome || !s.plt.bootQueue.isEmpty)
  | 2 => (siuAt s p).frame.isSome
  | 3 =>
    let pipe := fun (k : Nat) => !(clrAt s k).frames.isEmpty || (clrAt s k).loading.isSome
    if p = 2 then s.clrSpare.testing.isSome
    else if p = 7 then false
    else pipe (if p = 1 ∨ p = 4 ∨ p = 6 then 1 else 0)
  | 4 => !s.cnv.pics.isEmpty || s.cnv.scan.isSome
  | 5 => s.pho.pass.isSome
  | 6 => (nth {} s.tlk p).asked.isSome
  | 7 => if p = 4 then !s.cas.waiting.isEmpty || !s.cas.leaving.isEmpty else !(nth {} s.cas.ports p).unacked.isEmpty
  | 9 => (upto 20).any fun i => let st := rfld s (R.LAN_L_STATE p i) 2 0; decide (st = 1 ∨ st = 2 ∨ st = 3)
  | 10 => if p = 0 then !s.memCtl.queue.isEmpty || !s.memCtl.migrate.isEmpty else rbit s R.MEM_STATE (16 + (p - 1))
  | 11 => !s.cmp.waiting.isEmpty || s.cmp.lanes.any Option.isSome
  | 12 =>
    (match s.cod.cur with
     | none => false
     | some c => p == 0 || p == c.ctx.val + 1)
  | 13 =>
    if p = 0 then !s.recorder.nvme.cmds.isEmpty || !s.recorder.nvme.writeWait.isEmpty || !s.recorder.ops.isEmpty || s.recorder.flushing
    else if p = 1 then rfld s R.REC_ARRAY_STATE 2 0 == 1 || rfld s R.REC_ARRAY_STATE 2 0 == 3
    else !s.recorder.frames.isEmpty
  | 14 => p != 0 && (let x := nth {} s.mot (p - 1); x.cal.isSome || x.reacq || !x.queue.isEmpty)
  | 15 => p != 0 && (nth {} s.aud (p - 1)).begun
  | 16 => rbit s (R.TWI_XSTAT p) 1
  | 17 => if p = 0 then s.cnt.writing.isSome else p == 10 && !s.cnt.open_.isEmpty
  | 18 => s.dbg.token.isSome
  | _ => false

/-- Work in flight on a page, by its number. -/
def pageBusy (s : State) (n : Nat) : Bool := blockBusy s (blockOfPage n) (n % 16)

end Sys2Proof.Machine
end

