-- ==== Sys2Proof/Machine/Regs.lean ====
section
/-! DEFINITION. Reads and writes of registers by their access codes, ranges, locks and shadow rules (R7, R8, R28 to R38, R42, R424), and commits. -/

namespace Sys2Proof.Machine

/-! ### Reading -/

/-- PG_ID (R31). INSTANCE is the page's own number where the block's pages serve ports, pipelines, channels, contexts or axes. -/
def instanceOf (n : Nat) : Nat :=
  let c := blockOfPage n
  let p := n % 16
  if c = 2 ∨ c = 6 ∨ c = 16 then p
  else if c = 3 then (if p = 1 ∨ p = 4 ∨ p = 6 then 1 else 0)
  else if c = 7 then (if p ≤ 3 then p else 0)
  else if c = 10 ∨ c = 12 ∨ c = 14 ∨ c = 15 then p - 1
  else 0

def idWord (n : Nat) : Word :=
  w32 (blockOfPage n * 2 ^ 24 + n % 16 * 2 ^ 16 + 0x01 * 2 ^ 8 + instanceOf n)

/-- PG_CAPS.UNITS of a page (R31 and each block's chapter). -/
def unitsOf (s : State) (n : Nat) : Nat :=
  let c := blockOfPage n
  if c = 9 then
    (if n % 16 = 0 then (if s.code = .wall then 0 else 10)
     else if n % 16 = 1 then (if s.code = .camera then 6 else 18)
     else if n % 16 = 2 then 18 else if n % 16 = 3 then 8 else 20)
  else if c = 6 then (if s.code = .camera then 4 else 16)
  else if c = 10 then rfld s R.MEM_CFG 3 0
  else if c = 2 ∨ c = 3 then 2
  else if c = 7 ∨ c = 12 ∨ c = 15 ∨ c = 16 then 4
  else if c = 11 then 10
  else if c = 13 then 5
  else if c = 14 then 8
  else if c = 17 then 18
  else if c = 18 then 16
  else 1

def capsWord (s : State) (n : Nat) : Word :=
  w32 (unitsOf s n * 2 ^ 24 + blockPagesM1 (blockOfPage n) * 2 ^ 20)

/-- A block whose block reset runs (R35). -/
def blockResetting (s : State) (n : Nat) : Bool := s.resetting.contains (blockOfPage n)

/-- Every lane of every LAN page is DOWN (0) or RETIRED (6) (R235). -/
def lanesQuiet (s : State) : Bool :=
  [(0, 10), (1, 18), (2, 18), (3, 8), (4, 20)].all fun (p, k) => (upto k).all fun i =>
    let st := rfld s (R.LAN_L_STATE p i) 2 0
    st == 0 || st == 6

/-- A page whose unit is told to stop, and has stopped (R32): its flag, and no work in flight. -/
def stoppedIdle (s : State) (n : Nat) : Bool := isIdle s n && !pageBusy s n

/-- Every client of the memory is idle (R252). -/
def clientsIdle (s : State) : Bool :=
  (upto 288).all fun n => !(List.contains [2, 3, 4, 5, 7, 11, 12, 13, 15] (blockOfPage n)) || stoppedIdle s n

/-- PG_STATUS.IDLE as it reads (R31, R32, R97, R235, R252, R365). The unit behind every page of
CNV, PHO, REC, MOT and AUD runs by page 0 of its block (DEDUCED). -/
def idleRead (s : State) (n : Nat) : Bool :=
  if blockResetting s n then false
  else
    stoppedIdle s n &&
      (match blockOfPage n with
       | 1 => false
       | 2 => stoppedIdle s (pg 2 0) && stoppedIdle s (pg 2 1)
       | 3 => stoppedIdle s (pg 3 0) && stoppedIdle s (pg 3 1)
       | 4 | 5 | 13 => stoppedIdle s (pg (blockOfPage n) 0)
       | 9 => lanesQuiet s
       | 10 => clientsIdle s
       | 14 => stoppedIdle s (pg 14 0)
       | 15 => stoppedIdle s (pg 15 0)
       | _ => true)

/-- Access bits a read shows: RO, RW, RW-S, RW-L, W1C and W1S fields; WO fields read 0 (R7, R8). -/
def readMask (fs : List FieldDesc) : Nat :=
  fs.foldl (fun a f => if f.acc = .wo then a else withBits a f.hi f.lo (2 ^ (f.hi + 1 - f.lo) - 1)) 0

/-- The key of word `k` of the copy that a requester holds on a page: three copies per page (R38). -/
def latchKey (who : Requester) (n k : Nat) : Nat :=
  (match who with | .host => 0 | .binnacle => 1 | .jtag => 2) * 0x2000000 + pageBase n + 4 * k

def latched (s : State) (who : Requester) (n k : Nat) : Word := smGet 0#32 s.latch (latchKey who n k)

/-- The word of an axis's latch record that an address is (R320): the record is POS, TIME and VEL, six words from LATCH_POS_LO. -/
def latchRecordWord (addr : Nat) : Option Nat :=
  let n := pageOf addr
  let base := R.MOT_AX_LATCH_POS (n - pg 14 1)
  if pg 14 1 ≤ n ∧ n ≤ pg 14 8 ∧ base ≤ addr ∧ addr < base + 24 ∧ (addr - base) % 4 = 0 then some ((addr - base) / 4) else none

/-- Which word of a latched quantity an address is, and how many words follow its `_LO` word (R38, R320). -/
def latchPlace (addr : Nat) : Option (Nat × Nat) :=
  match latchRecordWord addr with
  | some k => some (k, 5)
  | none => (regAt addr).map fun (r, w) => (w, r.words - 1)

/-- Words that show live state rather than a stored value (RO). -/
def liveWord (s : State) (addr : Nat) : Option Word :=
  let t := longWords (merNow s)
  if addr = R.MER_TIME then some t.1
  else if addr = R.MER_TIME + 4 then some t.2.1
  else if addr = R.MER_TIME + 8 then some t.2.2
  else if addr = R.MER_SHORT then some (w32 (merNow s / 65536))
  else if addr = R.PLT_LEAVE_GRANTED then some (w32 (grantedSum s % 512 + stepNow s % 256 * 65536))
  else if addr = R.PLT_LEAVE_QUEUE then
    some (w32 (s.leaveQueue.length % 64 +
      (match s.leaveQueue with | [] => 0 | w :: _ => w.n * 65536)))
  else if R.PLT_LEAVE_REQ 0 ≤ addr ∧ addr ≤ R.PLT_LEAVE_REQ 31 then
    let n := (addr - R.PLT_LEAVE_REQ 0) / 4
    let (a, r, p) := leaveInfo n
    some (w32 (a + r * 2 ^ 12 + p * 2 ^ 16 + b2n (waiting s n) * 2 ^ 31))
  else if addr = R.CLR_TW_DATA ∨ addr = R.CLR_TW_DATA + 4 then
    let c := clrAt s (rfld s R.CLR_TW_SEL 0 0)
    let t := rfld s R.CLR_TW_SEL 3 1
    let i := rfld s R.CLR_TW_INDEX 18 0
    let v := if t ≤ 1 then smGet 0 (if t = 0 then c.lut0 else c.lut1) i
      else (smGet f32Zero (nth [] c.tables (t - 2)) i).toNat
    some (w32 (if addr = R.CLR_TW_DATA then v else v / 2 ^ 32))
  else if addr = R.PLT_START_TIMER then
    some (if s.plt.phase = .held then 0#32 else w32 (satTo 0xFFFF ((s.now - s.plt.releasedAt) / 1000000)))
  else if R.DBG_TMUX_SEL 0 ≤ addr ∧ addr ≤ R.DBG_TMUX_SEL 15 then
    some (setBits (rget s addr) 23 20 (domainOf (rfld s addr 12 8)))
  else if addr = R.MOT_FAULT then
    some (w32 ((upto 8).foldl (fun a k => a + b2n (decide (rget s (R.MOT_AX_FAULT k) ≠ 0#32)) * 2 ^ k) 0))
  else none

/-- A header word as it reads (R31 to R37). -/
def readHeader (s : State) (n off : Nat) : Word :=
  if off = 0x000 then idWord n
  else if off = 0x004 then capsWord s n
  else if off = 0x008 then setBitAt (rget s (hdrCtrl n)) 2 (blockResetting s n)
  else if off = 0x00C then
    setBitAt (setBitAt (setBitAt (setBitAt (rget s (hdrStatus n)) 0 (idleRead s n)) 1
      (pageBusy s n || blockResetting s n)) 2 (rbit s (hdrIntStat n) 0)) 3 (leaveHeld s n)
  else if off = 0x01C ∨ 0x030 ≤ off then 0#32
  else rget s (pageBase n + off)

/-- What a 32-bit read of a word returns to a requester, without the latching of `_LO` reads. -/
def readWord (s : State) (who : Requester) (addr : Nat) : Word :=
  let n := pageOf addr
  let off := addr % 0x1000
  if !pageThere s n || (!s.fabricOpen && decide (n ≠ 0)) then 0#32
  else if off < 0x040 then readHeader s n off
  else if blockResetting s n then 0#32
  else
    match latchPlace addr with
    | some (k + 1, _) => latched s who n (k + 1)
    | _ =>
      match regAt addr with
      | none => 0#32
      | some (r, _) =>
        match liveWord s addr with
        | some v => v
        | none => if r.words = 1 then BitVec.ofNat 32 (readMask r.fields) &&& rget s addr else
            (if r.fields.all (fun f => f.acc == .wo) then 0#32 else rget s addr)

/-- The unlatched value of a word of a multi-word quantity. -/
def wordNow (s : State) (addr : Nat) : Word :=
  match liveWord s addr with
  | some v => v
  | none => rget s addr

/-- Copy `m` words after `_LO`, from word `k` on, into the requester's copy of the page (R38). -/
def latchWords (who : Requester) (base : Nat) : Nat → Nat → State → State
  | 0, _, s => s
  | m + 1, k, s =>
    latchWords who base m (k + 1)
      { s with latch := smSet 0#32 s.latch (latchKey who (pageOf base) k) (wordNow s (base + 4 * k)) }

/-- A read of `_LO` latches the higher words for its requester (R38, R320). The copy's words beyond those stay as they were (DEDUCED). -/
def latchRead (who : Requester) (addr : Nat) (s : State) : State :=
  match latchPlace addr with
  | some (0, m) => latchWords who addr m 1 s
  | _ => s

/-! ### Ranges (R34, R77, R424) -/

/-- Whether `v` lies inside a field's stated range. -/
def inRange (c : RangeCheck) (v : Nat) : Bool :=
  match c with
  | .any => true
  | .range lo hi => decide (lo ≤ v ∧ v ≤ hi)
  | .multiple n => decide (v % n = 0)
  | .vec => decide (v = 0 ∨ (288 ≤ v ∧ v ≤ 2047))
  | .f32 => f32IsFinite (w32 v)
  | .f32Range lo hi => f32IsFinite (w32 v) && f32Le lo (w32 v) && f32Le (w32 v) hi
  | .geoW => decide (256 ≤ v + 1 ∧ v + 1 ≤ 32768 ∧ (v + 1) % 16 = 0)
  | .codW => decide (64 ≤ v + 1 ∧ v + 1 ≤ 8192 ∧ (v + 1) % 2 = 0)
  | .codH => decide (64 ≤ v + 1 ∧ v + 1 ≤ 4320 ∧ (v + 1) % 2 = 0)
  | .wfp => decide (4166667 * 65536 ≤ v ∧ v ≤ 41666667 * 65536)
  | .longTime => decide (v % 2 ^ 32 ≤ 999999999)

/-! ### Writing -/

/-- PLT_LOCK.LOCK is set (R366). -/
def locked (s : State) : Bool := rbit s R.PLT_LOCK 0

/-- The debug scope a register belongs to, where it has one (R406). -/
def debugScope (addr : Nat) : Option Nat :=
  if R.DBG_TMUX_SEL 0 ≤ addr ∧ addr ≤ R.DBG_TMUX_SEL 15 then some 1
  else if addr = R.DBG_RESET_REQ then some 2
  else none

/-- The debug scope of a register is closed. -/
def debugClosed (s : State) (addr : Nat) : Bool :=
  match debugScope addr with
  | some k => !rbit s R.DBG_LOCK k
  | none => false

/-- RO fields that the Binnacle may write: two until the lock is set (R425), and FLASH_GRANT, which firmware reports (R364). -/
def binnacleMayWrite (s : State) (who : Requester) (addr : Nat) (f : FieldDesc) : Bool :=
  decide (who = .binnacle) &&
    ((!locked s && (addr == R.MEM_CFG || addr == R.REC_MEDIA_MAP)) || (addr == R.PLT_FLASH_CMD && f.lo == 16))

/-- Store a field of the written value if it lies in range, else raise E_RANGE (R34): once for each field out of range, so that
MORE counts each (DESIGN CHOICE: the spec does not say how many errors one written word raises). -/
def storeChecked (n off : Nat) (v : Word) (f : FieldDesc) (acc : Word × State) : Word × State :=
  if inRange f.check (getBits v f.hi f.lo) then (setBits acc.1 f.hi f.lo (getBits v f.hi f.lo), acc.2)
  else (acc.1, raiseErr n causeRange (w32 off) acc.2)

/-- One field of a one-word register takes its part of a write (R7). -/
def applyField (n off : Nat) (v : Word) (busy lock : Bool) (open_ : FieldDesc → Bool) (skip : Word) (acc : Word × State) (f : FieldDesc) :
    Word × State :=
  if bitAt skip f.lo then acc
  else
    match f.acc with
    | .ro => if open_ f then (setBits acc.1 f.hi f.lo (getBits v f.hi f.lo), acc.2) else acc
    | .w1s => (acc.1 ||| w32 (getBits v f.hi f.lo * 2 ^ f.lo), acc.2)
    | .w1c => (acc.1 &&& ~~~(w32 (getBits v f.hi f.lo * 2 ^ f.lo)), acc.2)
    | .rws => if busy then acc else storeChecked n off v f acc
    | .rwl => if lock then (acc.1, raiseErr n causeLocked (w32 off) acc.2) else storeChecked n off v f acc
    | .rw => storeChecked n off v f acc
    | .wo => storeChecked n off v f acc

/-- The held value of lower word `k` of a quantity: as written since the last apply, else the value last applied (R38). -/
def heldWord (s : State) (addr : Nat) : Word := smGet (rget s addr) s.held addr

/-- Lower words of a quantity, held or last applied, as a number below the top word. -/
def heldLow (s : State) (base : Nat) : Nat → Nat → Nat
  | 0, _ => 0
  | m + 1, k => (heldWord s (base + 4 * k)).toNat * 2 ^ (32 * k) + heldLow s base m (k + 1)

/-- Forget the held lower words. -/
def dropHeld (base : Nat) : Nat → Nat → State → State
  | 0, _, s => s
  | m + 1, k, s => dropHeld base m (k + 1) { s with held := smDel s.held (base + 4 * k) }

/-- Store `words` words of a value from `base`. -/
def storeWords (base v : Nat) : Nat → Nat → State → State
  | 0, _, s => s
  | m + 1, k, s => storeWords base v m (k + 1) (rset (base + 4 * k) (w32 (v / 2 ^ (32 * k))) s)

/-- A write of word `w` of a quantity wider than 32 bits (R38). The row's one field gives the width of the top word. -/
def writeWide (n addr : Nat) (v : Word) (r : RegDesc) (w : Nat) (lock : Bool) (s : State) : State :=
  match r.fields with
  | [] => s
  | f :: _ =>
    let off := addr % 0x1000
    if f.acc = .ro then s
    else if f.acc = .rwl ∧ lock then raiseErr n causeLocked (w32 off) s
    else if w + 1 < r.words then { s with held := smPut s.held addr v }
    else
      let base := addr - 4 * w
      let whole := heldLow s base w 0 + getBits v f.hi 0 * 2 ^ (32 * w)
      let s1 := dropHeld base w 0 s
      if inRange f.check whole then storeWords base whole r.words 0 s1
      else raiseErr n causeRange (w32 off) s1

/-- A write that the warm reset or a block reset discards is counted (R35, R43). -/
def dropWrite (s : State) : State := rinc R.PLT_DROPPED_WRITES 1 s

/-- A write is taken by its page: PG_SEQ counts it (R37). -/
def countSeq (n : Nat) (s : State) : State := rinc (hdrSeq n) 1 s

/-- Why a write never reaches its page, or that it does (R3, R28, R35, R37, R43, R351). -/
def pageTakes (addr : Nat) (s : State) : Bool :=
  pageThere s (pageOf addr) && !s.warmBegun && !blockResetting s (pageOf addr)

/-- What a write that no page takes leaves: a count, or nothing. -/
def untaken (addr : Nat) (s : State) : State :=
  if s.warmBegun then dropWrite s
  else if pageThere s (pageOf addr) && blockResetting s (pageOf addr) then dropWrite s
  else s

/-- A register that has RW-S fields only. -/
def allShadowed (r : RegDesc) : Bool := r.fields.all fun f => f.acc == .rws

def anyShadowed (r : RegDesc) : Bool := r.fields.any fun f => f.acc == .rws

/-- The write of a block register (from 0x040 up) that its page takes or refuses: access codes, ranges, locks, the
pending commit (R7, R34, R36 to R38). Fields whose lowest bit lies in `skip` do not take it. A W1S bit
written 1 is set; what else it does is its command's. -/
def writeWord (who : Requester) (addr : Nat) (v skip : Word) (s : State) : State :=
  let n := pageOf addr
  let off := addr % 0x1000
  if !pageTakes addr s then untaken addr s
  else if debugClosed s addr then raiseErr (pg 18 0) 0x10 (w32 off) s
  else
    match regAt addr with
    | none => countSeq n s
    | some (r, w) =>
      let busy := commitPending s n && anyShadowed r
      let s0 := if busy then raiseErr n causeCommitBusy (w32 off) s else s
      if busy && allShadowed r then s0
      else
        let s1 := countSeq n s0
        let open_ := binnacleMayWrite s who addr
        if 1 < r.words then writeWide n addr v r w (locked s) s1
        else
          let res := r.fields.foldl (applyField n off v busy (locked s) open_ skip) (rget s1 addr, s1)
          rset addr res.1 res.2

/-- A register write, with its precise sample (R403). -/
def writeReg (who : Requester) (addr : Nat) (v skip : Word) (s : State) : State :=
  let s1 := writeWord who addr v skip s
  if pageTakes addr s then psRegister who true addr s1 else s1

/-- What a register read returns to its requester, with its precise sample (R403). -/
def readOut (who : Requester) (addr : Nat) (v : Word) (s : State) : State :=
  let s1 := emit (.readData who v) s
  if pageThere s (pageOf addr) then psRegister who false addr s1 else s1

/-! ### Commits (R36) -/

/-- Pages that hold RW-S fields (R36). -/
def hasShadow (n : Nat) : Bool :=
  let c := blockOfPage n
  let p := n % 16
  (c == 2 || c == 4 || c == 5) || (c == 3 && p != 2 && p != 7) || (c == 12 && p != 0) || (c == 14 && p != 0)

def onPage (n addr : Nat) : Bool := pageOf addr == n

/-- A stored word whose row has an RW-S field. -/
def shadowedAddr (addr : Nat) : Bool :=
  match regAt addr with
  | some (r, _) => anyShadowed r
  | none => false

/-- Every staged RW-S field of a page goes into use at once, and PENDING clears (R36, OP2). -/
def commitApply (n : Nat) (s : State) : State :=
  let kept := s.inUse.filter fun e => !onPage n e.1
  let staged := s.regs.filter fun e => onPage n e.1 && shadowedAddr e.1
  rsetBit (hdrShadow n) 1 false
    { s with inUse := staged.foldl (fun m e => smPut m e.1 e.2) kept }

/-- A commit that fails its check: PENDING clears, nothing goes into use, the staged values stay (R79, R107, R114). -/
def commitFail (n cause : Nat) (info : Word) (s : State) : State :=
  raiseErr n cause info (rsetBit (hdrShadow n) 1 false s)

end Sys2Proof.Machine
end

