-- ==== Sys2Proof/Machine/Rings.lean ====
section
/-! DEFINITION. Record rings: reservation at RES, publication in order, void records, change of the ring (R68, R423). -/

namespace Sys2Proof.Machine

/-- The registers of one record ring: control word and its HOST bit, base, size, write and read offsets. -/
structure RingRegs where
  ctrl : Nat
  hostBit : Nat
  base : Nat
  size : Nat
  wr : Nat
  rd : Nat
  deriving DecidableEq, Repr

def t0Regs (p : Nat) : RingRegs :=
  { ctrl := R.SIU_T0_CTRL p, hostBit := 9, base := R.SIU_T0_BASE p, size := R.SIU_T0_SIZE p,
    wr := R.SIU_T0_WR p, rd := R.SIU_T0_RD p }

def tapRegs (p : Nat) : RingRegs :=
  { ctrl := R.CLR_TAP_CTRL p, hostBit := 12, base := R.CLR_TAP_BASE p, size := R.CLR_TAP_SIZE p,
    wr := R.CLR_TAP_WR p, rd := R.CLR_TAP_RD p }

/-- The free space of R423: every reserved record counts as used, and 64 bytes stay free. -/
def ringFree (r : RecordRing) (rd : Nat) : Nat :=
  if r.size = 0 then 0 else r.size - (r.res + r.size - rd % r.size) % r.size - 64

/-- A changed base, size or HOST bit takes effect at an accepted SOF at which nothing is reserved (R423). -/
def ringAdopt (g : RingRegs) (r : RecordRing) (s : State) : RecordRing × State :=
  let b := rnat2 s g.base
  let z := rnat s g.size
  let h := rbit s g.ctrl g.hostBit
  if r.held.isEmpty && !(decide (b = r.base ∧ z = r.size ∧ h = r.host)) then
    ({ r with base := b, size := z, host := h, res := 0 }, rset g.rd 0#32 (rset g.wr 0#32 s))
  else (r, s)

/-- Reserve `len` bytes at RES for a frame. -/
def ringReserve (r : RecordRing) (len id vec : Nat) : RecordRing :=
  { r with res := (r.res + len) % r.size,
           held := r.held ++ [{ start := r.res, len := len, frameId := id, void := false, published := false, vec := vec }] }

/-- The header of a void record (R423). -/
def voidHeader (e : Reserved) : List Byte :=
  leBytes 4 e.len ++ leBytes 2 e.frameId ++ leBytes 2 0x8000 ++ List.replicate 56 0#8

/-- The reservation that starts at `start` is given up: returned when it is the last, else left as a void record (R423). -/
def ringGiveUp (r : RecordRing) (start : Nat) (s : State) : RecordRing × State :=
  match r.held.reverse with
  | [] => (r, s)
  | e :: before =>
    if e.start = start ∧ !e.published then ({ r with res := e.start, held := before.reverse }, s)
    else
      let es := r.held.filter fun x => decide (x.start = start)
      ({ r with held := r.held.map fun x => if x.start = start then { x with void := true } else x },
       es.foldl (fun s x => ringWrite r.host r.base r.size x.start (voidHeader x) s) s)

/-- The record at `start` is written whole and waits for its turn to be published. -/
def ringDone (r : RecordRing) (start : Nat) : RecordRing :=
  { r with held := r.held.map fun x => if x.start = start then { x with published := true } else x }

/-- The oldest run of void records followed by a written one: what is left after it, and where WR goes. -/
def ringNext : List Reserved → Option (Reserved × List Reserved)
  | [] => none
  | e :: es => if e.void then ringNext es else if e.published then some (e, es) else none

/-- Publish the next record: WR passes it and the void records before it, then its vector is sent (R68, R423, OP10). -/
def ringPublish (g : RingRegs) (vec : Reserved → Nat) (r : RecordRing) (s : State) : RecordRing × State :=
  match ringNext r.held with
  | none => (r, s)
  | some (e, rest) =>
    ({ r with held := rest }, sourceVector (vec e) (rset g.wr (w32 ((e.start + e.len) % r.size)) s))

/-- Whether the frame due under decimation is this one; the count runs on (R68). -/
def ringDue (r : RecordRing) (decim : Nat) : Bool := r.due % (decim + 1) == 0

/-- Round up to a multiple of `k`. -/
def roundUp (k n : Nat) : Nat := (n + k - 1) / k * k

end Sys2Proof.Machine
end

