-- ==== Sys2Proof/Machine/Aud.lean ====
section
/-! DEFINITION. The audio ports and their DCO (R330 to R337). -/

namespace Sys2Proof.Machine

def audAt (s : State) (p : Nat) : AudPort := nth {} s.aud p
def putAud (p : Nat) (x : AudPort) (s : State) : State := { s with aud := setNth s.aud p x }
def audPage (p : Nat) : Nat := pg 15 (p + 1)
def audRuns (s : State) : Bool := unitRuns s (pg 15 0)
def audArmed (s : State) (p : Nat) : Bool := rbit s (R.AUD_CMD p) 2
def audLocked (s : State) : Bool := rbit s R.AUD_DCO_STATE 0

def audSlots (s : State) (p : Nat) : Nat := if rbit s (R.AUD_CTRL p) 1 then rfld s (R.AUD_CTRL p) 11 8 + 1 else 2
def audMul (s : State) (p : Nat) : Nat := 2 ^ rfld s (R.AUD_CTRL p) 13 12
/-- fs in Hz. -/
def audFs (s : State) (p : Nat) : Nat := (if rbit s (R.AUD_CTRL p) 14 then 48000 else 44100) * audMul s p

/-- DIV of a leader port (R331). -/
def audDiv (s : State) (p : Nat) : Nat := 64 / (audMul s p * audSlots s p)

/-- A second in 2^-16 ns. -/
def second16 : Nat := 65536000000000

/-- T_k (R332). -/
def audGrid (s : State) (p k : Nat) : Nat := (audAt s p).start + k * second16 / audFs s p

/-- The combinations that ARM takes (R331). -/
def audConfigOk (s : State) (p : Nat) : Bool :=
  let slots := audSlots s p
  let mul := audMul s p
  decide (mul ≤ 4) && decide (rfld s (R.AUD_CTRL p) 4 3 ≤ 2) &&
    (if rbit s (R.AUD_CTRL p) 0 then
      decide ((slots = 2 ∨ slots = 4 ∨ slots = 8 ∨ slots = 16) ∧ mul * slots ≤ 32) && (rbit s (R.AUD_CTRL p) 14 == rbit s R.AUD_DCO 0)
    else decide (audFs s p * 32 * slots ≤ 49152000))

/-- ARM (R332): the first index at least 10 µs ahead. -/
def audArm (p : Nat) (s : State) : State :=
  if audArmed s p then raiseErr (audPage p) 0x11 0#32 s
  else if !audConfigOk s p then raiseErr (audPage p) 0x10 (rget s (R.AUD_CTRL p)) s
  else
    let start := rlong s (R.AUD_START p)
    let d := merNow s + 10000 * 65536 - start
    let k := (d * audFs s p + second16 - 1) / second16
    let s0 := putAud p { start := start, nextFlags := if k = 0 then 0 else 8 } s
    let s1 := if rbit s (R.AUD_CTRL p) 0 then emit (.audClock p (audDiv s p) (audGrid s0 p k)) s0 else s0
    rset2 (R.AUD_INDEX p) k (rsetBit (R.AUD_CMD p) 3 (decide (k ≠ 0)) (rsetBit (R.AUD_CMD p) 2 true s1))

/-- Where a frame's first data bit lies after its FS edge, in BCLK (R330). -/
def audDelay (s : State) (p : Nat) : Nat := if rbit s (R.AUD_CTRL p) 1 then rfld s (R.AUD_CTRL p) 2 2 else 1

/-- The slots of a frame, of the bits sampled from its FS edge on: 32 each, most significant first (R330). -/
def audSlotWords (s : State) (p : Nat) (bits : List Bool) : List Word :=
  (upto (audSlots s p)).map fun k =>
    w32 (((bits.drop (audDelay s p + 32 * k)).take 32).foldl (fun a b => 2 * a + b2n b) 0)

/-- Enabled slots, ascending. -/
def audEnabled (s : State) (p : Nat) : List Nat :=
  (upto (if rbit s (R.AUD_CTRL p) 1 then audSlots s p else 2)).filter fun k => rbit s (R.AUD_MASK p) k

/-- A frame in memory (R336). -/
def audFrameBytes (s : State) (p : Nat) (slots : List Word) : List Byte :=
  let w := rfld s (R.AUD_CTRL p) 4 3
  let width := if w = 0 then 16 else if w = 1 then 24 else 32
  (audEnabled s p).flatMap fun k =>
    let v := (nth 0#32 slots k).toNat / 2 ^ (32 - width)
    if width = 16 ∧ rbit s (R.AUD_CTRL p) 5 then leBytes 2 v else leBytes 4 (v * 2 ^ (32 - width))

def audFrameLen (s : State) (p : Nat) : Nat := (audFrameBytes s p []).length

/-- The block is written, WR moves, then VEC (R336). -/
def audBlockEnd (p : Nat) (last : Bool) (s : State) : State :=
  let x := audAt s p
  match x.block with
  | none => s
  | some b =>
    let s0 := putAud p { x with block := none } s
    if !b.fits then s0
    else
      let len := roundUp 64 (32 + b.bytes.length)
      let flags := b.flags + 16 * b2n (audLocked s) + 32 * b2n last
      let head := leBytes 4 len ++ leBytes 8 b.first ++ longBytes (audGrid s p b.first) ++ leBytes 2 b.frames ++ leBytes 1 flags ++ leBytes 1 p ++ leBytes 4 0
      let size := rnat s (R.AUD_SIZE p)
      let wr := rnat s (R.AUD_WR p)
      let s1 := ringWrite (rbit s (R.AUD_CTRL p) 6) (rnat2 s (R.AUD_BASE p)) size wr (padTo len (head ++ b.bytes)) s0
      let s2 := rset (R.AUD_WR p) (w32 ((wr + len) % max 1 size)) s1
      raiseInt (audPage p) 1 (sourceVector (rfld s (R.AUD_CTRL p) 31 21) s2)

/-- Frame `slots` takes index n: it opens a block where there is none, and closes it when it is full. -/
def audStore (p n : Nat) (slots : List Word) (s : State) : State :=
  let x := audAt s p
  let s1 := match x.block with
    | some _ => s
    | none =>
      let size := rnat s (R.AUD_SIZE p)
      let len := roundUp 64 (32 + rfld s (R.AUD_BLOCK p) 12 0 * audFrameLen s p)
      let used := if size = 0 then 0 else (rnat s (R.AUD_WR p) + size - rnat s (R.AUD_RD p) % size) % size
      let fits := decide (used + 64 + len ≤ size)
      let s0 := putAud p { x with block := some { first := n, flags := x.nextFlags, fits := fits }, nextFlags := if fits then 0 else 4 } s
      if fits then s0 else raiseInt (audPage p) 3 (raiseErr (audPage p) 0x15 (w32 n) s0)
  let y := audAt s1 p
  match y.block with
  | none => s1
  | some b =>
    let b1 := { b with frames := b.frames + 1, bytes := b.bytes ++ audFrameBytes s p slots }
    let s2 := rset2 (R.AUD_INDEX p) (n + 1) (putAud p { y with block := some b1, last := slots } s1)
    let s3 := if b.fits then s2 else rinc (R.AUD_CNT_OVERRUN p) 1 s2
    if rfld s (R.AUD_BLOCK p) 12 0 ≤ b1.frames then audBlockEnd p false s3 else s3

/-- A slip (R334): error in steer mode, interrupt bit 2 in both; flagged in the block at hand or the next one. -/
def audSlip (p n flag : Nat) (s : State) : State :=
  let x := audAt s p
  let s1 := putAud p (match x.block with
    | some b => { x with block := some { b with flags := b.flags ||| flag } }
    | none => { x with nextFlags := x.nextFlags ||| flag }) s
  let s2 := raiseInt (audPage p) 2 s1
  if rbit s R.AUD_DCO 1 then s2 else raiseErr (audPage p) 0x14 (w32 n) s2

/-- e of a frame against index n, in 2^-16 ns; and e against ± P/2, exactly. -/
def audE (s : State) (p stamp n : Nat) : Int := (stamp : Int) - audGrid s p n
def audLateBy (s : State) (p : Nat) (e : Int) : Bool := decide ((second16 : Int) < 2 * e * audFs s p)
def audEarlyBy (s : State) (p : Nat) (e : Int) : Bool := decide (2 * e * audFs s p < -(second16 : Int))

/-- Place a frame on the grid: repeats of the one before until it fits, or a drop (R333). -/
def audPlace (p stamp : Nat) (slots : List Word) : Nat → State → State
  | 0, s => s
  | fuel + 1, s =>
    let n := rnat2 s (R.AUD_INDEX p)
    let e := audE s p stamp n
    let s1 := rset (R.AUD_PHASE p) (w32 (unsignedOf 32 (e / 65536))) s
    if audLateBy s p e then
      audPlace p stamp slots fuel (audStore p n (audAt s p).last (audSlip p n 1 (rinc (R.AUD_CNT_REPEAT p) 1 s1)))
    else if audEarlyBy s p e then audSlip p n 2 (rinc (R.AUD_CNT_DROP p) 1 s1)
    else
      let x := audAt s1 p
      audStore p n slots (putAud p { x with sumE := x.sumE + e, countE := x.countE + 1 } s1)

/-- AUD_FRAME: its stamp in 2^-16 ns, the BCLK periods since the FS edge before, the bits sampled from its FS edge on (R330 to R333). -/
def audFrame (p stamp bclks : Nat) (bits : List Bool) (s : State) : State :=
  if !audRuns s || !audArmed s p then s
  else if bclks ≠ 32 * audSlots s p then raiseErr (audPage p) 0x13 (w32 bclks) (rinc (R.AUD_CNT_FRAMING p) 1 s)
  else
    let slots := audSlotWords s p bits
    let n := rnat2 s (R.AUD_INDEX p)
    let e := audE s p stamp n
    if (audAt s p).begun then audPlace p stamp slots (((2 * e.toNat * audFs s p) / second16) + 2) s
    else if audEarlyBy s p e then s
    else
      let x := audAt s p
      let s1 := rset (R.AUD_PHASE p) (w32 (unsignedOf 32 (e / 65536))) (putAud p { x with begun := true, sumE := e, countE := 1 } s)
      audStore p n slots s1

/-- A leader port's BCLK and FS stop low (R337). -/
def audQuiet (p : Nat) (s : State) : State := if rbit s (R.AUD_CTRL p) 0 then emit (.audQuiet p) s else s

/-- STOP (R337): the partial block is written as the last. -/
def audStop (p : Nat) (s : State) : State :=
  if audArmed s p then audQuiet p (putAud p {} (rsetBit (R.AUD_CMD p) 2 false (audBlockEnd p true s))) else s

/-- Capture ends without its partial block (R337). -/
def audAbandon (p : Nat) (s : State) : State :=
  let s1 := putAud p {} (rsetBit (R.AUD_CMD p) 2 false s)
  if audArmed s p then audQuiet p s1 else s1

/-- LOCKED as it is to be. -/
def setAudLocked (b : Bool) (s : State) : State :=
  if audLocked s = b then s else raiseInt (pg 15 0) 1 (rsetBit R.AUD_DCO_STATE 0 b s)

/-- DCO_UPDATE (R334). -/
def dcoUpdate (s : State) : State :=
  if !audRuns s then s
  else if rbit s R.AUD_DCO 1 then rsetFld R.AUD_DCO_STATE 31 16 0 s
  else
    let p := rfld s R.AUD_DCO 5 4
    let x := audAt s p
    if x.countE = 0 then s
    else
      let mean := x.sumE / x.countE
      let top : Int := 32000
      let raw := Config.audSteer mean (rfld s R.AUD_DCO 12 8) (rfld s R.AUD_DCO 20 16) (signedOf 16 (rfld s R.AUD_DCO_STATE 31 16))
      let off := if raw < -top then -top else if top < raw then top else raw
      let good := decide (x.sumE.natAbs ≤ 100 * 65536 * x.countE)
      let bad := decide (1000 * 65536 * x.countE < x.sumE.natAbs)
      let n := if good then min 100 (s.audGood + 1) else 0
      let s1 := { rsetFld R.AUD_DCO_STATE 31 16 (unsignedOf 16 off) (putAud p { x with sumE := 0, countE := 0 } s) with audGood := n }
      if bad then setAudLocked false s1 else if n = 100 then setAudLocked true s1 else s1

/-- A write of AUD_CMD: ARM, then STOP. -/
def audCommand (who : Requester) (p : Nat) (value : Word) (s : State) : State :=
  let addr := R.AUD_CMD p
  let s1 := writeReg who addr value 0#32 s
  if !pageTakes addr s then s1
  else
    let s2 := if bitAt value 0 then audArm p s1 else s1
    if bitAt value 1 then audStop p s2 else s2

/-! ### The commands -/

def execAudArm (who : Requester) (port : Fin 4) (value : Word) (s : State) : Host.Outcome State Fault Refusal := .next (audCommand who port.val value s)
def execAudStop (who : Requester) (port : Fin 4) (value : Word) (s : State) : Host.Outcome State Fault Refusal := .next (audCommand who port.val value s)
def execAudFrame (port : Fin 4) (stamp bclks : Nat) (bits : List Bool) (s : State) : Host.Outcome State Fault Refusal :=
  .next (audFrame port.val stamp bclks bits s)

/-- AUD_CLOCK_LOSS (R331). -/
def execAudClockLoss (port : Fin 4) (s : State) : Host.Outcome State Fault Refusal :=
  .next (if audRuns s && audArmed s port.val then raiseErr (audPage port.val) 0x12 0#32 s else s)

def execDcoUpdate (s : State) : Host.Outcome State Fault Refusal := .next (dcoUpdate s)

end Sys2Proof.Machine
end

