-- ==== Sys2Proof/Machine/Cod.lean ====
section
/-! DEFINITION. The HEVC coder: contexts, what each codes next, the rows of a picture, the HRD and the output rings (R271 to R288). -/

namespace Sys2Proof.Machine

def setCod (v : CodState) (s : State) : State := { s with cod := v }
def codCtx (s : State) (k : Nat) : CodCtx := nth {} s.cod.ctxs k
def putCtx (k : Nat) (c : CodCtx) (s : State) : State := setCod { s.cod with ctxs := setNth s.cod.ctxs k c } s

/-! ### Values a context is configured with, read through `u` -/

def ctxW (u : Nat → Word) (k : Nat) : Nat := getBits (u (R.COD_CTX_SIZE k)) 12 0 + 1
def ctxH (u : Nat → Word) (k : Nat) : Nat := getBits (u (R.COD_CTX_SIZE k)) 28 16 + 1
def ctxNum (u : Nat → Word) (k : Nat) : Nat := getBits (u (R.COD_CTX_FPS k)) 15 0
def ctxDen (u : Nat → Word) (k : Nat) : Nat := getBits (u (R.COD_CTX_FPS k)) 31 16
def ctxProfile (u : Nat → Word) (k : Nat) : Nat := getBits (u (R.COD_CTX_CFG k)) 1 0
def ctxLowLat (u : Nat → Word) (k : Nat) : Bool := bitAt (u (R.COD_CTX_CFG k)) 16
/-- BFRAMES: 0, 1, 3 or 7. -/
def ctxB (u : Nat → Word) (k : Nat) : Nat := 2 ^ getBits (u (R.COD_CTX_CFG k)) 18 17 - 1
def ctxSrc (u : Nat → Word) (k : Nat) : Nat := getBits (u (R.COD_CTX_CFG k)) 25 25
def ctxMode (u : Nat → Word) (k : Nat) : Nat := getBits (u (R.COD_CTX_RATE k)) 1 0
def ctxIdr (u : Nat → Word) (k : Nat) : Nat := getBits (u (R.COD_CTX_GOP k)) 15 0
def ctxRefresh (u : Nat → Word) (k : Nat) : Nat := getBits (u (R.COD_CTX_GOP k)) 23 16

def wCtu (u : Nat → Word) (k : Nat) : Nat := (ctxW u k + 63) / 64
def hCtu (u : Nat → Word) (k : Nat) : Nat := (ctxH u k + 63) / 64

/-- SKIP_ROW of R281, in bits. -/
def skipRow (u : Nat → Word) (k : Nat) : Nat := 32 * wCtu u k + 256

/-- ROW_BOUND of R285, in bytes. -/
def rowBound (u : Nat → Word) (k : Nat) : Nat :=
  let depth := if ctxProfile u k = 0 then 8 else 10
  let raw := if ctxProfile u k = 2 then 4096 * depth * 2 else 4096 * depth * 3 / 2
  wCtu u k * ((5 * raw + 23) / 24 + 16) + 256

/-- Bits the CPB receives per picture, BIT_RATE ÷ f (R280), whole bits. -/
def bitsPerPic (u : Nat → Word) (k : Nat) : Nat :=
  (u (R.COD_CTX_BITRATE k)).toNat * 1000 * ctxDen u k / max 1 (ctxNum u k)

def cpbSize (u : Nat → Word) (k : Nat) : Nat := (u (R.COD_CTX_CPB k)).toNat * 1000
def ctxMargin (u : Nat → Word) (k : Nat) : Nat := getBits (u (R.COD_CTX_MARGIN k)) 23 0 * 1000

/-! ### The engine's load (R275) -/

/-- f × (W × H ÷ 4.25e9 + 5 µs) of a context, as a fraction. -/
def loadOf (s : State) (k : Nat) : Nat × Nat :=
  let u := uget s
  (ctxNum u k * (ctxW u k * ctxH u k + 21250), 4250000000 * max 1 (ctxDen u k))

def addFrac (a b : Nat × Nat) : Nat × Nat := (a.1 * b.2 + b.1 * a.2, a.2 * b.2)

/-- The sum over contexts. -/
def loadSum (s : State) (ks : List Nat) : Nat × Nat := ks.foldl (fun a k => addFrac a (loadOf s k)) (0, 1)

def enabledCtxs (s : State) : List Nat := (upto 4).filter fun k => enabled s (pg 12 (k + 1))

/-- COD_LOAD of a sum, in 2^-16 s per s. -/
def loadWord (f : Nat × Nat) : Nat := f.1 * 65536 / f.2

/-! ### Commits (R277 to R287) -/

/-- Level limits of H.265 Annex A (PRESUMED, log entry): general_level_idc, MaxLumaPs, MaxLumaSr, MaxCPB and MaxBR of Main and High tier (0: no High tier), MaxTileRows, MaxTileCols. -/
def levelTable : List (Nat × Nat × Nat × Nat × Nat × Nat × Nat × Nat × Nat) :=
  [(30, 36864, 552960, 350, 0, 128, 0, 1, 1), (60, 122880, 3686400, 1500, 0, 1500, 0, 1, 1), (63, 245760, 7372800, 3000, 0, 3000, 0, 1, 1),
   (90, 552960, 16588800, 6000, 0, 6000, 0, 2, 2), (93, 983040, 33177600, 10000, 0, 10000, 0, 3, 3),
   (120, 2228224, 66846720, 12000, 30000, 12000, 30000, 5, 5), (123, 2228224, 133693440, 20000, 50000, 20000, 50000, 5, 5),
   (150, 8912896, 267386880, 25000, 100000, 25000, 100000, 11, 10), (153, 8912896, 534773760, 40000, 160000, 40000, 160000, 11, 10),
   (156, 8912896, 1069547520, 60000, 240000, 60000, 240000, 11, 10), (180, 35651584, 1069547520, 60000, 240000, 60000, 240000, 22, 20),
   (183, 35651584, 2139095040, 120000, 480000, 120000, 480000, 22, 20), (186, 35651584, 4278190080, 240000, 800000, 240000, 800000, 22, 20)]

/-- The offset of a register that breaks Annex A, if one does. -/
def annexA (u : Nat → Word) (k : Nat) : Option Nat :=
  let level := getBits (u (R.COD_CTX_CFG k)) 15 8
  let high := bitAt (u (R.COD_CTX_CFG k)) 2
  match levelTable.find? fun r => r.1 == level with
  | none => some 0x040
  | some (_, maxPs, maxSr, cpbM, cpbH, brM, brH, rows, cols) =>
    let w := ctxW u k
    let h := ctxH u k
    let ps := ((w + 7) / 8 * 8) * ((h + 7) / 8 * 8)
    let factor := if ctxProfile u k = 2 then 1833 else 1100
    let tc := getBits (u (R.COD_CTX_TILES k)) 4 0 + 1
    let tr := getBits (u (R.COD_CTX_TILES k)) 12 8 + 1
    if high ∧ cpbH = 0 then some 0x040
    else if maxPs < ps ∨ 8 * maxPs < w * w ∨ 8 * maxPs < h * h then some 0x044
    else if maxSr * ctxDen u k < ps * ctxNum u k then some 0x04C
    else if rows < tr ∨ cols < tc ∨ wCtu u k < tc ∨ hCtu u k < tr then some 0x048
    else if (1 < tc ∨ 1 < tr) ∧ (bitAt (u (R.COD_CTX_CFG k)) 22 ∨ wCtu u k / tc * 64 < 256 ∧ 1 < tc) then some 0x048
    else if ctxMode u k = 2 then none
    else if factor * (if high then brH else brM) < (u (R.COD_CTX_BITRATE k)).toNat * 1000 then some 0x058
    else if factor * (if high then cpbH else cpbM) < cpbSize u k then some 0x05C
    else none

/-- The offset of the register for which a commit fails, if it does. -/
def codFails (s : State) (u : Nat → Word) (k : Nat) : Option Nat :=
  let num := ctxNum u k
  let den := ctxDen u k
  let ring := ufld s (R.CLR_OT_RING (ctxSrc u k) 1) 5 0 + 1
  let qmin := getBits (u (R.COD_CTX_RATE k)) 21 16
  let qmax := getBits (u (R.COD_CTX_RATE k)) 29 24
  let qinit := getBits (u (R.COD_CTX_RATE k)) 13 8
  if den = 0 ∨ num < den ∨ 240 * den < num then some 0x04C
  else if 51 < qmax ∨ qmax < qmin ∨ qinit < qmin ∨ qmax < qinit then some 0x054
  else
    match annexA u k with
    | some o => some o
    | none =>
      if !ctxLowLat u k ∧ ring < ctxB u k + 2 then some 0x040
      else if ctxMode u k ≠ 2 ∧ bitsPerPic u k < ctxMargin u k + hCtu u k * skipRow u k + 8192 then some 0x058
      else if (u (R.COD_CTX_OUT_SIZE k)).toNat < 2 * rowBound u k + 65536 then some 0x074
      else none

/-- The settings whose change starts a new coded video sequence (R283). -/
def cvsKey (u : Nat → Word) (k : Nat) : List Nat :=
  [getBits (u (R.COD_CTX_CFG k)) 23 0, (u (R.COD_CTX_SIZE k)).toNat, (u (R.COD_CTX_TILES k)).toNat, (u (R.COD_CTX_FPS k)).toNat, ctxMode u k,
   (u (R.COD_CTX_BITRATE k)).toNat, (u (R.COD_CTX_CPB k)).toNat, (u (R.COD_CTX_INIT_DELAY k)).toNat]

/-- Insert by display order. -/
def byPoc (x : CodItem) : List CodItem → List CodItem
  | [] => [x]
  | y :: ys => if x.poc < y.poc then x :: y :: ys else y :: byPoc x ys

/-- Pictures left over become an IDR and P pictures after it, in display order. -/
def rebase : Nat → List CodItem → List CodItem
  | _, [] => []
  | n, x :: xs => { x with kind := if x.kind = 3 then 3 else if n = 0 then 0 else 1, poc := n } :: rebase (n + 1) xs

/-- The next picture of a context starts a new coded video sequence (R283). -/
def newSequence (k : Nat) (s : State) : State :=
  let c := codCtx s k
  let g := rebase 0 (c.gop.foldr byPoc [])
  putCtx k { c with restart := g.isEmpty, gop := g, poc := g.length, cpb := none, cycle := 0 } s

/-- A restart under R276, R285: counted, interrupt bit 2. -/
def codRestart (k : Nat) (s : State) : State :=
  raiseInt (pg 12 (k + 1)) 2 (rincFld (R.COD_CTX_CNT k) 23 16 1 (newSequence k s))

/-- A commit that waits on a context page applies, or fails whole with E_COD_CONFIG (R287). -/
def codCommit (k : Nat) (s : State) : State :=
  let n := pg 12 (k + 1)
  if !commitPending s n then s
  else
    let u := fun a => if onPage n a then rget s a else uget s a
    match codFails s u k with
    | some off => commitFail n 0x12 (w32 off) s
    | none =>
      let s1 := commitApply n s
      if cvsKey (uget s) k = cvsKey (uget s1) k then s1 else newSequence k s1

/-! ### Taking source buffers (R273, R276, R277) -/

structure CodSrc where
  id : Nat
  flags : Nat
  sof : Nat
  fits : Bool
  deriving DecidableEq, Repr

def otBase (s : State) (p : Nat) : Nat := unat2 s (R.CLR_OT_BASE p 1)
def otBuf (s : State) (p n : Nat) : Nat := otBase s p + n * unat s (R.CLR_OT_BUFSZ p 1)
def otCount (s : State) (p : Nat) : Nat := ufld s (R.CLR_OT_RING p 1) 5 0 + 1

/-- What the header of ring buffer `n` says, and whether it fits the context (R273); one that reads as poisoned does not (R240). -/
def srcAt (s : State) (k n : Nat) : CodSrc :=
  let u := uget s
  let a := otBuf s (ctxSrc u k) n
  let t := ofLongWords (w32 (memNat s false 4 (a + 8))) (w32 (memNat s false 4 (a + 12))) (w32 (memNat s false 4 (a + 16)))
  let wh := memNat s false 4 (a + 20)
  { id := memNat s false 2 (a + 4), flags := memNat s false 2 (a + 6), sof := t
    fits := decide (wh = (ctxW u k - 1) + (ctxH u k - 1) * 65536) &&
      decide (memNat s false 1 (a + 25) = if ctxProfile u k = 2 then 0 else 1) && !memPoisoned s false 64 a }

/-- The OT1 ring of the context's pipeline names it. -/
def srcNamed (s : State) (k : Nat) : Bool := ufld s (R.CLR_OT1_FMT (ctxSrc (uget s) k)) 3 2 == k

def otWr (s : State) (k : Nat) : Nat := rfld s (R.CLR_OT_WR_IDX (ctxSrc (uget s) k) 1) 5 0

/-- Buffers coded, with none before them still to be coded, are freed: RD_IDX moves on. -/
def freeDone (p cnt : Nat) : List (Nat × Bool) → State → List (Nat × Bool) × State
  | (b, true) :: rest, s => freeDone p cnt rest (rsetFld (R.CLR_OT_RD_IDX p 1) 5 0 ((b + 1) % cnt) s)
  | l, s => (l, s)

def codFree (k : Nat) (s : State) : State :=
  let p := ctxSrc (uget s) k
  let (h, s1) := freeDone p (otCount s p) (codCtx s k).held s
  putCtx k { codCtx s1 k with held := h } s1

/-- Take the next buffer, as coded already or to be coded. -/
def codTake (k : Nat) (coded : Bool) (s : State) : State :=
  let c := codCtx s k
  let n := otCount s (ctxSrc (uget s) k)
  putCtx k { c with take := (c.take + 1) % n, held := c.held ++ [(c.take, coded)] } s

/-- How many frames are missing ahead of a buffer (R276). -/
def gapOf (s : State) (k id : Nat) : Nat :=
  match (codCtx s k).lastId with
  | none => 0
  | some l =>
    let step := ufld s (R.CLR_OT_CTRL (ctxSrc (uget s) k) 1) 15 12 + 1
    let d := (id + 65536 - l) % 65536
    (if d = 0 then 65536 else d) / step - 1

/-- Buffers of a mini-GOP in the order of the ring: up to `m` that fit and follow without a gap; and whether one that does not ended it. -/
def gather (s : State) (k : Nat) : Nat → Nat → Option Nat → List (Nat × CodSrc) × Bool
  | 0, _, _ => ([], true)
  | m + 1, n, last =>
    if n = otWr s k then ([], false)
    else
      let x := srcAt s k n
      let p := ctxSrc (uget s) k
      let step := ufld s (R.CLR_OT_CTRL p 1) 15 12 + 1
      let ok := match last with | none => true | some l => decide ((l + step) % 65536 = x.id)
      if !x.fits || !ok then ([], true)
      else
        let (r, e) := gather s k m ((n + 1) % otCount s p) (some x.id)
        ((n, x) :: r, e)

/-- The order in which the B pictures at `lo … lo + n - 1` are coded: the middle one, then each half. -/
def bOrder : Nat → Nat → Nat → List Nat
  | 0, _, _ => []
  | fuel + 1, lo, n =>
    if n = 0 then []
    else
      let h := n / 2
      (lo + h) :: bOrder fuel lo h ++ bOrder fuel (lo + h + 1) (n - h - 1)

/-- The pictures of a mini-GOP in coding order: the anchor, then its B pictures. -/
def miniGop (poc : Nat) (xs : List (Nat × CodSrc)) : List CodItem :=
  let item := fun kind (i : Nat) => match xs[i]? with
    | some (b, x) => [{ kind := kind, buf := b, id := x.id, flags := x.flags, sof := x.sof, poc := poc + i : CodItem }]
    | none => []
  item 1 (xs.length - 1) ++ (bOrder xs.length 0 (xs.length - 1)).flatMap (item 2)

/-- Inserted pictures `i + 1 … i + n`, each one picture period after the one before. -/
def inserted (s : State) (k : Nat) (poc sof i : Nat) : Nat → List CodItem
  | 0 => []
  | n + 1 =>
    let u := uget s
    { kind := 3, id := 0xFFFF, flags := 0, sof := sof + (i + 1) * 65536000000000 * ctxDen u k / max 1 (ctxNum u k), poc := poc + i : CodItem } ::
      inserted s k poc sof (i + 1) n

/-- Find what the context codes next: its list of pictures is filled when it is empty and the ring has what it takes. -/
def codForm (k : Nat) : Nat → State → State
  | 0, s => s
  | fuel + 1, s =>
    let c := codCtx s k
    if !c.gop.isEmpty || c.take == otWr s k || !srcNamed s k then s
    else
      let u := uget s
      let x := srcAt s k c.take
      let s := memSee false 64 (otBuf s (ctxSrc u k) c.take) s
      if !x.fits then
        codForm k fuel (codFree k (codTake k true (raiseErr (pg 12 (k + 1)) 0x11 (w32 x.id) s)))
      else
        let g := if c.restart then 0 else gapOf s k x.id
        if 16 < g then
          (let s1 := codRestart k (raiseErr (pg 12 (k + 1)) 0x15 (w32 g) s)
           codForm k fuel (putCtx k { codCtx s1 k with lastId := none } s1))
        else if 0 < g then
          (let step := ufld s (R.CLR_OT_CTRL (ctxSrc u k) 1) 15 12 + 1
           putCtx k { c with gop := inserted s k c.poc c.lastSof 0 g, poc := c.poc + g, lastId := some ((x.id + 65536 - step % 65536) % 65536) } s)
        else if c.restart || (!ctxLowLat u k && decide (ctxIdr u k ≠ 0) && decide (ctxIdr u k ≤ c.poc)) then
          (let it : CodItem := { kind := 0, buf := c.take, id := x.id, flags := x.flags, sof := x.sof, poc := 0 }
           let s1 := codTake k false s
           putCtx k { codCtx s1 k with
             gop := [it]
             poc := 1
             restart := false
             lastId := some x.id
             lastSof := x.sof
             cpb := if c.restart then none else c.cpb
             cycle := 0 } s1)
        else
          let want := if ctxLowLat u k then 1 else ctxB u k + 1
          let m := if ctxIdr u k = 0 ∨ ctxLowLat u k then want else min want (ctxIdr u k - c.poc)
          let (xs, cut) := gather s k m c.take c.lastId
          if xs.length < m ∧ !cut then s
          else
            let s1 := xs.foldl (fun s _ => codTake k false s) s
            let last := match xs.getLast? with | some (_, y) => y | none => x
            putCtx k { codCtx s1 k with gop := miniGop c.poc xs, poc := c.poc + xs.length, lastId := some last.id, lastSof := last.sof } s1

/-- A context that may code: its unit runs and is not asked to idle. -/
def codRuns (s : State) (k : Nat) : Bool := unitRuns s (pg 12 (k + 1)) && !idleReq s (pg 12 (k + 1))

/-- The picture a context would code next, after a commit that waits. -/
def codWaiting (s : State) (k : Nat) : Option CodItem :=
  if codRuns s k then (codCtx (codForm k 128 (codCommit k s)) k).gop.head? else none

/-- The context whose waiting picture was captured first; a tie goes to the lower number (R274). -/
def codPick (s : State) : Option Nat :=
  (upto 4).foldl (fun best k =>
    match codWaiting s k with
    | none => best
    | some x =>
      match best with
      | none => some k
      | some b =>
        match codWaiting s b with
        | some y => if x.sof < y.sof then some k else some b
        | none => some k) none

/-! ### Coding a picture -/

def engState (st ctx : Nat) (s : State) : State :=
  let was := rget s R.COD_ENG_STATE
  let now := w32 (st + ctx * 16)
  let s1 := rset R.COD_ENG_STATE now s
  if getBits was 1 0 = st then s1 else raiseInt (pg 12 0) 1 s1

/-- A(n) (R280). -/
def cpbAt (u : Nat → Word) (k : Nat) (f : Option Nat) : Nat :=
  match f with
  | none => (u (R.COD_CTX_BITRATE k)).toNat * 1000 * (u (R.COD_CTX_INIT_DELAY k)).toNat / 90000
  | some f => if ctxMode u k = 0 then f + bitsPerPic u k else min (cpbSize u k) (f + bitsPerPic u k)

/-- The head of a context's list is taken up by the engine. -/
def codBegin (k : Nat) (s : State) : State :=
  let c := codCtx s k
  match c.gop with
  | [] => s
  | it :: rest =>
    let u := uget s
    let cycles := ctxLowLat u k && decide (ctxRefresh u k ≠ 0) && decide (it.kind ≠ 0)
    let len := if ctxRefresh u k = 0 then 1 else (wCtu u k + ctxRefresh u k - 1) / ctxRefresh u k
    let head := min 8192 (Config.codHeadBits s.drawn)
    let rows := hCtu u k
    let skip := min (rows * skipRow u k) (Config.codSkipBits s.drawn)
    let p : CodPic :=
      { ctx := Fin.ofNat 4 k, item := it, fresh := c.cpb.isNone && it.kind == 0, a := cpbAt u k c.cpb,
        u := head + (if it.kind = 3 then skip else 0), row := if it.kind = 3 then rows else 0,
        cycleStart := cycles && decide (c.cycle = 0), sweep := if cycles then some c.cycle else none }
    let s1 := putCtx k { c with gop := rest, cycle := if cycles then (c.cycle + 1) % len else c.cycle } s
    let s2 := if s.cod.lastCtx = some k then s1
      else if s.cod.lastCtx = none then s1 else rinc R.COD_CNT_SWITCH 1 s1
    rsetBit (hdrStatus (pg 12 0)) 0 false
      (engState 1 k (draw (setCod { s2.cod with cur := some p, lastCtx := some k } s2)))

/-- COD_PICTURE_START (R274). -/
def codStart (s : State) : State :=
  if s.cod.cur.isSome || blockResetting s (pg 12 0) then s
  else
    match codPick s with
    | none => (upto 4).foldl (fun s k => if codRuns s k && !commitPending s (pg 12 (k + 1)) then codForm k 128 s else s) s
    | some c =>
      let s1 := (upto 4).foldl (fun s k =>
        if k ≠ c ∧ codRuns s k ∧ !commitPending s (pg 12 (k + 1)) ∧ codWaiting s k = none then codForm k 128 s else s) s
      codBegin c (codForm c 128 (codCommit c s1))

/-- Bytes free in a context's output ring beyond the record being written. -/
def outFree (s : State) (k : Nat) (p : CodPic) : Nat :=
  let size := unat s (R.COD_CTX_OUT_SIZE k)
  if size = 0 then 0
  else size - (rnat s (R.COD_CTX_OUT_WR k) + size - rnat s (R.COD_CTX_OUT_RD k) % size) % size - 64 - (64 + (p.u + 7) / 8)

/-- A source line of row `r` reads as poisoned (R286). -/
def codRowPoisoned (s : State) (k : Nat) (it : CodItem) (r : Nat) : Bool :=
  let u := uget s
  let src := ctxSrc u k
  let a := otBuf s src it.buf + 64
  let stride := unat s (R.CLR_OT_STRIDE src 1)
  let h := ctxH u k
  let ys := (upto (min 64 (h - 64 * r))).map fun y => 64 * r + y
  ys.any fun y => memPoisoned s false (2 * ctxW u k) (a + y * stride) ||
    memPoisoned s false (2 * ctxW u k) (a + stride * h + (if ctxProfile u k = 2 then y else y / 2) * stride)

/-! ### Motion vectors (R278, R279) -/

/-- First and last sample that a block of `n` samples at `at_` references along one axis with a displacement `d` in quarter samples, relative
to its CTU: a fraction takes 3 samples before and 4 after. -/
def refSpan (at_ n : Nat) (d : Int) : Int × Int :=
  let part := decide (d % 4 ≠ 0)
  let first := (at_ : Int) + d / 4
  (first - (if part then 3 else 0), first + (n : Int) - 1 + (if part then 4 else 0))

/-- Every sample that a vector references lies in the window: ±256 and ±128 around the CTU, 576 × 320 in all (R279). -/
def vectorInWindow (v : CodVector) : Bool :=
  let (x0, x1) := refSpan v.x v.w v.dx
  let (y0, y1) := refSpan v.y v.h v.dy
  decide (-256 ≤ x0 ∧ x1 < 320 ∧ -128 ≤ y0 ∧ y1 < 192)

/-- In a refresh cycle the column is intra, and what lies left of it references only what the reference picture has refreshed, 8 samples
from its edge (R278). -/
def vectorFresh (w : Nat) (sweep : Option Nat) (v : CodVector) : Bool :=
  match sweep with
  | none => true
  | some j =>
    let edge := j * w
    if edge + w ≤ v.ctu then true
    else if edge ≤ v.ctu then false
    else decide (64 * (v.ctu : Int) + (refSpan v.x v.w v.dx).2 ≤ 64 * (edge : Int) - 8)

/-- The vectors chosen in a row that is coded; those that are not within the limits are not chosen. -/
def rowVectors (s : State) (k : Nat) (p : CodPic) : List CodVector :=
  let u := uget s
  if p.item.kind = 0 then []
  else (upto (wCtu u k)).flatMap fun col =>
    ((Config.codCandidates s.drawn col).map fun (x, y, w, h, dx, dy) => ({ ctu := col, x := x, y := y, w := w, h := h, dx := dx, dy := dy } : CodVector)).filter
      fun v => vectorInWindow v && vectorFresh (ctxRefresh u k) p.sweep v

/-- A row is written: its bits, and whether it was skipped (R281). -/
def rowDone (p : CodPic) (bits : Nat) (skipped : Bool) : CodPic :=
  { p with u := p.u + bits, row := p.row + 1, skipped := p.skipped + b2n skipped, stalled := false }

/-- The source lines of row `r` are read (R240). -/
def codRowReads (k : Nat) (it : CodItem) (r : Nat) (s : State) : State :=
  let u := uget s
  let src := ctxSrc u k
  let a := otBuf s src it.buf + 64
  let stride := unat s (R.CLR_OT_STRIDE src 1)
  let h := ctxH u k
  ((upto (min 64 (h - 64 * r))).map fun y => 64 * r + y).foldl (fun s y =>
    memSee false (2 * ctxW u k) (a + stride * h + (if ctxProfile u k = 2 then y else y / 2) * stride)
      (memSee false (2 * ctxW u k) (a + y * stride) s)) s

/-- COD_ROW (R281, R285, R286): the engine waits for room, codes the row, and keeps it or codes it skipped. -/
def codRow (refPoison : Bool) (s : State) : State :=
  match s.cod.cur with
  | none => s
  | some p =>
    let k := p.ctx.val
    let u := uget s
    let rows := hCtu u k
    if rows ≤ p.row then s
    else if outFree s k p < rowBound u k then
      (if p.stalled then s
       else engState 2 k (rincFld (R.COD_CTX_CNT k) 31 24 1 (setCod { s.cod with cur := some { p with stalled := true } } s)))
    else
      let s := codRowReads k p.item p.row s
      let poison := refPoison || codRowPoisoned s k p.item p.row
      let s1 := if poison then raiseErr (pg 12 (k + 1)) 0x16 (w32 p.row) s else s
      let coded := min (8 * rowBound u k) (Config.codRowBits s.drawn)
      let skip := min (skipRow u k) (Config.codSkipBits s.drawn)
      let left := rows - p.row
      let keep := !poison && (ctxMode u k == 2 || decide (p.u + coded + ctxMargin u k + (left - 1) * skipRow u k ≤ p.a))
      let s2 := if keep then s1 else rincFld (R.COD_CTX_CNT k) 7 0 1 s1
      engState 1 k (draw (setCod { s2.cod with
        cur := some { rowDone p (if keep then coded else skip) (!keep) with vectors := p.vectors ++ [if keep then rowVectors s2 k p else []] } } s2))

/-- STALL_TIMEOUT (R285): the picture is discarded whole, and the context restarts. -/
def codStallEnd (s : State) : State :=
  match s.cod.cur with
  | none => s
  | some p =>
    if !p.stalled then s
    else
      let k := p.ctx.val
      let s1 := raiseErr (pg 12 (k + 1)) 0x14 (w32 p.item.poc) (setCod { s.cod with cur := none } s)
      let c := codCtx s1 k
      let s2 := putCtx k { c with held := c.held.map fun (b, d) => (b, d || (p.item.kind != 3 && b == p.item.buf)) } s1
      let s3 := codRestart k (codFree k s2)
      rsetBit (hdrStatus (pg 12 0)) 0 true (engState 0 k s3)

/-- An access unit opens with its delimiter, and before an IDR picture and the first of a refresh cycle the VPS comes next (R272): start codes
and NAL headers of the H.265 Annex B byte stream. PRESUMED (log 139). -/
def auOpens (p : CodPic) : List Byte :=
  [0#8, 0#8, 0#8, 1#8, 0x46#8, 1#8, if p.item.kind = 0 then 0x10#8 else if p.item.kind = 2 then 0x50#8 else 0x30#8] ++
    if p.item.kind = 0 ∨ p.cycleStart then [0#8, 0#8, 0#8, 1#8, 0x40#8, 1#8] else []

/-- The 64-byte header of an access unit record (R284). -/
def auHeader (p : CodPic) (bytes filler qp : Nat) : List Byte :=
  let len := (64 + bytes + 63) / 64 * 64
  padTo 64 (leBytes 4 len ++ leBytes 2 p.item.id ++ leBytes 2 p.item.flags ++ longBytes p.item.sof ++ leBytes 4 bytes ++ leBytes 4 p.item.poc ++
    leBytes 1 p.item.kind ++ leBytes 1 p.ctx.val ++
    leBytes 1 (b2n p.cycleStart + 2 * b2n (decide (0 < p.skipped)) + 4 * b2n (decide (0 < filler)) + 8 * b2n p.fresh) ++
    leBytes 1 qp ++ leBytes 4 filler)

/-- COD_PICTURE_DONE (R282, R284): filler, the record, WR and then VEC. -/
def codDone (s : State) : State :=
  match s.cod.cur with
  | none => s
  | some p =>
    let k := p.ctx.val
    let u := uget s
    let mode := ctxMode u k
    let cvsBytes := (p.u + 7) / 8
    let b := 8 * cvsBytes
    let short := if mode = 0 then p.a + bitsPerPic u k - cpbSize u k - b else 0
    let filler := (short + 7) / 8
    let bytes := cvsBytes + filler
    if p.row < hCtu u k ∨ outFree s k p < filler then s
    else
      let f := p.a - 8 * bytes
      let qmin := getBits (u (R.COD_CTX_RATE k)) 21 16
      let qp := if mode = 2 then getBits (u (R.COD_CTX_RATE k)) 13 8
        else min (getBits (u (R.COD_CTX_RATE k)) 29 24) (max qmin (Config.codQp s.drawn))
      let len := (64 + bytes + 63) / 64 * 64
      let size := unat s (R.COD_CTX_OUT_SIZE k)
      let wr := rnat s (R.COD_CTX_OUT_WR k)
      let body := (auOpens p ++ (upto bytes).map (Config.codByte s.drawn)).take bytes
      let s1 := draw (ringWrite (ubit s (R.COD_CTX_OUT k) 0) (unat2 s (R.COD_CTX_OUT_BASE k)) size wr (padTo len (auHeader p bytes filler qp ++ body)) s)
      let s2 := rset (R.COD_CTX_OUT_WR k) (w32 ((wr + len) % max 1 size)) s1
      let s3 := rinc R.COD_CNT_PICS 1 (rinc (R.COD_CTX_CNT_FILLER k) filler (if mode = 2 then s2 else rset (R.COD_CTX_CPB_NOW k) (w32 f) s2))
      let s4 := if p.item.kind = 3 then rincFld (R.COD_CTX_CNT k) 15 8 1 s3 else s3
      let s5 := if 0 < p.skipped then
          raiseInt (pg 12 (k + 1)) 1 (raiseErr (pg 12 (k + 1)) 0x13 (w32 (p.skipped % 65536 + p.item.poc % 65536 * 65536)) s4)
        else s4
      let c := codCtx s5 k
      let s6 := codFree k (putCtx k { c with
        cpb := some f
        held := c.held.map fun (b, d) => (b, d || (p.item.kind != 3 && b == p.item.buf)) } (setCod { s5.cod with cur := none } s5))
      let s7 := sourceVector (ufld s (R.COD_CTX_OUT k) 31 21) s6
      rsetBit (hdrStatus (pg 12 0)) 0 true (engState 0 k s7)

/-- A context starts: its stream begins with the oldest buffer not yet freed. -/
def codCtxStart (k : Nat) (s : State) : State :=
  putCtx k { take := rfld s (R.CLR_OT_RD_IDX (ctxSrc (uget s) k) 1) 5 0 } s

/-! ### The commands -/

def execCodPictureStart (s : State) : Host.Outcome State Fault Refusal := .next (codStart s)
/-- `refPoison`: a reference sample the row needs reads as poisoned; where the references lie is not given. -/
def execCodRow (refPoison : Bool) (s : State) : Host.Outcome State Fault Refusal := .next (codRow refPoison s)
def execCodPictureDone (s : State) : Host.Outcome State Fault Refusal := .next (codDone s)
def execStallTimeout (s : State) : Host.Outcome State Fault Refusal := .next (codStallEnd s)

end Sys2Proof.Machine
end

