-- ==== Sys2Proof/Machine/CmpBase.lean ====
section
/-! DEFINITION. Submitting work to the compression engine, and what it holds of the canvas (R255, R257). -/

namespace Sys2Proof.Machine

def setCmp (v : CmpState) (s : State) : State := { s with cmp := v }

/-- A job joins the waiting ones (R255). -/
def cmpSubmit (user : CmpUser) (deflate : Bool) (bytes : List Byte) (head : Option KpcHeader) (s : State) : State :=
  let j : CmpJob := { order := s.cmp.next, user := user, deflate := deflate, bytes := bytes, head := head }
  setCmp { s.cmp with waiting := s.cmp.waiting ++ [j], next := s.cmp.next + 1 } s

/-- A running send job holds a layer's store buffer, as a composition does (R257). -/
def sendHolds (s : State) (l b : Nat) : Bool :=
  s.cmp.lanes.any fun r => match r with
    | some r => (match r.job.user with | .send _ l' b' _ => l' == l && b' == b | _ => false)
    | none => false

/-- A picture that waits on stream `k`. -/
def waitsOn (k : Nat) (j : CmpJob) : Bool := match j.user with | .send k' _ _ _ => k' == k | _ => false

/-- A layer's store buffer has gained a complete picture: each stream bound to the layer takes it, in place of one that waits (R257). -/
def sendOffer (l b sof : Nat) (s : State) : State :=
  (upto 8).foldl (fun s k =>
    if rbit s (R.CMP_SEND_CTRL k) 0 && rfld s (R.CMP_SEND_CTRL k) 3 1 == l && ubit s (R.CNV_LYR_CTRL l) 0 then
      (let s1 := if s.cmp.waiting.any (waitsOn k) then
           rinc R.CMP_CNT_SEND_SKIP 1 (setCmp { s.cmp with waiting := s.cmp.waiting.filter fun j => !waitsOn k j } s)
         else s
       cmpSubmit (.send k l b sof) false [] none s1)
    else s) s

/-- A waiting picture's store buffer is overwritten: it is not sent. -/
def sendOverwritten (l b : Nat) (s : State) : State :=
  let hit := fun (j : CmpJob) => match j.user with | .send _ l' b' _ => l' == l && b' == b | _ => false
  let n := (s.cmp.waiting.filter hit).length
  if n = 0 then s
  else rinc R.CMP_CNT_SEND_SKIP n (setCmp { s.cmp with waiting := s.cmp.waiting.filter fun j => !hit j } s)

/-- WR and RD of a send stream's ring (R269; the last stream's two offsets carry counters, so its words have keys of their own). -/
def sendWr (k : Nat) : Nat := if k < 7 then 0xA0110 + 32 * k else 0xA0F10
def sendRd (k : Nat) : Nat := if k < 7 then 0xA0114 + 32 * k else 0xA0F14

end Sys2Proof.Machine
end

