-- ==== Sys2Proof/Machine/CnvLayers.lean ====
section
/-! DEFINITION. Canvas layers: which source feeds which layer, the layer stores, how an OT0 picture arrives, and abandoning (R127, R128, R130). -/

namespace Sys2Proof.Machine

/-- Reading registers through a set of values in use. -/
def useOf (use : List (Nat × Word)) : Nat → Word := fun a => smGet (coldWord a) use a

/-- A 64-bit value over two words of such a reading. -/
def useU64 (u : Nat → Word) (a : Nat) : Nat := (u a).toNat + (u (a + 4)).toNat * 2 ^ 32

def canvasBuf (s : State) (b : Nat) : CanvasBuf := nth {} s.cnv.bufs b

def setCnv (v : CnvState) (s : State) : State := { s with cnv := v }

def layerOn (s : State) (l : Nat) : Bool := ubit s (R.CNV_LYR_CTRL l) 0
def layerSrc (s : State) (l : Nat) : Nat := ufld s (R.CNV_LYR_CTRL l) 2 1
def layerW (s : State) (l : Nat) : Nat := ufld s (R.CNV_LYR_WH l) 13 0 + 1
def layerH (s : State) (l : Nat) : Nat := ufld s (R.CNV_LYR_WH l) 28 16 + 1

/-- The pacing pipeline (PACE 1 or 2), if any (R125). -/
def pacePipe (s : State) : Option Nat :=
  let k := ufld s R.CNV_SCHED 1 0
  if k = 1 then some 0 else if k = 2 then some 1 else none

/-- The enabled layer a pipeline feeds (R127). -/
def layerOfPipe (s : State) (p : Nat) : Option Nat := lowest 8 fun l => layerOn s l && layerSrc s l == p

/-- The enabled layer a cascade stream feeds. -/
def layerOfStream (s : State) (stream : Nat) : Option Nat :=
  lowest 8 fun l => layerOn s l && layerSrc s l == 3 && ufld s (R.CNV_LYR_CTRL l) 31 16 == stream

def layerAt (s : State) (l : Nat) : CnvLayer := nth {} s.cnv.layers l
def setLayer (l : Nat) (v : CnvLayer) (s : State) : State :=
  { s with cnv := { s.cnv with layers := setNth s.cnv.layers l v } }

def storeAt (y : CnvLayer) (b : Nat) : StoreBuf := if b = 0 then y.st0 else y.st1
def setStore (y : CnvLayer) (b : Nat) (v : StoreBuf) : CnvLayer := if b = 0 then { y with st0 := v } else { y with st1 := v }

/-- A composition, or a send job, holds this store buffer (R128, R257). -/
def storeHeld (s : State) (l b : Nat) : Bool := (s.cnv.pics.any fun c => c.stored.contains (l, b)) || sendHolds s l b

/-- The newest complete store buffer of a layer. -/
def newestStore (y : CnvLayer) : Option Nat :=
  if y.st0.complete && (!y.st1.complete || decide (y.st1.order < y.st0.order)) then some 0
  else if y.st1.complete then some 1 else none

/-- The store buffer a new picture goes to: one that nothing holds and no picture is written to; of two, the one that is not the newest complete picture (R128). None when both are held. -/
def storePick (s : State) (l : Nat) : Option Nat :=
  let y := layerAt s l
  if storeHeld s l 0 && storeHeld s l 1 then none
  else if storeHeld s l 0 then some 1
  else if storeHeld s l 1 then some 0
  else if y.writing.contains 0 then some 1
  else if y.writing.contains 1 then some 0
  else match newestStore y with | some 0 => some 1 | _ => some 0

/-- A new picture takes store buffer `b` of a layer; a complete picture there that no composition has used is overwritten and counted (R128). -/
def storeBegin (l b : Nat) (s : State) : State :=
  let y := layerAt s l
  let old := storeAt y b
  let s1 := sendOverwritten l b (setLayer l { setStore y b { old with complete := false, unused := false } with writing := setInsert y.writing b } s)
  if old.complete && old.unused then raiseInt (pg 4 1) 1 (rinc (R.CNV_LYR_CNT_OVERWRITE l) 1 s1) else s1

/-- The base of store `b` of a layer, its stride, and which memory it lies in. -/
def storeBase (s : State) (l b : Nat) : Nat :=
  if b = 0 then unat2 s (R.CNV_LYR_STORE0 l) else unat2 s (R.CNV_LYR_STORE1 l)
def storeHost (s : State) (l : Nat) : Bool := ubit s (R.CNV_LYR_CTRL l) 5
def storeStride (s : State) (l : Nat) : Nat := unat s (R.CNV_LYR_STRIDE l)

/-- The bytes of a P48 row (R76). -/
def rowBytes (row : List Nat) : List Byte := row.flatMap (leBytes 6)

/-- A stream bound to a layer asks for the layer's pictures in the store (R257). -/
def sendBound (s : State) (l : Nat) : Bool :=
  (upto 8).any fun k => rbit s (R.CMP_SEND_CTRL k) 0 && rfld s (R.CMP_SEND_CTRL k) 3 1 == l

/-- Store buffer `b` of a layer has gained a complete picture, which the send streams bound to the layer take (R125, R128, R257). -/
def storeDone (l b sof : Nat) (s : State) : State :=
  let y := layerAt s l
  let n := s.cnv.orderCount + 1
  let s1 := setLayer l { setStore y b { complete := true, unused := true, order := n, sof := sof } with writing := setErase y.writing b } s
  sendOffer l b sof { s1 with cnv := { s1.cnv with orderCount := n, storeNews := true } }

/-- The picture being written to a store buffer is given up. -/
def storeDrop (l b : Nat) (s : State) : State :=
  setLayer l { layerAt s l with writing := setErase (layerAt s l).writing b } s

/-! ### OT0 pictures -/

/-- The picture of one frame of one pipeline. -/
def ot0At (s : State) (p sof : Nat) : Option Ot0Pic := s.cnv.ot0.find? fun o => o.pipe == p && o.sof == sof

def putOt0 (o : Ot0Pic) (s : State) : State :=
  { s with cnv := { s.cnv with ot0 := s.cnv.ot0.map fun x => if x.pipe = o.pipe ∧ x.sof = o.sof then o else x } }

/-- A picture in composition takes this OT0 picture live. -/
def takenLive (s : State) (o : Ot0Pic) : Bool :=
  s.cnv.pics.any fun c => c.live.any fun e => e.2.1 == o.pipe && e.2.2 == o.sof

/-- Forget the OT0 pictures that nothing needs any more. -/
def sweepOt0 (s : State) : State :=
  { s with cnv := { s.cnv with ot0 := s.cnv.ot0.filter fun o => !(o.done || o.withdrawn) || takenLive s o } }

/-- Show the rows ready in CNV_STATUS: the last row of the newest picture that is ready (R130). -/
def showReady (s : State) : State :=
  let s1 := rsetBit R.CNV_STATUS 2 (!s.cnv.pics.isEmpty) s
  match s.cnv.pics.getLast? with
  | some c => rsetBit R.CNV_STATUS 1 (c.buf == 1) (rsetFld R.CNV_STATUS 28 16 (c.next - 1) s1)
  | none => s1

/-- HOST_FREE: a host buffer that no composition holds. -/
def showHostFree (s : State) : State :=
  let held := fun b => s.cnv.pics.any fun c => c.stored.any fun e =>
    e.2 == b && getBits (useOf c.use (R.CNV_LYR_CTRL e.1)) 2 1 == 2
  rsetBit R.CNV_STATUS 4 (!held 1) (rsetBit R.CNV_STATUS 3 (!held 0) s)

/-! ### The monitor view's ring (R144) -/

def monOn (u : Nat → Word) : Bool := bitAt (u R.CNV_MON_CTRL) 0
def monBox (u : Nat → Word) : Nat := 2 ^ getBits (u R.CNV_MON_CTRL) 2 1
def monW (u : Nat → Word) : Nat := getBits (u R.CNV_MON_CROP_WH) 13 0 + 1
def monH (u : Nat → Word) : Nat := getBits (u R.CNV_MON_CROP_WH) 28 16 + 1
def monX (u : Nat → Word) : Nat := getBits (u R.CNV_MON_CROP_XY) 13 0
def monY (u : Nat → Word) : Nat := getBits (u R.CNV_MON_CROP_XY) 28 16

def monStride (u : Nat → Word) : Nat := (u R.CNV_MON_STRIDE).toNat
def monBufBase (u : Nat → Word) (k : Nat) : Nat := useU64 u R.CNV_MON_BASE + k * (u R.CNV_MON_BUFSZ).toNat
def monHost (u : Nat → Word) : Bool := bitAt (u R.CNV_MON_CTRL) 16

/-- The bytes of a monitor buffer in use: header and lines. -/
def monFrameBytes (u : Nat → Word) : Nat := 64 + monStride u * (monH u / monBox u)

/-- A picture that will not be launched leaves canvas buffer `b`: its monitor clone is counted as not published, and the clone of a
later picture moves down into its place, so that WR_IDX passes only published buffers (R144). DESIGN CHOICE (log 132). -/
def monGone (b : Nat) (s : State) : State :=
  match (canvasBuf s b).mon with
  | none => s
  | some k =>
    let o := 1 - b
    let s1 := rinc R.CNV_MON_CNT_SKIP 1 { s with cnv := { s.cnv with bufs := setNth s.cnv.bufs b { canvasBuf s b with mon := none } } }
    match (canvasBuf s1 o).mon with
    | none => s1
    | some j =>
      if (canvasBuf s1 o).seq < (canvasBuf s b).seq then s1
      else
        let u := useOf (canvasBuf s1 o).use
        let s2 := memWrite (monHost u) (monBufBase u k) (memRead s1 (monHost u) (monFrameBytes u) (monBufBase u j)) s1
        { s2 with cnv := { s2.cnv with
            bufs := setNth s2.cnv.bufs o { canvasBuf s2 o with mon := some k }
            pics := s2.cnv.pics.map fun c => if c.buf = o then { c with mon := some k } else c } }

/-- The picture in canvas buffer `b` is given up: nothing composes, scans or launches it, and the buffer is free (R126, R130, R139). -/
def bufRelease (b : Nat) (s : State) : State :=
  let s1 := monGone b s
  let cnv := s1.cnv
  showHostFree (showReady
    { s1 with cnv := { cnv with
        pics := cnv.pics.filter fun x => x.buf != b
        scan := match cnv.scan with | some sc => if sc.buf = b then none else some sc | none => none
        bounds := cnv.bounds.filter fun x => x.buf != b
        bufs := setNth cnv.bufs b {} } })

/-- A picture not yet launched is abandoned: its launch is not sent and its buffer becomes free (R130). -/
def picAbandon (b : Nat) (s : State) : State := bufRelease b (rinc R.CNV_CNT_ABANDONED 1 s)

/-- Two Meridian times lie within `w` microseconds of each other. -/
def within (a b w : Nat) : Bool := decide (a ≤ b + w * 1000 * 65536 ∧ b ≤ a + w * 1000 * 65536)

/-- A pipeline delivers the next OT0 line of a frame (R116, R128). -/
def ot0Line (p sof : Nat) (row : List Nat) (s : State) : State :=
  match ot0At s p sof with
  | none => s
  | some o =>
    if o.withdrawn then s
    else
      let s1 := putOt0 { o with rows := o.rows ++ [row] } s
      match o.layer, o.store with
      | some l, some b => memWrite (storeHost s1 l) (storeBase s1 l b + o.rows.length * storeStride s1 l) (rowBytes row) s1
      | _, _ => s1

/-- A frame is complete, and with it its OT0 picture: no abandonment can withdraw it any more (R14, R66). -/
def ot0Done (p sof : Nat) (s : State) : State :=
  match ot0At s p sof with
  | none => s
  | some o =>
    if o.withdrawn then s
    else
      let s1 := putOt0 { o with done := true } s
      match o.layer, o.store with
      | some l, some b => storeDone l b o.sof s1
      | _, _ => s1

/-- A pipeline withdraws the OT0 picture of a frame: a picture that takes it live and is not launched yet is abandoned, whether its
composition still runs or is done (R130). -/
def ot0Withdraw (p sof : Nat) (s : State) : State :=
  match ot0At s p sof with
  | none => s
  | some o =>
    if o.done then s
    else
      let s1 := putOt0 { o with withdrawn := true } s
      let s2 := match o.layer, o.store with
        | some l, some b => storeDrop l b s1
        | _, _ => s1
      ((upto 2).filter fun b =>
        let c := canvasBuf s2 b
        c.holds && !c.launched && c.live.any fun e => e.2.1 == p && e.2.2 == sof).foldl (fun s b => picAbandon b s) s2

end Sys2Proof.Machine
end

