-- ==== Sys2Proof/Machine/LineCode.lean ====
section
/-! DEFINITION. The line coding of lanes 0 to 45, their training blocks, and the figure of merit (R220, R222, R227). -/

namespace Sys2Proof.Machine

/-! ### Gray mapping and precoding (R220) -/

/-- The bits of bytes in transmission order: each byte's least significant bit first (PRESUMED, log 124). -/
def lineBits (bs : List Byte) : List Bool := bs.flatMap fun b => (upto 8).map fun k => decide (b.toNat / 2 ^ k % 2 = 1)

/-- The bytes of bits in transmission order. -/
def lineBytesOf (xs : List Bool) : List Byte :=
  (upto (xs.length / 8)).map fun i => BitVec.ofNat 8 (((xs.drop (8 * i)).take 8).foldr (fun b a => b2n b + 2 * a) 0)

/-- Gray mapping: 0, 1, 3, 2 for the pairs 0b00, 0b01, 0b10, 0b11; it is its own inverse. -/
def gray (g : Nat) : Nat := if g = 2 then 3 else if g = 3 then 2 else g

/-- The pairs of a bit sequence, the earlier bit the more significant. -/
def pairsOf : List Bool → List Nat
  | a :: b :: xs => (2 * b2n a + b2n b) :: pairsOf xs
  | _ => []

/-- The precoder: P(j) = (G(j) − P(j − 1)) mod 4, from the last P sent. -/
def precode : Nat → List Nat → List Nat
  | _, [] => []
  | p, g :: gs => let q := (g + 4 - p) % 4; q :: precode q gs

/-- The level of a symbol, and a level's symbol. -/
def levelOf (p : Nat) : Int := 2 * (p : Int) - 3
def levelSymbol (l : Int) : Nat := ((l + 3) / 2).toNat % 4

/-- The levels that carry bytes, after the symbol `p`. -/
def encodeLevels (p : Nat) (bs : List Byte) : List Int := (precode p ((pairsOf (lineBits bs)).map gray)).map levelOf

/-- Undo the precoding: G(j) = (P(j) + P(j − 1)) mod 4. -/
def unprecode : List Nat → List Nat
  | a :: b :: ps => (a + b) % 4 :: unprecode (b :: ps)
  | _ => []

/-- The bytes that levels carry; the first level is that of the symbol before them. -/
def decodeLevels (ls : List Int) : List Byte :=
  lineBytesOf ((unprecode (ls.map levelSymbol)).flatMap fun g => let v := gray g; [decide (2 ≤ v), decide (v % 2 = 1)])

/-! ### Training blocks (R222) -/

/-- Bit `i` of the PRBS31 x^31 + x^28 + 1, and its register after it. -/
def prbsStep (r : Nat) : Bool × Nat :=
  let b := (r / 2 ^ 30 + r / 2 ^ 27) % 2
  (decide (b = 1), (2 * r + b) % 2 ^ 31)

def prbsBits : Nat → Nat → List Bool × Nat
  | 0, r => ([], r)
  | n + 1, r =>
    let (b, r1) := prbsStep r
    let (bs, r2) := prbsBits n r1
    (b :: bs, r2)

/-- The CRC-16 of a training block or a flit (R188). -/
def crc16 (bs : List Byte) : Nat := crcForward 16 0x1021 0xFFFF bs

/-- A training block, and the PRBS register after it. -/
def trainingBlock (laneId status preset prbs : Nat) : List Byte × Nat :=
  let (bits, r) := prbsBits 432 prbs
  let body := [0xE4#8, 0x1B#8, 0xB1#8, 0x4E#8, BitVec.ofNat 8 laneId, BitVec.ofNat 8 status, BitVec.ofNat 8 preset, 0#8] ++ lineBytesOf bits
  (body ++ leBytes 2 (crc16 body), r)

/-- A block that starts with the MARKER. -/
def hasMarker (b : List Byte) : Bool := decide (b.take 4 = [0xE4#8, 0x1B#8, 0xB1#8, 0x4E#8])

/-- A valid training block: 64 bytes with MARKER and CRC. -/
def blockHolds (b : List Byte) : Bool := decide (b.length = 64) && hasMarker b && decide (crc16 (b.take 62) = leNat (b.drop 62))

/-! ### The figure of merit (R227) -/

/-- 10 × log10(d² / mean(e²)) in units of 1/16 dB, saturated to 0 and 1023; 0 with no signal. `half` is d, `squares` the sum of e²
over the 2^20 samples of the window, in one unit. The largest n with 10^n ≤ (d² / mean e²)^160: rounding down is the model's (log 125). -/
def fomOf (signal : Bool) (half squares : Nat) : Nat :=
  if !signal ∨ half = 0 then 0
  else
    let top := (half ^ 2 * 2 ^ 20) ^ 160
    let low := squares ^ 160
    (upto 10).foldr (fun b n => if 10 ^ (n + 2 ^ b) * low ≤ top then n + 2 ^ b else n) 0

end Sys2Proof.Machine
end

