-- ==== Sys2Proof/Machine/LanBase.lean ====
section
/-! DEFINITION. Lanes, spares and their ends, as the link blocks see them (R223, R230 to R232, R388). -/

namespace Sys2Proof.Machine

def laneState (s : State) (p i : Nat) : Nat := rfld s (R.LAN_L_STATE p i) 2 0

def lanLane (s : State) (p i : Nat) : LanLane := nth {} (nth [] s.lan p) i
def setLanLane (p i : Nat) (v : LanLane) (s : State) : State := { s with lan := setNth s.lan p (setNth (nth [] s.lan p) i v) }

/-- A lane changes state: interrupt bit 1; entries into TRAIN are counted; an entry to DETECT seeds the PRBS of its training blocks (R222, R223, R235). -/
def setLane (p i v : Nat) (s : State) : State :=
  if laneState s p i = v then s
  else
    let s1 := raiseInt (pg 9 p) 1 (rsetFld (R.LAN_L_STATE p i) 2 0 v s)
    let s2 := if v = 2 then rinc (R.LAN_L_CNT_TRAIN p i) 1 s1 else s1
    let s3 := if v = 1 then setLanLane p i { lanLane s2 p i with prbs := 2 ^ 31 - 1, txSymbol := 0 } s2 else s2
    setLanLane p i { lanLane s3 p i with below := 0, down := 0, good := 0, seen := decide (v = 3), ready := decide (v = 3) && (lanLane s3 p i).ready } s3

/-- The lane of spare `k` of a page, and the spares a page has. -/
def spareLane (p k : Nat) : Nat := if p = 0 then 5 * k + 4 else 16 + k

def isSpareLane (p i : Nat) : Bool := decide (p ≤ 2) && (i == spareLane p 0 || i == spareLane p 1)

/-- The port a lane belongs to (R218); a group spare belongs to the port it is wired to (R230). -/
def lanePort (s : State) (p i : Nat) : Nat :=
  if p = 0 then i / 5
  else if i = 16 then rfld s (R.LAN_SPARE_WIRE p) 3 0
  else if i = 17 then rfld s (R.LAN_SPARE_WIRE p) 7 4
  else if p = 1 then i else i / 4

/-- Spare `k` is there for a port: lane 4 of an ingest port always, a group spare where it is wired. -/
def spareWired (s : State) (p k : Nat) : Bool := decide (p = 0) || (decide (p ≤ 2) && rbit s (R.LAN_SPARE_WIRE p) (8 + k))

/-- STATE of spare `k`: 0 standby, 1 substituting, 2 in use, 3 failed, 4 not wired. -/
def spareStateOf (s : State) (p k : Nat) : Nat := rfld s (R.LAN_SPARE_STATE p) (7 + 8 * k) (5 + 8 * k)
def spareLaneFor (s : State) (p k : Nat) : Nat := rfld s (R.LAN_SPARE_STATE p) (4 + 8 * k) (8 * k)
def setSpareOf (p k st lane : Nat) (s : State) : State :=
  rsetFld (R.LAN_SPARE_STATE p) (7 + 8 * k) (5 + 8 * k) st (rsetFld (R.LAN_SPARE_STATE p) (4 + 8 * k) (8 * k) lane s)

/-- The page of the block that owns a lane of page `p` on port `port`. -/
def ownerPage (p port : Nat) : Nat := if p = 0 then pg 2 port else if p = 1 then pg 6 port else pg 7 port

/-- A substitution record in the Log book (R388, R390): resource kind, page, replaced unit, spare. -/
def logSubstitution (kind page unit spare : Nat) (s : State) : State :=
  logEvent (blockOfPage page) (page % 16) 0x0030 (leBytes 4 kind ++ leBytes 4 page ++ leBytes 4 unit ++ leBytes 4 spare) s

/-- A substitution has ended: the replaced lane is RETIRED, the spare in use (R231, R232). -/
def substEnd (p k : Nat) (s : State) : State :=
  let lane := spareLaneFor s p k
  let port := lanePort s p lane
  let s0 := setLane p (spareLane p k) 4 (setLane p lane 6 (setSpareOf p k 2 lane s))
  let s1 := match (upto 2).find? fun j => isSpareLane p lane && decide (j ≠ k ∧ spareLane p j = lane) with
    | some j => setSpareOf p j 3 (spareLaneFor s p j) s0
    | none => s0
  let s2 := rinc (R.LAN_CNT_SUBST p) 1 (rsetBit (R.LAN_RETIRED p) lane true s1)
  let s3 := rsetBit (hdrStatus (ownerPage p port)) 4 true s2
  logSubstitution p (ownerPage p port) lane k (raiseInt (pg 9 p) 3 s3)

/-- A spare has failed: no further substitution starts with it until the next cold start (R231). -/
def spareFailed (p k : Nat) (s : State) : State :=
  raiseErr (pg 9 p) 0x14 (w32 k) (setSpareOf p k 3 (spareLaneFor s p k) s)

/-- The logical lane a physical lane carries (R224); a spare in use carries the one it stands for. -/
def logicalLane (s : State) (p i : Nat) : Nat :=
  let j := if isSpareLane p i then spareLaneFor s p (if p = 0 then i / 5 else i - 16) else i
  let k := if p = 0 then j % 5 else j % 4
  if rbit s (R.LAN_L_STATE p j) 4 then 3 - k else k

/-- The physical lane on which a logical lane of an ingest or cascade port arrives (R224). -/
def physicalLane (s : State) (p port logical : Nat) : Nat :=
  let base := if p = 0 then 5 * port else 4 * port
  if rbit s (R.LAN_L_STATE p (base + logical)) 4 then base + (3 - logical) else base + logical

/-- A spare returned after RELEASE: back to standby, the original lane carries again (R232). -/
def spareReturned (p port : Nat) (s : State) : State :=
  match (upto 2).find? fun k => s.lanRelease.contains (p, k) && decide (lanePort s p (spareLane p k) = port) with
  | none => s
  | some k =>
    let s1 := setLane p (spareLane p k) (if p = 1 then 0 else 5)
      (setSpareOf p k 0 0 { s with lanRelease := s.lanRelease.filter fun e => e != (p, k) })
    let others := (upto 2).any fun j => decide (spareStateOf s1 p j = 2 ∧ lanePort s1 p (spareLaneFor s1 p j) = port)
    if others then s1 else rsetBit (hdrStatus (ownerPage p port)) 4 false s1

/-- An ingest or cascade port lost its link before a substitution was done: the spare is free again. -/
def substAbandon (p port : Nat) (s : State) : State :=
  (upto 2).foldl (fun s k => if spareStateOf s p k = 1 ∧ lanePort s p (spareLane p k) = port then setSpareOf p k 0 0 s else s) s

/-- An ingest or cascade port reports how its spare's 2-period test ended (R59, R190, R231). -/
def lanSpareResult (page k : Nat) (ok : Bool) (s : State) : State := if ok then substEnd page k s else spareFailed page k s

/-- The spare in use for a lane, if any. -/
def spareInUseFor (s : State) (p i : Nat) : Option Nat :=
  lowest 2 fun k => decide (spareStateOf s p k = 2 ∧ spareLaneFor s p k = i) && decide (p ≤ 2)

/-- A lane, or the spare that stands for it, is UP. -/
def laneCarries (s : State) (p i : Nat) : Bool :=
  match spareInUseFor s p i with
  | some k => decide (laneState s p (spareLane p k) = 4)
  | none => decide (laneState s p i = 4)

end Sys2Proof.Machine
end

