-- ==== Sys2Proof/Machine/Mer.lean ====
section
/-! DEFINITION. Meridian time: the counter, the servo, the TAI reference, PPS and the 10 MHz reference, and their commands (R206 to R213). -/

namespace Sys2Proof.Machine

/-- FREQ, in units of 2^-32 (R208). -/
def merFreq (s : State) : Int := signedOf 32 (rnat s R.MER_FREQ)

/-- ±500 ppm in units of 2^-32, rounded towards 0. -/
def freqTop : Int := 2147483

def setFreq (i : Int) (s : State) : State :=
  rset R.MER_FREQ (w32 (unsignedOf 32 (if i < -freqTop then -freqTop else if freqTop < i then freqTop else i))) s

/-- One nanosecond of CK_MER: the counter advances by 1 ns × (1 + FREQ) (R208). -/
def merTick (s : State) : State :=
  { s with now := s.now + 1, meridian := s.meridian + ((2 ^ 48 : Int) + merFreq s * 2 ^ 16).toNat }

def merState (s : State) : Nat := rfld s R.MER_STATE 2 0
def setMerState (v : Nat) (s : State) : State :=
  if merState s = v then s else raiseInt (pg 8 0) 1 (rsetFld R.MER_STATE 2 0 v s)

def epochValid (s : State) : Bool := rbit s R.MER_STATE 8
def isLodestar (s : State) : Bool := rbit s R.MER_STATE 9

/-- Step Meridian forward to a long time: counted, interrupt bit 3 (R210, R212, R216). It never goes back (OP4). -/
def merStep (t : Nat) (s : State) : State :=
  if t ≤ merNow s then s
  else raiseInt (pg 8 0) 3 (rinc R.MER_CNT_STEPS 1 { s with meridian := t * 2 ^ 32 })

def taiOfs (s : State) : Int := signedOf 64 (rnat2 s R.MER_TAI_OFS)
def setTaiOfs (i : Int) (s : State) : State := rset2 R.MER_TAI_OFS (unsignedOf 64 i) s

/-- An epoch break: counted, interrupt bit 2, Log-book record (R212, R390). `d` is δ in ns. -/
def epochBreak (d : Int) (s : State) : State :=
  let s1 := raiseInt (pg 8 0) 2 (rincFld R.MER_EPOCH_BREAKS 15 0 1 s)
  logEvent 8 0 0x0010 (leBytes 8 (unsignedOf 64 d) ++ leBytes 8 (rnat2 s1 R.MER_TAI_OFS)) s1

/-- The new FREQ towards a difference, held to a range. -/
def steer (d lo hi : Int) (s : State) : State :=
  let f := Config.servoFreq s.drawn (rfld s R.MER_SERVO 4 0) (rfld s R.MER_SERVO 12 8) d
  setFreq (if f < lo then lo else if hi < f then hi else f) (draw s)

/-- Meridian against a follower's θ (R210). An accepted SYNC ends FREE, HOLDOVER and UNSYNC (R201): LOCKED within 1.5 ns, else ACQUIRING. -/
def followTheta (theta : Int) (lodestarEpoch : Bool) (s : State) : State :=
  let ms : Int := 1000000 * 65536
  let locked := decide (-98304 ≤ theta ∧ theta ≤ 98304)
  let s0 := setMerState (if locked then 2 else 1) (rset R.MER_THETA (w32 (unsignedOf 32 (clampSigned 32 theta))) s)
  if !epochValid s ∧ theta < 0 then
    rsetBit R.MER_STATE 8 lodestarEpoch (merStep ((merNow s0 : Int) - theta).toNat s0)
  else if theta < -ms then merStep ((merNow s0 : Int) - theta).toNat s0
  else if ms < theta then setFreq (-freqTop) s0
  else steer theta (-freqTop) freqTop s0

/-- The reference against Meridian − TAI_OFS at the instant `at16` (R212, R385). -/
def applyReference (ref at16 : Nat) (s : State) : State :=
  let delta : Int := (ref : Int) - ((at16 : Int) - taiOfs s)
  let ns : Int := delta / 65536
  let s0 := rset R.MER_PPS_ERR (w32 (unsignedOf 32 (clampSigned 32 ns))) s
  let floor_ := s.tLast + 1000000000 * 65536
  if !epochValid s then
    (let s1 :=
       if ref ≤ floor_ ∧ at16 < floor_ then
         (let s' := merStep floor_ s0
          setTaiOfs ((floor_ : Int) - (ref : Int)) s')
       else if at16 < ref then setTaiOfs 0 (merStep ref s0)
       else setTaiOfs ((at16 : Int) - (ref : Int)) s0
     rsetBit R.MER_STATE 8 true s1)
  else if 0 ≤ delta ∧ delta ≤ 1000000 * 65536 then steer delta 0 freqTop s0
  else if delta < 0 ∧ -((rfld s R.MER_JUMP_THR 9 0 : Int) * 1000 * 65536) ≤ delta then steer delta (-freqTop) 0 s0
  else epochBreak ns (setTaiOfs (taiOfs s - delta) s0)

/-- A MAXT more than 1 ms ahead of the Lodestar's Meridian (R212). -/
def maxtStep (maxt : Nat) (s : State) : State :=
  let goal := maxt + 1000000 * 65536
  let by_ : Int := (goal : Int) - (merNow s : Int)
  let s1 := setTaiOfs (taiOfs s + by_) (merStep goal s)
  if epochValid s then epochBreak (by_ / 65536) s1 else s1

/-- Enter HOLDOVER: the last FREQ stays (R211). -/
def merHoldover (s : State) : State :=
  if merState s = 3 then s else setMerState 3 (raiseErr (pg 8 0) 0x10 (w32 (merState s)) s)

/-- Free-run as UNSYNC (R198, R200). -/
def merUnsync (s : State) : State :=
  if merState s = 4 then s else setMerState 4 (raiseErr (pg 8 0) 0x13 (w32 (rfld s R.CAS_STATE 2 0)) s)

/-- The PPS_OUT ball: high for OUT_WIDTH ms from each Meridian second (R213). -/
def ppsOut (s : State) : Bool :=
  rbit s R.MER_PPS_CTRL 1 && decide (merNow s / 65536 % 1000000000 < rfld s R.MER_PPS_CTRL 15 8 * 1000000)

/-- The REF10M_OUT ball rises in this nanosecond (R213). -/
def ref10mRises (s : State) : Bool := rbit s R.MER_PPS_CTRL 3 && decide (merNow s / 65536 % 100 = 0)

/-- HOLDOVER (R211): no SYNC accepted for SYNC_TIMEOUT intervals, by a device that follows a Lodestar or has followed one. -/
def execHoldover (s : State) : Host.Outcome State Fault Refusal :=
  .next (if !isLodestar s && (s.cas.lodestar.isSome || decide (merState s = 1 ∨ merState s = 2)) then merHoldover s else s)

/-- PPS_MISSING (R213): no PPS_IN edge for 1.1 s after the last. -/
def execPpsMissing (s : State) : Host.Outcome State Fault Refusal :=
  .next (if rbit s R.MER_PPS_CTRL 0 && rbit s R.MER_REF_STATE 1 then
      raiseErr (pg 8 1) 0x11 0#32 (rsetBit R.MER_REF_STATE 1 false s)
    else s)

/-- REF10M_LOSS (R213): CK_MER falls back to REFCLK; E_REF_FAIL where REF10M_IN was in use. -/
def execRef10mLoss (s : State) : Host.Outcome State Fault Refusal :=
  let s1 := rsetBit R.MER_REF_STATE 0 false s
  .next (if rbit s R.MER_REF_STATE 0 || rbit s R.MER_PPS_CTRL 2 then raiseErr (pg 8 1) 0x12 0#32 s1 else s1)

/-- REF10M_RESTORED (R213): MER_REF_STATE reports it. -/
def execRef10mRestored (s : State) : Host.Outcome State Fault Refusal :=
  .next (rsetBit R.MER_REF_STATE 0 true s)

end Sys2Proof.Machine
end

