-- ==== Sys2Proof/Machine/Cas.lean ====
section
/-! DEFINITION. The cascade: flits, retry and credits, the tree and its Lodestar, and what arrives (R186 to R205). -/

namespace Sys2Proof.Machine

/-! ### Flits (R188) -/

def flType (f : Flit) : Nat := getBits f.h0 3 0
def flClass (f : Flit) : Nat := getBits f.h0 5 4
def flLast (f : Flit) : Bool := bitAt f.h0 6
def flBcast (f : Flit) : Bool := bitAt f.h0 7
def flDst (f : Flit) : Nat := getBits f.h0 21 8
def flAge (f : Flit) : Nat := getBits f.h0 31 22
def flSrc (f : Flit) : Nat := getBits f.h1 13 0
def flGen (f : Flit) : Nat := getBits f.h1 17 14
def flLseq (f : Flit) : Nat := getBits f.h1 29 18
def flSeq (f : Flit) : Nat := getBits f.h2 15 0
/-- The payload bytes in use. -/
def flBytes (f : Flit) : List Byte := (f.payload ++ List.replicate 46 0#8).take (getBits f.h3 5 0)

/-- Bytes 0 to 61 of a flit. -/
def flitBody (h0 h1 h2 h3 : Word) (payload : List Byte) : List Byte :=
  leBytes 4 h0.toNat ++ leBytes 4 h1.toNat ++ leBytes 4 h2.toNat ++ leBytes 4 h3.toNat ++ (padTo 46 payload).take 46

def flitCrc (body : List Byte) : Nat := crc16 body

/-! ### The device and its ports -/

def casId (s : State) : Nat := rfld s R.CAS_ID 13 0
def casGen (s : State) : Nat := rfld s R.CAS_ID 17 14

/-- CAS runs: page 4 is enabled with its grant and not held idle. -/
def casRuns (s : State) : Bool := unitRuns s (pg 7 4) && !idleReq s (pg 7 4)
def casPortRuns (s : State) (p : Nat) : Bool := casRuns s && unitRuns s (pg 7 p) && !idleReq s (pg 7 p)

def casAt (s : State) (p : Nat) : CasPort := nth {} s.cas.ports p
def setCasPort (p : Nat) (v : CasPort) (s : State) : State := { s with cas := { s.cas with ports := setNth s.cas.ports p v } }
def casState (s : State) (p : Nat) : Nat := rfld s (R.CAS_PORT_STATE p) 2 0
def setCasState (p v : Nat) (s : State) : State :=
  if casState s p = v then s else raiseInt (pg 7 p) 1 (rsetFld (R.CAS_PORT_STATE p) 2 0 v s)

def hasPartner (s : State) (p : Nat) : Bool := rbit s (R.CAS_PORT_STATE p) 31
def nbrId (s : State) (p : Nat) : Nat := rfld s (R.CAS_PORT_STATE p) 29 16

/-- A port receives flits: trained, deskewed and running. -/
def casHears (s : State) (p : Nat) : Bool := casPortRuns s p && decide (2 ≤ casState s p) && (casAt s p).deskewed

/-- A forwarding port: its link is the root port of either end (R200). -/
def forwards (s : State) (p : Nat) : Bool := casPortRuns s p && decide (casState s p = 3 ∨ casState s p = 4)
def forwardPorts (s : State) : List Nat := (upto 4).filter (forwards s)

/-- The mean link delay, and the inward delay d_in = mean + ASYM ÷ 2 (R209), in 2^-16 ns. -/
def linkDelay (s : State) (p : Nat) : Nat := rnat2 s (R.CAS_LINK_DELAY p)
def inDelay (s : State) (p : Nat) : Int := (linkDelay s p : Int) + signedOf 32 (rnat s (R.CAS_ASYM p)) / 2

/-! ### Sending -/

/-- H2's link part: ACK, ACKV, NAK. -/
def ackWord (c : CasPort) (seq : Nat) (nak : Bool) : Word :=
  w32 (seq % 65536 + (c.rxSeq + 4095) % 4096 * 65536 + b2n c.rxAny * 2 ^ 28 + b2n nak * 2 ^ 29)

def emitFlit (p : Nat) (h0 h1 h2 h3 : Word) (payload : List Byte) (poison : Bool) (s : State) : State :=
  let body := flitBody h0 h1 h2 h3 payload
  let c := flitCrc body
  emit (.flit p (body ++ leBytes 2 (if poison then 65535 - c else c))) s

/-- The header of a link flit: class 0, no LSEQ, no AGE. -/
def linkHeader (s : State) (p type plen crd : Nat) (nak : Bool) : List Word :=
  [w32 type, w32 (casId s + casGen s * 2 ^ 14), ackWord (casAt s p) 0 nak, w32 (plen + crd * 256)]

def linkFlit (p type crd : Nat) (nak : Bool) (payload : List Byte) (s : State) : State :=
  match linkHeader s p type payload.length crd nak with
  | [h0, h1, h2, h3] => emitFlit p h0 h1 h2 h3 payload false s
  | _ => s

/-- A link flit whose payload's layout the spec does not give. -/
def linkFields (p type : Nat) (values : List Nat) (s : State) : State :=
  emit (.flitFields p type (linkHeader s p type 0 0 false) values) s

/-- IDLE returns an ACK, and a credit of class `c` where one is due (R189, R192). -/
def sendAck (p : Nat) (credit : Option Nat) (s : State) : State :=
  linkFlit p 0 (match credit with | some c => 2 ^ c | none => 0) false [] s

def sendNak (p : Nat) (s : State) : State := linkFlit p 0 0 true [] s

/-- The passage through the device of a flit that leaves now, in 2^-16 ns, beside its wait (R191). -/
def passage (s : State) : Nat := Config.casResidence s.drawn % (33 * 65536)

/-- AGE of a flit that leaves now: of a forwarded one, residence and the ingress link's delay are added, rounded up to 16 ns, saturating (R195). -/
def itemAge (s : State) (i : CasItem) : Nat :=
  match i.origin with
  | none => 0
  | some _ => satTo 1023 (i.age + ((s.now - i.since) * 65536 + passage s + i.delay + 16 * 65536 - 1) / (16 * 65536))

/-- CF held to 64 bits, as its 8 bytes. -/
def cfBytes (i : Int) : List Byte := leBytes 8 (unsignedOf 64 (clampSigned 64 i))

/-- The payload of a flit that leaves port `p` now: a SYNC's ORIGIN at the Lodestar, its CF at a follower (R210). -/
def itemPayload (s : State) (p : Nat) (i : CasItem) : List Byte :=
  let out : Int := (merNow s : Int) + (rnat s (R.CAS_OUT_LAT p) : Int)
  match i.stamp with
  | .none => i.payload
  | .origin => longBytes out.toNat ++ i.payload.drop 12
  | .correct cf tIn dIn => i.payload.take 12 ++ cfBytes (cf + (out + (passage s : Int) - tIn) + dIn) ++ i.payload.drop 20

/-- A forwarded flit leaves with the link's own fields, its AGE and its times as of now; a poisoned one with its CRC inverted (R194).
The payload of TOPO has no stated layout. -/
def transmit (p lseq : Nat) (i : CasItem) (poison : Bool) (s : State) : State :=
  let h0 := setBits i.h0 31 22 (itemAge s i)
  let h1 := setBits i.h1 29 18 lseq
  let h2 := ackWord (casAt s p) (getBits i.h2 15 0) false
  let s1 := if getBits i.h0 3 0 = 8 then emit (.flitFields p 8 [h0, h1, h2, i.h3] (i.payload.map BitVec.toNat)) s
    else emitFlit p h0 h1 h2 i.h3 (itemPayload s p i) poison s
  if i.origin.isSome then draw s1 else s1

def queueOf (c : CasPort) (cls : Nat) : List CasItem := if cls = 0 then c.queue0 else if cls = 1 then c.queue1 else c.queue2
def setQueue (c : CasPort) (cls : Nat) (q : List CasItem) : CasPort :=
  if cls = 0 then { c with queue0 := q } else if cls = 1 then { c with queue1 := q } else { c with queue2 := q }

def credit (c : CasPort) (cls : Nat) : Nat := nth 0 c.credits cls
def canSend (c : CasPort) (cls : Nat) : Bool := !(queueOf c cls).isEmpty && decide (0 < credit c cls)

/-- The class a port serves next: class 0 first, then classes 1 and 2 alternately (R192). -/
def nextClass (c : CasPort) : Option Nat :=
  let a := if c.turn then 2 else 1
  if canSend c 0 then some 0 else if canSend c a then some a else if canSend c (3 - a) then some (3 - a) else none

/-- Some egress queue still holds a copy of a flit. -/
def stillQueued (s : State) (uid : Nat) : Bool :=
  s.cas.ports.any fun c => [0, 1, 2].any fun k => (queueOf c k).any fun i => i.uid == uid

/-- The last flit of a message has left the balls: its use of SEQ ends, and RD passes its record or entry (R197, R203, R205). -/
def messageLeft (seq : Nat) (d : CasDone) (s : State) : State :=
  let s1 := { s with cas := { s.cas with seqUsed := smSet 0 s.cas.seqUsed seq (s.now + 1) } }
  match d with
  | .stream k =>
    let size := rnat s1 (R.CMP_SEND_SIZE k)
    let rd := rnat s1 (sendRd k)
    let len := memNat s1 false 4 (rnat2 s1 (R.CMP_SEND_BASE k) + rd)
    rset (sendRd k) (w32 (if size = 0 then 0 else (rd + len) % size)) s1
  | .entry =>
    let n := rfld s1 R.CAS_MSG_TX_COUNT 11 0
    let rd := rfld s1 R.CAS_MSG_TX_RD 11 0
    psEnd 2 (2 ^ 20 + rd) (fun o => { o with tag := seq }) (rset R.CAS_MSG_TX_RD (w32 (if n = 0 then 0 else (rd + 1) % n)) s1)

/-- A copy of a flit has left a queue. When it was the last, its buffer place and its credit go back, and a message it ends is done. -/
def itemLeft (cls : Nat) (i : CasItem) (s : State) : State :=
  if stillQueued s i.uid then s
  else
    let s1 := match i.origin with
      | some q => sendAck q (some cls) s
      | none => s
    match s1.cas.leaving.find? fun e => e.1 == i.uid with
    | some (_, seq, d) =>
      messageLeft seq d { s1 with cas := { s1.cas with leaving := s1.cas.leaving.filter fun e => e.1 != i.uid } }
    | none => s1

/-- Send the next flit of a port. -/
def sendNext (p cls : Nat) (i : CasItem) (rest : List CasItem) (s : State) : State :=
  let c := casAt s p
  let c1 := setQueue c cls rest
  let s1 := setCasPort p { c1 with
    txSeq := (c.txSeq + 1) % 4096
    unacked := c.unacked ++ [(c.txSeq, i)]
    credits := setNth c.credits cls (credit c cls - 1)
    turn := if cls = 0 then c.turn else cls == 1 } s
  itemLeft cls i (transmit p c.txSeq i false (rinc (R.CAS_CNT_TX p) 1 s1))

/-- A forwarded class 1 or class 2 flit whose AGE would reach 1,000 as it leaves (R195). -/
def itemStale (s : State) (cls : Nat) (i : CasItem) : Bool := decide (cls ≠ 0) && decide (1000 ≤ itemAge s i)

/-- E_STALE on an ingress port, counted there (R195, R217). -/
def staleErr (p src : Nat) (s : State) : State := raiseErr (pg 7 p) 0x12 (w32 src) (rinc (R.CAS_CNT_STALE p) 1 s)

/-- The next flit of a port has waited too long: it is discarded. -/
def dropStale (p cls : Nat) (i : CasItem) (rest : List CasItem) (s : State) : State :=
  itemLeft cls i (staleErr (match i.origin with | some q => q | none => p) (getBits i.h1 13 0) (setCasPort p (setQueue (casAt s p) cls rest) s))

/-- A port sends what it may: credits, and fewer than 2,048 unacknowledged (R192, R193). -/
def pump (p : Nat) : Nat → State → State
  | 0, s => s
  | fuel + 1, s =>
    let c := casAt s p
    if c.unacked.length < 2048 && forwards s p then
      (match nextClass c with
       | some cls =>
         (match queueOf c cls with
          | i :: rest => pump p fuel (if itemStale s cls i then dropStale p cls i rest s else sendNext p cls i rest s)
          | [] => s)
       | none => s)
    else s

def pumpPort (p : Nat) (s : State) : State :=
  let c := casAt s p
  pump p (c.queue0.length + c.queue1.length + c.queue2.length) s

def pumpAll (s : State) : State := (upto 4).foldl (fun s p => pumpPort p s) s

/-- Put one flit into the egress queues of its ports. -/
def queueItem (cls : Nat) (ports : List Nat) (i : CasItem) (s : State) : State :=
  ports.foldl (fun s p =>
    let c := casAt s p
    setCasPort p (setQueue c cls (queueOf c cls ++ [i])) s) s

/-- A flit of this device's own. -/
def ownItem (s : State) (type cls : Nat) (last bcast : Bool) (dst seq : Nat) (payload : List Byte) (plen : Nat) : CasItem :=
  { uid := s.cas.nextUid
    origin := none
    h0 := w32 (type + cls * 16 + b2n last * 64 + b2n bcast * 128 + dst * 256)
    h1 := w32 (casId s + casGen s * 2 ^ 14)
    h2 := w32 seq
    h3 := w32 plen
    payload := payload }

def takeUid (s : State) : State := { s with cas := { s.cas with nextUid := s.cas.nextUid + 1 } }

/-- TOPO goes out on some ports. -/
def topoTo (ports : List Nat) (change : Bool) (s : State) : State :=
  let i := ownItem s 8 0 false true 0 0 [BitVec.ofNat 8 (b2n change)] 0
  if ports.isEmpty then s else pumpAll (queueItem 0 ports i (takeUid s))

/-- TOPO goes out on every forwarding port (R201). -/
def sendTopo (change : Bool) (s : State) : State := topoTo (forwardPorts s) change s

/-- The ports a flit for `dst` leaves by (R191). -/
def routePorts (s : State) (bcast : Bool) (dst : Nat) (ingress : Option Nat) : List Nat :=
  let all := (forwardPorts s).filter fun p => decide (some p ≠ ingress)
  if bcast then all
  else
    match smGet 0 s.cas.routes dst with
    | 0 => all
    | k + 1 => if forwards s k then [k] else []

/-! ### Messages of this device (R197, R203, R205) -/

/-- A (SEQ, GEN) pair was last used less than 16 µs ago. -/
def quarantined (s : State) (seq : Nat) : Bool :=
  match smGet 0 s.cas.seqUsed seq with
  | 0 => false
  | k + 1 => decide (s.now < k + 16000)

/-- Queue the flits of one message; the last one carries LAST. -/
def queueFlits (m : CasMessage) (ports : List Nat) : List (List Byte) → State → State
  | [], s => s
  | b :: bs, s =>
    let i := ownItem s (if m.cls = 1 then 9 else 10) m.cls bs.isEmpty m.bcast m.dst m.seq b b.length
    let s1 := queueItem m.cls ports i (takeUid s)
    let s2 := if bs.isEmpty then { s1 with cas := { s1.cas with leaving := s1.cas.leaving ++ [(i.uid, m.seq, m.done)] } } else s1
    queueFlits m ports bs s2

/-- Send the waiting messages in order, up to one whose pair is in quarantine or that has no port to leave by. -/
def sendWaiting : List CasMessage → State → State
  | [], s => { s with cas := { s.cas with waiting := [] } }
  | m :: ms, s =>
    let ports := routePorts s m.bcast m.dst none
    if quarantined s m.seq || ports.isEmpty then { s with cas := { s.cas with waiting := m :: ms } }
    else sendWaiting ms (pumpAll (queueFlits m ports m.chunks s))

/-- Cut bytes to pieces of 46. -/
def chunks46 : Nat → List Byte → List (List Byte)
  | 0, _ => []
  | k + 1, bs => if bs.isEmpty then [] else bs.take 46 :: chunks46 k (bs.drop 46)

/-- A message of this device takes the next SEQ and is sent, or waits (R197). -/
def sendMessage (cls dst : Nat) (bcast : Bool) (chunks : List (List Byte)) (d : CasDone) (s : State) : State :=
  let seq := s.cas.nextSeq
  let m : CasMessage := { cls := cls, dst := dst, bcast := bcast, seq := seq, chunks := chunks, done := d }
  let s1 := { s with cas := { s.cas with nextSeq := (seq + 1) % 65536 } }
  let s2 := if quarantined s1 seq then rinc R.CAS_CNT_QUAR_WAIT 1 s1 else s1
  sendWaiting (s2.cas.waiting ++ [m]) s2

/-! ### ANNOUNCE (R199) -/

/-- A candidate's rank: higher CAND, then lower PRIO, then lower ID; the smaller number is better (R200). -/
def rankOf (cand prio id : Nat) : Nat := (3 - cand) * 2 ^ 22 + prio * 2 ^ 14 + id

def ownCand (s : State) : Nat := rfld s R.CAS_ELECT 1 0
def ownPrio (s : State) : Nat := rfld s R.CAS_ELECT 15 8
def casSteps (s : State) : Nat := rfld s R.CAS_STATE 15 8
def casDevState (s : State) : Nat := rfld s R.CAS_STATE 2 0

def heardOn (s : State) (p : Nat) : Option CasHeard := if hasPartner s p then (casAt s p).heard else none

/-- What the children report: ANNOUNCEs whose sender's root port is this link. -/
def childHeard (s : State) : List CasHeard :=
  (upto 4).filterMap fun p => match heardOn s p with | some h => if h.root then some h else none | none => none

/-- The best of (CAND, PRIO, ID) triples with CAND above 0. -/
def bestOf : List (Nat × Nat × Nat) → Option (Nat × Nat × Nat)
  | [] => none
  | (c, p, i) :: xs =>
    match bestOf xs with
    | none => if c = 0 then none else some (c, p, i)
    | some (c', p', i') => if c ≠ 0 ∧ rankOf c p i ≤ rankOf c' p' i' then some (c, p, i) else some (c', p', i')

/-- The best candidate in the subtree, this device included (SUB_ID of R199). -/
def subBest (s : State) : Option (Nat × Nat × Nat) :=
  bestOf ((ownCand s, ownPrio s, casId s) :: (childHeard s).map fun h => (h.subCand, h.subPrio, h.subId))

/-- The latest Meridian time in the subtree (MAXT). -/
def subMaxt (s : State) : Nat := (childHeard s).foldl (fun a h => max a h.maxt) (merNow s)

/-- Candidacy and priority of the Lodestar in effect. -/
def lodestarRank (s : State) : Nat × Nat :=
  match s.cas.lodestar with
  | none => (0, ownPrio s)
  | some l =>
    if l = casId s then (ownCand s, ownPrio s)
    else match s.cas.rootPort with
      | some r => (match heardOn s r with | some h => (h.cand, h.prio) | none => (0, 0))
      | none => (0, 0)

def casStandby (s : State) : Option Nat := if rbit s R.CAS_STANDBY 31 then some (rfld s R.CAS_STANDBY 13 0) else none

/-- EPOCH_VALID of the Lodestar, as this device knows it. -/
def lodestarEpoch (s : State) : Bool :=
  if s.cas.lodestar = some (casId s) then epochValid s
  else match s.cas.rootPort with
    | some r => (match heardOn s r with | some h => h.epochValid | none => false)
    | none => false

/-- What an ANNOUNCE on a port says, but for what only counts or runs on: ANN_SEQ and MAXT. -/
def announceContent (s : State) (p : Nat) : List Nat :=
  let (cand, prio) := lodestarRank s
  let root := decide (s.cas.rootPort = some p)
  let sub := if root then subBest s else none
  [(match s.cas.lodestar with | some l => l | none => casId s),
   cand + b2n root * 16 + b2n (lodestarEpoch s) * 32, prio, casSteps s,
   (match casStandby s with | some i => i + 0x8000 | none => 0),
   rfld s R.MER_EPOCH_BREAKS 15 0, rnat2 s R.MER_TAI_OFS,
   (match sub with | some (c, p, i) => i + c * 2 ^ 16 + p * 2 ^ 24 | none => 0)]

/-- Send ANNOUNCE on a port; the Lodestar counts it. -/
def announce (p : Nat) (s : State) : State :=
  let me := decide (s.cas.lodestar = some (casId s))
  let s1 := if me then { s with cas := { s.cas with annSeq := (s.cas.annSeq + 1) % 65536 } } else s
  let c := announceContent s1 p
  let g := fun k => nth 0 c k
  let payload := leBytes 2 (g 0) ++ leBytes 1 (g 1) ++ leBytes 1 (g 2) ++ leBytes 1 (g 3) ++ [0#8] ++ leBytes 2 (g 4) ++
    leBytes 2 s1.cas.annSeq ++ leBytes 2 (g 5) ++ leBytes 8 (g 6) ++ longBytes (subMaxt s1) ++
    leBytes 2 (g 7) ++ leBytes 1 (g 7 / 2 ^ 16) ++ leBytes 1 (g 7 / 2 ^ 24)
  linkFlit p 6 0 false payload (setCasPort p { casAt s1 p with announced := c } s1)

/-- ANNOUNCE at once on every port with a partner when the content has changed; a partner that has had none yet gets its first (R199). -/
def announceChanges (s : State) : State :=
  let ports := (upto 4).filter fun p => hasPartner s p && casHears s p
  let said := fun p => (casAt s p).announced
  let changed := ports.any fun p => decide (said p ≠ [] ∧ said p ≠ announceContent s p)
  (ports.filter fun p => changed || (said p).isEmpty).foldl (fun s p => announce p s) s

def parseAnnounce (b : List Byte) : CasHeard :=
  let n := fun k i => leNat ((b.drop i).take k)
  let fl := n 1 2
  { lodestar := n 2 0 % 2 ^ 14
    cand := fl % 4
    root := decide (fl / 16 % 2 = 1)
    epochValid := decide (fl / 32 % 2 = 1)
    prio := n 1 3
    steps := n 1 4
    standby := if n 2 6 / 2 ^ 15 = 1 then some (n 2 6 % 2 ^ 14) else none
    annSeq := n 2 8
    breaks := n 2 10
    taiOfs := n 8 12
    maxt := ofLongWords (w32 (n 4 20)) (w32 (n 4 24)) (w32 (n 4 28))
    subId := n 2 32 % 2 ^ 14
    subCand := n 1 34
    subPrio := n 1 35 }

/-! ### The tree (R200, R201) -/

/-- An ANNOUNCE that may give a Lodestar: not from a child, not naming this device, its link not forced BLOCKED. -/
def offered (s : State) (p : Nat) : Option CasHeard :=
  match heardOn s p with
  | some h =>
    if casHears s p && !h.root && decide (h.lodestar ≠ casId s ∧ h.cand ≠ 0) && !rbit s (R.CAS_PORT_CTRL p) 0 then some h else none
  | none => none

/-- The best Lodestar offered on the ports, or this device. -/
def bestLodestar (s : State) : Option (Nat × Nat × Nat) :=
  bestOf ((ownCand s, ownPrio s, casId s) ::
    (upto 4).filterMap fun p => match offered s p with | some h => some (h.cand, h.prio, h.lodestar) | none => none)

/-- Among ports that offer Lodestar `l`: fewest STEPS, then the lower neighbour ID, then the lower port (R200). -/
def rootFor (s : State) (l : Nat) : Option (Nat × Nat) :=
  (upto 4).foldl (fun best p =>
    match offered s p with
    | some h =>
      if h.lodestar ≠ l then best
      else
        (match best with
         | none => some (p, h.steps)
         | some (q, st) => if h.steps < st ∨ (h.steps = st ∧ nbrId s p < nbrId s q) then some (p, h.steps) else best)
    | none => best) none

/-- Set every partnered port's state by the tree. -/
def setPortRoles (deep : Bool) (s : State) : State :=
  (upto 4).foldl (fun s p =>
    if !hasPartner s p then s
    else
      let child := match heardOn s p with | some h => h.root | none => false
      setCasState p
        (if deep || rbit s (R.CAS_PORT_CTRL p) 0 then 5 else if s.cas.rootPort = some p then 3 else if child then 4 else 5) s) s

def setDevState (v : Nat) (s : State) : State :=
  if casDevState s = v then s else raiseInt (pg 7 4) 2 (rsetFld R.CAS_STATE 2 0 v s)

/-- The standby: the Lodestar names the best its children report; the others take it from their root port (R201). -/
def refreshStandby (s : State) : State :=
  let me := decide (s.cas.lodestar = some (casId s))
  let v := if me then
      (match bestOf (((childHeard s).filter fun h => h.subId != casId s).map fun h => (h.subCand, h.subPrio, h.subId)) with
       | some (_, _, i) => some i
       | none => none)
    else match s.cas.rootPort with
      | some r => (match heardOn s r with | some h => h.standby | none => none)
      | none => none
  rset R.CAS_STANDBY (match v with | some i => w32 (i + 2 ^ 31) | none => 0#32) s

/-- A follower takes TAI_OFS, EPOCH_BREAKS and ANN_SEQ from its root port (R199, R212). -/
def adoptReference (s : State) : State :=
  match s.cas.rootPort with
  | some r =>
    (match heardOn s r with
     | some h => rsetFld R.MER_EPOCH_BREAKS 15 0 h.breaks (rset2 R.MER_TAI_OFS h.taiOfs { s with cas := { s.cas with annSeq := h.annSeq } })
     | none => s)
  | none => s

/-- The Lodestar or the root port is other than before: routes are dropped, TOPO with CHANGE = 1 goes out, the Log book and interrupts tell (R201, R390). -/
def treeChanged (old : Option Nat) (s : State) : State :=
  let num := fun (o : Option Nat) => match o with | some i => i | none => 0x3FFF
  let moved := decide (old ≠ s.cas.lodestar)
  let s1 := if moved then
      logEvent 7 0 0x0011 (leBytes 4 (num old) ++ leBytes 4 (num s.cas.lodestar) ++ leBytes 4 (casSteps s)) (raiseInt (pg 7 4) 1 s)
    else s
  sendTopo true { s1 with cas := { s1.cas with routes := [] } }

/-- This device has become the Lodestar: it goes on from its own Meridian (R202). -/
def crown (s : State) : State := if isLodestar s then s else setMerState 0 (rsetBit R.MER_STATE 9 true s)
def uncrown (s : State) : State := rsetBit R.MER_STATE 9 false s

/-- The tree again, from what the ports have heard (R200, R201). A port that begins to forward sends TOPO before any message (R197).
Without a partner a Lodestar stays one until it is Isolated. -/
def elect (s : State) : State :=
  let old := s.cas.lodestar
  let oldRoot := s.cas.rootPort
  let before := forwardPorts s
  let put := fun (l r : Option Nat) (steps : Nat) (s : State) =>
    rsetFld R.CAS_STATE 29 16 (match l with | some i => i | none => 0)
      (rsetFld R.CAS_STATE 15 8 steps { s with cas := { s.cas with lodestar := l, rootPort := r } })
  let finish := fun (deep : Bool) (st : Nat) (s : State) =>
    let s1 := adoptReference (refreshStandby (setPortRoles deep s))
    let s2 := setDevState (if st = 2 ∧ casStandby s1 = some (casId s1) then 4 else st) s1
    let moved := decide (old ≠ s2.cas.lodestar ∨ oldRoot ≠ s2.cas.rootPort)
    let s3 := if moved then treeChanged old s2 else topoTo ((forwardPorts s2).filter fun p => !before.contains p) false s2
    sendWaiting s3.cas.waiting (announceChanges s3)
  if !((upto 4).any (hasPartner s)) then
    (if old = some (casId s) ∨ old = none then s
     else finish false 0 (merHoldover (put none none 0 s)))
  else
    match bestLodestar s with
    | none => finish false 0 (uncrown (if old = none then put none none 0 s else merHoldover (put none none 0 s)))
    | some (_, _, l) =>
      if l = casId s then finish false 3 (crown (put (some l) none 0 s))
      else
        match rootFor s l with
        | none => s
        | some (r, steps) =>
          if 128 < steps + 1 then
            (let s1 := raiseErr (pg 7 4) 0x14 (w32 (steps + 1)) (put none none 0 s)
             let s2 := finish true 5 (uncrown s1)
             merUnsync s2)
          else finish false 2 (uncrown (put (some l) (some r) (steps + 1) s))

/-- A port leaves the tree for DOWN (0) or TRAINING (1): its partner and what it held are gone, and the tree is formed again (R193, R201). -/
def casLeave (p dest : Nat) (err : Bool) (s : State) : State :=
  if casState s p = 0 then s
  else
    let c := casAt s p
    let s1 := rset (R.CAS_PORT_STATE p) (w32 (rfld s (R.CAS_PORT_STATE p) 2 0)) (setCasPort p { crcSeen := c.crcSeen } s)
    let s1 := setCasState p dest s1
    let s2 := if err then raiseErr (pg 7 p) 0x10 (w32 p) s1 else s1
    let s3 := [0, 1, 2].foldl (fun s k => (queueOf c k).foldl (fun s i => itemLeft k i s) s) s2
    let lost := decide (s3.cas.rootPort = some p) && decide ((match s3.cas.lodestar with | some l => rootFor s3 l | none => none) = none)
    elect (if lost then merHoldover s3 else s3)

/-- The port goes DOWN with E_LINK_DOWN. -/
def casPortDown (p : Nat) (s : State) : State := casLeave p 0 true s

/-- The port's lanes are trained: DISCOVERING, with a first DISCOVER (R198). -/
def discover (p : Nat) (s : State) : State := linkFlit p 2 0 false (leBytes 2 (casId s) ++ leBytes 1 (casGen s)) s

def casLinkUp (p : Nat) (s : State) : State :=
  if casPortRuns s p && decide (casState s p ≤ 1) then discover p (setCasState p 2 s) else s

/-! ### Retry (R193) -/

/-- Drop what an ACK covers; whether it covers anything. -/
def ackDrop (ack : Nat) (u : List (Nat × CasItem)) : List (Nat × CasItem) × Bool :=
  if u.any fun e => e.1 == ack then (((u.dropWhile fun e => e.1 != ack).drop 1), true) else (u, false)

/-- Every unacknowledged flit goes again, in order; after 16 resends without progress the port goes DOWN. -/
def resend (p : Nat) (s : State) : State :=
  let c := casAt s p
  if c.unacked.isEmpty then s
  else if 16 ≤ c.resends then casPortDown p s
  else
    c.unacked.foldl (fun s e => transmit p e.1 e.2 false s)
      (rinc (R.CAS_CNT_RESEND p) c.unacked.length (setCasPort p { c with resends := c.resends + 1 } s))

/-- ACK, NAK and CRD of a flit that holds. -/
def linkFieldsIn (p : Nat) (f : Flit) (s : State) : State :=
  let c := casAt s p
  let (u, moved) := if bitAt f.h2 28 then ackDrop (getBits f.h2 27 16) c.unacked else (c.unacked, false)
  let crd := getBits f.h3 11 8
  let credits := (upto 3).map fun k => credit c k + crd / 2 ^ k % 2
  let s1 := setCasPort p { c with unacked := u, credits := credits, resends := if moved then 0 else c.resends } s
  let s2 := if bitAt f.h2 29 then resend p s1 else s1
  pumpPort p s2

/-! ### Arrival -/

/-- AGE of a flit as it arrives: with the ingress link's delay, rounded up to 16 ns (R195). -/
def arrivalAge (s : State) (p : Nat) (f : Flit) : Nat := satTo 1023 (flAge f + (linkDelay s p + 16 * 65536 - 1) / (16 * 65536))

/-- Fields of a SYNC's payload (R210). -/
def syncField (f : Flit) (k i : Nat) : Nat := leNat (((flBytes f ++ List.replicate 46 0#8).drop i).take k)

/-- The stamp of a flit's arrival at the balls. -/
def arrivalStamp (s : State) (p : Nat) : Int := (merNow s : Int) - (rnat s (R.CAS_IN_LAT p) : Int)

/-- What of time a forwarded flit carries on. -/
def flitStamp (s : State) (p : Nat) (f : Flit) : CasStamp :=
  if flType f = 7 then .correct (signedOf 64 (syncField f 8 12)) (arrivalStamp s p) (inDelay s p) else .none

/-- The flit as it will leave this device: reserved bits 0, AGE and CF set at its departure (R188, R195, R210). -/
def flitItem (s : State) (p : Nat) (f : Flit) (payload : List Byte) : CasItem :=
  { uid := s.cas.nextUid
    origin := some p
    age := flAge f
    since := s.now
    delay := linkDelay s p
    stamp := flitStamp s p f
    h0 := f.h0
    h1 := w32 (getBits f.h1 17 0)
    h2 := w32 (flSeq f)
    h3 := w32 (getBits f.h3 5 0)
    payload := payload }

/-- The ports a flit that came in on `p` goes to: a SYNC from the root port to the child ports, another by the rules of R191. -/
def copyPorts (s : State) (p : Nat) (f : Flit) : List Nat :=
  if flType f = 7 then
    (if s.cas.rootPort = some p then (forwardPorts s).filter fun q => decide (casState s q = 4 ∧ q ≠ p) else [])
  else if flBcast f || decide (flDst f ≠ casId s) then routePorts s (flBcast f) (flDst f) (some p) else []

/-- A flit whose CRC fails, or that arrives poisoned, after it was forwarded by its header: each copy under way leaves with its CRC inverted (R194). -/
def stomp (p : Nat) (f : Flit) (s : State) : State :=
  (copyPorts s p f).foldl (fun s q =>
    let c := casAt s q
    if c.queue0.isEmpty && c.queue1.isEmpty && c.queue2.isEmpty && decide (0 < credit c (flClass f)) then
      rinc (R.CAS_CNT_STOMP q) 1 (transmit q c.txSeq (flitItem s p f f.payload) true s)
    else s) s

/-- The flit is of a type that is forwarded. -/
def forwardedType (t : Nat) : Bool := decide (7 ≤ t ∧ t ≤ 10)

/-- A flit at a port, up to its CRC and its link fields: what is left to do with it, or none when it goes no further (R188, R193, R194, R201). -/
def flitIn (p t : Nat) (f : Flit) (s : State) : State × Bool :=
  if !casHears s p then (s, false)
  else
    let want := flitCrc (flitBody f.h0 f.h1 f.h2 f.h3 f.payload)
    let begun := forwardedType (flType f) && forwards s p && decide (flLseq f = (casAt s p).rxSeq)
    if f.crc.toNat = 65535 - want then (if begun then stomp p f s else s, false)
    else if f.crc.toNat ≠ want then
      (let s1 := rinc (R.CAS_CNT_CRC p) 1 s
       let s2 := if (casAt s1 p).crcSeen then s1 else raiseErr (pg 7 p) 0x11 (w32 p) (setCasPort p { casAt s1 p with crcSeen := true } s1)
       (sendNak p (if begun then stomp p f s2 else s2), false))
    else if flType f ≠ t then (s, false)
    else
      let s1 := linkFieldsIn p f s
      if casState s1 p = 0 then (s1, false)
      else if flSrc f = casId s1 ∧ !forwardedType t then (raiseErr (pg 7 4) 0x13 (w32 (casId s1)) s1, false)
      else (s1, true)

/-- A forwarded flit: LSEQ, the forwarding state of the link, SRC, AGE and GEN; whether it is accepted. What is not is acknowledged (R193 to R196). -/
def acceptFlit (p : Nat) (f : Flit) (s : State) : State × Bool :=
  let c := casAt s p
  if flLseq f ≠ c.rxSeq then (sendNak p s, false)
  else
    let cls := flClass f
    let s1 := rinc (R.CAS_CNT_RX p) 1 (setCasPort p { c with rxSeq := (c.rxSeq + 1) % 4096, rxAny := true } s)
    let drop := fun (s : State) => (sendAck p (some cls) s, false)
    if flSrc f = casId s1 then drop (raiseErr (pg 7 4) 0x13 (w32 (casId s1)) s1)
    else if !forwards s1 p then drop s1
    else if cls ≠ 0 ∧ 1000 ≤ arrivalAge s1 p f then drop (staleErr p (flSrc f) s1)
    else if cls ≠ 0 ∧ smGet 0 s1.cas.gens (flSrc f) ≠ flGen f + 1 then drop (rinc (R.CAS_CNT_GEN p) 1 s1)
    else (s1, true)

/-- Forward a flit; with no copy to send, its credit goes back at once. -/
def forwardFlit (p : Nat) (f : Flit) (payload : List Byte) (s : State) : State :=
  let ports := copyPorts s p f
  let i := flitItem s p f payload
  if ports.isEmpty then sendAck p (some (flClass f)) s
  else pumpAll (sendAck p none (queueItem (flClass f) ports i (takeUid s)))

/-- The flit is for this device. -/
def forHere (s : State) (f : Flit) : Bool := flBcast f || decide (flDst f = casId s)

/-! ### Pictures in (R204) -/

/-- A staging slot of a layer: the receive pool holds two per layer. -/
def slotSize (s : State) : Nat := rnat s R.CAS_RXPOOL_SIZE / 16
def slotAddr (s : State) (layer k : Nat) : Nat := rnat2 s R.CAS_RXPOOL + (2 * layer + k) * slotSize s

/-- The slot a new picture of a layer goes to: the one not used last, unless a picture in it waits for its decode. -/
def freeSlot (s : State) (layer : Nat) : Option Nat :=
  let last := nth 0 s.cas.slotSel layer
  let busy := fun k => s.cas.pictures.any fun c => decide (c.addr = slotAddr s layer k)
  if !busy (1 - last) then some (1 - last) else if !busy last then some last else none

def putOpen (o : CasOpen) (s : State) : State :=
  { s with cas := { s.cas with open_ := (s.cas.open_.filter fun x => !(x.src == o.src && x.cls == o.cls)) ++ [o] } }
def dropOpen (src cls : Nat) (s : State) : State :=
  { s with cas := { s.cas with open_ := s.cas.open_.filter fun x => !(x.src == src && x.cls == cls) } }

def picField (o : CasOpen) (k i : Nat) : Nat := leNat ((o.bytes.drop i).take k)
def picDrop (s : State) : State := rinc R.CAS_CNT_PIC_DROP 1 s

/-- An open message ends incomplete (R197). -/
def openIncomplete (o : CasOpen) (s : State) : State :=
  if o.cls = 2 then psDiscard 2 (fun k => k == 2 ^ 21 + o.src) (rinc R.CAS_CNT_MSG_DROP 1 s)
  else if o.dropped then s
  else picDrop (raiseErr (pg 7 4) 0x16 (w32 (picField o 2 0 * 65536 + o.src)) s)

/-- A picture is whole in its slot: older than the layer's newest it is dropped; else its decode is submitted to CMP. -/
def picWhole (o : CasOpen) (layer addr : Nat) (s : State) : State :=
  let sof := ofLongWords (w32 (picField o 4 6)) (w32 (picField o 4 10)) (w32 (picField o 4 14))
  let stale := match nth none s.cas.newest layer with | some t => decide (sof ≤ t) | none => false
  if stale then picDrop s
  else
    let c : CasPicture :=
      { layer := layer, addr := addr, bytes := o.got, w := picField o 2 18 + 1, h := picField o 2 20 + 1, sof := sof }
    cmpSubmit (.cascade c) false [] none
      (raiseInt (pg 7 4) 3 (rinc R.CAS_CNT_PIC_OK 1 { s with cas := { s.cas with pictures := s.cas.pictures ++ [c] } }))

/-- A picture exceeds its slot. -/
def picTooBig (o : CasOpen) (s : State) : State := picDrop (raiseErr (pg 7 4) 0x17 (w32 (picField o 2 0)) s)

/-- The first flit of a picture names its stream and takes a slot; a picture no layer waits for is discarded and counted. -/
def picOpen (o : CasOpen) (s : State) : CasOpen × State :=
  match layerOfStream s (picField o 2 0) with
  | none => ({ o with dropped := true }, picDrop s)
  | some l =>
    match freeSlot s l with
    | none => ({ o with dropped := true }, picDrop s)
    | some k =>
      if slotSize s < 46 then ({ o with dropped := true }, picTooBig o s)
      else
      ({ o with slot := some (l, slotAddr s l k) },
       memWrite false (slotAddr s l k) o.bytes { s with cas := { s.cas with slotSel := setNth s.cas.slotSel l k } })

/-- One flit's bytes of a picture join it. -/
def picBytes (o : CasOpen) (b : List Byte) (s : State) : CasOpen × State :=
  if o.dropped then (o, s)
  else
    match o.slot with
    | none => (o, s)
    | some (_, a) =>
      if slotSize s < 46 + o.got + b.length then
        ({ o with dropped := true }, picTooBig o s)
      else ({ o with got := o.got + b.length }, memWrite false (a + 46 + o.got) b s)

/-- The last flit of a picture has come. -/
def picEnd (o : CasOpen) (s : State) : State :=
  let s1 := dropOpen o.src o.cls s
  if o.dropped then s1
  else
    match o.slot with
    | none => s1
    | some (l, a) => if o.got = picField o 4 22 then picWhole o l a s1 else openIncomplete o s1

/-! ### Messages in (R205) -/

/-- A whole message goes to the receive ring; the entry before WR, WR before the vector. -/
def msgWhole (o : CasOpen) (s : State) : State :=
  let n := rfld s R.CAS_MSG_RX_COUNT 11 0
  let wr := rfld s R.CAS_MSG_RX_WR 11 0
  if n = 0 ∨ (wr + 1) % n = rfld s R.CAS_MSG_RX_RD 11 0 then
    psDiscard 2 (fun k => k == 2 ^ 21 + o.src) (rinc R.CAS_CNT_MSG_DROP 1 (raiseErr (pg 7 4) 0x18 (w32 o.src) s))
  else
    let entry := o.bytes.take 6 ++ leBytes 2 o.seq ++ leBytes 2 o.src ++ leBytes 1 o.gen ++ List.replicate 5 0#8 ++ o.bytes.drop 16
    let a := rnat2 s R.CAS_MSG_RX + 4096 * wr
    let s1 := psEnd 2 (2 ^ 21 + o.src) (fun x => { x with tag := o.seq, addr := a }) (memWrite true a (entry.take 4096) s)
    sourceVector (rfld s R.CAS_MSG_VEC 10 0)
      (raiseInt (pg 7 4) 4 (rset R.CAS_MSG_RX_WR (w32 ((wr + 1) % n)) s1))

/-- A picture or message flit joins its message: one is open per source and class, and another SEQ ends it (R197). -/
def reassemble (f : Flit) (s : State) : State :=
  let cls := flClass f
  let same := s.cas.open_.find? fun o => o.src == flSrc f && o.cls == cls
  let fresh : CasOpen := { src := flSrc f, cls := cls, seq := flSeq f, gen := flGen f, bytes := [] }
  let (o, first, s1) := match same with
    | some o => if o.seq = flSeq f ∧ o.gen = flGen f then (o, false, s) else (fresh, true, openIncomplete o s)
    | none => (fresh, true, s)
  if cls = 1 then
    (let (o1, s2) := if first then picOpen { o with bytes := padTo 46 (flBytes f) } s1 else picBytes o (flBytes f) s1
     if flLast f then picEnd o1 s2 else putOpen o1 s2)
  else
    let o1 := { o with bytes := o.bytes ++ flBytes f }
    let s2 := if first then psBegin 2 (2 ^ 21 + o.src) 6 0x07 0xFFFF 0 0 s1 else s1
    if flLast f then msgWhole o1 (dropOpen o.src cls s2) else putOpen o1 s2

end Sys2Proof.Machine
end

