-- ==== Sys2Proof/Machine/CasCmds.lean ====
section
/-! DEFINITION. The commands of the cascade (R186 to R205, R209, R210). -/

namespace Sys2Proof.Machine

/-- IDLE (R189, R192, R193): the ACK, NAK and credits of a link. -/
def execIdle (port : Fin 4) (flit : Flit) (s : State) : Host.Outcome State Fault Refusal :=
  .next (flitIn port.val 0 flit s).1

/-- DISCOVER (R198): the neighbour's ID and GEN, from payload bytes 0 to 2; the port has a partner. -/
def execDiscover (port : Fin 4) (flit : Flit) (s : State) : Host.Outcome State Fault Refusal :=
  let p := port.val
  let (s1, go) := flitIn p 2 flit s
  let b := flBytes flit
  let id := leNat (b.take 2) % 2 ^ 14
  let gen := leNat ((b.drop 2).take 1) % 16
  .next (if !go then s1
    else
      let s2 := rsetBit (R.CAS_PORT_STATE p) 31 true (rsetFld (R.CAS_PORT_STATE p) 29 16 id s1)
      elect { s2 with cas := { s2.cas with gens := smSet 0 s2.cas.gens id (gen + 1) } })

/-- DISCOVER_SEND (R198): a trained port without a partner sends DISCOVER. -/
def execDiscoverSend (port : Fin 4) (s : State) : Host.Outcome State Fault Refusal :=
  let p := port.val
  .next (if casPortRuns s p && decide (2 ≤ casState s p) && !hasPartner s p then discover p s else s)

/-- ISOLATED (R198): 100 ms without a partner on any port. With ALONE_OK the device is the Lodestar of a system of one; else it free-runs as UNSYNC. -/
def execIsolated (s : State) : Host.Outcome State Fault Refusal :=
  .next (if !casRuns s || (upto 4).any (hasPartner s) || decide (casDevState s = 1) then s
    else
      let s1 := raiseErr (pg 7 4) 0x15 0#32 s
      let old := s1.cas.lodestar
      let alone := rbit s1 R.CAS_ELECT 16
      let l := if alone then some (casId s1) else none
      let s2 := rset R.CAS_STATE (w32 ((if alone then casId s1 else 0) * 65536 + casDevState s1))
        { s1 with cas := { s1.cas with lodestar := l, rootPort := none } }
      let s3 := setDevState (if alone then 3 else 1) s2
      let s3 := if old ≠ l ∨ s1.cas.rootPort ≠ none then treeChanged old s3 else s3
      if alone then crown s3 else merUnsync (uncrown s3))

/-- ANNOUNCE (R199 to R201, R212): what a neighbour knows; a MAXT more than 1 ms ahead of the Lodestar's Meridian steps it; then the tree again. -/
def execAnnounce (port : Fin 4) (flit : Flit) (s : State) : Host.Outcome State Fault Refusal :=
  let p := port.val
  let (s1, go) := flitIn p 6 flit s
  .next (if !go || !hasPartner s1 p then s1
    else
      let h := parseAnnounce (flBytes flit ++ List.replicate 46 0#8)
      let s2 := setCasPort p { casAt s1 p with heard := some h } s1
      let s3 := if isLodestar s2 && decide (merNow s2 + 1000000 * 65536 < h.maxt) then maxtStep h.maxt s2 else s2
      elect s3)

/-- ANNOUNCE_SEND (R199): ANN_INTERVAL has passed on a port with a partner. -/
def execAnnounceSend (port : Fin 4) (s : State) : Host.Outcome State Fault Refusal :=
  let p := port.val
  .next (if casHears s p && hasPartner s p then announce p s else s)

/-- LODESTAR_DROP (R201, R211): ANN_TIMEOUT intervals without an ANNOUNCE bearing the Lodestar on the root port. What was heard of it is no longer current; Meridian is held. -/
def execLodestarDrop (s : State) : Host.Outcome State Fault Refusal :=
  .next (match s.cas.lodestar with
    | none => s
    | some l =>
      if l = casId s then s
      else
        let ports := s.cas.ports.map fun c =>
          match c.heard with
          | some h => if h.lodestar = l then { c with heard := none } else c
          | none => c
        elect (merHoldover { s with cas := { s.cas with ports := ports } }))

/-- TOPO (R191, R196, R201): learns the route and the GEN of its source; CHANGE = 1 clears the routes first. It goes on to every other forwarding port. -/
def execTopo (port : Fin 4) (flit : Flit) (change : Bool) (s : State) : Host.Outcome State Fault Refusal :=
  let p := port.val
  let (s1, go) := flitIn p 8 flit s
  .next (if !go then s1
    else
      match acceptFlit p flit s1 with
      | (s2, false) => s2
      | (s2, true) =>
        let routes := if change then [] else s2.cas.routes
        let cas := { s2.cas with
          routes := smSet 0 routes (flSrc flit) (p + 1)
          gens := smSet 0 s2.cas.gens (flSrc flit) (flGen flit + 1) }
        forwardFlit p flit [BitVec.ofNat 8 (b2n change)] { s2 with cas := cas })

/-- TOPO_SEND (R201): every 100 ms. -/
def execTopoSend (s : State) : Host.Outcome State Fault Refusal := .next (if casRuns s then sendTopo false s else s)

/-- SYNC (R210): accepted on the root port only, and only of the Lodestar in effect. It steers this device, and goes on to the child ports with CF updated. -/
def execSync (port : Fin 4) (flit : Flit) (s : State) : Host.Outcome State Fault Refusal :=
  let p := port.val
  let (s1, go) := flitIn p 7 flit s
  .next (if !go then s1
    else
      match acceptFlit p flit s1 with
      | (s2, false) => s2
      | (s2, true) =>
        if s2.cas.rootPort ≠ some p ∨ s2.cas.lodestar ≠ some (syncField flit 2 22 % 2 ^ 14) then sendAck p (some 0) s2
        else
          let origin := ofLongWords (w32 (syncField flit 4 0)) (w32 (syncField flit 4 4)) (w32 (syncField flit 4 8))
          let cf := signedOf 64 (syncField flit 8 12)
          let theta := arrivalStamp s2 p - ((origin : Int) + cf + inDelay s2 p)
          let s3 := forwardFlit p flit ((flBytes flit ++ List.replicate 46 0#8).take 46) s2
          followTheta theta (lodestarEpoch s3) s3)

/-- SYNC_SEND (R210): the Lodestar's Meridian at the egress balls goes out on every child port, inserted as the flit leaves. -/
def execSyncSend (s : State) : Host.Outcome State Fault Refusal :=
  .next (if !casRuns s || !isLodestar s then s
    else
      let kids := (forwardPorts s).filter fun q => decide (casState s q = 4)
      let s1 := { s with cas := { s.cas with syncSeq := (s.cas.syncSeq + 1) % 65536 } }
      kids.foldl (fun s q =>
        let b := List.replicate 20 0#8 ++ leBytes 2 s.cas.syncSeq ++ leBytes 2 (casId s)
        pumpPort q (queueItem 0 [q] { ownItem s 7 0 false true 0 0 b b.length with stamp := .origin } (takeUid s))) s1)

/-- PDELAY_REQ (R209): answered with its TAG and TURN. -/
def execPdelayReq (port : Fin 4) (flit : Flit) (tag : BitVec 16) (s : State) : Host.Outcome State Fault Refusal :=
  let p := port.val
  let (s1, go) := flitIn p 3 flit s
  .next (if go then draw (linkFields p 4 [tag.toNat, Config.pdelayTurn s1.drawn] s1) else s1)

/-- PDELAY_REQ_SEND (R209): every 1 ms on a port with a partner; its departure at the balls is stamped. -/
def execPdelayReqSend (port : Fin 4) (s : State) : Host.Outcome State Fault Refusal :=
  let p := port.val
  let c := casAt s p
  .next (if casHears s p && hasPartner s p then
      (let tag := (c.pdTag + 1) % 65536
       linkFields p 3 [tag] (setCasPort p { c with pdTag := tag, pdOut := some (tag, merNow s + rnat s (R.CAS_OUT_LAT p)) } s))
    else s)

/-- PDELAY_RESP (R209): the mean link delay over the last 16 exchanges of (RTT − TURN) ÷ 2. -/
def execPdelayResp (port : Fin 4) (flit : Flit) (tag : BitVec 16) (turn : BitVec 64) (s : State) : Host.Outcome State Fault Refusal :=
  let p := port.val
  let (s1, go) := flitIn p 4 flit s
  let c := casAt s1 p
  .next (match go, c.pdOut with
    | true, some (t, sent) =>
      if t ≠ tag.toNat then s1
      else
        let rtt := merNow s1 - rnat s1 (R.CAS_IN_LAT p) - sent
        let ds := ((rtt - turn.toNat) :: c.delays).take 16
        rset2 (R.CAS_LINK_DELAY p) (ds.foldl (· + ·) 0 / (2 * ds.length) % 2 ^ 48)
          (setCasPort p { c with delays := ds, pdOut := none } s1)
    | _, _ => s1)

/-- The spare wired to a cascade port that `ok` accepts. -/
def casSpare (s : State) (p : Nat) (ok : Nat → Bool) : Option Nat :=
  lowest 2 fun k => spareWired s 2 k && decide (lanePort s 2 (spareLane 2 k) = p) && ok k

/-- A cascade lane substitution begins at this end: LANEMAP with START two ALIGN counts ahead, mirroring, and the spare's test (R190). -/
def casSubstStart (p logical : Nat) (s : State) : State :=
  let c := casAt s p
  let start := (c.alignCount + 2) % 2 ^ 32
  if c.spare = none ∧ 2 ≤ casState s p then
    linkFields p 5 [1, logical, start]
      (setCasPort p { c with mirror := some logical, spare := some { logical := logical, start := start, clean := 0, periods := 0 } } s)
  else s

/-- The physical lane that carries a logical lane of a cascade port: a spare where one stands for it. -/
def carryingLane (s : State) (p logical : Nat) : Nat :=
  let i := physicalLane s 2 p logical
  match spareInUseFor s 2 i with
  | some k => spareLane 2 k
  | none => i

/-- The partner stops its mirroring from START: a substitution under way has failed; a spare in use goes back at START to the original lane,
unless that is still RETIRED here and so may not be used (R59, R190, R232). -/
def mirrorStops (p logical start : Nat) (s : State) : State :=
  let c := casAt s p
  let i := physicalLane s 2 p logical
  match casSpare s p (fun k => decide (spareStateOf s 2 k = 1)), spareInUseFor s 2 i with
  | some k, _ => spareFailed 2 k (setCasPort p { c with mirror := none, spare := none } s)
  | none, some k =>
    if rbit s (R.LAN_RETIRED 2) i then s
    else setCasPort p { c with back := some start } { s with lanRelease := (s.lanRelease.filter fun e => e != (2, k)) ++ [(2, k)] }
  | none, none => setCasPort p { c with mirror := none, spare := none } s

/-- LANEMAP (R190): the partner mirrors a logical lane onto the spare from START, or stops. This end does as the partner does, if a spare is wired and free. -/
def execLanemap (port : Fin 4) (flit : Flit) (action : Bool) (lane : Fin 4) (start : BitVec 32) (s : State) :
    Host.Outcome State Fault Refusal :=
  let p := port.val
  let (s1, go) := flitIn p 5 flit s
  let c := casAt s1 p
  .next (if !go then s1
    else if action then
      (match casSpare s1 p (fun k => decide (spareStateOf s1 2 k = 0)), c.spare with
       | some k, none =>
         setSpareOf 2 k 1 (carryingLane s1 p lane.val)
           (setCasPort p { c with mirror := some lane.val, spare := some { logical := lane.val, start := start.toNat, clean := 0, periods := 0 } } s1)
       | _, _ => s1)
    else mirrorStops p lane.val start.toNat s1)

/-- The spare's test at an ALIGN flit (R59, R190): after 2 clean ALIGN periods the receiver switches at the next one; 8 periods without them end it with LANEMAP ACTION = 0. -/
def spareAlign (p count : Nat) (clean : Bool) (s : State) : State :=
  let c := casAt s p
  match c.spare with
  | none => s
  | some t =>
    if (count + 2 ^ 32 - t.start) % 2 ^ 32 ≥ 2 ^ 31 then s
    else
      match casSpare s p (fun k => decide (spareStateOf s 2 k = 1)) with
      | none => setCasPort p { c with spare := none } s
      | some k =>
        if 2 ≤ t.clean then lanSpareResult 2 k true (setCasPort p { c with spare := none } s)
        else
          let n := t.periods + 1
          let cl := if clean then t.clean + 1 else 0
          if 8 ≤ n ∧ cl < 2 then
            lanSpareResult 2 k false (linkFields p 5 [0, t.logical, (count + 2) % 2 ^ 32] (setCasPort p { c with spare := none, mirror := none } s))
          else setCasPort p { c with spare := some { t with clean := cl, periods := n } } s

/-- The switch back to the original lane at START, after RELEASE (R190, R232). -/
def casBack (p count : Nat) (s : State) : State :=
  match (casAt s p).back with
  | some start =>
    if 2 ^ 31 ≤ (count + 2 ^ 32 - start) % 2 ^ 32 then s
    else spareReturned 2 p (setCasPort p { casAt s p with back := none, mirror := none } s)
  | none => s

/-- Markers and count of an ALIGN flit (R187). -/
def alignBytes (count : Nat) : List Byte := [0xC5#8, 0x3A#8, 0x5C#8, 0xA3#8] ++ leBytes 4 count

/-- A port's ALIGN flit, in every 4,096th slot; its count then goes on (R187). -/
def alignSend (p : Nat) (s : State) : State :=
  let c := casAt s p
  linkFlit p 1 0 false (alignBytes c.txAlign) (setCasPort p { c with txAlign := (c.txAlign + 1) % 2 ^ 32 } s)

/-- The bytes of a received ALIGN flit are an ALIGN flit's: type, markers and CRC. -/
def alignHolds (f : Flit) : Bool :=
  decide (flType f = 1) && decide (f.payload.take 4 = (alignBytes 0).take 4) &&
    decide (f.crc.toNat = flitCrc (flitBody f.h0 f.h1 f.h2 f.h3 f.payload))

/-- ALIGN (R187, R190): its markers deskew the port's lanes, up to a skew of 4.0 ns; `skew` is in ps. A port that hears flits takes it as one (R193). -/
def execAlign (port : Fin 4) (flit : Flit) (skew : Nat) (spareClean : Bool) (s : State) : Host.Outcome State Fault Refusal :=
  let p := port.val
  let s1 := (flitIn p 1 flit s).1
  let count := leNat ((flit.payload.drop 4).take 4)
  .next (if !casPortRuns s1 p || decide (casState s1 p < 2) || !alignHolds flit then s1
    else casBack p count <| spareAlign p count spareClean
      (setCasPort p { casAt s1 p with alignCount := count, deskewed := decide (skew ≤ 4000) } s1))

/-- PIC (R191, R193 to R197, R204). -/
def execPic (port : Fin 4) (flit : Flit) (s : State) : Host.Outcome State Fault Refusal :=
  let p := port.val
  let (s1, go) := flitIn p 9 flit s
  .next (if !go then s1
    else
      match acceptFlit p flit s1 with
      | (s2, false) => s2
      | (s2, true) =>
        let s3 := forwardFlit p flit flit.payload s2
        if forHere s3 flit then reassemble flit s3 else s3)

/-- MSG (R191, R193 to R197, R205). -/
def execMsg (port : Fin 4) (flit : Flit) (s : State) : Host.Outcome State Fault Refusal :=
  let p := port.val
  let (s1, go) := flitIn p 10 flit s
  .next (if !go then s1
    else
      match acceptFlit p flit s1 with
      | (s2, false) => s2
      | (s2, true) =>
        let s3 := forwardFlit p flit flit.payload s2
        if forHere s3 flit then reassemble flit s3 else s3)

/-- A record or entry of this source is on its way. -/
def onItsWay (s : State) (d : CasDone) : Bool :=
  (s.cas.waiting.any fun m => m.done == d) || (s.cas.leaving.any fun e => e.2.2 == d)

/-- A record at an offset of a send stream's ring reads as poisoned. -/
def recordPoisoned (s : State) (base size len off : Nat) : Bool :=
  memPoisoned s false (min len (size - off % size)) (base + off % size) || memPoisoned s false (len - (size - off % size)) base

/-- PIC_SEND (R203): the record at RD of a send stream's ring goes out as one class 1 message: its picture header, then its bitstream.
DESIGN CHOICE (log 138): a record that reads as poisoned is abandoned, and where its header does, all that the ring holds (R240). -/
def execPicSend (stream : Fin 8) (s : State) : Host.Outcome State Fault Refusal :=
  let k := stream.val
  let base := rnat2 s (R.CMP_SEND_BASE k)
  let size := rnat s (R.CMP_SEND_SIZE k)
  let rd := rnat s (sendRd k)
  .next (if !casRuns s || !rbit s (R.CAS_TXS_CTRL k) 0 || decide (size = 0 ∨ rd = rnat s (sendWr k)) || onItsWay s (.stream k) then s
    else
      let head := ringRead s false base size 46 (rd + 4)
      let len := leNat ((head.drop 22).take 4)
      let body := ringRead s false base size len (rd + 64)
      let bad := fun n => recordPoisoned s base size n rd
      let s := memSee false (len + 64 - (size - rd % size)) base (memSee false (min (len + 64) (size - rd % size)) (base + rd % size) s)
      if bad 64 then rset (sendRd k) (rget s (sendWr k)) s
      else if bad (len + 64) then rset (sendRd k) (w32 ((rd + memNat s false 4 (base + rd)) % size)) s
      else sendMessage 1 (rfld s (R.CAS_TXS_CTRL k) 29 16) (rbit s (R.CAS_TXS_CTRL k) 1) (head :: chunks46 (len / 46 + 1) body) (.stream k) s)

/-- Take up the entries of the send ring from `taken` to WR (R205). -/
def takeEntries : Nat → State → State
  | 0, s => s
  | fuel + 1, s =>
    let n := rfld s R.CAS_MSG_TX_COUNT 11 0
    let i := s.cas.taken
    if n = 0 ∨ i = rfld s R.CAS_MSG_TX_WR 11 0 ∨ n ≤ i then s
    else
      let a := rnat2 s R.CAS_MSG_TX + 4096 * i
      let dst := memNat s true 4 a
      let len := satTo 4080 (memNat s true 2 (a + 4))
      let bytes := memRead s true (16 + len) a
      takeEntries fuel
        (sendMessage 2 (dst / 2 ^ 17 % 2 ^ 14) (decide (dst / 2 ^ 31 = 1)) (chunks46 ((16 + len) / 46 + 1) bytes) .entry
          (psBegin 2 (2 ^ 20 + i) 2 0x07 0xFFFF 0 a { s with cas := { s.cas with taken := (i + 1) % n } }))

/-- MSG_SEND (R205): a write of CAS_MSG_TX WR; CAS sends the entries it passes as class 2 messages. -/
def execMsgSend (who : Requester) (value : Word) (s : State) : Host.Outcome State Fault Refusal :=
  let s1 := writeReg who R.CAS_MSG_TX_WR value 0#32 s
  .next (if pageTakes R.CAS_MSG_TX_WR s && casRuns s1 then takeEntries 4096 s1 else s1)

/-- RETRY_TIMEOUT (R193): no ACK progress for the timeout. -/
def execRetryTimeout (port : Fin 4) (s : State) : Host.Outcome State Fault Refusal :=
  .next (if casPortRuns s port.val && decide (2 ≤ casState s port.val) then resend port.val s else s)

/-- QUARANTINE_EXPIRY (R197): a waiting message's pair is 16 µs old, and it goes. -/
def execQuarantineExpiry (s : State) : Host.Outcome State Fault Refusal :=
  .next (if casRuns s then sendWaiting s.cas.waiting s else s)

/-! ### The TAI reference and the Chart's candidacy, as ANNOUNCE carries them (R199, R212) -/

/-- TAI_SET (R212): the write of MER_TAI_SET_HI on the Lodestar is the reference, or waits for the next PPS_IN edge. -/
def execTaiSet (who : Requester) (value : Word) (s : State) : Host.Outcome State Fault Refusal :=
  let addr := R.MER_TAI_SET + 8
  let taken := pageTakes addr s
  let s1 := writeReg who addr value 0#32 s
  .next (if !taken || !isLodestar s1 then s1
    else if rbit s1 R.MER_PPS_CTRL 0 then { s1 with taiPending := true }
    else announceChanges (applyReference (rlong s1 R.MER_TAI_SET) (merNow s1) s1))

/-- PPS_IN (R212, R213): the edge is stamped, and marks the TAI second written before it. -/
def execPpsIn (s : State) : Host.Outcome State Fault Refusal :=
  .next (if !rbit s R.MER_PPS_CTRL 0 then s
    else
      let s1 := raiseInt (pg 8 1) 1 (rinc R.MER_CNT_PPS 1 (rsetBit R.MER_REF_STATE 1 true (rsetLong R.MER_PPS_STAMP (merNow s) s)))
      if s1.taiPending && isLodestar s1 then
        announceChanges (applyReference (rlong s1 R.MER_TAI_SET) (merNow s1) { s1 with taiPending := false })
      else s1)

/-- A register of the election is written: DEV_ID, candidacy, or FORCE_BLOCK of a port. The tree is formed again at once (R199, R200, R215). -/
def electWritten (oldId : Nat) (s : State) : State :=
  let s1 := if s.cas.lodestar = some oldId ∧ isLodestar s then { s with cas := { s.cas with lodestar := some (casId s) } } else s
  if casRuns s1 then elect s1 else s1

end Sys2Proof.Machine
end

