-- ==== Sys2Proof/Machine/Flash.lean ====
section
/-! DEFINITION. The firmware flash: its contents, the window of PLT page 1, boot records and their writing (R357, R358, R364, R367). -/

namespace Sys2Proof.Machine

def setPlt (v : PltState) (s : State) : State := { s with plt := v }

/-! ### Contents: an unlisted byte is erased -/

def flashByte (s : State) (a : Nat) : Byte := smGet 0xFF#8 s.plt.flash a

def flashRead (s : State) : Nat → Nat → List Byte
  | 0, _ => []
  | k + 1, a => flashByte s a :: flashRead s k (a + 1)

def flashPut (a : Nat) (b : Byte) (s : State) : State := setPlt { s.plt with flash := smSet 0xFF#8 s.plt.flash a b } s

/-- Programming clears bits: a byte becomes its old value AND the new one. -/
def flashProgram (a : Nat) : List Byte → State → State
  | [], s => s
  | b :: bs, s => flashProgram (a + 1) bs (flashPut a (flashByte s a &&& b) s)

/-- Bytes `a … a + n - 1` are erased. -/
def flashErase (a n : Nat) (s : State) : State :=
  setPlt { s.plt with flash := s.plt.flash.filter fun c => !decide (a ≤ c.1 ∧ c.1 < a + n) } s

/-- What a program or erase that failed leaves: no value is known (R367). -/
def flashSpoil (a n : Nat) (s : State) : State :=
  draw ((upto n).foldl (fun t i => flashPut (a + i) (Config.flashJunk s.drawn i) t) s)

/-! ### Areas (R357, R364) -/

def slotBase (slot : Nat) : Nat := 0x100000 + 0x400000 * slot
def settingsBase (slot : Nat) : Nat := 0x900000 + 0x100000 * slot
def logBase : Nat := 0xB00000
def integratorBase : Nat := 0x1B00000

def runningSlot (s : State) : Nat := rfld s R.PLT_FW_SLOT 0 0
def activeSettings (s : State) : Nat := rfld s R.PLT_SETTINGS_SLOT 0 0

/-- `n` bytes from `a` lie within an area. -/
def inArea (a n base size : Nat) : Bool := decide (base ≤ a ∧ a + n ≤ base + size)

/-- Host software may program or erase there (R364). -/
def flashAllowed (s : State) (a n : Nat) : Bool :=
  if deadReckoning s then
    decide (0x20000 ≤ a) && (decide (a + n ≤ logBase) || decide (integratorBase ≤ a))
  else
    inArea a n (slotBase (1 - runningSlot s)) 0x400000 || inArea a n (settingsBase (1 - activeSettings s)) 0x100000 ||
      decide (integratorBase ≤ a)

/-! ### The window -/

/-- The 256-byte buffer. -/
def flashBuffer (s : State) : List Byte := (upto 64).flatMap fun i => leBytes 4 (rnat s (R.PLT_FLASH_DATA i))

def loadBuffer (bs : List Byte) (s : State) : State :=
  (upto 64).foldl (fun s i => rset (R.PLT_FLASH_DATA i) (w32 (leNat ((bs.drop (4 * i)).take 4))) s) s

def flashSpan (op : Nat) : Nat := if op = 2 then 65536 else 256

/-- GO: the operation of OP begins, one at a time; where the requester may not program or erase it is refused. -/
def flashGo (who : Requester) (s : State) : State :=
  let op := rfld s R.PLT_FLASH_CMD 1 0
  let a := rnat s R.PLT_FLASH_ADDR
  if s.plt.flashOp.isSome ∨ op = 3 then s
  else if op ≠ 0 ∧ who ≠ .binnacle ∧ !flashAllowed s a (flashSpan op) then raiseErr (pg 1 1) 0x17 (w32 a) s
  else
    rsetFld R.PLT_FLASH_CMD 10 8 1
      (setPlt { s.plt with flashOp := some { op := op, addr := a, data := if op = 1 then flashBuffer s else [] } } s)

/-- A write of PLT_FLASH_CMD. -/
def flashCommand (who : Requester) (value : Word) (s : State) : State :=
  let s1 := writeReg who R.PLT_FLASH_CMD value 0#32 s
  if pageTakes R.PLT_FLASH_CMD s && bitAt value 8 then flashGo who s1 else s1

/-- FLASH_READ (R364). -/
def execFlashRead (who : Requester) (value : Word) (s : State) : Host.Outcome State Fault Refusal := .next (flashCommand who value s)

/-- FLASH_PROGRAM (R364). -/
def execFlashProgram (who : Requester) (value : Word) (s : State) : Host.Outcome State Fault Refusal := .next (flashCommand who value s)

/-- FLASH_ERASE (R364). -/
def execFlashErase (who : Requester) (value : Word) (s : State) : Host.Outcome State Fault Refusal := .next (flashCommand who value s)

/-- What an operation leaves in the flash or the buffer. -/
def flashEffect (o : FlashOp) (ok : Bool) (s : State) : State :=
  if o.op = 0 then
    (if ok then loadBuffer (flashRead s 256 o.addr) s
     else draw (loadBuffer ((upto 256).map (Config.flashJunk s.drawn)) s))
  else if !ok then flashSpoil o.addr (flashSpan o.op) s
  else if o.op = 1 then flashProgram o.addr o.data s
  else flashErase o.addr 65536 s

/-- FLASH_DONE (R364): the operation ends; one that fails sets ERR and raises E_FLASH_FAIL. -/
def execFlashDone (ok : Bool) (s : State) : Host.Outcome State Fault Refusal :=
  .next (match s.plt.flashOp with
    | none => s
    | some o =>
      let s1 := flashEffect o ok (setPlt { s.plt with flashOp := none } s)
      let s2 := rsetFld R.PLT_FLASH_CMD 10 8 (2 + 4 * b2n (!ok)) s1
      raiseInt (pg 1 1) 1 (if ok then s2 else raiseErr (pg 1 1) 0x18 (w32 o.addr) s2))

/-! ### Boot records (R358) -/

def bootMagic : Nat := 0x4B424F54

/-- The 20 bytes of a record. -/
def bootBytes (r : BootRec) : List Byte :=
  let b := leBytes 4 bootMagic ++ leBytes 4 r.seq ++ leBytes 1 r.next ++ leBytes 1 r.prev ++
    leBytes 1 (b2n r.trial + 2 * b2n r.incompA + 4 * b2n r.incompB) ++ leBytes 1 r.settings ++ leBytes 4 r.fallback
  b ++ leBytes 4 (crc32 b)

/-- The record in 20 bytes, where its MAGIC and CRC hold. -/
def bootParse (b : List Byte) : Option BootRec :=
  let f := fun k n => leNat ((b.drop k).take n)
  if f 0 4 = bootMagic ∧ f 16 4 = crc32 (b.take 16) then
    some { seq := f 4 4, next := f 8 1 % 2, prev := f 9 1 % 2, trial := decide (f 10 1 % 2 = 1), incompA := decide (f 10 1 / 2 % 2 = 1),
           incompB := decide (f 10 1 / 4 % 2 = 1), settings := f 11 1 % 4, fallback := f 12 4 }
  else none

def bootCopy (s : State) (k : Nat) : Option BootRec := bootParse (flashRead s 20 (0x10000 * k))

/-- The copy in force, and its record: the one whose CRC holds; of two the newer by signed 32-bit difference. -/
def bootCurrent (s : State) : Option (Nat × BootRec) :=
  match bootCopy s 0, bootCopy s 1 with
  | some a, some b => if 0 < signedOf 32 (b.seq + 2 ^ 32 - a.seq) then some (1, b) else some (0, a)
  | some a, none => some (0, a)
  | none, some b => some (1, b)
  | none, none => none

/-- The record the next one builds on: the last one on its way, else the one in force. -/
def bootLatest (s : State) : BootRec :=
  match s.plt.bootQueue.getLast? with
  | some r => r
  | none => match bootCurrent s with | some (_, r) => r | none => { seq := 0, next := 0, prev := 0 }

/-- BUSY of both slot registers. -/
def bootBusy (b : Bool) (s : State) : State := rsetBit R.PLT_SETTINGS_SLOT 8 b (rsetBit R.PLT_FW_SLOT 8 b s)

/-- A new record is to be written. -/
def bootChange (f : BootRec → BootRec) (s : State) : State :=
  let r := f (bootLatest s)
  bootBusy true (setPlt { s.plt with bootQueue := s.plt.bootQueue ++ [{ r with seq := (r.seq + 1) % 2 ^ 32 }] } s)

/-- Write a record to the copy that does not hold the one in force. -/
def bootWrite (r : BootRec) (s : State) : State :=
  let a := match bootCurrent s with | some (0, _) => 0x10000 | _ => 0
  flashProgram a (bootBytes r) (flashErase a 0x10000 s)

/-- The settings slot a record assigns to a firmware slot. -/
def settingsOf (r : BootRec) (slot : Nat) : Nat := r.settings / 2 ^ slot % 2

/-- FW_SLOT_WRITE (R364): NEXT and TRIAL as written go into a new boot record. -/
def execFwSlotWrite (who : Requester) (value : Word) (s : State) : Host.Outcome State Fault Refusal :=
  let s1 := writeReg who R.PLT_FW_SLOT value 0#32 s
  .next (if pageTakes R.PLT_FW_SLOT s then bootChange (fun r => { r with next := getBits value 4 4, trial := bitAt value 5 }) s1 else s1)

/-- SETTINGS_SLOT_WRITE (R364): NEXT becomes the settings slot of RUNNING in a new boot record. -/
def execSettingsSlotWrite (who : Requester) (value : Word) (s : State) : Host.Outcome State Fault Refusal :=
  let s1 := writeReg who R.PLT_SETTINGS_SLOT value 0#32 s
  .next (if pageTakes R.PLT_SETTINGS_SLOT s then
      bootChange (fun r => { r with settings := withBits r.settings (runningSlot s1) (runningSlot s1) (getBits value 4 4) }) s1
    else s1)

/-- BOOT_RECORD_WRITTEN (R358): the oldest record on its way is in flash. -/
def execBootRecordWritten (s : State) : Host.Outcome State Fault Refusal :=
  .next (match s.plt.bootQueue with
    | [] => s
    | r :: rs =>
      let s1 := bootWrite r (setPlt { s.plt with bootQueue := rs } s)
      let s2 := rsetFld R.PLT_FW_SLOT 17 16 (b2n r.incompA + 2 * b2n r.incompB) s1
      raiseInt (pg 1 1) 2 (if rs.isEmpty then bootBusy false s2 else s2))

end Sys2Proof.Machine
end

