-- ==== Sys2Proof/Machine/LogBook.lean ====
section
/-! DEFINITION. The Log book in flash, spare marks, and SRAM repair in service (R388 to R392, R397). -/

namespace Sys2Proof.Machine

def sectorAddr (k : Nat) : Nat := logBase + 65536 * k
def slotAddrOf (sector slot : Nat) : Nat := sectorAddr sector + 64 + 64 * slot

def headSector (s : State) : Nat := rfld s R.PLT_LOGBOOK_HEAD 7 0
def headSlot (s : State) : Nat := rfld s R.PLT_LOGBOOK_HEAD 17 8
def setHead (sector slot : Nat) (s : State) : State := rset R.PLT_LOGBOOK_HEAD (w32 (sector % 256 + slot % 1024 * 256)) s

/-- SECTOR_SEQ of a sector whose header holds. -/
def sectorSeq (s : State) (k : Nat) : Option Nat :=
  let h := flashRead s 64 (sectorAddr k)
  if leNat (h.take 4) = 0x4C47424B ∧ leNat (h.drop 60) = crc32 (h.take 60) then some (leNat ((h.drop 4).take 4)) else none

/-- The 64 bytes of a record (R390). -/
def recordOf (seq srcSeq : Nat) (e : LogEvent) : List Byte :=
  let b := leBytes 4 seq ++ leBytes 1 e.source ++ leBytes 1 e.inst ++ leBytes 2 e.kind ++ longBytes e.at16 ++
    leBytes 1 (b2n e.epochValid) ++ [0#8] ++ leBytes 2 e.breaks ++ leBytes 4 srcSeq ++
    (e.detail ++ List.replicate 24 0#8).take 24 ++ leBytes 4 0
  leBytes 4 0x4C424F4B ++ b ++ leBytes 4 (crc32 b)

/-- Record slot `slot` holds nothing but 0xFF. -/
def slotErased (s : State) (sector slot : Nat) : Bool := (flashRead s 64 (slotAddrOf sector slot)).all fun b => b == 0xFF#8

/-- The sector to erase next: one without a header, else the one with the lowest SECTOR_SEQ (R391). -/
def oldestSector (s : State) : Nat :=
  match lowest 256 fun k => (sectorSeq s k).isNone with
  | some k => k
  | none =>
    ((upto 256).foldl (fun (b : Nat × Nat) k =>
      match sectorSeq s k with
      | some q => if q < b.2 then (k, q) else b
      | none => b) (0, 2 ^ 32)).1

def newestSectorSeq (s : State) : Nat := (upto 256).foldl (fun a k => match sectorSeq s k with | some q => max a q | none => a) 0

/-- Marks of the spare state (R388): a newer one for the same unit stands. -/
def markPut (m : SpareMark) (ms : List SpareMark) : List SpareMark :=
  ms.filter (fun x => !(x.kind == m.kind && x.page == m.page && x.unit == m.unit)) ++ [m]

/-- What a record says of the spare state. A change of the array's state that names no spare replaces nothing. -/
def markOf (e : LogEvent) : Option SpareMark :=
  let f := fun k => leNat ((e.detail.drop (4 * k)).take 4)
  if e.kind = 0x0030 ∧ f 0 = 6 ∧ f 3 = 7 then none
  else if e.kind = 0x0030 then some { kind := f 0, page := f 1, unit := f 2, spare := f 3 }
  else if e.kind = 0x0031 then some { kind := 5, page := f 0, unit := f 1, spare := f 2 }
  else none

/-- Program a record into the slot at the head, and move the head on. -/
def recordPut (e : LogEvent) (s : State) : State :=
  let seq := (rnat s R.PLT_LOGBOOK_SEQ + 1) % 2 ^ 32
  let key := e.source * 256 + e.inst
  let n := smGet 0 s.plt.srcSeq key + 1
  let k := headSector s
  let i := headSlot s
  let s1 := rset R.PLT_LOGBOOK_SEQ (w32 seq) (setHead k (i + 1) (flashProgram (slotAddrOf k i) (recordOf seq n e) s))
  setPlt { s1.plt with srcSeq := smSet 0 s1.plt.srcSeq key n } s1

/-- Snapshot records: how many follow, then up to three marks of 6 bytes each. -/
def snapshotDetails : Nat → List SpareMark → List (List Byte)
  | 0, _ => []
  | fuel + 1, ms =>
    let here := ms.take 3
    (leBytes 1 fuel ++ leBytes 1 here.length ++
      here.flatMap fun m => leBytes 1 m.kind ++ leBytes 2 m.page ++ leBytes 2 m.unit ++ leBytes 1 m.spare) ::
      snapshotDetails fuel (ms.drop 3)

def eventNow (s : State) (source kind : Nat) (detail : List Byte) : LogEvent :=
  { source := source, inst := 0, kind := kind, at16 := merNow s, epochValid := rbit s R.MER_STATE 8,
    breaks := rfld s R.MER_EPOCH_BREAKS 15 0, detail := detail }

/-- Open the next sector: erase it, write its header, then SNAPSHOT records before any other (R391). -/
def openSector (s : State) : State :=
  let k := oldestSector s
  let h := leBytes 4 0x4C47424B ++ leBytes 4 (newestSectorSeq s + 1) ++ List.replicate 52 0#8
  let s1 := setHead k 0 (flashProgram (sectorAddr k) (h ++ leBytes 4 (crc32 h)) (flashErase (sectorAddr k) 65536 s))
  (snapshotDetails (s.plt.marks.length / 3 + 1) s.plt.marks).foldl (fun s d => recordPut (eventNow s 1 0x00FE d) s) s1

/-- The head stands where a record can be written: a sector with its header and a free slot. A slot that is used is passed over. -/
def headReady : Nat → State → State
  | 0, s => s
  | fuel + 1, s =>
    if headSlot s ≥ 1023 ∨ (sectorSeq s (headSector s)).isNone then openSector s
    else if slotErased s (headSector s) (headSlot s) then s
    else headReady fuel (setHead (headSector s) (headSlot s + 1) s)

/-- DEPTH follows the queue. -/
def showLogQueue (s : State) : State := rsetFld R.PLT_LOGBOOK_QUEUE 8 0 s.logQueue.length s

/-- Once an entry is free, a LOST record takes the place of the events lost (R391). -/
def lostJoins (s : State) : State :=
  if s.logLost = 0 ∨ 256 ≤ s.logQueue.length then s
  else
    let low := fun t => (longWords t).1.toNat
    let e := eventNow s 1 0x00FF (leBytes 4 s.logLost ++ leBytes 4 (low s.logLostFirst) ++ leBytes 4 (low s.logLostLast))
    raiseErr (pg 1 4) 0x1F (w32 s.logLost) { s with logQueue := s.logQueue ++ [e], logLost := 0, logLostFirst := 0, logLostLast := 0 }

/-- The oldest event becomes a record. -/
def logCommit (s : State) : State :=
  match s.logQueue with
  | [] => s
  | e :: es =>
    let s1 := recordPut e (headReady 1024 s)
    let s2 := match markOf e with
      | some m => setPlt { s1.plt with marks := markPut m s1.plt.marks } s1
      | none => s1
    raiseInt (pg 1 4) 1 (showLogQueue (lostJoins { s2 with logQueue := es, tLast := e.at16 }))

/-- LOG_RECORD_WRITE (R391): where the flash fails, firmware moves to the next sector, and the event waits. -/
def execLogRecordWrite (ok : Bool) (s : State) : Host.Outcome State Fault Refusal :=
  .next (if s.logQueue.isEmpty then s
    else if ok then logCommit s
    else
      let s1 := headReady 1024 s
      let k := headSector s1
      raiseErr (pg 1 4) 0x20 (w32 k) (setHead k 1023 (flashSpoil (slotAddrOf k (headSlot s1)) 64 s1)))

/-- A mark that software has cleared no longer stands (R232, R303). -/
def markDrop (kind unit : Nat) (s : State) : State :=
  setPlt { s.plt with marks := s.plt.marks.filter fun m => !(m.kind == kind && m.unit == unit) } s

/-! ### SRAM repair in service (R389) -/

/-- Spare rows of a macro in use. -/
def sramRowsUsed (s : State) (m : Nat) : Nat := smGet 0 s.plt.rowsUsed m

/-- A macro with no free spare raises E_SRAM_NO_SPARE once. -/
def sramNoSpare (m : Nat) (s : State) : State :=
  if s.plt.noSpare.contains m then s
  else raiseErr (pg 1 4) 0x21 (w32 m) (setPlt { s.plt with noSpare := setInsert s.plt.noSpare m } s)

/-- A row takes a spare row of its macro: a soft repair, recorded in the Log book. -/
def sramRepair (m row : Nat) (s : State) : State :=
  if 2 ≤ sramRowsUsed s m then sramNoSpare m s
  else
    logEvent 1 0 0x0031 (leBytes 4 m ++ leBytes 4 row ++ leBytes 4 1)
      (setPlt { s.plt with rowsUsed := smSet 0 s.plt.rowsUsed m (sramRowsUsed s m + 1) } s)

/-- SRAM_CORRECTED_ERROR (R389): the third in one row within 1 s repairs the row. -/
def execSramCorrectedError (sram row : Nat) (s : State) : Host.Outcome State Fault Refusal :=
  let times := match s.plt.rows.find? fun r => r.macro_ == sram && r.row == row with
    | some r => r.times.filter fun t => decide (s.now ≤ t + 1000000000)
    | none => []
  let others := s.plt.rows.filter fun r => !(r.macro_ == sram && r.row == row)
  let now := times ++ [s.now]
  .next (if 3 ≤ now.length then sramRepair sram row (setPlt { s.plt with rows := others } s)
    else setPlt { s.plt with rows := others ++ [{ macro_ := sram, row := row, times := now }] } s)

end Sys2Proof.Machine
end

