-- ==== Sys2Proof/Machine/CnvMap.lean ====
section
/-! DEFINITION. The tile map and its checks, views, and the launch schedule (R131 to R140). -/

namespace Sys2Proof.Machine

/-! ### Entries (R131, R132) -/

/-- A tile-map entry: its index and its four words. -/
structure MapEntry where
  idx : Nat
  w0 : Nat
  w1 : Nat
  w2 : Nat
  w3 : Nat
  deriving DecidableEq, Repr

/-- Base and count of a map bank, under a reading of the registers. -/
def mapBase (u : Nat → Word) (bank : Nat) : Nat := useU64 u (if bank = 0 then R.CNV_MAP_BASE0 else R.CNV_MAP_BASE1)
def mapCount (u : Nat → Word) (bank : Nat) : Nat := getBits (u (if bank = 0 then R.CNV_MAP_COUNT0 else R.CNV_MAP_COUNT1)) 17 0

/-- Entry `i` of the map at `base`. -/
def mapEntry (s : State) (base i : Nat) : MapEntry :=
  let a := base + 16 * i
  { idx := i, w0 := memNat s false 4 a, w1 := memNat s false 4 (a + 4), w2 := memNat s false 4 (a + 8), w3 := memNat s false 4 (a + 12) }

def meValid (e : MapEntry) : Bool := decide (bitsOf e.w0 31 31 = 1)
def meMirror (e : MapEntry) : Bool := decide (bitsOf e.w0 29 29 = 1)
def meRot (e : MapEntry) : Nat := bitsOf e.w0 28 27
def meY0 (e : MapEntry) : Nat := bitsOf e.w0 26 14
def meX0 (e : MapEntry) : Nat := bitsOf e.w0 13 0
def mePort (e : MapEntry) : Nat := bitsOf e.w1 21 18
def meH (e : MapEntry) : Nat := bitsOf e.w1 17 9 + 1
def meW (e : MapEntry) : Nat := bitsOf e.w1 8 0 + 1
def meCal (e : MapEntry) : Nat := bitsOf e.w2 29 13
def meChain (e : MapEntry) : Nat := bitsOf e.w2 12 0

/-- A tile's (port, chain position) as one number. -/
def meKey (e : MapEntry) : Nat := mePort e * 8192 + meChain e

/-- Footprint width and height (R132). -/
def meFW (e : MapEntry) : Nat := if meRot e = 1 ∨ meRot e = 3 then meH e else meW e
def meFH (e : MapEntry) : Nat := if meRot e = 1 ∨ meRot e = 3 then meW e else meH e

/-- The entries of a bank, in map order. -/
def mapEntries (s : State) (u : Nat → Word) (bank : Nat) : List MapEntry :=
  (upto (mapCount u bank)).map (mapEntry s (mapBase u bank))

/-- The valid entries of a bank. -/
def validEntries (s : State) (u : Nat → Word) (bank : Nat) : List MapEntry := (mapEntries s u bank).filter meValid

/-- Offset of tile pixel (i, j) in the footprint (R132). -/
def meOffset (e : MapEntry) (i j : Nat) : Nat × Nat :=
  let w := meW e
  let h := meH e
  let m := if meMirror e then w - 1 - i else i
  if meRot e = 0 then (m, j) else if meRot e = 1 then (h - 1 - j, m)
  else if meRot e = 2 then (w - 1 - m, h - 1 - j) else (j, w - 1 - m)

def viewCount (u : Nat → Word) : Nat := getBits (u R.CNV_VIEWS) 2 0 + 1
def viewX (u : Nat → Word) (v : Nat) : Nat := getBits (u (R.CNV_VIEW_XY v)) 13 0
def viewY (u : Nat → Word) (v : Nat) : Nat := getBits (u (R.CNV_VIEW_XY v)) 28 16
def slotOfs (u : Nat → Word) (v : Nat) : Nat := (u (R.CNV_SLOT_OFS v)).toNat
def slotLen (u : Nat → Word) (v : Nat) : Nat := (u (R.CNV_SLOT_LEN v)).toNat

/-- READY_ROW of an entry (R132). -/
def readyRow (u : Nat → Word) (e : MapEntry) : Nat :=
  (upto (viewCount u)).foldl (fun a v => max a (meY0 e + viewY u v + meFH e - 1)) 0

/-- LAST_ROW of a bank (R139). -/
def lastRow (u : Nat → Word) (es : List MapEntry) : Nat := es.foldl (fun a e => max a (readyRow u e)) 0

def canvasW (u : Nat → Word) : Nat := getBits (u R.CNV_CANVAS_WH) 13 0 + 1
def canvasH (u : Nat → Word) : Nat := getBits (u R.CNV_CANVAS_WH) 28 16 + 1
def canvasBase (u : Nat → Word) (b : Nat) : Nat := if b = 0 then useU64 u R.CNV_CANVAS_BASE0 else useU64 u R.CNV_CANVAS_BASE1
def canvasStride (u : Nat → Word) : Nat := (u R.CNV_CANVAS_STRIDE).toNat

/-- Address of a canvas pixel (R124). -/
def canvasAddr (u : Nat → Word) (b x y : Nat) : Nat := canvasBase u b + y * canvasStride u + 6 * x

def schedLock (u : Nat → Word) : Bool := bitAt (u R.CNV_SCHED) 2
def schedPace (u : Nat → Word) : Nat := getBits (u R.CNV_SCHED) 1 0

/-- WF_PERIOD, in 2^-16 ns. -/
def wfPeriod (u : Nat → Word) : Nat := (u R.CNV_WF_PERIOD).toNat + getBits (u (R.CNV_WF_PERIOD + 4)) 15 0 * 2 ^ 32

/-! ### Validation (R133, R134) -/

/-- The port count of R4. -/
def portCount (s : State) : Nat := unitsOf s (pg 6 0)

/-- Why an entry fails check 1 on its own fields: a size out of range or a reserved bit set. -/
def meFieldsOk (e : MapEntry) : Bool :=
  decide (8 ≤ meW e ∧ meW e % 4 = 0 ∧ 8 ≤ meH e ∧ meH e % 4 = 0 ∧ bitsOf e.w0 30 30 = 0 ∧ bitsOf e.w1 31 22 = 0 ∧
    bitsOf e.w2 31 30 = 0 ∧ e.w3 = 0)

/-- What a validation ends with: the entry, the check, the cause and INFO of a failure. -/
structure MapFail where
  idx : Nat
  check : Nat
  cause : Nat
  info : Nat
  deriving DecidableEq, Repr

def mapFail (idx check cause info : Nat) : Option MapFail := some { idx := idx, check := check, cause := cause, info := info }

/-- Checks 1 to 5, entry by entry. `seen` holds the (port, chain) pairs so far, `prev` the last READY_ROW. -/
def checkEntries (s : State) (u : Nat → Word) (bank : Nat) : List MapEntry → List Nat → Nat → Option MapFail
  | [], _, _ => none
  | e :: es, seen, prev =>
    let bad := memPoisoned s false 16 (mapBase u bank + 16 * e.idx)
    if bad then mapFail e.idx 1 0x10 (e.idx + 1 * 2 ^ 24)
    else if !meValid e then checkEntries s u bank es seen prev
    else if !meFieldsOk e then mapFail e.idx 1 0x10 (e.idx + 1 * 2 ^ 24)
    else if portCount s ≤ mePort e then mapFail e.idx 2 0x10 (e.idx + 2 * 2 ^ 24)
    else if (upto (viewCount u)).any fun v =>
        decide (canvasW u < meX0 e + viewX u v + meFW e ∨ canvasH u < meY0 e + viewY u v + meFH e) then
      mapFail e.idx 3 0x10 (e.idx + 3 * 2 ^ 24)
    else if seen.contains (meKey e) then mapFail e.idx 4 0x11 e.idx
    else if readyRow u e < prev then mapFail e.idx 5 0x12 e.idx
    else checkEntries s u bank es (meKey e :: seen) (readyRow u e)

/-- The entry at which the running sum of W × H first passes a limit. -/
def sumPasses (limit : Nat → Bool) : List MapEntry → Nat → Option Nat
  | [], _ => none
  | e :: es, a => if limit (a + meW e * meH e) then some e.idx else sumPasses limit es (a + meW e * meH e)

/-- Checks 6 and 7: V × F × ΣWH against 20.0 × 10^9, and per port against 2.00 × 10^9, F = 10^9 / WF_PERIOD. -/
def checkLoad (u : Nat → Word) (es : List MapEntry) : Option MapFail :=
  let beyond := fun g a => decide (g * 1000000000 * wfPeriod u < viewCount u * a * 1000000000 * 65536)
  match sumPasses (beyond 20) es 0 with
  | some i => mapFail i 6 0x13 (6 * 2 ^ 24 + 0xF)
  | none =>
    (upto 16).findSome? fun p =>
      match sumPasses (beyond 2) (es.filter fun e => mePort e == p) 0 with
      | some i => mapFail i 7 0x13 (7 * 2 ^ 24 + p)
      | none => none

/-- The layer a pacing pipeline feeds, under a reading of the registers. -/
def pacingLayer (u : Nat → Word) : Option Nat :=
  if schedPace u = 1 ∨ schedPace u = 2 then
    lowest 8 fun l => bitAt (u (R.CNV_LYR_CTRL l)) 0 && getBits (u (R.CNV_LYR_CTRL l)) 2 1 + 1 == schedPace u
  else none

/-- LAST_LIVE (R134). -/
def lastLive (u : Nat → Word) : Option Nat :=
  (pacingLayer u).map fun l => getBits (u (R.CNV_LYR_XY l)) 28 16 + getBits (u (R.CNV_LYR_WH l)) 28 16

/-- Check 8, the final-band rule. -/
def checkBand (u : Nat → Word) (es : List MapEntry) : Option MapFail :=
  if !schedLock u then none
  else
    match lastLive u with
    | none => mapFail 0 8 0x14 0xF
    | some last =>
      match es.find? fun e => decide (last < readyRow u e) with
      | some e => mapFail e.idx 8 0x14 0xF
      | none =>
        let band := es.filter fun e => decide (last - 63 ≤ readyRow u e)
        match sumPasses (fun a => decide (600000 < viewCount u * a)) band 0 with
        | some i => mapFail i 8 0x14 0xF
        | none =>
          (upto 16).findSome? fun p =>
            match sumPasses (fun a => decide (100000 < viewCount u * a)) (band.filter fun e => mePort e == p) 0 with
            | some i => mapFail i 8 0x14 p
            | none => none

/-- All eight checks of R133 on a bank. -/
def mapCheck (s : State) (u : Nat → Word) (bank : Nat) : Option MapFail :=
  match checkEntries s u bank (mapEntries s u bank) [] 0 with
  | some f => some f
  | none =>
    let es := validEntries s u bank
    match checkLoad u es with
    | some f => some f
    | none => checkBand u es

/-- The values a bank is checked against: those its checks read (R133). With LOCK they include what names the pacing layer and
places its last row. -/
def mapValues (u : Nat → Word) (bank : Nat) : List Word :=
  [u R.CNV_CANVAS_WH, u R.CNV_WF_PERIOD, u (R.CNV_WF_PERIOD + 4), w32 (viewCount u), w32 (b2n (schedLock u)),
   w32 (mapBase u bank), w32 (mapBase u bank / 2 ^ 32), w32 (mapCount u bank)] ++
  ((upto (viewCount u)).map fun v => u (R.CNV_VIEW_XY v)) ++
  (if schedLock u then
    match pacingLayer u with
    | some l => [w32 (schedPace u), w32 l, w32 (getBits (u (R.CNV_LYR_XY l)) 28 16), w32 (getBits (u (R.CNV_LYR_WH l)) 28 16)]
    | none => [w32 (schedPace u)]
   else [])

/-! ### The launch schedule (R137 to R140) -/

def leadTime (u : Nat → Word) : Nat := getBits (u R.CNV_SCHED) 17 8 * 1000 * 65536

/-- 80 µs in 2^-16 ns (R138). -/
def guardTime : Nat := 80 * 1000 * 65536

def fillTime (u : Nat → Word) : Nat := getBits (u R.CNV_FILL_TIME) 15 0 * 1000 * 65536

/-- The dispatch deadline of a launch instant (R138). -/
def deadline (u : Nat → Word) (at16 : Nat) : Nat := at16 - leadTime u - guardTime

/-- The first L ≥ `lo` on the lattice `first + k × period`, k ≥ 0. -/
def latticeFrom (first period lo : Nat) : Nat :=
  if lo ≤ first ∨ period = 0 then first else first + (lo - first + period - 1) / period * period

/-- WF_FIRST as a long time. -/
def wfFirst (u : Nat → Word) : Nat := ofLongWords (u R.CNV_WF_FIRST) (u (R.CNV_WF_FIRST + 4)) (u (R.CNV_WF_FIRST + 8))

/-- The canvas engine runs (R32). -/
def cnvRuns (s : State) : Bool := unitRuns s (pg 4 0) && !idleReq s (pg 4 0)

/-- The earliest bound picture. -/
def firstBound : List CnvBound → Option CnvBound
  | [] => none
  | b :: bs =>
    match firstBound bs with
    | none => some b
    | some c => if c.at16 < b.at16 then some c else some b

/-- The last launched picture's buffer, while it is intact (R137). -/
def shownIntact (s : State) : Option Nat :=
  match s.cnv.shown with
  | some (b, seq) => if (canvasBuf s b).holds && (canvasBuf s b).seq == seq then some b else none
  | none => none

/-- The values in use for a launch: those of the picture it shows. A picture's own fields govern every launch that shows it (R125);
hold-overs show the last launched picture. -/
def launchUse (s : State) (b : Option Nat) : Nat → Word :=
  match b with
  | some x => useOf (canvasBuf s x).use
  | none => match shownIntact s with | some x => useOf (canvasBuf s x).use | none => uget s

/-- The earliest instant a launch may still have. -/
def launchFloor (s : State) (u : Nat → Word) : Nat :=
  match s.cnv.lastAt with | some t => t + 1 | none => merNow s + leadTime u

/-- The first scheduled instant at or after `lo`, by a schedule alone (R137). -/
def scheduleFrom (s : State) (u : Nat → Word) (lo : Nat) : Option Nat :=
  if wfPeriod u = 0 then none
  else if schedLock u then
    (match s.cnv.lastAt with
     | some t => some (latticeFrom (t + wfPeriod u) (wfPeriod u) lo)
     | none => none)
  else some (latticeFrom (wfFirst u) (wfPeriod u) lo)

/-- The next launch the schedule holds: its instant, and the buffer bound to it; no buffer makes it a hold-over (R137, R138). -/
def scheduled (s : State) : Option (Nat × Option Nat) :=
  let u := launchUse s none
  let p := wfPeriod u
  match firstBound s.cnv.bounds, scheduleFrom s u (launchFloor s u) with
  | none, none => none
  | none, some h => some (h, none)
  | some b, none => some (b.at16, some b.buf)
  | some b, some h =>
    if schedLock u then
      (if s.cnv.holdOvers < getBits (u R.CNV_SCHED) 5 4 ∧ h + (p + 1) / 2 ≤ b.at16 then some (h, none)
       else some (b.at16, some b.buf))
    else if b.at16 ≤ h then some (b.at16, some b.buf) else some (h, none)

/-- The next launch, while the canvas engine runs or finishes a scan. -/
def nextLaunch (s : State) : Option (Nat × Option Nat) :=
  if !cnvRuns s && s.cnv.scan.isNone then none else scheduled s

/-- The buffer the next launch scans. -/
def launchBuf (s : State) (b : Option Nat) : Option Nat :=
  match b with
  | some x => some x
  | none => shownIntact s

/-- The map bank a picture's launches scan. -/
def bankOf (u : Nat → Word) : Nat := b2n (bitAt (u R.CNV_MAP_CTRL) 0)

/-- A map bank's state: 0 empty, 1 validating, 2 valid, 3 invalid. -/
def mapState (s : State) (bank : Nat) : Nat :=
  if bank = 0 then rfld s R.CNV_MAP_CTRL 9 8 else rfld s R.CNV_MAP_CTRL 11 10
def setMapState (bank v : Nat) (s : State) : State :=
  if bank = 0 then rsetFld R.CNV_MAP_CTRL 9 8 v s else rsetFld R.CNV_MAP_CTRL 11 10 v s

/-- The valid entries of the bank a launch scans, once that bank is VALID. -/
def scanEntries (s : State) (u : Nat → Word) : List MapEntry :=
  if mapState s (bankOf u) = 2 then validEntries s (rget s) (bankOf u) else []

/-- A scan's read of a map entry is poisoned: what it holds is not known (R427). -/
def entryPoisoned (s : State) (u : Nat → Word) (e : MapEntry) : Bool :=
  memPoisoned s false 16 (mapBase (rget s) (bankOf u) + 16 * e.idx)

/-- What a scan walks: the valid entries, and those whose read is poisoned, in map order (R135, R427). -/
def scanWalk (s : State) (u : Nat → Word) : List MapEntry :=
  if mapState s (bankOf u) = 2 then (mapEntries s (rget s) (bankOf u)).filter fun e => meValid e || entryPoisoned s u e else []

def selfrefState (s : State) : Nat := rfld s R.CNV_SELFREF 9 8

/-- The rows an entry needs are ready in a buffer (R135). -/
def entryReady (s : State) (u : Nat → Word) (buf : Nat) (e : MapEntry) : Bool := decide (readyRow u e < (canvasBuf s buf).ready)

/-- In self-refresh only the launch that ends it is scanned; while STATE enters, only the scan that runs (R141). -/
def scanAllowed (s : State) (at16 : Nat) : Bool :=
  match selfrefState s with
  | 0 => true
  | 3 => (match s.cnv.notBefore with | some t => decide (t ≤ at16) | none => true)
  | 1 => (match s.cnv.scan with | some sc => sc.at16 == at16 && !rbit s R.CNV_SELFREF 3 | none => false)
  | _ => false

/-- The scan of the next launch has begun or may begin: its buffer's rows for the first entry are ready (R135, R151). -/
def scanMayStart (s : State) (at16 : Nat) (b : Option Nat) : Bool :=
  scanAllowed s at16 &&
    match launchBuf s b with
    | none => false
    | some buf =>
      let u := useOf (canvasBuf s buf).use
      match scanWalk s u with
      | [] => true
      | e :: _ => entryPoisoned s u e || entryReady s u buf e

/-- STATE of self-refresh changes: interrupt bit 3 (R141, R145). -/
def setSelfref (v : Nat) (s : State) : State :=
  if selfrefState s = v then s else raiseInt (pg 4 0) 3 (rsetFld R.CNV_SELFREF 9 8 v s)

end Sys2Proof.Machine
end

