-- ==== Sys2Proof/Machine/CnvCommit.lean ====
section
/-! DEFINITION. The commits of the canvas pages with their checks, and how an OT0 picture begins (R127, R128, R133, R136, R137, R140, R144). -/

namespace Sys2Proof.Machine

/-! ### Commits (R127, R133, R136, R137, R140, R144) -/

/-- The registers as they would be once the pages that wait have committed. -/
def cnvStaged (s : State) (a : Nat) : Word :=
  if blockOfPage (pageOf a) = 4 ∧ commitPending s (pageOf a) then rget s a else uget s a

def lyrOn (u : Nat → Word) (l : Nat) : Bool := bitAt (u (R.CNV_LYR_CTRL l)) 0
def lyrSrc (u : Nat → Word) (l : Nat) : Nat := getBits (u (R.CNV_LYR_CTRL l)) 2 1
def lyrStream (u : Nat → Word) (l : Nat) : Nat := getBits (u (R.CNV_LYR_CTRL l)) 31 16
def lyrX (u : Nat → Word) (l : Nat) : Nat := getBits (u (R.CNV_LYR_XY l)) 13 0
def lyrY (u : Nat → Word) (l : Nat) : Nat := getBits (u (R.CNV_LYR_XY l)) 28 16
def lyrW (u : Nat → Word) (l : Nat) : Nat := getBits (u (R.CNV_LYR_WH l)) 13 0 + 1
def lyrH (u : Nat → Word) (l : Nat) : Nat := getBits (u (R.CNV_LYR_WH l)) 28 16 + 1

/-- Two enabled layers take the same source, or (cascade) the same stream. -/
def sameSource (u : Nat → Word) (a b : Nat) : Bool :=
  lyrSrc u a == lyrSrc u b && (lyrSrc u a != 3 || lyrStream u a == lyrStream u b)

/-- A layer that is live in some pictures: a pipeline layer while PACE is not 0. -/
def mayBeLive (u : Nat → Word) (l : Nat) : Bool := lyrOn u l && decide (lyrSrc u l ≤ 1) && decide (schedPace u ≠ 0)

def footprintsMeet (u : Nat → Word) (a b : Nat) : Bool :=
  decide (lyrX u a < lyrX u b + lyrW u b ∧ lyrX u b < lyrX u a + lyrW u a ∧
    lyrY u a < lyrY u b + lyrH u b ∧ lyrY u b < lyrY u a + lyrH u a)

/-- The first layer for which the staged layers fail R127. -/
def layersFail (u : Nat → Word) : Option Nat :=
  match lowest 8 fun l => lyrOn u l &&
      (decide (canvasW u < lyrX u l + lyrW u l ∨ canvasH u < lyrY u l + lyrH u l) ||
       (upto l).any fun k => lyrOn u k && (sameSource u k l || (mayBeLive u k && mayBeLive u l && footprintsMeet u k l))) with
  | some l => some l
  | none => if (schedPace u = 1 ∨ schedPace u = 2) ∧ pacingLayer u = none then some 0 else none

/-- The register offset at which the slots do not end within WF_PERIOD, the part of R136 that a change of the period can break. -/
def slotsEndFail (u : Nat → Word) : Option Nat :=
  let n := viewCount u
  if wfPeriod u < (slotOfs u (n - 1) + slotLen u (n - 1)) * 65536 then some (0x0A4 + 8 * (n - 1)) else none

/-- The register offset at which the slot schedule fails R136. -/
def slotsFail (u : Nat → Word) : Option Nat :=
  let n := viewCount u
  match lowest n fun v => decide (slotLen u v < 1000) with
  | some v => some (0x0A4 + 8 * v)
  | none =>
    match lowest n fun v => decide (v + 1 < n ∧ slotOfs u (v + 1) < slotOfs u v + slotLen u v) with
    | some v => some (0x0A0 + 8 * (v + 1))
    | none => slotsEndFail u

/-- The register offset at which the schedule fails R137 or R140. -/
def schedFail (u : Nat → Word) : Option Nat :=
  if !schedLock u then none
  else if schedPace u = 0 then some 0x060
  else if (u R.CNV_LOCK_DELAY).toNat < (getBits (u R.CNV_SCHED) 17 8 + 80) * 1000 then some 0x064
  else none

/-- Why MAP_SEL cannot go into use: the bank's state (R133). -/
def mapSelFail (s : State) (u : Nat → Word) : Option Nat :=
  let b := bankOf u
  let st := mapState s b
  if st ≠ 2 ∨ nth [] s.cnv.checked b ≠ mapValues u b then some st else none

/-- The register offset at which the monitor view fails R144. -/
def monFail (u : Nat → Word) : Option Nat :=
  let b := monBox u
  if !monOn u then none
  else if monW u % b ≠ 0 ∨ monH u % b ≠ 0 ∨ monW u / b < 64 ∨ 8192 < monW u / b ∨ monH u / b < 64 ∨ 4320 < monH u / b then some 0x048
  else if canvasW u < monX u + monW u ∨ canvasH u < monY u + monH u then some 0x044
  else none

/-- After a commit of the layers: a host layer that shows another buffer offers it to its send streams; a stream whose layer is now disabled reports it once (R257). -/
def layersCommitted (before s : State) : State :=
  let s1 := (upto 8).foldl (fun s l =>
    if layerOn s l && layerSrc s l == 2 && decide (uget s (R.CNV_LYR_HOST_SEL l) ≠ uget before (R.CNV_LYR_HOST_SEL l)) then
      sendOffer l (b2n (ubit s (R.CNV_LYR_HOST_SEL l) 0)) (merNow s) s
    else s) s
  (upto 8).foldl (fun s k =>
    let l := rfld s (R.CMP_SEND_CTRL k) 3 1
    if rbit s (R.CMP_SEND_CTRL k) 0 && layerOn before l && !layerOn s l then
      raiseErr (pg 11 0) 0x18 (w32 k) (setCmp { s.cmp with waiting := s.cmp.waiting.filter fun j => !waitsOn k j } s)
    else s) s1

/-- A bank goes into use: E_NO_TILE may be raised for it again (R181). -/
def tlkNewBank (bank : Nat) (s : State) : State := { s with tlk := s.tlk.map fun t => { t with noTile := t.noTile.filter (· != bank) } }

/-- A CNV page's waiting commit applies or fails whole (R36, R79). The slot schedule is checked with the slots at a commit of page 2;
at one of page 0, which holds WF_PERIOD, its end is (DESIGN CHOICE, log 133). -/
def cnvCommit (k : Nat) (s : State) : State :=
  let n := pg 4 k
  let u := cnvStaged s
  if !commitPending s n then s
  else if k = 0 then
    (match schedFail u <|> slotsEndFail u, layersFail u with
     | some off, _ => commitFail n 0x19 (w32 off) s
     | none, some l => commitFail n 0x17 (w32 l) s
     | none, none => commitApply n s)
  else if k = 1 then
    (match layersFail u with
     | some l => commitFail n 0x17 (w32 l) s
     | none => layersCommitted s (commitApply n s))
  else if k = 2 then
    (match slotsFail u, mapSelFail s u with
     | some off, _ => commitFail n 0x19 (w32 off) s
     | none, some st => commitFail n 0x15 (w32 st) s
     | none, none =>
       let s1 := commitApply n s
       if bankOf (uget s1) = bankOf (uget s) then s1 else tlkNewBank (bankOf (uget s1)) s1)
  else
    match monFail u with
    | some off => commitFail n 0x1B (w32 off) s
    | none => commitApply n s

/-- The picture start is the shadow boundary of every CNV page (R125). -/
def cnvCommits (s : State) : State := cnvCommit 3 (cnvCommit 2 (cnvCommit 1 (cnvCommit 0 s)))

/-! ### An OT0 picture begins (R128) -/

/-- A picture in composition takes a pipeline's picture live, in place of what its layer's store gave (R128). -/
def joinLive (l p sof : Nat) (c : CnvPic) (s : State) : State :=
  let live := c.live ++ [(l, p, sof)]
  let c1 := { c with live := live, stored := c.stored.filter fun e => e.1 != l }
  rsetBit (R.CNV_LYR_STATE l) 1 true { s with cnv := { s.cnv with
    pics := s.cnv.pics.map fun x => if x.seq = c.seq then c1 else x
    bufs := setNth s.cnv.bufs c.buf { canvasBuf s c.buf with live := live } } }

/-- The newest picture in composition, if a SOF of the other pipeline falls within SYNC_WIN of its own (R128). -/
def syncPic (s : State) (p sof : Nat) : Option CnvPic :=
  match s.cnv.pics.getLast? with
  | none => none
  | some c =>
    let u := useOf c.use
    if schedPace u ≠ 0 ∧ schedPace u ≠ p + 1 ∧ within sof c.start (getBits (u R.CNV_SYNC_WIN) 15 0) then some c else none

/-- A pipeline's OT0 starts a picture at its accepted SOF (R128). At a pacing SOF, where a picture starts, it is judged by the
values the commits of that picture start put in use (R125). A picture that will not have its layer's size is withdrawn with E_LAYER_SIZE. -/
def ot0Begin (p id sof w h : Nat) (delivered : Bool) (s : State) : State :=
  let starts := decide (pacePipe s = some p)
  let t := if starts && cnvRuns s then cnvCommits s else s
  let s0 := sweepOt0 (if starts then { s with cnv := { s.cnv with paceSof := some sof } } else s)
  let add := fun o s => { s with cnv := { s.cnv with ot0 := s.cnv.ot0 ++ [o] } }
  match layerOfPipe t p with
  | none => s0
  | some l =>
    let bad := delivered && !(decide (w = layerW t l ∧ h = layerH t l))
    let s1 := if bad then raiseErr (pg 4 1) 0x18 (w32 (l + id * 65536)) s0 else s0
    let o : Ot0Pic := { pipe := p, id := id, sof := sof, layer := some l, withdrawn := bad || !delivered }
    let joins := if starts then none else syncPic s p sof
    let s2 := match joins with | some c => joinLive l p sof c s1 | none => s1
    if o.withdrawn then (match joins with | some c => picAbandon c.buf (add o s2) | none => add o s2)
    else if (joins.isSome || decide (starts ∧ pacePipe t = some p)) && !sendBound s2 l then add o s2
    else
      match storePick s2 l with
      | some b => add { o with store := some b } (storeBegin l b s2)
      | none => add o s2

end Sys2Proof.Machine
end

