-- ==== Sys2Proof/Machine/TransferRom.lean ====
section
/-! DEFINITION. The preset transfer tables held in ROM (R112): entry k is F at the binary16 value of pattern 32k, rounded once to binary32; entry 992 is F(1). The BT.2100 constants are that standard's own. -/

namespace Sys2Proof.Machine

/-- BT.709 OETF, entries 0 to 95. -/
def bt709Rom0 : List Nat :=
  [0x0, 0x37100000, 0x37900000, 0x37d80000, 0x38100000, 0x38340000, 0x38580000, 0x387c0000, 0x38900000, 0x38a20000, 0x38b40000, 0x38c60000,
   0x38d80000, 0x38ea0000, 0x38fc0000, 0x39070000, 0x39100000, 0x39190000, 0x39220000, 0x392b0000, 0x39340000, 0x393d0000, 0x39460000, 0x394f0000,
   0x39580000, 0x39610000, 0x396a0000, 0x39730000, 0x397c0000, 0x39828000, 0x39870000, 0x398b8000, 0x39900000, 0x39948000, 0x39990000, 0x399d8000,
   0x39a20000, 0x39a68000, 0x39ab0000, 0x39af8000, 0x39b40000, 0x39b88000, 0x39bd0000, 0x39c18000, 0x39c60000, 0x39ca8000, 0x39cf0000, 0x39d38000,
   0x39d80000, 0x39dc8000, 0x39e10000, 0x39e58000, 0x39ea0000, 0x39ee8000, 0x39f30000, 0x39f78000, 0x39fc0000, 0x3a004000, 0x3a028000, 0x3a04c000,
   0x3a070000, 0x3a094000, 0x3a0b8000, 0x3a0dc000, 0x3a100000, 0x3a148000, 0x3a190000, 0x3a1d8000, 0x3a220000, 0x3a268000, 0x3a2b0000, 0x3a2f8000,
   0x3a340000, 0x3a388000, 0x3a3d0000, 0x3a418000, 0x3a460000, 0x3a4a8000, 0x3a4f0000, 0x3a538000, 0x3a580000, 0x3a5c8000, 0x3a610000, 0x3a658000,
   0x3a6a0000, 0x3a6e8000, 0x3a730000, 0x3a778000, 0x3a7c0000, 0x3a804000, 0x3a828000, 0x3a84c000, 0x3a870000, 0x3a894000, 0x3a8b8000, 0x3a8dc000]

/-- BT.709 OETF, entries 96 to 191. -/
def bt709Rom1 : List Nat :=
  [0x3a900000, 0x3a948000, 0x3a990000, 0x3a9d8000, 0x3aa20000, 0x3aa68000, 0x3aab0000, 0x3aaf8000, 0x3ab40000, 0x3ab88000, 0x3abd0000, 0x3ac18000,
   0x3ac60000, 0x3aca8000, 0x3acf0000, 0x3ad38000, 0x3ad80000, 0x3adc8000, 0x3ae10000, 0x3ae58000, 0x3aea0000, 0x3aee8000, 0x3af30000, 0x3af78000,
   0x3afc0000, 0x3b004000, 0x3b028000, 0x3b04c000, 0x3b070000, 0x3b094000, 0x3b0b8000, 0x3b0dc000, 0x3b100000, 0x3b148000, 0x3b190000, 0x3b1d8000,
   0x3b220000, 0x3b268000, 0x3b2b0000, 0x3b2f8000, 0x3b340000, 0x3b388000, 0x3b3d0000, 0x3b418000, 0x3b460000, 0x3b4a8000, 0x3b4f0000, 0x3b538000,
   0x3b580000, 0x3b5c8000, 0x3b610000, 0x3b658000, 0x3b6a0000, 0x3b6e8000, 0x3b730000, 0x3b778000, 0x3b7c0000, 0x3b804000, 0x3b828000, 0x3b84c000,
   0x3b870000, 0x3b894000, 0x3b8b8000, 0x3b8dc000, 0x3b900000, 0x3b948000, 0x3b990000, 0x3b9d8000, 0x3ba20000, 0x3ba68000, 0x3bab0000, 0x3baf8000,
   0x3bb40000, 0x3bb88000, 0x3bbd0000, 0x3bc18000, 0x3bc60000, 0x3bca8000, 0x3bcf0000, 0x3bd38000, 0x3bd80000, 0x3bdc8000, 0x3be10000, 0x3be58000,
   0x3bea0000, 0x3bee8000, 0x3bf30000, 0x3bf78000, 0x3bfc0000, 0x3c004000, 0x3c028000, 0x3c04c000, 0x3c070000, 0x3c094000, 0x3c0b8000, 0x3c0dc000]

/-- BT.709 OETF, entries 192 to 287. -/
def bt709Rom2 : List Nat :=
  [0x3c100000, 0x3c148000, 0x3c190000, 0x3c1d8000, 0x3c220000, 0x3c268000, 0x3c2b0000, 0x3c2f8000, 0x3c340000, 0x3c388000, 0x3c3d0000, 0x3c418000,
   0x3c460000, 0x3c4a8000, 0x3c4f0000, 0x3c538000, 0x3c580000, 0x3c5c8000, 0x3c610000, 0x3c658000, 0x3c6a0000, 0x3c6e8000, 0x3c730000, 0x3c778000,
   0x3c7c0000, 0x3c804000, 0x3c828000, 0x3c84c000, 0x3c870000, 0x3c894000, 0x3c8b8000, 0x3c8dc000, 0x3c900000, 0x3c948000, 0x3c990000, 0x3c9d8000,
   0x3ca20000, 0x3ca68000, 0x3cab0000, 0x3caf8000, 0x3cb40000, 0x3cb88000, 0x3cbd0000, 0x3cc18000, 0x3cc60000, 0x3cca8000, 0x3ccf0000, 0x3cd38000,
   0x3cd80000, 0x3cdc8000, 0x3ce10000, 0x3ce58000, 0x3cea0000, 0x3cee8000, 0x3cf30000, 0x3cf78000, 0x3cfc0000, 0x3d004000, 0x3d028000, 0x3d04c000,
   0x3d070000, 0x3d094000, 0x3d0b8000, 0x3d0dc000, 0x3d100000, 0x3d148000, 0x3d190000, 0x3d1d8000, 0x3d220000, 0x3d268000, 0x3d2b0000, 0x3d2f8000,
   0x3d340000, 0x3d388000, 0x3d3d0000, 0x3d418000, 0x3d460000, 0x3d4a8000, 0x3d4f0000, 0x3d538000, 0x3d580000, 0x3d5c8000, 0x3d610000, 0x3d658000,
   0x3d6a0000, 0x3d6e8000, 0x3d730000, 0x3d778000, 0x3d7c0000, 0x3d804000, 0x3d828000, 0x3d84c000, 0x3d870000, 0x3d894000, 0x3d8b8000, 0x3d8dc000]

/-- BT.709 OETF, entries 288 to 383. -/
def bt709Rom3 : List Nat :=
  [0x3d900000, 0x3d948000, 0x3d990000, 0x3d9d8000, 0x3da20000, 0x3da7020d, 0x3dab78dd, 0x3dafdf41, 0x3db435de, 0x3db87d50, 0x3dbcb629, 0x3dc0e0f2,
   0x3dc4fe2b, 0x3dc90e4f, 0x3dcd11cf, 0x3dd10919, 0x3dd4f493, 0x3dd8d49e, 0x3ddca996, 0x3de073d2, 0x3de433a6, 0x3de7e961, 0x3deb954d, 0x3def37b3,
   0x3df2d0d7, 0x3df660fa, 0x3df9e85a, 0x3dfd6734, 0x3e006ee0, 0x3e02261b, 0x3e03d964, 0x3e0588d5, 0x3e073485, 0x3e0a8103, 0x3e0dbf8a, 0x3e10f0bd,
   0x3e141531, 0x3e172d73, 0x3e1a3a03, 0x3e1d3b5c, 0x3e2031ee, 0x3e231e24, 0x3e260062, 0x3e28d904, 0x3e2ba864, 0x3e2e6ed4, 0x3e312ca2, 0x3e33e218,
   0x3e368f7d, 0x3e393513, 0x3e3bd318, 0x3e3e69c9, 0x3e40f95e, 0x3e43820d, 0x3e46040a, 0x3e487f85, 0x3e4af4ad, 0x3e4d63af, 0x3e4fccb5, 0x3e522fe8,
   0x3e548d70, 0x3e56e571, 0x3e59380f, 0x3e5b856d, 0x3e5dcdab, 0x3e624f46, 0x3e66bdcf, 0x3e6b1a22, 0x3e6f650d, 0x3e739f4e, 0x3e77c997, 0x3e7be48c,
   0x3e7ff0ca, 0x3e81f770, 0x3e83efab, 0x3e85e158, 0x3e87ccb0, 0x3e89b1ee, 0x3e8b9147, 0x3e8d6aed, 0x3e8f3f10, 0x3e910dde, 0x3e92d782, 0x3e949c23,
   0x3e965bea, 0x3e9816fa, 0x3e99cd78, 0x3e9b7f83, 0x3e9d2d3d, 0x3e9ed6c4, 0x3ea07c35, 0x3ea21dab, 0x3ea3bb42, 0x3ea55513, 0x3ea6eb35, 0x3ea87dc2]

/-- BT.709 OETF, entries 384 to 479. -/
def bt709Rom4 : List Nat :=
  [0x3eaa0ccf, 0x3ead20be, 0x3eb027a7, 0x3eb32220, 0x3eb610b6, 0x3eb8f3e9, 0x3ebbcc34, 0x3ebe9a08, 0x3ec15dcd, 0x3ec417e8, 0x3ec6c8b6, 0x3ec9708d,
   0x3ecc0fc0, 0x3ecea69c, 0x3ed1356b, 0x3ed3bc71, 0x3ed63bef, 0x3ed8b425, 0x3edb254c, 0x3edd8f9c, 0x3edff34a, 0x3ee25088, 0x3ee4a787, 0x3ee6f873,
   0x3ee9437a, 0x3eeb88c3, 0x3eedc877, 0x3ef002bd, 0x3ef237b7, 0x3ef4678a, 0x3ef69256, 0x3ef8b83c, 0x3efad95a, 0x3eff0db4, 0x3f019822, 0x3f03a0ea,
   0x3f05a194, 0x3f079a78, 0x3f098be8, 0x3f0b7632, 0x3f0d599f, 0x3f0f3671, 0x3f110ce8, 0x3f12dd40, 0x3f14a7b1, 0x3f166c71, 0x3f182bb0, 0x3f19e59e,
   0x3f1b9a68, 0x3f1d4a37, 0x3f1ef535, 0x3f209b87, 0x3f223d51, 0x3f23dab6, 0x3f2573d6, 0x3f2708d1, 0x3f2899c4, 0x3f2a26cb, 0x3f2bb003, 0x3f2d3585,
   0x3f2eb769, 0x3f3035c8, 0x3f31b0b8, 0x3f33284f, 0x3f349ca3, 0x3f377bcf, 0x3f3a4ed3, 0x3f3d163d, 0x3f3fd28e, 0x3f428441, 0x3f452bc6, 0x3f47c988,
   0x3f4a5de8, 0x3f4ce943, 0x3f4f6bf0, 0x3f51e640, 0x3f545880, 0x3f56c2f9, 0x3f5925ee, 0x3f5b819f, 0x3f5dd64b, 0x3f60242a, 0x3f626b74, 0x3f64ac5c,
   0x3f66e713, 0x3f691bca, 0x3f6b4aab, 0x3f6d73e3, 0x3f6f979a, 0x3f71b5f6, 0x3f73cf1c, 0x3f75e331, 0x3f77f256, 0x3f79fcab, 0x3f7c0250, 0x3f7e0363]

/-- BT.709 OETF, entries 480 to 575. -/
def bt709Rom5 : List Nat :=
  [0x3f800000, 0x3f800000, 0x3f800000, 0x3f800000, 0x3f800000, 0x3f800000, 0x3f800000, 0x3f800000, 0x3f800000, 0x3f800000, 0x3f800000, 0x3f800000,
   0x3f800000, 0x3f800000, 0x3f800000, 0x3f800000, 0x3f800000, 0x3f800000, 0x3f800000, 0x3f800000, 0x3f800000, 0x3f800000, 0x3f800000, 0x3f800000,
   0x3f800000, 0x3f800000, 0x3f800000, 0x3f800000, 0x3f800000, 0x3f800000, 0x3f800000, 0x3f800000, 0x3f800000, 0x3f800000, 0x3f800000, 0x3f800000,
   0x3f800000, 0x3f800000, 0x3f800000, 0x3f800000, 0x3f800000, 0x3f800000, 0x3f800000, 0x3f800000, 0x3f800000, 0x3f800000, 0x3f800000, 0x3f800000,
   0x3f800000, 0x3f800000, 0x3f800000, 0x3f800000, 0x3f800000, 0x3f800000, 0x3f800000, 0x3f800000, 0x3f800000, 0x3f800000, 0x3f800000, 0x3f800000,
   0x3f800000, 0x3f800000, 0x3f800000, 0x3f800000, 0x3f800000, 0x3f800000, 0x3f800000, 0x3f800000, 0x3f800000, 0x3f800000, 0x3f800000, 0x3f800000,
   0x3f800000, 0x3f800000, 0x3f800000, 0x3f800000, 0x3f800000, 0x3f800000, 0x3f800000, 0x3f800000, 0x3f800000, 0x3f800000, 0x3f800000, 0x3f800000,
   0x3f800000, 0x3f800000, 0x3f800000, 0x3f800000, 0x3f800000, 0x3f800000, 0x3f800000, 0x3f800000, 0x3f800000, 0x3f800000, 0x3f800000, 0x3f800000]

/-- BT.709 OETF, entries 576 to 671. -/
def bt709Rom6 : List Nat :=
  [0x3f800000, 0x3f800000, 0x3f800000, 0x3f800000, 0x3f800000, 0x3f800000, 0x3f800000, 0x3f800000, 0x3f800000, 0x3f800000, 0x3f800000, 0x3f800000,
   0x3f800000, 0x3f800000, 0x3f800000, 0x3f800000, 0x3f800000, 0x3f800000, 0x3f800000, 0x3f800000, 0x3f800000, 0x3f800000, 0x3f800000, 0x3f800000,
   0x3f800000, 0x3f800000, 0x3f800000, 0x3f800000, 0x3f800000, 0x3f800000, 0x3f800000, 0x3f800000, 0x3f800000, 0x3f800000, 0x3f800000, 0x3f800000,
   0x3f800000, 0x3f800000, 0x3f800000, 0x3f800000, 0x3f800000, 0x3f800000, 0x3f800000, 0x3f800000, 0x3f800000, 0x3f800000, 0x3f800000, 0x3f800000,
   0x3f800000, 0x3f800000, 0x3f800000, 0x3f800000, 0x3f800000, 0x3f800000, 0x3f800000, 0x3f800000, 0x3f800000, 0x3f800000, 0x3f800000, 0x3f800000,
   0x3f800000, 0x3f800000, 0x3f800000, 0x3f800000, 0x3f800000, 0x3f800000, 0x3f800000, 0x3f800000, 0x3f800000, 0x3f800000, 0x3f800000, 0x3f800000,
   0x3f800000, 0x3f800000, 0x3f800000, 0x3f800000, 0x3f800000, 0x3f800000, 0x3f800000, 0x3f800000, 0x3f800000, 0x3f800000, 0x3f800000, 0x3f800000,
   0x3f800000, 0x3f800000, 0x3f800000, 0x3f800000, 0x3f800000, 0x3f800000, 0x3f800000, 0x3f800000, 0x3f800000, 0x3f800000, 0x3f800000, 0x3f800000]

/-- BT.709 OETF, entries 672 to 767. -/
def bt709Rom7 : List Nat :=
  [0x3f800000, 0x3f800000, 0x3f800000, 0x3f800000, 0x3f800000, 0x3f800000, 0x3f800000, 0x3f800000, 0x3f800000, 0x3f800000, 0x3f800000, 0x3f800000,
   0x3f800000, 0x3f800000, 0x3f800000, 0x3f800000, 0x3f800000, 0x3f800000, 0x3f800000, 0x3f800000, 0x3f800000, 0x3f800000, 0x3f800000, 0x3f800000,
   0x3f800000, 0x3f800000, 0x3f800000, 0x3f800000, 0x3f800000, 0x3f800000, 0x3f800000, 0x3f800000, 0x3f800000, 0x3f800000, 0x3f800000, 0x3f800000,
   0x3f800000, 0x3f800000, 0x3f800000, 0x3f800000, 0x3f800000, 0x3f800000, 0x3f800000, 0x3f800000, 0x3f800000, 0x3f800000, 0x3f800000, 0x3f800000,
   0x3f800000, 0x3f800000, 0x3f800000, 0x3f800000, 0x3f800000, 0x3f800000, 0x3f800000, 0x3f800000, 0x3f800000, 0x3f800000, 0x3f800000, 0x3f800000,
   0x3f800000, 0x3f800000, 0x3f800000, 0x3f800000, 0x3f800000, 0x3f800000, 0x3f800000, 0x3f800000, 0x3f800000, 0x3f800000, 0x3f800000, 0x3f800000,
   0x3f800000, 0x3f800000, 0x3f800000, 0x3f800000, 0x3f800000, 0x3f800000, 0x3f800000, 0x3f800000, 0x3f800000, 0x3f800000, 0x3f800000, 0x3f800000,
   0x3f800000, 0x3f800000, 0x3f800000, 0x3f800000, 0x3f800000, 0x3f800000, 0x3f800000, 0x3f800000, 0x3f800000, 0x3f800000, 0x3f800000, 0x3f800000]

/-- BT.709 OETF, entries 768 to 863. -/
def bt709Rom8 : List Nat :=
  [0x3f800000, 0x3f800000, 0x3f800000, 0x3f800000, 0x3f800000, 0x3f800000, 0x3f800000, 0x3f800000, 0x3f800000, 0x3f800000, 0x3f800000, 0x3f800000,
   0x3f800000, 0x3f800000, 0x3f800000, 0x3f800000, 0x3f800000, 0x3f800000, 0x3f800000, 0x3f800000, 0x3f800000, 0x3f800000, 0x3f800000, 0x3f800000,
   0x3f800000, 0x3f800000, 0x3f800000, 0x3f800000, 0x3f800000, 0x3f800000, 0x3f800000, 0x3f800000, 0x3f800000, 0x3f800000, 0x3f800000, 0x3f800000,
   0x3f800000, 0x3f800000, 0x3f800000, 0x3f800000, 0x3f800000, 0x3f800000, 0x3f800000, 0x3f800000, 0x3f800000, 0x3f800000, 0x3f800000, 0x3f800000,
   0x3f800000, 0x3f800000, 0x3f800000, 0x3f800000, 0x3f800000, 0x3f800000, 0x3f800000, 0x3f800000, 0x3f800000, 0x3f800000, 0x3f800000, 0x3f800000,
   0x3f800000, 0x3f800000, 0x3f800000, 0x3f800000, 0x3f800000, 0x3f800000, 0x3f800000, 0x3f800000, 0x3f800000, 0x3f800000, 0x3f800000, 0x3f800000,
   0x3f800000, 0x3f800000, 0x3f800000, 0x3f800000, 0x3f800000, 0x3f800000, 0x3f800000, 0x3f800000, 0x3f800000, 0x3f800000, 0x3f800000, 0x3f800000,
   0x3f800000, 0x3f800000, 0x3f800000, 0x3f800000, 0x3f800000, 0x3f800000, 0x3f800000, 0x3f800000, 0x3f800000, 0x3f800000, 0x3f800000, 0x3f800000]

/-- BT.709 OETF, entries 864 to 959. -/
def bt709Rom9 : List Nat :=
  [0x3f800000, 0x3f800000, 0x3f800000, 0x3f800000, 0x3f800000, 0x3f800000, 0x3f800000, 0x3f800000, 0x3f800000, 0x3f800000, 0x3f800000, 0x3f800000,
   0x3f800000, 0x3f800000, 0x3f800000, 0x3f800000, 0x3f800000, 0x3f800000, 0x3f800000, 0x3f800000, 0x3f800000, 0x3f800000, 0x3f800000, 0x3f800000,
   0x3f800000, 0x3f800000, 0x3f800000, 0x3f800000, 0x3f800000, 0x3f800000, 0x3f800000, 0x3f800000, 0x3f800000, 0x3f800000, 0x3f800000, 0x3f800000,
   0x3f800000, 0x3f800000, 0x3f800000, 0x3f800000, 0x3f800000, 0x3f800000, 0x3f800000, 0x3f800000, 0x3f800000, 0x3f800000, 0x3f800000, 0x3f800000,
   0x3f800000, 0x3f800000, 0x3f800000, 0x3f800000, 0x3f800000, 0x3f800000, 0x3f800000, 0x3f800000, 0x3f800000, 0x3f800000, 0x3f800000, 0x3f800000,
   0x3f800000, 0x3f800000, 0x3f800000, 0x3f800000, 0x3f800000, 0x3f800000, 0x3f800000, 0x3f800000, 0x3f800000, 0x3f800000, 0x3f800000, 0x3f800000,
   0x3f800000, 0x3f800000, 0x3f800000, 0x3f800000, 0x3f800000, 0x3f800000, 0x3f800000, 0x3f800000, 0x3f800000, 0x3f800000, 0x3f800000, 0x3f800000,
   0x3f800000, 0x3f800000, 0x3f800000, 0x3f800000, 0x3f800000, 0x3f800000, 0x3f800000, 0x3f800000, 0x3f800000, 0x3f800000, 0x3f800000, 0x3f800000]

/-- BT.709 OETF, entries 960 to 992. -/
def bt709Rom10 : List Nat :=
  [0x3f800000, 0x3f800000, 0x3f800000, 0x3f800000, 0x3f800000, 0x3f800000, 0x3f800000, 0x3f800000, 0x3f800000, 0x3f800000, 0x3f800000, 0x3f800000,
   0x3f800000, 0x3f800000, 0x3f800000, 0x3f800000, 0x3f800000, 0x3f800000, 0x3f800000, 0x3f800000, 0x3f800000, 0x3f800000, 0x3f800000, 0x3f800000,
   0x3f800000, 0x3f800000, 0x3f800000, 0x3f800000, 0x3f800000, 0x3f800000, 0x3f800000, 0x3f800000, 0x3f800000]

/-- BT.709 OETF (R112). -/
def bt709Rom : List Nat := bt709Rom0 ++ bt709Rom1 ++ bt709Rom2 ++ bt709Rom3 ++ bt709Rom4 ++ bt709Rom5 ++ bt709Rom6 ++ bt709Rom7 ++ bt709Rom8 ++ bt709Rom9 ++ bt709Rom10

/-- BT.2100 PQ inverse EOTF, entries 0 to 95. -/
def pqRom0 : List Nat :=
  [0x354436e8, 0x3cf19897, 0x3d27223a, 0x3d488d56, 0x3d637188, 0x3d7a410e, 0x3d871c7d, 0x3d9009a7, 0x3d9823e6, 0x3d9f9459, 0x3da678a0, 0x3dace6de,
   0x3db2f01b, 0x3db8a1c3, 0x3dbe06a0, 0x3dc32781, 0x3dc80bb5, 0x3dccb95e, 0x3dd135b0, 0x3dd58521, 0x3dd9ab8a, 0x3dddac45, 0x3de18a41, 0x3de54818,
   0x3de8e813, 0x3dec6c41, 0x3defd676, 0x3df32859, 0x3df66367, 0x3df988fb, 0x3dfc9a4f, 0x3dff9882, 0x3e01424d, 0x3e02afc5, 0x3e041518, 0x3e0572ac,
   0x3e06c8df, 0x3e08180a, 0x3e09607e, 0x3e0aa287, 0x3e0bde6b, 0x3e0d146d, 0x3e0e44ca, 0x3e0f6fbd, 0x3e10957b, 0x3e11b638, 0x3e12d224, 0x3e13e96b,
   0x3e14fc39, 0x3e160ab6, 0x3e171509, 0x3e181b54, 0x3e191dbb, 0x3e1a1c5e, 0x3e1b175d, 0x3e1c0ed3, 0x3e1d02dd, 0x3e1df397, 0x3e1ee118, 0x3e1fcb79,
   0x3e20b2d2, 0x3e219739, 0x3e2278c2, 0x3e235781, 0x3e24338b, 0x3e25e3c5, 0x3e2789fc, 0x3e2926b0, 0x3e2aba57, 0x3e2c455f, 0x3e2dc82f, 0x3e2f4324,
   0x3e30b697, 0x3e3222da, 0x3e33883b, 0x3e34e700, 0x3e363f6e, 0x3e3791c4, 0x3e38de3d, 0x3e3a2512, 0x3e3b6678, 0x3e3ca2a0, 0x3e3dd9ba, 0x3e3f0bf3,
   0x3e403974, 0x3e416266, 0x3e4286ef, 0x3e43a733, 0x3e44c354, 0x3e45db74, 0x3e46efb1, 0x3e480029, 0x3e490cf9, 0x3e4a163b, 0x3e4b1c0a, 0x3e4c1e7e]

/-- BT.2100 PQ inverse EOTF, entries 96 to 191. -/
def pqRom1 : List Nat :=
  [0x3e4d1daf, 0x3e4f12a2, 0x3e50fb8e, 0x3e52d90e, 0x3e54abb5, 0x3e567408, 0x3e583284, 0x3e59e79b, 0x3e5b93ba, 0x3e5d3744, 0x3e5ed296, 0x3e606609,
   0x3e61f1ef, 0x3e637693, 0x3e64f43f, 0x3e666b36, 0x3e67dbb8, 0x3e694602, 0x3e6aaa4d, 0x3e6c08ce, 0x3e6d61b9, 0x3e6eb53f, 0x3e70038c, 0x3e714ccd,
   0x3e72912b, 0x3e73d0cd, 0x3e750bd9, 0x3e764273, 0x3e7774bc, 0x3e78a2d6, 0x3e79ccdf, 0x3e7af2f5, 0x3e7c1534, 0x3e7e4e99, 0x3e803cee, 0x3e814bdc,
   0x3e82546d, 0x3e8356f0, 0x3e8453b1, 0x3e854af3, 0x3e863cf6, 0x3e8729f7, 0x3e88122c, 0x3e88f5ca, 0x3e89d501, 0x3e8aaffe, 0x3e8b86ed, 0x3e8c59f6,
   0x3e8d293e, 0x3e8df4ea, 0x3e8ebd1a, 0x3e8f81ef, 0x3e904387, 0x3e9101fe, 0x3e91bd70, 0x3e9275f6, 0x3e932ba8, 0x3e93de9e, 0x3e948eee, 0x3e953cac,
   0x3e95e7ed, 0x3e9690c3, 0x3e973742, 0x3e97db7a, 0x3e987d7b, 0x3e99bb1c, 0x3e9af09a, 0x3e9c1e65, 0x3e9d44e1, 0x3e9e646b, 0x3e9f7d5a, 0x3ea08ffe,
   0x3ea19ca1, 0x3ea2a388, 0x3ea3a4f5, 0x3ea4a123, 0x3ea5984a, 0x3ea68aa0, 0x3ea77856, 0x3ea8619b, 0x3ea9469a, 0x3eaa277d, 0x3eab046b, 0x3eabdd89,
   0x3eacb2f8, 0x3ead84db, 0x3eae5350, 0x3eaf1e75, 0x3eafe666, 0x3eb0ab3e, 0x3eb16d16, 0x3eb22c06, 0x3eb2e825, 0x3eb3a189, 0x3eb45846, 0x3eb50c72]

/-- BT.2100 PQ inverse EOTF, entries 192 to 287. -/
def pqRom2 : List Nat :=
  [0x3eb5be1f, 0x3eb71a44, 0x3eb86d3d, 0x3eb9b78a, 0x3ebaf99c, 0x3ebc33df, 0x3ebd66b6, 0x3ebe927b, 0x3ebfb784, 0x3ec0d61f, 0x3ec1ee96, 0x3ec3012d,
   0x3ec40e25, 0x3ec515b9, 0x3ec61822, 0x3ec71595, 0x3ec80e43, 0x3ec9025b, 0x3ec9f209, 0x3ecadd77, 0x3ecbc4cc, 0x3ecca82d, 0x3ecd87be, 0x3ece639f,
   0x3ecf3bf1, 0x3ed010d2, 0x3ed0e25d, 0x3ed1b0af, 0x3ed27be1, 0x3ed3440c, 0x3ed40948, 0x3ed4cbaa, 0x3ed58b48, 0x3ed7028b, 0x3ed86faa, 0x3ed9d332,
   0x3edb2da4, 0x3edc7f77, 0x3eddc91b, 0x3edf0af5, 0x3ee04564, 0x3ee178c0, 0x3ee2a55a, 0x3ee3cb81, 0x3ee4eb79, 0x3ee60588, 0x3ee719eb, 0x3ee828dd,
   0x3ee93295, 0x3eea3747, 0x3eeb3724, 0x3eec325b, 0x3eed2916, 0x3eee1b80, 0x3eef09bf, 0x3eeff3f8, 0x3ef0da4e, 0x3ef1bce2, 0x3ef29bd4, 0x3ef37742,
   0x3ef44f49, 0x3ef52404, 0x3ef5f58c, 0x3ef6c3fc, 0x3ef78f69, 0x3ef91d97, 0x3efaa0c1, 0x3efc1982, 0x3efd8868, 0x3efeedf5, 0x3f002552, 0x3f00cf72,
   0x3f01758f, 0x3f0217d9, 0x3f02b67d, 0x3f0351a4, 0x3f03e975, 0x3f047e16, 0x3f050fa9, 0x3f059e4d, 0x3f062a20, 0x3f06b33f, 0x3f0739c5, 0x3f07bdcb,
   0x3f083f68, 0x3f08beb3, 0x3f093bc2, 0x3f09b6a7, 0x3f0a2f77, 0x3f0aa643, 0x3f0b1b1c, 0x3f0b8e14, 0x3f0bff38, 0x3f0c6e99, 0x3f0cdc44, 0x3f0d4846]

/-- BT.2100 PQ inverse EOTF, entries 288 to 383. -/
def pqRom3 : List Nat :=
  [0x3f0db2ad, 0x3f0e82d7, 0x3f0f4d1f, 0x3f1011d9, 0x3f10d150, 0x3f118bcc, 0x3f12418f, 0x3f12f2d4, 0x3f139fd4, 0x3f1448c2, 0x3f14edcf, 0x3f158f29,
   0x3f162cf8, 0x3f16c764, 0x3f175e92, 0x3f17f2a4, 0x3f1883bb, 0x3f1911f5, 0x3f199d6f, 0x3f1a2643, 0x3f1aac8a, 0x3f1b305e, 0x3f1bb1d4, 0x3f1c3102,
   0x3f1cadfd, 0x3f1d28d7, 0x3f1da1a3, 0x3f1e1873, 0x3f1e8d56, 0x3f1f005d, 0x3f1f7197, 0x3f1fe112, 0x3f204edb, 0x3f21258d, 0x3f21f60f, 0x3f22c0b8,
   0x3f2385dc, 0x3f2445c6, 0x3f2500ba, 0x3f25b6f9, 0x3f2668be, 0x3f271641, 0x3f27bfb3, 0x3f286546, 0x3f290725, 0x3f29a57a, 0x3f2a406b, 0x3f2ad81e,
   0x3f2b6cb3, 0x3f2bfe4c, 0x3f2c8d06, 0x3f2d18fe, 0x3f2da24e, 0x3f2e290f, 0x3f2ead5a, 0x3f2f2f46, 0x3f2faee7, 0x3f302c52, 0x3f30a799, 0x3f3120d1,
   0x3f319809, 0x3f320d52, 0x3f3280bc, 0x3f32f256, 0x3f33622f, 0x3f343cd1, 0x3f351108, 0x3f35df32, 0x3f36a7a3, 0x3f376aac, 0x3f382894, 0x3f38e19e,
   0x3f399609, 0x3f3a460c, 0x3f3af1df, 0x3f3b99b3, 0x3f3c3db5, 0x3f3cde11, 0x3f3d7aef, 0x3f3e1476, 0x3f3eaac8, 0x3f3f3e07, 0x3f3fce53, 0x3f405bc8,
   0x3f40e682, 0x3f416e9d, 0x3f41f430, 0x3f427752, 0x3f42f81b, 0x3f43769f, 0x3f43f2f2, 0x3f446d27, 0x3f44e551, 0x3f455b7f, 0x3f45cfc2, 0x3f46422a]

/-- BT.2100 PQ inverse EOTF, entries 384 to 479. -/
def pqRom4 : List Nat :=
  [0x3f46b2c6, 0x3f478ed1, 0x3f48644b, 0x3f493396, 0x3f49fd09, 0x3f4ac0f5, 0x3f4b7fa5, 0x3f4c395f, 0x3f4cee61, 0x3f4d9ee7, 0x3f4e4b28, 0x3f4ef357,
   0x3f4f97a3, 0x3f503839, 0x3f50d542, 0x3f516ee4, 0x3f520545, 0x3f529887, 0x3f5328c9, 0x3f53b629, 0x3f5440c5, 0x3f54c8b7, 0x3f554e18, 0x3f55d101,
   0x3f565187, 0x3f56cfc2, 0x3f574bc3, 0x3f57c5a1, 0x3f583d6b, 0x3f58b335, 0x3f59270e, 0x3f599907, 0x3f5a092f, 0x3f5ae442, 0x3f5bb8b3, 0x3f5c86e6,
   0x3f5d4f33, 0x3f5e11ec, 0x3f5ecf5f, 0x3f5f87d1, 0x3f603b83, 0x3f60eab1, 0x3f619592, 0x3f623c5a, 0x3f62df3b, 0x3f637e5f, 0x3f6419f2, 0x3f64b21b,
   0x3f6546ff, 0x3f65d8c0, 0x3f66677f, 0x3f66f35a, 0x3f677c6e, 0x3f6802d6, 0x3f6886ac, 0x3f690808, 0x3f698701, 0x3f6a03ac, 0x3f6a7e1f, 0x3f6af66d,
   0x3f6b6ca7, 0x3f6be0e1, 0x3f6c532a, 0x3f6cc393, 0x3f6d322a, 0x3f6e0a1e, 0x3f6edb73, 0x3f6fa68b, 0x3f706bc0, 0x3f712b66, 0x3f71e5c9, 0x3f729b2f,
   0x3f734bd9, 0x3f73f805, 0x3f749fe8, 0x3f7543b8, 0x3f75e3a5, 0x3f767fdc, 0x3f771886, 0x3f77adcc, 0x3f783fd2, 0x3f78ceba, 0x3f795aa6, 0x3f79e3b4,
   0x3f7a6a00, 0x3f7aeda6, 0x3f7b6ebf, 0x3f7bed63, 0x3f7c69aa, 0x3f7ce3a9, 0x3f7d5b74, 0x3f7dd120, 0x3f7e44be, 0x3f7eb65f, 0x3f7f2616, 0x3f7f93f1]

/-- BT.2100 PQ inverse EOTF, entries 480 to 575. -/
def pqRom5 : List Nat :=
  [0x3f800000, 0x3f800000, 0x3f800000, 0x3f800000, 0x3f800000, 0x3f800000, 0x3f800000, 0x3f800000, 0x3f800000, 0x3f800000, 0x3f800000, 0x3f800000,
   0x3f800000, 0x3f800000, 0x3f800000, 0x3f800000, 0x3f800000, 0x3f800000, 0x3f800000, 0x3f800000, 0x3f800000, 0x3f800000, 0x3f800000, 0x3f800000,
   0x3f800000, 0x3f800000, 0x3f800000, 0x3f800000, 0x3f800000, 0x3f800000, 0x3f800000, 0x3f800000, 0x3f800000, 0x3f800000, 0x3f800000, 0x3f800000,
   0x3f800000, 0x3f800000, 0x3f800000, 0x3f800000, 0x3f800000, 0x3f800000, 0x3f800000, 0x3f800000, 0x3f800000, 0x3f800000, 0x3f800000, 0x3f800000,
   0x3f800000, 0x3f800000, 0x3f800000, 0x3f800000, 0x3f800000, 0x3f800000, 0x3f800000, 0x3f800000, 0x3f800000, 0x3f800000, 0x3f800000, 0x3f800000,
   0x3f800000, 0x3f800000, 0x3f800000, 0x3f800000, 0x3f800000, 0x3f800000, 0x3f800000, 0x3f800000, 0x3f800000, 0x3f800000, 0x3f800000, 0x3f800000,
   0x3f800000, 0x3f800000, 0x3f800000, 0x3f800000, 0x3f800000, 0x3f800000, 0x3f800000, 0x3f800000, 0x3f800000, 0x3f800000, 0x3f800000, 0x3f800000,
   0x3f800000, 0x3f800000, 0x3f800000, 0x3f800000, 0x3f800000, 0x3f800000, 0x3f800000, 0x3f800000, 0x3f800000, 0x3f800000, 0x3f800000, 0x3f800000]

/-- BT.2100 PQ inverse EOTF, entries 576 to 671. -/
def pqRom6 : List Nat :=
  [0x3f800000, 0x3f800000, 0x3f800000, 0x3f800000, 0x3f800000, 0x3f800000, 0x3f800000, 0x3f800000, 0x3f800000, 0x3f800000, 0x3f800000, 0x3f800000,
   0x3f800000, 0x3f800000, 0x3f800000, 0x3f800000, 0x3f800000, 0x3f800000, 0x3f800000, 0x3f800000, 0x3f800000, 0x3f800000, 0x3f800000, 0x3f800000,
   0x3f800000, 0x3f800000, 0x3f800000, 0x3f800000, 0x3f800000, 0x3f800000, 0x3f800000, 0x3f800000, 0x3f800000, 0x3f800000, 0x3f800000, 0x3f800000,
   0x3f800000, 0x3f800000, 0x3f800000, 0x3f800000, 0x3f800000, 0x3f800000, 0x3f800000, 0x3f800000, 0x3f800000, 0x3f800000, 0x3f800000, 0x3f800000,
   0x3f800000, 0x3f800000, 0x3f800000, 0x3f800000, 0x3f800000, 0x3f800000, 0x3f800000, 0x3f800000, 0x3f800000, 0x3f800000, 0x3f800000, 0x3f800000,
   0x3f800000, 0x3f800000, 0x3f800000, 0x3f800000, 0x3f800000, 0x3f800000, 0x3f800000, 0x3f800000, 0x3f800000, 0x3f800000, 0x3f800000, 0x3f800000,
   0x3f800000, 0x3f800000, 0x3f800000, 0x3f800000, 0x3f800000, 0x3f800000, 0x3f800000, 0x3f800000, 0x3f800000, 0x3f800000, 0x3f800000, 0x3f800000,
   0x3f800000, 0x3f800000, 0x3f800000, 0x3f800000, 0x3f800000, 0x3f800000, 0x3f800000, 0x3f800000, 0x3f800000, 0x3f800000, 0x3f800000, 0x3f800000]

/-- BT.2100 PQ inverse EOTF, entries 672 to 767. -/
def pqRom7 : List Nat :=
  [0x3f800000, 0x3f800000, 0x3f800000, 0x3f800000, 0x3f800000, 0x3f800000, 0x3f800000, 0x3f800000, 0x3f800000, 0x3f800000, 0x3f800000, 0x3f800000,
   0x3f800000, 0x3f800000, 0x3f800000, 0x3f800000, 0x3f800000, 0x3f800000, 0x3f800000, 0x3f800000, 0x3f800000, 0x3f800000, 0x3f800000, 0x3f800000,
   0x3f800000, 0x3f800000, 0x3f800000, 0x3f800000, 0x3f800000, 0x3f800000, 0x3f800000, 0x3f800000, 0x3f800000, 0x3f800000, 0x3f800000, 0x3f800000,
   0x3f800000, 0x3f800000, 0x3f800000, 0x3f800000, 0x3f800000, 0x3f800000, 0x3f800000, 0x3f800000, 0x3f800000, 0x3f800000, 0x3f800000, 0x3f800000,
   0x3f800000, 0x3f800000, 0x3f800000, 0x3f800000, 0x3f800000, 0x3f800000, 0x3f800000, 0x3f800000, 0x3f800000, 0x3f800000, 0x3f800000, 0x3f800000,
   0x3f800000, 0x3f800000, 0x3f800000, 0x3f800000, 0x3f800000, 0x3f800000, 0x3f800000, 0x3f800000, 0x3f800000, 0x3f800000, 0x3f800000, 0x3f800000,
   0x3f800000, 0x3f800000, 0x3f800000, 0x3f800000, 0x3f800000, 0x3f800000, 0x3f800000, 0x3f800000, 0x3f800000, 0x3f800000, 0x3f800000, 0x3f800000,
   0x3f800000, 0x3f800000, 0x3f800000, 0x3f800000, 0x3f800000, 0x3f800000, 0x3f800000, 0x3f800000, 0x3f800000, 0x3f800000, 0x3f800000, 0x3f800000]

/-- BT.2100 PQ inverse EOTF, entries 768 to 863. -/
def pqRom8 : List Nat :=
  [0x3f800000, 0x3f800000, 0x3f800000, 0x3f800000, 0x3f800000, 0x3f800000, 0x3f800000, 0x3f800000, 0x3f800000, 0x3f800000, 0x3f800000, 0x3f800000,
   0x3f800000, 0x3f800000, 0x3f800000, 0x3f800000, 0x3f800000, 0x3f800000, 0x3f800000, 0x3f800000, 0x3f800000, 0x3f800000, 0x3f800000, 0x3f800000,
   0x3f800000, 0x3f800000, 0x3f800000, 0x3f800000, 0x3f800000, 0x3f800000, 0x3f800000, 0x3f800000, 0x3f800000, 0x3f800000, 0x3f800000, 0x3f800000,
   0x3f800000, 0x3f800000, 0x3f800000, 0x3f800000, 0x3f800000, 0x3f800000, 0x3f800000, 0x3f800000, 0x3f800000, 0x3f800000, 0x3f800000, 0x3f800000,
   0x3f800000, 0x3f800000, 0x3f800000, 0x3f800000, 0x3f800000, 0x3f800000, 0x3f800000, 0x3f800000, 0x3f800000, 0x3f800000, 0x3f800000, 0x3f800000,
   0x3f800000, 0x3f800000, 0x3f800000, 0x3f800000, 0x3f800000, 0x3f800000, 0x3f800000, 0x3f800000, 0x3f800000, 0x3f800000, 0x3f800000, 0x3f800000,
   0x3f800000, 0x3f800000, 0x3f800000, 0x3f800000, 0x3f800000, 0x3f800000, 0x3f800000, 0x3f800000, 0x3f800000, 0x3f800000, 0x3f800000, 0x3f800000,
   0x3f800000, 0x3f800000, 0x3f800000, 0x3f800000, 0x3f800000, 0x3f800000, 0x3f800000, 0x3f800000, 0x3f800000, 0x3f800000, 0x3f800000, 0x3f800000]

/-- BT.2100 PQ inverse EOTF, entries 864 to 959. -/
def pqRom9 : List Nat :=
  [0x3f800000, 0x3f800000, 0x3f800000, 0x3f800000, 0x3f800000, 0x3f800000, 0x3f800000, 0x3f800000, 0x3f800000, 0x3f800000, 0x3f800000, 0x3f800000,
   0x3f800000, 0x3f800000, 0x3f800000, 0x3f800000, 0x3f800000, 0x3f800000, 0x3f800000, 0x3f800000, 0x3f800000, 0x3f800000, 0x3f800000, 0x3f800000,
   0x3f800000, 0x3f800000, 0x3f800000, 0x3f800000, 0x3f800000, 0x3f800000, 0x3f800000, 0x3f800000, 0x3f800000, 0x3f800000, 0x3f800000, 0x3f800000,
   0x3f800000, 0x3f800000, 0x3f800000, 0x3f800000, 0x3f800000, 0x3f800000, 0x3f800000, 0x3f800000, 0x3f800000, 0x3f800000, 0x3f800000, 0x3f800000,
   0x3f800000, 0x3f800000, 0x3f800000, 0x3f800000, 0x3f800000, 0x3f800000, 0x3f800000, 0x3f800000, 0x3f800000, 0x3f800000, 0x3f800000, 0x3f800000,
   0x3f800000, 0x3f800000, 0x3f800000, 0x3f800000, 0x3f800000, 0x3f800000, 0x3f800000, 0x3f800000, 0x3f800000, 0x3f800000, 0x3f800000, 0x3f800000,
   0x3f800000, 0x3f800000, 0x3f800000, 0x3f800000, 0x3f800000, 0x3f800000, 0x3f800000, 0x3f800000, 0x3f800000, 0x3f800000, 0x3f800000, 0x3f800000,
   0x3f800000, 0x3f800000, 0x3f800000, 0x3f800000, 0x3f800000, 0x3f800000, 0x3f800000, 0x3f800000, 0x3f800000, 0x3f800000, 0x3f800000, 0x3f800000]

/-- BT.2100 PQ inverse EOTF, entries 960 to 992. -/
def pqRom10 : List Nat :=
  [0x3f800000, 0x3f800000, 0x3f800000, 0x3f800000, 0x3f800000, 0x3f800000, 0x3f800000, 0x3f800000, 0x3f800000, 0x3f800000, 0x3f800000, 0x3f800000,
   0x3f800000, 0x3f800000, 0x3f800000, 0x3f800000, 0x3f800000, 0x3f800000, 0x3f800000, 0x3f800000, 0x3f800000, 0x3f800000, 0x3f800000, 0x3f800000,
   0x3f800000, 0x3f800000, 0x3f800000, 0x3f800000, 0x3f800000, 0x3f800000, 0x3f800000, 0x3f800000, 0x3f800000]

/-- BT.2100 PQ inverse EOTF (R112). -/
def pqRom : List Nat := pqRom0 ++ pqRom1 ++ pqRom2 ++ pqRom3 ++ pqRom4 ++ pqRom5 ++ pqRom6 ++ pqRom7 ++ pqRom8 ++ pqRom9 ++ pqRom10

/-- BT.2100 HLG OETF, entries 0 to 95. -/
def hlgRom0 : List Nat :=
  [0x0, 0x3b1cc471, 0x3b5db3d7, 0x3b87c3b6, 0x3b9cc471, 0x3baf456f, 0x3bc00000, 0x3bcf623a, 0x3bddb3d7, 0x3beb26a9, 0x3bf7def6, 0x3c01fc10,
   0x3c07c3b6, 0x3c0d4ee4, 0x3c12a476, 0x3c17ca11, 0x3c1cc471, 0x3c219792, 0x3c2646e1, 0x3c2ad550, 0x3c2f456f, 0x3c33997c, 0x3c37d375, 0x3c3bf51b,
   0x3c400000, 0x3c43f58d, 0x3c47d706, 0x3c4ba592, 0x3c4f623a, 0x3c530df3, 0x3c56a99b, 0x3c5a35fe, 0x3c5db3d7, 0x3c6123d4, 0x3c648695, 0x3c67dcae,
   0x3c6b26a9, 0x3c6e6507, 0x3c71983e, 0x3c74c0c0, 0x3c77def6, 0x3c7af340, 0x3c7dfdfc, 0x3c807fc0, 0x3c81fc10, 0x3c837413, 0x3c84e7ee, 0x3c8657c5,
   0x3c87c3b6, 0x3c892be3, 0x3c8a9067, 0x3c8bf15e, 0x3c8d4ee4, 0x3c8ea912, 0x3c900000, 0x3c9153c4, 0x3c92a476, 0x3c93f229, 0x3c953cf2, 0x3c9684e4,
   0x3c97ca11, 0x3c990c8c, 0x3c9a4c65, 0x3c9b89ac, 0x3c9cc471, 0x3c9f32af, 0x3ca19792, 0x3ca3f383, 0x3ca646e1, 0x3ca8920a, 0x3caad550, 0x3cad1104,
   0x3caf456f, 0x3cb172d6, 0x3cb3997c, 0x3cb5b99e, 0x3cb7d375, 0x3cb9e738, 0x3cbbf51b, 0x3cbdfd4e, 0x3cc00000, 0x3cc1fd5c, 0x3cc3f58d, 0x3cc5e8b9,
   0x3cc7d706, 0x3cc9c098, 0x3ccba592, 0x3ccd8613, 0x3ccf623a, 0x3cd13a26, 0x3cd30df3, 0x3cd4ddbc, 0x3cd6a99b, 0x3cd871a9, 0x3cda35fe, 0x3cdbf6b1]

/-- BT.2100 HLG OETF, entries 96 to 191. -/
def hlgRom1 : List Nat :=
  [0x3cddb3d7, 0x3ce123d4, 0x3ce48695, 0x3ce7dcae, 0x3ceb26a9, 0x3cee6507, 0x3cf1983e, 0x3cf4c0c0, 0x3cf7def6, 0x3cfaf340, 0x3cfdfdfc, 0x3d007fc0,
   0x3d01fc10, 0x3d037413, 0x3d04e7ee, 0x3d0657c5, 0x3d07c3b6, 0x3d092be3, 0x3d0a9067, 0x3d0bf15e, 0x3d0d4ee4, 0x3d0ea912, 0x3d100000, 0x3d1153c4,
   0x3d12a476, 0x3d13f229, 0x3d153cf2, 0x3d1684e4, 0x3d17ca11, 0x3d190c8c, 0x3d1a4c65, 0x3d1b89ac, 0x3d1cc471, 0x3d1f32af, 0x3d219792, 0x3d23f383,
   0x3d2646e1, 0x3d28920a, 0x3d2ad550, 0x3d2d1104, 0x3d2f456f, 0x3d3172d6, 0x3d33997c, 0x3d35b99e, 0x3d37d375, 0x3d39e738, 0x3d3bf51b, 0x3d3dfd4e,
   0x3d400000, 0x3d41fd5c, 0x3d43f58d, 0x3d45e8b9, 0x3d47d706, 0x3d49c098, 0x3d4ba592, 0x3d4d8613, 0x3d4f623a, 0x3d513a26, 0x3d530df3, 0x3d54ddbc,
   0x3d56a99b, 0x3d5871a9, 0x3d5a35fe, 0x3d5bf6b1, 0x3d5db3d7, 0x3d6123d4, 0x3d648695, 0x3d67dcae, 0x3d6b26a9, 0x3d6e6507, 0x3d71983e, 0x3d74c0c0,
   0x3d77def6, 0x3d7af340, 0x3d7dfdfc, 0x3d807fc0, 0x3d81fc10, 0x3d837413, 0x3d84e7ee, 0x3d8657c5, 0x3d87c3b6, 0x3d892be3, 0x3d8a9067, 0x3d8bf15e,
   0x3d8d4ee4, 0x3d8ea912, 0x3d900000, 0x3d9153c4, 0x3d92a476, 0x3d93f229, 0x3d953cf2, 0x3d9684e4, 0x3d97ca11, 0x3d990c8c, 0x3d9a4c65, 0x3d9b89ac]

/-- BT.2100 HLG OETF, entries 192 to 287. -/
def hlgRom2 : List Nat :=
  [0x3d9cc471, 0x3d9f32af, 0x3da19792, 0x3da3f383, 0x3da646e1, 0x3da8920a, 0x3daad550, 0x3dad1104, 0x3daf456f, 0x3db172d6, 0x3db3997c, 0x3db5b99e,
   0x3db7d375, 0x3db9e738, 0x3dbbf51b, 0x3dbdfd4e, 0x3dc00000, 0x3dc1fd5c, 0x3dc3f58d, 0x3dc5e8b9, 0x3dc7d706, 0x3dc9c098, 0x3dcba592, 0x3dcd8613,
   0x3dcf623a, 0x3dd13a26, 0x3dd30df3, 0x3dd4ddbc, 0x3dd6a99b, 0x3dd871a9, 0x3dda35fe, 0x3ddbf6b1, 0x3dddb3d7, 0x3de123d4, 0x3de48695, 0x3de7dcae,
   0x3deb26a9, 0x3dee6507, 0x3df1983e, 0x3df4c0c0, 0x3df7def6, 0x3dfaf340, 0x3dfdfdfc, 0x3e007fc0, 0x3e01fc10, 0x3e037413, 0x3e04e7ee, 0x3e0657c5,
   0x3e07c3b6, 0x3e092be3, 0x3e0a9067, 0x3e0bf15e, 0x3e0d4ee4, 0x3e0ea912, 0x3e100000, 0x3e1153c4, 0x3e12a476, 0x3e13f229, 0x3e153cf2, 0x3e1684e4,
   0x3e17ca11, 0x3e190c8c, 0x3e1a4c65, 0x3e1b89ac, 0x3e1cc471, 0x3e1f32af, 0x3e219792, 0x3e23f383, 0x3e2646e1, 0x3e28920a, 0x3e2ad550, 0x3e2d1104,
   0x3e2f456f, 0x3e3172d6, 0x3e33997c, 0x3e35b99e, 0x3e37d375, 0x3e39e738, 0x3e3bf51b, 0x3e3dfd4e, 0x3e400000, 0x3e41fd5c, 0x3e43f58d, 0x3e45e8b9,
   0x3e47d706, 0x3e49c098, 0x3e4ba592, 0x3e4d8613, 0x3e4f623a, 0x3e513a26, 0x3e530df3, 0x3e54ddbc, 0x3e56a99b, 0x3e5871a9, 0x3e5a35fe, 0x3e5bf6b1]

/-- BT.2100 HLG OETF, entries 288 to 383. -/
def hlgRom3 : List Nat :=
  [0x3e5db3d7, 0x3e6123d4, 0x3e648695, 0x3e67dcae, 0x3e6b26a9, 0x3e6e6507, 0x3e71983e, 0x3e74c0c0, 0x3e77def6, 0x3e7af340, 0x3e7dfdfc, 0x3e807fc0,
   0x3e81fc10, 0x3e837413, 0x3e84e7ee, 0x3e8657c5, 0x3e87c3b6, 0x3e892be3, 0x3e8a9067, 0x3e8bf15e, 0x3e8d4ee4, 0x3e8ea912, 0x3e900000, 0x3e9153c4,
   0x3e92a476, 0x3e93f229, 0x3e953cf2, 0x3e9684e4, 0x3e97ca11, 0x3e990c8c, 0x3e9a4c65, 0x3e9b89ac, 0x3e9cc471, 0x3e9f32af, 0x3ea19792, 0x3ea3f383,
   0x3ea646e1, 0x3ea8920a, 0x3eaad550, 0x3ead1104, 0x3eaf456f, 0x3eb172d6, 0x3eb3997c, 0x3eb5b99e, 0x3eb7d375, 0x3eb9e738, 0x3ebbf51b, 0x3ebdfd4e,
   0x3ec00000, 0x3ec1fd5c, 0x3ec3f58d, 0x3ec5e8b9, 0x3ec7d706, 0x3ec9c098, 0x3ecba592, 0x3ecd8613, 0x3ecf623a, 0x3ed13a26, 0x3ed30df3, 0x3ed4ddbc,
   0x3ed6a99b, 0x3ed871a9, 0x3eda35fe, 0x3edbf6b1, 0x3eddb3d7, 0x3ee123d4, 0x3ee48695, 0x3ee7dcae, 0x3eeb26a9, 0x3eee6507, 0x3ef1983e, 0x3ef4c0c0,
   0x3ef7def6, 0x3efaf340, 0x3efdfdfc, 0x3f007f4e, 0x3f01f522, 0x3f035f67, 0x3f04becf, 0x3f0613fc, 0x3f075f82, 0x3f08a1ea, 0x3f09dbaf, 0x3f0b0d47,
   0x3f0c371a, 0x3f0d598b, 0x3f0e74f6, 0x3f0f89b1, 0x3f109808, 0x3f11a048, 0x3f12a2b4, 0x3f139f8c, 0x3f14970e, 0x3f158971, 0x3f1676ea, 0x3f175fad]

/-- BT.2100 HLG OETF, entries 384 to 479. -/
def hlgRom4 : List Nat :=
  [0x3f1843e6, 0x3f19ff70, 0x3f1baacd, 0x3f1d4720, 0x3f1ed56f, 0x3f2056a7, 0x3f21cb9c, 0x3f233511, 0x3f2493b5, 0x3f25e829, 0x3f273300, 0x3f2874c2,
   0x3f29adeb, 0x3f2adeee, 0x3f2c0834, 0x3f2d2a1f, 0x3f2e450b, 0x3f2f594b, 0x3f30672f, 0x3f316eff, 0x3f327101, 0x3f336d74, 0x3f346494, 0x3f355699,
   0x3f3643b9, 0x3f372c25, 0x3f38100c, 0x3f38ef9a, 0x3f39caf9, 0x3f3aa250, 0x3f3b75c5, 0x3f3c457a, 0x3f3d1191, 0x3f3e9f62, 0x3f402024, 0x3f4194aa,
   0x3f42fdb6, 0x3f445bf8, 0x3f45b010, 0x3f46fa91, 0x3f483c01, 0x3f4974dc, 0x3f4aa594, 0x3f4bce94, 0x3f4cf03c, 0x3f4e0ae8, 0x3f4f1eec, 0x3f502c95,
   0x3f51342e, 0x3f5235fb, 0x3f53323b, 0x3f54292a, 0x3f551b01, 0x3f5607f4, 0x3f56f036, 0x3f57d3f3, 0x3f58b35a, 0x3f598e92, 0x3f5a65c4, 0x3f5b3915,
   0x3f5c08a8, 0x3f5cd49d, 0x3f5d9d16, 0x3f5e6230, 0x3f5f2407, 0x3f609e59, 0x3f620cd6, 0x3f637035, 0x3f64c920, 0x3f66182e, 0x3f675deb, 0x3f689ada,
   0x3f69cf70, 0x3f6afc1b, 0x3f6c2141, 0x3f6d3f40, 0x3f6e566f, 0x3f6f671e, 0x3f70719a, 0x3f71762a, 0x3f72750e, 0x3f736e86, 0x3f7462cb, 0x3f755213,
   0x3f763c91, 0x3f772275, 0x3f7803ee, 0x3f78e125, 0x3f79ba43, 0x3f7a8f6d, 0x3f7b60c9, 0x3f7c2e79, 0x3f7cf89c, 0x3f7dbf52, 0x3f7e82b7, 0x3f7f42e8]

/-- BT.2100 HLG OETF, entries 480 to 575. -/
def hlgRom5 : List Nat :=
  [0x3f800000, 0x3f800000, 0x3f800000, 0x3f800000, 0x3f800000, 0x3f800000, 0x3f800000, 0x3f800000, 0x3f800000, 0x3f800000, 0x3f800000, 0x3f800000,
   0x3f800000, 0x3f800000, 0x3f800000, 0x3f800000, 0x3f800000, 0x3f800000, 0x3f800000, 0x3f800000, 0x3f800000, 0x3f800000, 0x3f800000, 0x3f800000,
   0x3f800000, 0x3f800000, 0x3f800000, 0x3f800000, 0x3f800000, 0x3f800000, 0x3f800000, 0x3f800000, 0x3f800000, 0x3f800000, 0x3f800000, 0x3f800000,
   0x3f800000, 0x3f800000, 0x3f800000, 0x3f800000, 0x3f800000, 0x3f800000, 0x3f800000, 0x3f800000, 0x3f800000, 0x3f800000, 0x3f800000, 0x3f800000,
   0x3f800000, 0x3f800000, 0x3f800000, 0x3f800000, 0x3f800000, 0x3f800000, 0x3f800000, 0x3f800000, 0x3f800000, 0x3f800000, 0x3f800000, 0x3f800000,
   0x3f800000, 0x3f800000, 0x3f800000, 0x3f800000, 0x3f800000, 0x3f800000, 0x3f800000, 0x3f800000, 0x3f800000, 0x3f800000, 0x3f800000, 0x3f800000,
   0x3f800000, 0x3f800000, 0x3f800000, 0x3f800000, 0x3f800000, 0x3f800000, 0x3f800000, 0x3f800000, 0x3f800000, 0x3f800000, 0x3f800000, 0x3f800000,
   0x3f800000, 0x3f800000, 0x3f800000, 0x3f800000, 0x3f800000, 0x3f800000, 0x3f800000, 0x3f800000, 0x3f800000, 0x3f800000, 0x3f800000, 0x3f800000]

/-- BT.2100 HLG OETF, entries 576 to 671. -/
def hlgRom6 : List Nat :=
  [0x3f800000, 0x3f800000, 0x3f800000, 0x3f800000, 0x3f800000, 0x3f800000, 0x3f800000, 0x3f800000, 0x3f800000, 0x3f800000, 0x3f800000, 0x3f800000,
   0x3f800000, 0x3f800000, 0x3f800000, 0x3f800000, 0x3f800000, 0x3f800000, 0x3f800000, 0x3f800000, 0x3f800000, 0x3f800000, 0x3f800000, 0x3f800000,
   0x3f800000, 0x3f800000, 0x3f800000, 0x3f800000, 0x3f800000, 0x3f800000, 0x3f800000, 0x3f800000, 0x3f800000, 0x3f800000, 0x3f800000, 0x3f800000,
   0x3f800000, 0x3f800000, 0x3f800000, 0x3f800000, 0x3f800000, 0x3f800000, 0x3f800000, 0x3f800000, 0x3f800000, 0x3f800000, 0x3f800000, 0x3f800000,
   0x3f800000, 0x3f800000, 0x3f800000, 0x3f800000, 0x3f800000, 0x3f800000, 0x3f800000, 0x3f800000, 0x3f800000, 0x3f800000, 0x3f800000, 0x3f800000,
   0x3f800000, 0x3f800000, 0x3f800000, 0x3f800000, 0x3f800000, 0x3f800000, 0x3f800000, 0x3f800000, 0x3f800000, 0x3f800000, 0x3f800000, 0x3f800000,
   0x3f800000, 0x3f800000, 0x3f800000, 0x3f800000, 0x3f800000, 0x3f800000, 0x3f800000, 0x3f800000, 0x3f800000, 0x3f800000, 0x3f800000, 0x3f800000,
   0x3f800000, 0x3f800000, 0x3f800000, 0x3f800000, 0x3f800000, 0x3f800000, 0x3f800000, 0x3f800000, 0x3f800000, 0x3f800000, 0x3f800000, 0x3f800000]

/-- BT.2100 HLG OETF, entries 672 to 767. -/
def hlgRom7 : List Nat :=
  [0x3f800000, 0x3f800000, 0x3f800000, 0x3f800000, 0x3f800000, 0x3f800000, 0x3f800000, 0x3f800000, 0x3f800000, 0x3f800000, 0x3f800000, 0x3f800000,
   0x3f800000, 0x3f800000, 0x3f800000, 0x3f800000, 0x3f800000, 0x3f800000, 0x3f800000, 0x3f800000, 0x3f800000, 0x3f800000, 0x3f800000, 0x3f800000,
   0x3f800000, 0x3f800000, 0x3f800000, 0x3f800000, 0x3f800000, 0x3f800000, 0x3f800000, 0x3f800000, 0x3f800000, 0x3f800000, 0x3f800000, 0x3f800000,
   0x3f800000, 0x3f800000, 0x3f800000, 0x3f800000, 0x3f800000, 0x3f800000, 0x3f800000, 0x3f800000, 0x3f800000, 0x3f800000, 0x3f800000, 0x3f800000,
   0x3f800000, 0x3f800000, 0x3f800000, 0x3f800000, 0x3f800000, 0x3f800000, 0x3f800000, 0x3f800000, 0x3f800000, 0x3f800000, 0x3f800000, 0x3f800000,
   0x3f800000, 0x3f800000, 0x3f800000, 0x3f800000, 0x3f800000, 0x3f800000, 0x3f800000, 0x3f800000, 0x3f800000, 0x3f800000, 0x3f800000, 0x3f800000,
   0x3f800000, 0x3f800000, 0x3f800000, 0x3f800000, 0x3f800000, 0x3f800000, 0x3f800000, 0x3f800000, 0x3f800000, 0x3f800000, 0x3f800000, 0x3f800000,
   0x3f800000, 0x3f800000, 0x3f800000, 0x3f800000, 0x3f800000, 0x3f800000, 0x3f800000, 0x3f800000, 0x3f800000, 0x3f800000, 0x3f800000, 0x3f800000]

/-- BT.2100 HLG OETF, entries 768 to 863. -/
def hlgRom8 : List Nat :=
  [0x3f800000, 0x3f800000, 0x3f800000, 0x3f800000, 0x3f800000, 0x3f800000, 0x3f800000, 0x3f800000, 0x3f800000, 0x3f800000, 0x3f800000, 0x3f800000,
   0x3f800000, 0x3f800000, 0x3f800000, 0x3f800000, 0x3f800000, 0x3f800000, 0x3f800000, 0x3f800000, 0x3f800000, 0x3f800000, 0x3f800000, 0x3f800000,
   0x3f800000, 0x3f800000, 0x3f800000, 0x3f800000, 0x3f800000, 0x3f800000, 0x3f800000, 0x3f800000, 0x3f800000, 0x3f800000, 0x3f800000, 0x3f800000,
   0x3f800000, 0x3f800000, 0x3f800000, 0x3f800000, 0x3f800000, 0x3f800000, 0x3f800000, 0x3f800000, 0x3f800000, 0x3f800000, 0x3f800000, 0x3f800000,
   0x3f800000, 0x3f800000, 0x3f800000, 0x3f800000, 0x3f800000, 0x3f800000, 0x3f800000, 0x3f800000, 0x3f800000, 0x3f800000, 0x3f800000, 0x3f800000,
   0x3f800000, 0x3f800000, 0x3f800000, 0x3f800000, 0x3f800000, 0x3f800000, 0x3f800000, 0x3f800000, 0x3f800000, 0x3f800000, 0x3f800000, 0x3f800000,
   0x3f800000, 0x3f800000, 0x3f800000, 0x3f800000, 0x3f800000, 0x3f800000, 0x3f800000, 0x3f800000, 0x3f800000, 0x3f800000, 0x3f800000, 0x3f800000,
   0x3f800000, 0x3f800000, 0x3f800000, 0x3f800000, 0x3f800000, 0x3f800000, 0x3f800000, 0x3f800000, 0x3f800000, 0x3f800000, 0x3f800000, 0x3f800000]

/-- BT.2100 HLG OETF, entries 864 to 959. -/
def hlgRom9 : List Nat :=
  [0x3f800000, 0x3f800000, 0x3f800000, 0x3f800000, 0x3f800000, 0x3f800000, 0x3f800000, 0x3f800000, 0x3f800000, 0x3f800000, 0x3f800000, 0x3f800000,
   0x3f800000, 0x3f800000, 0x3f800000, 0x3f800000, 0x3f800000, 0x3f800000, 0x3f800000, 0x3f800000, 0x3f800000, 0x3f800000, 0x3f800000, 0x3f800000,
   0x3f800000, 0x3f800000, 0x3f800000, 0x3f800000, 0x3f800000, 0x3f800000, 0x3f800000, 0x3f800000, 0x3f800000, 0x3f800000, 0x3f800000, 0x3f800000,
   0x3f800000, 0x3f800000, 0x3f800000, 0x3f800000, 0x3f800000, 0x3f800000, 0x3f800000, 0x3f800000, 0x3f800000, 0x3f800000, 0x3f800000, 0x3f800000,
   0x3f800000, 0x3f800000, 0x3f800000, 0x3f800000, 0x3f800000, 0x3f800000, 0x3f800000, 0x3f800000, 0x3f800000, 0x3f800000, 0x3f800000, 0x3f800000,
   0x3f800000, 0x3f800000, 0x3f800000, 0x3f800000, 0x3f800000, 0x3f800000, 0x3f800000, 0x3f800000, 0x3f800000, 0x3f800000, 0x3f800000, 0x3f800000,
   0x3f800000, 0x3f800000, 0x3f800000, 0x3f800000, 0x3f800000, 0x3f800000, 0x3f800000, 0x3f800000, 0x3f800000, 0x3f800000, 0x3f800000, 0x3f800000,
   0x3f800000, 0x3f800000, 0x3f800000, 0x3f800000, 0x3f800000, 0x3f800000, 0x3f800000, 0x3f800000, 0x3f800000, 0x3f800000, 0x3f800000, 0x3f800000]

/-- BT.2100 HLG OETF, entries 960 to 992. -/
def hlgRom10 : List Nat :=
  [0x3f800000, 0x3f800000, 0x3f800000, 0x3f800000, 0x3f800000, 0x3f800000, 0x3f800000, 0x3f800000, 0x3f800000, 0x3f800000, 0x3f800000, 0x3f800000,
   0x3f800000, 0x3f800000, 0x3f800000, 0x3f800000, 0x3f800000, 0x3f800000, 0x3f800000, 0x3f800000, 0x3f800000, 0x3f800000, 0x3f800000, 0x3f800000,
   0x3f800000, 0x3f800000, 0x3f800000, 0x3f800000, 0x3f800000, 0x3f800000, 0x3f800000, 0x3f800000, 0x3f800000]

/-- BT.2100 HLG OETF (R112). -/
def hlgRom : List Nat := hlgRom0 ++ hlgRom1 ++ hlgRom2 ++ hlgRom3 ++ hlgRom4 ++ hlgRom5 ++ hlgRom6 ++ hlgRom7 ++ hlgRom8 ++ hlgRom9 ++ hlgRom10

/-- The preset table of TF_SEL 1 to 3 (R112). -/
def presetTable (sel k : Nat) : F32 :=
  w32 (nth 0 (if sel = 1 then bt709Rom else if sel = 2 then pqRom else hlgRom) k)

end Sys2Proof.Machine
end

