-- ==== Sys2Proof/Machine/Clr.lean ====
section
/-! DEFINITION. The colour engine at work: frames through a pipeline, commits, calibration, the spare slice, taps, LUT loads, outputs and the table window (R79, R82 to R86, R90 to R96, R106, R107, R113 to R115, R122). -/

namespace Sys2Proof.Machine

/-! ### Outputs against their limits (R114) -/

/-- One geometry within its limits: size range, crop inside the frame, box dividing the crop. -/
def geomOk (g : OutGeom) (w h minW maxW minH maxH : Nat) : Bool :=
  decide (minW ≤ g.ow ∧ g.ow ≤ maxW ∧ minH ≤ g.oh ∧ g.oh ≤ maxH ∧ g.x0 + g.cw ≤ w ∧ g.y0 + g.ch ≤ h ∧
    g.cw % g.box = 0 ∧ g.ch % g.box = 0) &&
  f32Le 0x3E800000#32 g.sx && f32Le g.sx 0x40800000#32 && f32Le 0x3E800000#32 g.sy && f32Le g.sy 0x40800000#32

/-- The size of a frame in output `n`'s buffers, header included. -/
def otFrameBytes (u : Nat → Word) (p n : Nat) : Nat :=
  let stride := (u (R.CLR_OT_STRIDE p n)).toNat
  let g := otGeom u p n
  if n = 1 then 64 + stride * g.oh + stride * (if bitAt (u (R.CLR_OT1_FMT p)) 0 then g.oh / 2 else g.oh)
  else if n = 2 then 64 + (roisOn u p).foldl (fun a r => a + up64 (roiBytes u p r)) 0
  else 64 + stride * g.oh

def otOn (u : Nat → Word) (p n : Nat) : Bool := bitAt (u (R.CLR_OT_CTRL p n)) 0

/-- The custom table of output `n` (1 to 3) is VALID (R122). -/
def tableValid (s : State) (p n : Nat) : Bool := rbit s R.CLR_TW_VALID (4 * p + n - 1)

/-- The first region (0 but for OT2) of output `n` that fails R114, if any. -/
def otFails (s : State) (u : Nat → Word) (p w h n : Nat) : Option Nat :=
  let c := u (R.CLR_OT_CTRL p n)
  let g := otGeom u p n
  let tf := getBits c 6 4
  let common := (bitAt c 1 || decide (getBits (u (R.CLR_WS_SEL p)) 1 0 ≠ 2)) &&
    (decide (tf ≠ 4) || tableValid s p n) &&
    (decide (n = 0) || (decide ((u (R.CLR_OT_BUFSZ p n)).toNat % 4096 = 0) &&
      decide (otFrameBytes u p n ≤ (u (R.CLR_OT_BUFSZ p n)).toNat)))
  if n = 0 then
    (if common && decide (tf = 0) && geomOk g w h 16 16384 16 8192 then none else some 0)
  else if n = 1 then
    (if common && !bitAt c 16 && geomOk g w h 64 8192 64 4320 && decide (g.ow % 2 = 0 ∧ g.oh % 2 = 0) then none else some 0)
  else if n = 2 then
    (if !common || (roisOn u p).isEmpty then some 0
     else (roisOn u p).find? fun r => !geomOk (roiGeom u p r) w h 16 4096 16 4096)
  else (if common && geomOk g w h 64 7680 64 4320 then none else some 0)

/-- The first enabled output that fails, with its region. -/
def otsFail (s : State) (u : Nat → Word) (p w h : Nat) : Option (Nat × Nat) :=
  (upto 4).findSome? fun n => if otOn u p n then (otFails s u p w h n).map (fun r => (n, r)) else none

/-! ### Calibration (R82, R83) -/

def calState (s : State) (p : Nat) : Nat := rfld s (R.CLR_DARK_CTRL p) 17 16
def setCalState (p v : Nat) (s : State) : State := rsetFld (R.CLR_DARK_CTRL p) 17 16 v s

/-- A calibration that runs ends with ABORTED and E_CAL_ABORT; both banks stay (R83). DESIGN CHOICE (log 129): it raises no CAL_DONE. -/
def calAbort (p : Nat) (s : State) : State :=
  if calState s p = 0 then s
  else
    let st := calState s p
    let s1 := setClr p { clrAt s p with cal := none } (setCalState p 0 s)
    raiseErr (pg 3 p) 0x11 (w32 st) (rset (R.CLR_CAL_RESULT p) (w32 3) s1)

/-- Where the calibration sum of a site lies: 4 bytes per site (R82). DESIGN CHOICE (log 129): sites row by row, each sum signed,
least significant byte first. -/
def calAddr (s : State) (p w x y : Nat) : Nat := rnat2 s (R.CLR_CAL_SCRATCH p) + 4 * (y * w + x)

/-- Add one frame's S - BLACK[id] to the sums; the first frame starts them (R82). -/
def calAccumulate (p : Nat) (f : ClrFrame) (first : Bool) (s : State) : State :=
  let u := fun a => smGet (coldWord a) f.use a
  (upto f.height).foldl (fun s y => (upto f.width).foldl (fun s x =>
    let smp : Nat := nth 0 (nth [] f.lines y) x
    let d : Int := (smp : Int) - (blackLevel u p (cfaId u p x y) : Int)
    let a := calAddr s p f.width x y
    let old : Int := if first then 0 else signedOf 32 (memNat s false 4 a)
    memWrite false a (leBytes 4 (unsignedOf 32 (old + d))) s) s) s

/-- A frame that calibration may count is complete: without flags it is accumulated, unless a read of the sums is poisoned, which
ends the calibration (R82, R83, R426). -/
def calTake (p : Nat) (f : ClrFrame) (s : State) : State :=
  match (clrAt s p).cal with
  | some k =>
    if f.calibrates && decide (f.flags = 0 ∧ k.taken < k.target ∧ calState s p = 1) then
      let n := if k.taken = 0 then 0 else 4 * f.width * f.height
      let a := calAddr s p f.width 0 0
      let s := memSee false n a s
      if memPoisoned s false n a then calAbort p s
      else setClr p { clrAt s p with cal := some { k with taken := k.taken + 1 } } (calAccumulate p f (k.taken == 0) s)
    else s
  | none => s

/-- The nearest integer to a quotient, ties to even. -/
def rneDiv (a : Int) (n : Nat) : Int :=
  let q := a / (n : Int)
  let r := a % (n : Int)
  if 2 * r < (n : Int) then q else if (n : Int) < 2 * r then q + 1 else if q % 2 = 0 then q else q + 1

/-- The map of means, the sums of them and of their squares, and HOT (R82). -/
def calMeans (s : State) (p w h n : Nat) : List Int :=
  (upto (w * h)).map fun k => rneDiv (signedOf 32 (memNat s false 4 (calAddr s p w (k % w) (k / w)))) n

/-! ### Commits of CLR pages (R79, R107, R114) -/

/-- The words a page would put in use, the others as they are in use. -/
def stagedOn (s : State) (n a : Nat) : Word := if onPage n a then rget s a else uget s a

/-- The LUT bank a word of CLR_LUT_CTRL names, and that bank's state. -/
def lutBankState (s : State) (p : Nat) (bank : Nat) : Nat :=
  if bank = 0 then rfld s (R.CLR_LUT_CTRL p) 9 8 else rfld s (R.CLR_LUT_CTRL p) 11 10

/-- The values R114 looks at may have changed: an output that fails raises its error anew. -/
def otRearm (p : Nat) (s : State) : State :=
  setClr p { clrAt s p with otRaised := [false, false, false, false] } s

/-- A commit that waits on a CLR page applies or fails (R36, R79, R107, R114). DESIGN CHOICE (log 129): a commit of page 0 or 1 is a
CFA commit, which ends a calibration, when it changes a CFA field. -/
def clrCommit (n w h : Nat) (s : State) : State :=
  if !commitPending s n then s
  else
    let k := n - pg 3 0
    let p := if k = 1 ∨ k = 4 ∨ k = 6 then 1 else 0
    if k ≤ 1 then
      (if cfaValid (fun a => stagedOn s n a) p then
        let changed := decide (rget s (R.CLR_CFA_SIZE p) ≠ uget s (R.CLR_CFA_SIZE p)) ||
          decide (rget s (R.CLR_CH_MAP p) ≠ uget s (R.CLR_CH_MAP p)) ||
          (upto 8).any fun i => decide (rget s (R.CLR_CFA_ROW p i) ≠ uget s (R.CLR_CFA_ROW p i))
        let s1 := commitApply n s
        if changed then calAbort p s1 else s1
       else commitFail n 0x13 (rget s (R.CLR_CH_MAP p)) s)
    else if k = 3 ∨ k = 4 then
      (let bank := b2n (rbit s (R.CLR_LUT_CTRL p) 1)
       let st := lutBankState s p bank
       if st ≠ 0 then commitFail n 0x24 (w32 st) s
       else
         let swapped := decide (ubit s (R.CLR_LUT_CTRL p) 1 ≠ rbit s (R.CLR_LUT_CTRL p) 1)
         let s1 := otRearm p (commitApply n s)
         if swapped then raiseInt n 2 s1 else s1)
    else if k = 5 ∨ k = 6 then
      (match otsFail s (fun a => stagedOn s n a) p w h with
       | some (o, r) => commitFail n 0x25 (w32 (o + 4 * r)) s
       | none => otRearm p (commitApply n s))
    else s

/-! ### The spare slice (R92 to R94) -/

def spareState (s : State) : Nat := rfld s R.CLR_SPARE 2 0
def setSpareState (v : Nat) (s : State) : State := rsetFld R.CLR_SPARE 2 0 v s
def spareFor (s : State) : Nat × Nat := (rfld s R.CLR_SPARE 8 8, rfld s R.CLR_SPARE 15 12)
def setSpareFor (pipe slice : Nat) (s : State) : State :=
  rsetFld R.CLR_SPARE 8 8 pipe (rsetFld R.CLR_SPARE 15 12 slice s)

/-- The spare is shadowing a slice: free, and CHECK_EN = 1 (R92). -/
def spareChecking (s : State) : Bool := decide (spareState s = 0) && rbit s R.CLR_SPARE 16

/-- What a block reset and a warm start leave of the spare's work: substitutions and returns that wait for their SOF, and the slices
marked failed; a test is lost (R94). -/
def spareKept (sp : ClrSpare) : ClrSpare := { take := sp.take, giveBack := sp.giveBack, failed := sp.failed }

/-- At a SOF of the pipeline whose slice the spare shadows, the spare moves on from a slice it has shadowed for a frame, and begins a
slice it has not; one of the other pipeline it begins at that pipeline's SOF (R92). -/
def spareMoves (p : Nat) (s : State) : State :=
  if s.clrSpare.shadowing then
    (let k := (p * 16 + rfld s R.CLR_SPARE 15 12 + 1) % 32
     setSpareFor (k / 16) (k % 16) { s with clrSpare := { s.clrSpare with shadowing := decide (k / 16 = p) } })
  else { s with clrSpare := { s.clrSpare with shadowing := true } }

/-- The spare takes the place of slice `k` of pipeline `p` (R93, R94). -/
def spareTakes (p k : Nat) (s : State) : State :=
  raiseInt (pg 3 2) 1 (logEvent 3 0 0x0030 (leBytes 4 3 ++ leBytes 4 (pg 3 2) ++ leBytes 4 (p * 256 + k) ++ leBytes 4 0)
    (rsetBit (hdrStatus (pg 3 p)) 4 true (setSpareState 2 (setSpareFor p k
      { s with clrSpare := { s.clrSpare with take := none, shadowing := false } }))))

/-- At a pipeline's accepted SOF: a substitution or a return that waits takes place, or the shadow moves on (R92 to R94). No
substitution begins while the spare is under test. -/
def spareAtSof (p : Nat) (s : State) : State :=
  let sp := s.clrSpare
  match sp.take, sp.testing with
  | some (tp, ts), none => if tp = p then spareTakes tp ts s else s
  | some _, some _ => s
  | none, _ =>
    if sp.giveBack && decide (rfld s R.CLR_SPARE 8 8 = p) then
      rsetBit (hdrStatus (pg 3 p)) 4 false
        (setSpareState (if rbit s R.CLR_SPARE 16 then 0 else 4) { s with clrSpare := { sp with giveBack := false, shadowing := false } })
    else if spareChecking s && decide (rfld s R.CLR_SPARE 8 8 = p) then spareMoves p s
    else s

/-! ### A frame begins (R13, R83, R95, R113, R114) -/

/-- A pipeline takes frames: enabled with its grant, and not held idle (R14). -/
def clrRunning (s : State) (p : Nat) : Bool := unitRuns s (pg 3 p) && !idleReq s (pg 3 p)

/-- A pipeline that cannot accept a frame: its block reset, or a slice test on it (R14). -/
def clrUnable (s : State) (p : Nat) : Bool :=
  blockResetting s (pg 3 0) ||
    (match s.clrSpare.testing with | some (tp, _) => tp == p | none => false)

def tapLineBytes (sel w : Nat) : Nat := up64 (w * (if sel ≤ 2 then 2 else 6))

/-- The tap at an accepted SOF: the ring's change, decimation, reservation or skip (R95, R423). -/
def tapAtSof (p id w h : Nat) (s : State) : Option (Nat × Nat) × State :=
  let (ring, s1) := ringAdopt (tapRegs p) (clrAt s p).ring s
  let c := rget s1 (R.CLR_TAP_CTRL p)
  let sel := getBits c 3 1
  if !bitAt c 0 then (none, setClr p { clrAt s1 p with ring := ring } s1)
  else
    let due := ringDue ring (getBits c 11 4)
    let ring1 := { ring with due := ring.due + 1 }
    let len := 64 + h * tapLineBytes sel w
    if !due || decide (sel = 0) then (none, setClr p { clrAt s1 p with ring := ring1 } s1)
    else if ringFree ring1 (rnat s1 (R.CLR_TAP_RD p)) < len then
      (none, raiseErr (pg 3 p) 0x15 (w32 id) (rinc (R.CLR_CNT_TAP_SKIPS p) 1 (setClr p { clrAt s1 p with ring := ring1 } s1)))
    else (some (ring1.res, sel), setClr p { clrAt s1 p with ring := ringReserve ring1 len id (getBits c 31 21) } s1)

/-- Buffers of output `n` that frames in the pipeline or waiting publications already take. -/
def otAhead (c : ClrPipe) (n : Nat) : Nat :=
  (c.frames.filter fun f => nth false f.live n).length + (c.otWait.filter (·.output == n)).length

/-- An enabled output that the values in use for a SOF fail raises E_OT_CONFIG at the first such frame since they changed (R114).
DESIGN CHOICE (log 130): every commit that applies counts as a change of them. -/
def otConfigError (p n r : Nat) (s : State) : State :=
  if nth false (clrAt s p).otRaised n then s
  else
    raiseErr (pg 3 (5 + p)) 0x25 (w32 (n + 4 * r))
      (setClr p { clrAt s p with otRaised := setNth (clrAt s p).otRaised n true } s)

/-- Output `n` at an accepted SOF: whether the frame is due, and whether the output can take it (R113 to R115). Every enabled output is
checked at every SOF; only a frame that is due counts as skipped. DESIGN CHOICE (log 130): of the frames that DECIM would publish while
vision output is throttled, OT2 publishes the first and then every second. -/
def otAtSof (p n id w h : Nat) (s : State) : (Bool × Bool) × State :=
  let u := fun a => uget s a
  if !otOn u p n then ((false, false), setClr p { clrAt s p with otDue := setNth (clrAt s p).otDue n 0 } s)
  else
    let c := clrAt s p
    let count := nth 0 c.otDue n
    let due := decide (n = 0) || decide (count % (getBits (u (R.CLR_OT_CTRL p n)) 15 12 + 1) = 0)
    let throttled := decide (n = 2 ∧ 4 ≤ rfld s R.PLT_THERM_STATE 2 0)
    let vision := if n = 2 && due then (if throttled then c.otVision + 1 else 0) else c.otVision
    let s1 := setClr p { c with otDue := setNth c.otDue n (count + 1), otVision := vision } s
    let skip := fun s => if due then rinc (R.CLR_OT_CNT_SKIP p n) 1 s else s
    match otFails s1 u p w h n with
    | some r => ((due, false), otConfigError p n r (skip s1))
    | none =>
      if !due then ((false, false), s1)
      else if throttled && decide (c.otVision % 2 = 1) then ((true, false), skip s1)
      else if n = 0 then ((true, true), s1)
      else
        let cnt := ufld s1 (R.CLR_OT_RING p n) 5 0 + 1
        if (rfld s1 (R.CLR_OT_WR_IDX p n) 5 0 + otAhead (clrAt s1 p) n + 1) % cnt = rfld s1 (R.CLR_OT_RD_IDX p n) 5 0 then
          ((true, false), raiseErr (pg 3 (5 + p)) 0x26 (w32 (n + id * 65536)) (skip s1))
        else ((true, true), s1)

/-- A frame the port accepted begins in its running pipeline: commits, the spare, the dark bank, the tap and the outputs, in that order (R36, R83, R92, R95, R113). -/
def clrFrameStart (p id sof w h : Nat) (s : State) : State :=
  let s1 := clrCommit (pg 3 (5 + p)) w h (clrCommit (pg 3 (3 + p)) w h (clrCommit (pg 3 p) w h s))
  let s2 := spareAtSof p s1
  let s3 := if calState s2 p = 3 then
      (let b := !ubit s2 (R.CLR_DARK_CTRL p) 1
       setCalState p 0 (uset (R.CLR_DARK_CTRL p) (setBitAt (uget s2 (R.CLR_DARK_CTRL p)) 1 b)
         (rsetBit (R.CLR_DARK_CTRL p) 1 b s2)))
    else s2
  let (tap, s4) := tapAtSof p id w h s3
  let (o0, s5) := otAtSof p 0 id w h s4
  let (o1, s6) := otAtSof p 1 id w h s5
  let (o2, s7) := otAtSof p 2 id w h s6
  let (o3, s8) := otAtSof p 3 id w h s7
  let f : ClrFrame :=
    { id := id, sof := sof, width := w, height := h, use := s8.inUse, tap := tap,
      due := [o0.1, o1.1, o2.1, o3.1], live := [o0.2, o1.2, o2.2, o3.2], calibrates := decide (calState s8 p = 1) }
  let s9 := setClr p { clrAt s8 p with frames := (clrAt s8 p).frames ++ [f] } s8
  if o0.1 then
    ot0Begin p id sof (otGeom (fun a => uget s9 a) p 0).ow (otGeom (fun a => uget s9 a) p 0).oh o0.2 s9
  else s9

/-- Change the newest frame of a pipeline, the one its port still delivers. -/
def withNewest (p id : Nat) (f : ClrFrame → ClrFrame) (s : State) : State :=
  let c := clrAt s p
  setClr p { c with frames := c.frames.map fun x => if x.id = id ∧ !x.closed then f x else x } s

/-- A checked line enters the pipeline (R61). -/
def clrLineIn (p id : Nat) (samples : List Nat) (s : State) : State :=
  withNewest p id (fun f => { f with lines := f.lines ++ [samples] }) s

/-- Withdraw frame `f` from every output and from the tap: each due output counts it once (R66, R93, R115, R423). -/
def clrWithdraw (p : Nat) (f : ClrFrame) (s : State) : State :=
  let s1 := (upto 4).foldl (fun s n => if nth false f.live n then rinc (R.CLR_OT_CNT_SKIP p n) 1 s else s) s
  let s2 := match f.tap with
    | some (st, _) =>
      let (r, s') := ringGiveUp (clrAt s1 p).ring st s1
      setClr p { clrAt s' p with ring := r } s'
    | none => s1
  if nth false f.live 0 then ot0Withdraw p f.sof s2 else s2

/-- SIU abandons a frame it has not closed: every output and the tap withdraw it, whatever of it has left the pipeline (R66, R115). -/
def clrAbandon (p id : Nat) (s : State) : State :=
  let c := clrAt s p
  match c.frames.find? (fun f => f.id == id && !f.closed) with
  | none => s
  | some f => clrWithdraw p f (setClr p { c with frames := c.frames.filter fun x => !(x.id == id && !x.closed) } s)

/-! ### A frame is complete (R82, R96, R113) -/

/-- The header of a tap record (R96). -/
def tapHeader (f : ClrFrame) (p sel : Nat) : List Byte :=
  let lb := tapLineBytes sel f.width
  padTo 64 (leBytes 4 (64 + f.height * lb) ++ leBytes 2 f.id ++ leBytes 2 f.flags ++ longBytes f.sof ++
    leBytes 2 (f.width - 1) ++ leBytes 2 (f.height - 1) ++ [BitVec.ofNat 8 sel, if sel ≤ 2 then 0#8 else 1#8, BitVec.ofNat 8 p, 0#8] ++
    leBytes 4 lb)

/-- The header of an output buffer (R113). -/
def otHeader (u : Nat → Word) (f : ClrFrame) (p n : Nat) : List Byte :=
  let g := otGeom u p n
  let fmt := if n = 1 then b2n (bitAt (u (R.CLR_OT1_FMT p)) 0)
    else if n = 2 then b2n (bitAt (u (R.CLR_OT2_FMT p)) 0) else b2n (bitAt (u (R.CLR_OT3_FMT p)) 0)
  let roi := (upto 4).flatMap fun r =>
    if n = 2 ∧ (roisOn u p).contains r then
      leBytes 4 (roiOffset u p r) ++ leBytes 2 ((roiGeom u p r).ow - 1) ++ leBytes 2 ((roiGeom u p r).oh - 1)
    else List.replicate 8 0#8
  leBytes 4 (otFrameBytes u p n) ++ leBytes 2 f.id ++ leBytes 2 f.flags ++ longBytes f.sof ++
    (if n = 2 then leBytes 4 0 else leBytes 2 (g.ow - 1) ++ leBytes 2 (g.oh - 1)) ++
    [BitVec.ofNat 8 n, BitVec.ofNat 8 fmt, BitVec.ofNat 8 p, 0#8] ++
    leBytes 4 (if n = 2 then 0 else (u (R.CLR_OT_STRIDE p n)).toNat) ++ roi

/-- Write into the buffer that a frame has in output `n`'s ring (R113). -/
def otWrite (u : Nat → Word) (f : ClrFrame) (p n : Nat) (w : Nat × List Byte) (s : State) : State :=
  memWrite (bitAt (u (R.CLR_OT_CTRL p n)) 16)
    (u64At u (R.CLR_OT_BASE p n) + nth 0 f.bufs n * (u (R.CLR_OT_BUFSZ p n)).toNat + w.1) w.2 s

/-- A frame is complete: its port has closed it and its last line is out. OT0's picture is whole, the buffers and the tap record get
their headers and wait to be published, and a calibration may count it. Only now is no abandonment left (R66, R82, R96, R113). -/
def clrComplete (p : Nat) (f : ClrFrame) (s : State) : State :=
  let u := fun a => smGet (coldWord a) f.use a
  let s0 := if nth false f.live 0 then ot0Done p f.sof s else s
  let s1 := [1, 2, 3].foldl (fun s n =>
    if nth false f.live n then
      let s' := otWrite u f p n (0, otHeader u f p n) s
      let b : OtBuffer := { output := n, count := getBits (u (R.CLR_OT_RING p n)) 5 0 + 1, vec := getBits (u (R.CLR_OT_CTRL p n)) 31 21 }
      setClr p { clrAt s' p with otWait := (clrAt s' p).otWait ++ [b] } s'
    else s) s0
  let s2 := match f.tap with
    | none => s1
    | some (st, sel) =>
      let r := (clrAt s1 p).ring
      let s' := ringWrite r.host r.base r.size st (tapHeader f p sel) s1
      setClr p { clrAt s' p with ring := ringDone r st } s'
  calTake p f s2

/-- Frames whose every line is out and whose port has closed them are complete, and leave the pipeline. -/
def clrSweep (p : Nat) (s : State) : State :=
  let c := clrAt s p
  let done := fun (f : ClrFrame) => f.closed && decide (f.height ≤ f.dev.length)
  (c.frames.filter done).foldl (fun s f => clrComplete p f s) (setClr p { c with frames := c.frames.filter fun f => !done f } s)

/-- The port has closed the frame: its flags are final (R69). -/
def clrFrameClosed (p id flags : Nat) (s : State) : State :=
  clrSweep p (withNewest p id (fun f => { f with flags := flags, closed := true }) s)

/-! ### A line leaves the pipeline (R90) -/

/-- The raw stages work on the rows that have entered, as far as their neighbours allow. The first part: the line that needed
poisoned data, if any (R426). The defect stage reads the list as far as a line and its candidates need it (R85, R86). -/
def rawRows (p : Nat) : Nat → ClrFrame → State → Option Nat × ClrFrame × State
  | 0, f, s => (none, f, s)
  | fuel + 1, f, s =>
    let u := fun a => smGet (coldWord a) f.use a
    let k := f.black.length
    let j := f.defect.length
    if k < f.lines.length then
      let n := if darkOn u p then 2 * f.width else 0
      let s := memSee false n (darkAddr u p 0 k) s
      if memPoisoned s false n (darkAddr u p 0 k) then (some k, f, s)
      else
        let r := blackRow s u p k (nth [] f.lines k)
        rawRows p fuel { f with black := f.black ++ [r.1] } (rinc (R.CLR_CNT_SANITISED p) r.2 s)
    else if j < k ∧ (j + 1 < k ∨ k = f.height) then
      match defectRead s u p (if cfaPY u p = 1 then j + 1 else j) (getBits (u (R.CLR_DEF_CTRL p)) 22 0) f with
      | (.poisoned, f) => (some j, f, memSee false 4 (listAddr u p f) s)
      | (read, f) =>
        let s := match read with | .bad i => raiseErr (pg 3 p) 0x14 (w32 i) s | _ => s
        let n := if flatOn u p then f.width * (1 + flatFmt u p) else 0
        let s := memSee false n (flatAddr u p 0 j) (if bitAt (u (R.CLR_DEF_CTRL p)) 31 then memWake s else s)
        if memPoisoned s false n (flatAddr u p 0 j) then (some j, f, s)
        else
          let d := defectRow u p f.width f.height f.sites f.black f.defect j
          let g := flatRow s u p j d.1
          rawRows p fuel { f with defect := f.defect ++ [d.1], flat := f.flat ++ [g.1] }
            (rinc (R.CLR_CNT_DEFECTS p) d.2.2 (rinc (R.CLR_CNT_SANITISED p) (d.2.1 + g.2) s))
    else (none, f, s)

/-- Line `y` may be emitted (R90). -/
def lineReady (f : ClrFrame) (p : Nat) : Bool :=
  let u := fun a => smGet (coldWord a) f.use a
  let y := f.dev.length
  let py := cfaPY u p
  let need := if y ≤ 3 ∧ 5 < py then (if y + 5 < py then py else y + 5) else y + 5
  decide (y < f.height) && (decide (f.lines.length = f.height) || decide (need < f.lines.length))

/-- One line of a tap record (R96). -/
def tapLine (f : ClrFrame) (sel y : Nat) (demo : List Nat) (dev : List DevSite) : List Byte :=
  let half := fun (row : List F32) => row.flatMap fun v => leBytes 2 (f32to16 v).toNat
  padTo (tapLineBytes sel f.width)
    (if sel = 1 then half (nth [] f.defect y)
     else if sel = 2 then half (nth [] f.flat y)
     else if sel = 3 then rowBytes demo
     else if sel = 4 then rowBytes (dev.map (·.t4))
     else rowBytes (dev.map (·.t5)))

/-- Deliver the OT0 rows whose source lines are developed (R116). -/
def ot0Deliver (p : Nat) : Nat → ClrFrame → State → ClrFrame × State
  | 0, f, s => (f, s)
  | n + 1, f, s =>
    let u := fun a => smGet (coldWord a) f.use a
    let g := otGeom u p 0
    if f.ot0Next < g.oh ∧ lastSource g f.ot0Next < f.dev.length then
      ot0Deliver p n { f with ot0Next := f.ot0Next + 1 } (ot0Line p f.sof (ot0Row u p f.dev f.ot0Next) s)
    else (f, s)

/-- The transfer table of an output: its preset, or its custom table (R112, R122). -/
def otTable (c : ClrPipe) (u : Nat → Word) (p n : Nat) : Nat → F32 :=
  let sel := getBits (u (R.CLR_OT_CTRL p n)) 6 4
  fun k => if sel = 4 then smGet f32Zero (nth [] c.tables (n - 1)) k else presetTable sel k

/-- Outputs 1 to 3 write the rows that source line `y` completes, on the line cadence (R13, R113). -/
def otLines (p y : Nat) (f : ClrFrame) (s : State) : State :=
  let u := fun a => smGet (coldWord a) f.use a
  [1, 2, 3].foldl (fun s n =>
    if nth false f.live n then
      (otWrites u (otTable (clrAt s p) u p n) p n y f.dev).foldl (fun s w => otWrite u f p n w s) s
    else s) s

/-- The ring buffers of a frame's outputs, when its first line leaves: buffer WR_IDX, past the buffers that wait to be published (R113). -/
def otBuffers (p : Nat) (f : ClrFrame) (s : State) : List Nat :=
  (upto 4).map fun n =>
    if n = 0 then 0
    else (rfld s (R.CLR_OT_WR_IDX p n) 5 0 + ((clrAt s p).otWait.filter (·.output == n)).length) %
      (getBits (smGet (coldWord (R.CLR_OT_RING p n)) f.use (R.CLR_OT_RING p n)) 5 0 + 1)

/-- A line of the tap record is written where it lies in the ring (R96). -/
def tapLineOut (p y : Nat) (f : ClrFrame) (demo : List Nat) (dev : List DevSite) (s : State) : State :=
  match f.tap with
  | none => s
  | some (st, sel) =>
    let r := (clrAt s p).ring
    ringWrite r.host r.base r.size (st + 64 + y * tapLineBytes sel f.width) (tapLine f sel y demo dev) s

/-- The lines that no stage needs any more are let go (R13): a frame under calibration alone keeps its samples until it counts (R82). -/
def clrTrim (p : Nat) (f : ClrFrame) : ClrFrame :=
  let u := fun a => smGet (coldWord a) f.use a
  let y := f.dev.length
  let j := f.defect.length
  let rows := (upto 4).foldl (fun a n => if nth false f.live n then min a (otNeeds u p n y) else a) y
  { f with
    lines := if f.calibrates then f.lines else dropRows f.black.length f.lines
    black := dropRows j f.black
    defect := dropRows (min (j - cfaPY u p) y) f.defect
    flat := dropRows (y - 8) f.flat
    dev := dropRows rows f.dev }

/-- Put a changed frame back in its pipeline. -/
def putFrame (p : Nat) (f : ClrFrame) (s : State) : State :=
  let c := clrAt s p
  setClr p { c with frames := c.frames.map fun x => if x.id = f.id ∧ x.sof = f.sof then f else x } s

/-- Remove a frame that CLR itself abandons; its remaining lines are discarded (R93, R426). -/
def clrDropFrame (p : Nat) (f : ClrFrame) (s : State) : State :=
  let c := clrAt s p
  clrWithdraw p f (setClr p { c with frames := c.frames.filter fun x => !(x.id == f.id && x.sof == f.sof) } s)

/-- A slice mismatch: the frame is abandoned and both slices are tested (R93). -/
def sliceMismatch (p : Nat) (f : ClrFrame) (s : State) : State :=
  let (fp, fs) := spareFor s
  let s1 := clrDropFrame p f (rinc R.CLR_CNT_MISMATCH 1 s)
  let s2 := raiseErr (pg 3 2) 0x16 (w32 (fp * 256 + fs)) (raiseInt (pg 3 2) 2 s1)
  setSpareState 1 { s2 with clrSpare := { s2.clrSpare with testing := some (fp, fs) } }

/-- Outputs whose result FIFO the line cannot enter abandon the frame (R115). -/
def otOverruns (p : Nat) (beyond : BitVec 4) (f : ClrFrame) (s : State) : ClrFrame × State :=
  (upto 4).foldl (fun (a : ClrFrame × State) n =>
    if beyond.getLsbD n && nth false a.1.live n then
      let s1 := raiseErr (pg 3 (5 + p)) 0x27 (w32 (n + f.id * 65536)) (rinc (R.CLR_OT_CNT_SKIP p n) 1 a.2)
      ({ a.1 with live := setNth a.1.live n false }, if n = 0 then ot0Withdraw p a.1.sof s1 else s1)
    else a) (f, s)

/-- The LUT bank a frame uses. -/
def frameLut (c : ClrPipe) (u : Nat → Word) (p : Nat) : List (Nat × Nat) :=
  if bitAt (u (R.CLR_LUT_CTRL p)) 1 then c.lut1 else c.lut0

/-- The pipeline emits the next line of frame `f` (R88 to R90, R99 to R109). -/
def emitLine (p : Nat) (beyond : BitVec 4) (f : ClrFrame) (s : State) : State :=
  let u := fun a => smGet (coldWord a) f.use a
  match rawRows p (2 * f.height + 2) f s with
  | (some line, f1, s1) => raiseErr (pg 3 p) 0x19 (w32 (f.id * 65536 + line)) (clrDropFrame p f1 s1)
  | (none, f1, s1) =>
    let y := f1.dev.length
    let demo := demosaicRow u p f1.width f1.height f1.flat y
    let dev := demo.1.map (develop u (frameLut (clrAt s1 p) u p) p)
    let s2 := rinc (R.CLR_CNT_GAMUT p) (dev.foldl (fun a d => a + d.gamut) 0)
      (rinc (R.CLR_CNT_CLAMPED p) (dev.foldl (fun a d => a + d.clamps) 0)
        (rinc (R.CLR_CNT_SANITISED p) demo.2 s1))
    let f2 := { f1 with dev := f1.dev ++ [dev.map (·.out)], bufs := if y = 0 then otBuffers p f1 s2 else f1.bufs }
    let (f3, s3) := otOverruns p beyond f2 s2
    let (f4, s4) := if nth false f3.live 0 then ot0Deliver p (otGeom u p 0).oh f3 s3 else (f3, s3)
    clrSweep p (putFrame p (clrTrim p f4) (tapLineOut p y f4 demo.1 dev (otLines p y f4 s4)))

/-- The frame whose line comes next: the oldest with a line still to emit. -/
def emitting (c : ClrPipe) : Option ClrFrame := c.frames.find? fun f => decide (f.dev.length < f.height)

end Sys2Proof.Machine
end

