-- ==== Sys2Proof/Machine/Fec.lean ====
section
/-! DEFINITION. The forward error correction and block framing of the sensor ports and the tile ports: RS(544,514) over
10-bit symbols, 257-bit blocks, packets in blocks, alignment codewords (R5, R48, R49, R52, R164). A codeword is one number:
bit `i` is bit `i` mod 10 of the symbol sent `i / 10`-th, its low 5,140 bits the message (log 121). -/

namespace Sys2Proof.Machine

/-! ### The code (R48) -/

/-- Times the primitive element, in GF(2^10) modulo x^10 + x^3 + 1. -/
def gfTimesX (a : Nat) : Nat := if 512 ≤ a then Nat.xor (2 * a) 0x409 else 2 * a

/-- The product of two field elements. -/
def gfMul (a b : Nat) : Nat := (upto 10).foldr (fun i acc => Nat.xor (gfTimesX acc) (if a / 2 ^ i % 2 = 1 then b else 0)) 0

/-- A power of the primitive element. -/
def gfAlpha : Nat → Nat
  | 0 => 1
  | k + 1 => gfTimesX (gfAlpha k)

/-- `a` to the power 1022: the inverse of an element that is not 0. -/
def gfInv (a : Nat) : Nat := ((upto 9).foldl (fun (acc : Nat × Nat) _ => let sq := gfMul acc.2 acc.2; (gfMul acc.1 sq, sq)) (1, a)).1

/-- The generator polynomial, the product of x + α^j for j from 0 to 29, lowest coefficient first. -/
def rsGenerator : List Nat :=
  (upto 30).foldl (fun g j => List.zipWith Nat.xor (0 :: g) (g.map (gfMul (gfAlpha j)) ++ [0])) [1]

/-- Times x^b, the generator's coefficients below its highest, the highest first, 10 bits each: rows b = 0 to 9
(`rsRows_generator` says so). -/
def rsRows : List Nat :=
  [0x82F422009E2E47F620C198B145A7737DFAE605EFB405E212513E51A8D46C00628398BB8A23F,
   0x07E8D4013C5C8FEC418233621B4AEFFBB55C0BDE6A4BC420AB7CA3418CD8008597317616477,
   0x0F91380278B91FC8A7046684B6B5D7F56A3837B5D497884156F9061319B0010B2E62EC2C8EE,
   0x1F226024F9707F816E01CD096D6BAEE8D4F04F63AB6F00A6ACF04C26336002164CE5D1591DC,
   0x3E045049F2E0BF92D80B9852CAF755D3E9E09ACF54DE914951E2D84C62C9042C89EFA2B23B8,
   0x7C08A093E4C37FB5B01632E585CEA3A5D3513197A9BD2292A2C7F088E59B081993FF4D66779,
   0xF8114123C184FFFB602C658B9B994F49E6A2632E517AD5214D8DE191EF36103327FA93CCAFB,
   0xF26282438B0BFF76E458CB1727169E938DD4C255A2B53A429A19C3B3DA652026DFF12F9B5FF,
   0xE6C594831F17BE7DC8B0946E4E2935255BA980A3476AF4A53D338767B0C3400D3FC65E34FFE,
   0xCFCB2902372F3C7BB5602ADC1C766A4AB74325468E95794A7A670ECF6186801A6FACB569BF5]

/-- A field element times the generator, packed. -/
def rsFeed : Nat → List Nat → Nat
  | _, [] => 0
  | f, r :: rs => if f % 2 = 1 then Nat.xor r (rsFeed (f / 2) rs) else rsFeed (f / 2) rs

/-- One message symbol into the encoder's remainder `p`, whose next symbol out is lowest. -/
def rsStep (sym p : Nat) : Nat :=
  let f := Nat.xor sym (p % 1024)
  if f = 0 then p / 1024 else Nat.xor (p / 1024) (rsFeed f rsRows)

/-- The remainder after `n` symbols of `m`, the first lowest. -/
def rsRun : Nat → Nat → Nat → Nat
  | 0, _, p => p
  | n + 1, m, p => rsRun n (m / 1024) (rsStep (m % 1024) p)

/-- The 30 parity symbols of a message of 514. -/
def rsParity (m : Nat) : Nat := rsRun 514 m 0

/-- A codeword: the message symbols, then the parity symbols. -/
abbrev Codeword := BitVec 5440

def rsEncode (m : Nat) : Codeword := BitVec.ofNat 5440 (m % 2 ^ 5140 + rsParity m * 2 ^ 5140)

/-- The symbols of a codeword in the order they are sent: the coefficient of x^543 first. -/
def rsSymbols (c : Nat) : List Nat := (upto 544).map fun i => c / 2 ^ (10 * i) % 1024

/-- The syndromes: the received word at α^0 to α^29. -/
def rsSyndromes (xs : List Nat) : List Nat := (upto 30).map fun j => let a := gfAlpha j; xs.foldl (fun acc x => Nat.xor (gfMul acc a) x) 0

/-- A polynomial, lowest coefficient first, at a point. -/
def gfEval (p : List Nat) (x : Nat) : Nat := p.foldr (fun c acc => Nat.xor c (gfMul acc x)) 0

/-- p + k · x · q, lowest coefficient first. -/
def gfAddScaled (k : Nat) (p q : List Nat) : List Nat :=
  let r := 0 :: q.map (gfMul k)
  (upto (max p.length r.length)).map fun i => Nat.xor (nth 0 p i) (nth 0 r i)

/-- The state of the Berlekamp–Massey recursion: the locator, the last locator before it grew (times powers of x) and its discrepancy, and the locator's degree. -/
structure RsLocator where
  now : List Nat := [1]
  last : List Nat := [1]
  disc : Nat := 1
  deg : Nat := 0
  deriving DecidableEq, Repr

/-- Syndrome `n` into the locator. -/
def rsLocate (synd : List Nat) (l : RsLocator) (n : Nat) : RsLocator :=
  let d := (upto (l.deg + 1)).foldl (fun a i => Nat.xor a (gfMul (nth 0 l.now i) (nth 0 synd (n - i)))) 0
  if d = 0 then { l with last := 0 :: l.last }
  else
    let next := gfAddScaled (gfMul d (gfInv l.disc)) l.now l.last
    if 2 * l.deg ≤ n then { now := next, last := l.now, disc := d, deg := n + 1 - l.deg }
    else { l with now := next, last := 0 :: l.last }

/-- The correction of the symbol at `x` = α^(543 − i): what to add to it, none where it is right (Forney). -/
def rsError (loc omega : List Nat) (x : Nat) : Option Nat :=
  let y := gfInv x
  if gfEval loc y ≠ 0 then none
  else
    -- the locator's formal derivative keeps its odd terms
    let slope := gfEval ((upto (loc.length - 1)).map fun i => if i % 2 = 0 then nth 0 loc (i + 1) else 0) y
    some (gfMul x (gfMul (gfEval omega y) (gfInv slope)))

/-- The corrected symbols and how many were wrong; none where more than 15 were. -/
def rsCorrect (xs : List Nat) : Option (List Nat × Nat) :=
  let synd := rsSyndromes xs
  let l := (upto 30).foldl (rsLocate synd) {}
  if 15 < l.deg then none
  else
    let omega := (upto 30).map fun i => (upto (i + 1)).foldl (fun a k => Nat.xor a (gfMul (nth 0 l.now k) (nth 0 synd (i - k)))) 0
    let fixes := (upto 544).map fun i => rsError l.now omega (gfAlpha (543 - i))
    let ys := List.zipWith (fun x e => Nat.xor x (e.getD 0)) xs fixes
    if (fixes.filter Option.isSome).length = l.deg ∧ (rsSyndromes ys).all (· == 0) then some (ys, l.deg) else none

/-- The message of a received codeword; none where FEC cannot correct it (R63). -/
def rsDecode (c : Codeword) : Option Nat :=
  let m := c.toNat % 2 ^ 5140
  if rsParity m = c.toNat / 2 ^ 5140 then some m
  else (rsCorrect (rsSymbols c.toNat)).map fun r => (r.1.take 514).foldr (fun x a => x + 1024 * a) 0

/-! ### Blocks (R48, R52) -/

/-- A block of 257 bits, bit 256 its S bit. -/
def blockOf (start : Bool) (bytes : List Byte) : Nat := leNat (bytes.take 32) + b2n start * 2 ^ 256

def blockStart (b : Nat) : Bool := decide (b / 2 ^ 256 % 2 = 1)

def blockBytes (b : Nat) : List Byte := leBytes 32 b

/-- Block `k` of a message. -/
def messageBlock (m k : Nat) : Nat := m / 2 ^ (257 * k) % 2 ^ 257

/-- The message of 20 blocks. -/
def messageOf (bs : List Nat) : Nat := (bs.take 20).foldr (fun b a => b + 2 ^ 257 * a) 0

/-- Bytes 0 to 27 of a header. -/
def headerBytes (ws : List Word) : List Byte := (ws.take 7).flatMap fun w => leBytes 4 w.toNat

/-- Header words H0 to H6 with H7, their CRC (R52). -/
def withHeaderCrc (ws : List Word) : List Word := ws.take 7 ++ [w32 (crc32 (headerBytes ws))]

/-- The header words of a header block. -/
def blockWords (b : Nat) : List Word := (upto 8).map fun k => w32 (b / 2 ^ (32 * k))

/-- A header block: S = 1, and H7 is its CRC. -/
def isHeader (b : Nat) : Bool :=
  blockStart b && (let ws := blockWords b; decide (crc32 (headerBytes ws) = (nth 0#32 ws 7).toNat))

/-- The blocks of a packet: its header with S = 1, its payload with S = 0 (R52). -/
def packetBlocks (ws : List Word) (payload : List Byte) : List Nat :=
  blockOf true (ws.flatMap fun w => leBytes 4 w.toNat) ::
    (upto ((payload.length + 31) / 32)).map fun i => blockOf false ((payload.drop (32 * i)).take 32)

/-- The header of an IDLE packet, which fills blocks that carry nothing (R53). -/
def idleWords : List Word := withHeaderCrc (List.replicate 7 0#32)

/-- Blocks cut into codewords, IDLE packets after the last (R52, R53). Each packet the model sends starts a codeword (DESIGN CHOICE, log 122). -/
def codewordsOf (bs : List Nat) : List Codeword :=
  let idle := blockOf true (idleWords.flatMap fun w => leBytes 4 w.toNat)
  (upto ((bs.length + 19) / 20)).map fun i =>
    let part := (bs.drop (20 * i)).take 20
    rsEncode (messageOf (part ++ List.replicate (20 - part.length) idle))

/-- The idle codeword: 20 IDLE packets (R164). -/
def idleCodeword : Codeword := rsEncode (messageOf (List.replicate 20 (blockOf true (idleWords.flatMap fun w => leBytes 4 w.toNat))))

/-- A packet as the codewords that carry it. -/
def packetCodewords (ws : List Word) (payload : List Byte) : List Codeword := codewordsOf (packetBlocks ws payload)

/-! ### Alignment codewords (R49, R164) -/

/-- The message of an alignment codeword: marker, lane byte, 24-bit count, zeros. -/
def alignMessage (lane count : Nat) : Nat := 0xA53CC35A + lane % 256 * 2 ^ 32 + count % 2 ^ 24 * 2 ^ 40

def alignCodeword (lane count : Nat) : Codeword := rsEncode (alignMessage lane count)

/-- The lane byte and the count of an alignment codeword; none for a data codeword or one that FEC cannot correct. -/
def alignRead (c : Codeword) : Option (Nat × Nat) :=
  match rsDecode c with
  | none => none
  | some m => if m % 2 ^ 32 = 0xA53CC35A ∧ m / 2 ^ 64 = 0 then some (m / 2 ^ 32 % 256, m / 2 ^ 40 % 2 ^ 24) else none

/-- The logical lane that carries data codeword `j` of a port (R49). -/
def dataLane (j : Nat) : Nat := j % 4

/-! ### A packet as received -/

/-- What a receiver makes of the codewords that carry a packet: the block index of its header in the port stream, the header
words, the payload bytes, and which of its parts lay in a codeword FEC could not correct; the numbers of those codewords. -/
structure RxPacket where
  pos : Nat
  words : List Word
  payload : List Byte
  headerLost : Bool
  payloadLost : Bool
  lost : List Nat
  last : Nat
  deriving DecidableEq, Repr

/-- The blocks of received codewords, in order; none for each block of a codeword that FEC cannot correct. -/
def rxBlocks (cs : List Codeword) : List (Option Nat) :=
  cs.flatMap fun c => match rsDecode c with
    | some m => (upto 20).map fun k => some (messageBlock m k)
    | none => List.replicate 20 none

/-- A header block at the front, for a receiver that hunts: blocks before the first with S = 1 whose CRC holds are passed over (R63). -/
def huntSkip : List (Option Nat) → Nat
  | [] => 0
  | b :: bs => if (match b with | some b => isHeader b | none => false) then 0 else huntSkip bs + 1

/-- Read the packet whose header block has index `pos`, from codewords of which the first is data codeword `first`. A payload
block with S = 1, or one that is not there, ends the payload. -/
def rxPacket (hunting : Bool) (first pos : Nat) (cs : List Codeword) : RxPacket :=
  let bs := rxBlocks cs
  let at0 := bs.drop (pos - 20 * first)
  let skip := if hunting then huntSkip at0 else 0
  let there := if skip < at0.length then at0.drop skip else at0
  let start := if skip < at0.length then pos + skip else pos
  let head := nth none there 0
  let words := match head with
    | some b => blockWords b
    | none => List.replicate 8 0#32
  let body := ((there.drop 1).take (getBits (nth 0#32 words 0) 31 16)).takeWhile fun b => match b with
    | some b => !blockStart b
    | none => true
  { pos := start, words := words, payload := body.flatMap fun b => match b with | some b => blockBytes b | none => List.replicate 32 0#8,
    headerLost := (match head with | some b => !blockStart b | none => true),
    payloadLost := body.any Option.isNone,
    lost := ((upto cs.length).filter fun i => (rsDecode (nth 0#5440 cs i)).isNone).map (first + ·),
    last := first + cs.length }

end Sys2Proof.Machine
end

