-- ==== Sys2Proof/Machine/MotLatch.lean ====
section
/-! DEFINITION. Axes of the motion block, their positions and the latch (R315, R320). -/

namespace Sys2Proof.Machine

def motAx (s : State) (a : Nat) : MotAxis := nth {} s.mot a
def putAx (a : Nat) (x : MotAxis) (s : State) : State := { s with mot := setNth s.mot a x }

/-- The motion block is there, and runs. -/
def motThere (s : State) : Bool := !fusedBlock s.code 14
def motRuns (s : State) : Bool := motThere s && unitRuns s (pg 14 0)

/-- STATE: 0 OFF, 1 RUN, 2 ALIGNING, 3 REACQUIRING, 4 HOLD. -/
def axState (s : State) (a : Nat) : Nat := rfld s (R.MOT_AX_STATE a) 2 0

/-- The feedback in use: FB_ALT while FB_ACTIVE, else FB_SEL (R315, R323). -/
def axSource (s : State) (a : Nat) : Nat :=
  if rbit s (R.MOT_AX_STATE a) 12 then ufld s (R.MOT_AX_CFG a) 7 5 else ufld s (R.MOT_AX_CFG a) 4 2

def axPos (s : State) (a : Nat) : Nat := rnat2 s (R.MOT_AX_POS a) % 2 ^ 48

/-- POS moves by a signed count, modulo 2^48. -/
def movePos (a : Nat) (d : Int) (s : State) : State := rset2 (R.MOT_AX_POS a) (unsignedOf 48 (axPos s a + d)) s

/-- The group delay of a sin/cos filter, in 2^-16 ns: one and a half times its decimation, in modulator clocks (R311, R320). -/
def filterDelay (s : State) : Nat :=
  3 * 2 ^ (rfld s R.MOT_DSM_CTRL 9 8 + 4) * (rfld s R.MOT_DSM_CTRL 3 0 + 1) * 5 * 65536

/-- A latch taken at `at16`: POS, VEL and the time at which that POS held (R320). -/
def takeLatch (a at16 : Nat) (s : State) : State :=
  let src := axSource s a
  let t := if src = 1 then (motAx s a).sinAt - filterDelay s else if 2 ≤ src ∧ src ≤ 4 then (motAx s a).serAt else at16
  raiseInt (pg 14 (a + 1)) 3 (rset (R.MOT_AX_LATCH_VEL a) (rget s (R.MOT_AX_VEL a))
    (rsetLong (R.MOT_AX_LATCH_TIME a) t (rset2 (R.MOT_AX_LATCH_POS a) (axPos s a) s)))

/-- Axes whose SRC names the port latch at its accepted SOF. -/
def motSofLatch (port stamp : Nat) (s : State) : State :=
  if !motRuns s then s
  else (upto 8).foldl (fun s a => if rfld s (R.MOT_AX_LATCH_CTRL a) 1 0 = 2 + port then takeLatch a stamp s else s) s

end Sys2Proof.Machine
end

