-- ==== Sys2Proof/Machine/RecBase.lean ====
section
/-! DEFINITION. The recorder's dirty buffer, its limit, clips, and frames accepted for recording (R298, R299, R304, R305). -/

namespace Sys2Proof.Machine

def setRec (v : RecState) (s : State) : State := { s with recorder := v }

def sectorBytes : Nat := 4096
def mib : Nat := 2 ^ 20

/-- Bytes dirty, reservations included. -/
def dirtyBytes (s : State) : Nat := sectorBytes * s.recorder.dirty.length + s.recorder.reserved

def dirtyLimit (s : State) : Nat := rfld s R.REC_DIRTY_LIMIT 15 0 * mib

/-- REC_DIRTY_NOW follows what is dirty. -/
def showDirty (s : State) : State := rset R.REC_DIRTY_NOW (w32 (satTo 65535 (dirtyBytes s / mib))) s

/-- Reserve bytes against the full limit (R298). -/
def dirtyReserve (n : Nat) (s : State) : State := showDirty (setRec { s.recorder with reserved := s.recorder.reserved + n } s)
def dirtyReturn (n : Nat) (s : State) : State := showDirty (setRec { s.recorder with reserved := s.recorder.reserved - n } s)

/-- The state of the media array: 0 OPTIMAL, 1 COPYING, 2 DEGRADED, 3 REBUILDING, 4 FAILED. -/
def arrayState (s : State) : Nat := rfld s R.REC_ARRAY_STATE 2 0

/-! ### Members and the journal (R301, R303) -/

def memberPort (s : State) (m : Nat) : Nat := rfld s R.REC_MEDIA_MAP (4 * m + 2) (4 * m)
def sparePort (s : State) : Nat := rfld s R.REC_MEDIA_MAP 18 16
def movingMember (s : State) : Nat := rfld s R.REC_ARRAY_STATE 5 4


/-- The spare holds member `m`'s unit of a stripe: the pointer of a copy or rebuild has passed it. After a rebuild that a second failure
ended the spare keeps what it holds (R303). -/
def movedTo (s : State) (m stripe : Nat) : Bool :=
  [1, 3, 4].contains (arrayState s) && decide (m = movingMember s) && decide (stripe < s.recorder.pointer)

/-- The ports that take writes of member `m`'s unit of a stripe. -/
def writePorts (s : State) (m stripe : Nat) : List Nat :=
  let own := if s.recorder.lost.contains m || decide (4 < memberPort s m) then [] else [memberPort s m]
  if movedTo s m stripe then own ++ [sparePort s] else own

/-- A journal record goes to the regions of two members (R301). -/
def journalWrite (kind : Nat) (values : List Nat) (s : State) : List (Nat × Nat × Nat) × State :=
  let j := s.recorder.journal
  let s0 := setRec { s.recorder with journal := j + 1 } s
  [j % 4, (j + 1) % 4].foldl (fun (acc : List (Nat × Nat × Nat) × State) m =>
    (writePorts acc.2 m 0).foldl (fun acc p =>
      let t := acc.2.recorder.nextTag
      (acc.1 ++ [(t, p, m)], emit (.journal p j kind t values) (setRec { acc.2.recorder with nextTag := t + 1 } acc.2))) acc) ([], s0)

/-- A journal record that nothing waits for. -/
def journalNote (kind : Nat) (values : List Nat) (s : State) : State := (journalWrite kind values s).2

/-- DIRTY_LIMIT in MiB from the energy E, in units of 10 mJ (R299). -/
def limitFor (s : State) (e10 : Nat) : Nat :=
  let p := rfld s R.REC_P_FLUSH 15 0
  let t := rfld s R.REC_T_FIXED 15 0
  let full := rfld s R.REC_FLUSH_RATE 7 0 * 500000000
  let rate := if arrayState s = 0 then full else full * 3 / 4
  -- E ÷ 1.25 − P × T in mJ
  let joules := e10 * 8 - p * t
  if p = 0 then Config.limitNoPower e10 else min 12288 (joules * rate / (1000 * p) / mib)

/-- The place of a dirty sector in the dirty buffer: the model takes the lowest free one. -/
def freeDirtySlot (s : State) : Nat :=
  match lowest (s.recorder.dirty.length + 1) fun k => !s.recorder.dirty.any fun d => d.slot == k with
  | some k => k
  | none => s.recorder.dirty.length

def dirtyAddr (s : State) (slot : Nat) : Nat := rnat2 s R.REC_DIRTY_BASE + sectorBytes * slot

/-- The dirty copy of a volume sector. -/
def dirtyOf (s : State) (v : Nat) : Option DirtySector := s.recorder.dirty.find? fun d => d.v == v

/-- Whoever waits for a dirty sector to reach the media waits for the copy that replaces it (R296). -/
def replaceOrder (old new : Nat) (s : State) : State :=
  let n := s.recorder.nvme
  setRec { s.recorder with nvme := { n with cmds := n.cmds.map fun c => { c with until_ := c.until_.map fun o => if o = old then new else o } } } s

/-- A sector becomes dirty, whole (R294); an older dirty copy is replaced, and its age with it. -/
def putDirty (v : Nat) (data : List Byte) (s : State) : State :=
  let slot := match dirtyOf s v with | some d => d.slot | none => freeDirtySlot s
  let n := s.recorder.nextOrder
  let keep := s.recorder.dirty.filter fun d => d.v != v
  let s1 := match dirtyOf s v with | some d => replaceOrder d.order n s | none => s
  memWrite false (dirtyAddr s slot) (padTo sectorBytes (data.take sectorBytes))
    (setRec { s1.recorder with dirty := keep ++ [{ v := v, slot := slot, order := n }], nextOrder := n + 1 } s1)

def putDirties (v : Nat) : List (List Byte) → State → State
  | [], s => showDirty s
  | b :: bs, s => putDirties (v + 1) bs (putDirty v b s)

/-- Bytes in whole sectors, zero-padded. -/
def sectorsOf : Nat → List Byte → List (List Byte)
  | 0, _ => []
  | fuel + 1, bs => if bs.isEmpty then [] else padTo sectorBytes (bs.take sectorBytes) :: sectorsOf fuel (bs.drop sectorBytes)
def toSectors (bs : List Byte) : List (List Byte) := sectorsOf (bs.length / sectorBytes + 1) bs

def nsOf (s : State) (nsid : Nat) : Option RecNs := s.recorder.ns.find? fun n => n.nsid == nsid

/-! ### Clips (R305) -/

def openClip (s : State) (p : Nat) : Option RecClip := s.recorder.clips.find? fun c => c.opened && c.port == p
/-- An entry of the clip table changes, and the journal takes it. -/
def putClip (c : RecClip) (s : State) : State :=
  journalNote 2 [c.clipId, c.port, b2n c.opened + 2 * b2n c.abandoned + 4 * b2n c.breakDuring, c.first, c.sectors, c.frames, c.lost, c.sofFirst,
    c.sofLast, c.taiOfs, c.breaks0, c.breaks1]
    (setRec { s.recorder with clips := s.recorder.clips.map fun x => if x.clipId = c.clipId then c else x } s)

/-- A clip closes: interrupt bit 1 of page 2. -/
def clipClose (p : Nat) (s : State) : State :=
  match openClip s p with
  | none => s
  | some c =>
    let b := rfld s R.MER_EPOCH_BREAKS 15 0
    let s1 := putClip { c with opened := false, breaks1 := b, breakDuring := decide (b ≠ c.breaks0) } s
    raiseInt (pg 13 2) 1 (rinc R.REC_CNT_CLIPS 1 (rsetFld R.REC_CLIP_OPEN (16 * p + 15) (16 * p) 0xFFFF s1))

/-- A frame of port `p` is accepted at sector `first`: it may close the open clip, open one, and join one. -/
def clipFrame (p sof first sectors : Nat) (s : State) : State :=
  let past := match nth none s.recorder.stops p with | some t => decide (t ≤ sof) | none => false
  let s0 := if past then clipClose p s else s
  let s1 := if past then setRec { s0.recorder with stops := setNth s0.recorder.stops p none } s0 else s0
  let starts := match nth none s1.recorder.starts p with | some t => decide (t ≤ sof) | none => false
  let s2 := if starts && (openClip s1 p).isNone && decide (s1.recorder.clips.length < 65536) then
      (let id := s1.recorder.nextClip
       let c : RecClip :=
         { clipId := id, port := p, opened := true, first := first, sofFirst := sof, sofLast := sof,
           taiOfs := rnat s1 R.MER_TAI_OFS, breaks0 := rfld s1 R.MER_EPOCH_BREAKS 15 0, breaks1 := rfld s1 R.MER_EPOCH_BREAKS 15 0 }
       rsetFld R.REC_CLIP_OPEN (16 * p + 15) (16 * p) id
         (setRec { s1.recorder with clips := s1.recorder.clips ++ [c], nextClip := (id + 1) % 2 ^ 32, starts := setNth s1.recorder.starts p none } s1))
    else s1
  match openClip s2 p with
  | some c => putClip { c with sectors := c.sectors + sectors, frames := c.frames + 1, sofLast := sof } s2
  | none => s2

/-- A frame of port `p` is abandoned on the recording path. -/
def clipLoses (p : Nat) (s : State) : State :=
  match openClip s p with
  | some c => putClip { c with abandoned := true, lost := c.lost + 1 } s
  | none => s

/-! ### Recorded frames (R304) -/

/-- The directory sector of a recorded frame. -/
def directorySector (f : RecFrame) (outs : List (List Byte)) : List Byte :=
  let body := padTo 4092 (padTo 32
    (leBytes 2 0x4452 ++ leBytes 1 f.port ++ leBytes 1 f.stripes ++ leBytes 2 f.id ++ [0#8, 0#8] ++ longBytes f.sof) ++
    outs.flatMap fun o => leBytes 4 o.length)
  body ++ leBytes 4 (crc32 body)

/-- The frame is abandoned on the recording path: its reservations are returned, its waiting stripes withdrawn (R70, R256). -/
def recDrop (p id : Nat) (s : State) : State :=
  match s.recorder.frames.find? fun f => f.port == p && f.id == id with
  | none => s
  | some f =>
    let mine := fun (j : CmpJob) => match j.user with | .record p' id' _ => p' == p && id' == id | _ => false
    let s1 := { s with cmp := { s.cmp with waiting := s.cmp.waiting.filter fun j => !mine j } }
    clipLoses p (dirtyReturn f.reserved
      (setRec { s1.recorder with frames := s1.recorder.frames.filter fun x => !(x.port == p && x.id == id) } s1))

/-- E_MEDIA_FULL: the frame finds no place (R304, R306). -/
def mediaFull (p id : Nat) (s : State) : State :=
  recDrop p id (raiseErr (pg 13 2) 0x15 (w32 p) (rinc R.REC_CNT_MEDIA_FULL 1 s))

/-- CMP hands a frame over: REC accepts it into the dirty buffer, at REC_NEXT_LBA of the recording namespace. -/
def recAccept (f : RecFrame) (s : State) : State :=
  let outs := (upto f.stripes).map fun k => match f.outs.find? (fun o => o.1 == k) with | some o => o.2 | none => []
  let body := directorySector f outs :: outs.flatMap toSectors
  let lba := rnat2 s R.REC_NEXT_LBA
  match nsOf s (rfld s R.REC_NSID 4 0) with
  | none => mediaFull f.port f.id s
  | some n =>
    if !n.attached || n.formatting || decide (n.sectors < lba + body.length) || decide (s.recorder.erase.sanStatus = 2) then mediaFull f.port f.id s
    else
      let s1 := dirtyReturn f.reserved
        (setRec { s.recorder with frames := s.recorder.frames.filter fun x => !(x.port == f.port && x.id == f.id) } s)
      clipFrame f.port f.sof lba body.length
        (rinc R.REC_CNT_FRAMES 1 (rset2 R.REC_NEXT_LBA (lba + body.length) (putDirties (n.start + lba) body s1)))

end Sys2Proof.Machine
end

