-- ==== Sys2Proof/Machine/RecFeed.lean ====
section
/-! DEFINITION. The recording feed of a sensor port: stripes cut, reserved and submitted (R70, R256, R298). -/

namespace Sys2Proof.Machine

def recFrame (s : State) (p id : Nat) : Option RecFrame := s.recorder.frames.find? fun f => f.port == p && f.id == id
def putRecFrame (f : RecFrame) (s : State) : State :=
  setRec { s.recorder with frames := s.recorder.frames.map fun x => if x.port = f.port ∧ x.id = f.id then f else x } s

/-- First line of stripe `k`, and the line after its last: the last stripe takes the remaining lines. -/
def stripeLines (f : RecFrame) (k : Nat) : Nat × Nat :=
  let n := f.h / f.stripes
  (k * n, if k + 1 = f.stripes then f.h else (k + 1) * n)

/-- R264's bound of `n` input bytes, rounded up to 4 KiB. -/
def stripeBound (n : Nat) : Nat := ((n * 513 + 511) / 512 + 64 + 4095) / 4096 * 4096

def codeTable (s : State) (t : Nat) : List Nat :=
  (upto 17).map fun k =>
    if k < 8 then rfld s (R.CMP_TABLE_W0 t) (4 * k + 3) (4 * k)
    else if k < 16 then rfld s (R.CMP_TABLE_W1 t) (4 * (k - 8) + 3) (4 * (k - 8))
    else rfld s (R.CMP_TABLE_W2 t) 3 0

/-- A stripe whose input is whole reserves its bound and is submitted; without room the frame is abandoned with E_DIRTY_FULL. -/
def stripeSubmit (f : RecFrame) (k : Nat) (pre : List Byte) (s : State) : State :=
  let (a, b) := stripeLines f k
  let body := ((f.lines.drop a).take (b - a)).flatten
  let n := pre.length + body.length
  let c := rget s R.CMP_REC_CTRL
  let need := stripeBound n
  if dirtyLimit s < dirtyBytes s + need then
    recDrop f.port f.id (raiseErr (pg 13 0) 0x10 (w32 f.port) (rinc R.REC_CNT_DIRTY_FULL 1 s))
  else
    let head : KpcHeader :=
      { p48 := false, w := f.w, h := b - a, depth := 10 + 2 * f.depth, dx := getBits c 18 16 + 1, dy := getBits c 22 20 + 1,
        dynamic := bitAt c 8, table := codeTable s (getBits c 14 12), prefixBytes := pre.length,
        lineBytes := (f.w * (10 + 2 * f.depth) + 255) / 256 * 32 }
    cmpSubmit (.record f.port f.id k) false (pre ++ body) (some head)
      (dirtyReserve need (putRecFrame { f with reserved := f.reserved + need } s))

/-- Recording is possible: a namespace is named, the limit is not 0, no flush runs (R299, R300). -/
def recAble (s : State) : Bool :=
  decide (rfld s R.REC_NSID 4 0 ≠ 0) && decide (rfld s R.REC_DIRTY_LIMIT 15 0 ≠ 0) && !s.recorder.flushing

/-- A recorded frame begins at an accepted SOF. -/
def recSof (p : Nat) (f : SiuFrame) (s : State) : State :=
  if !recAble s then s
  else
    let c := rget s R.CMP_REC_CTRL
    let r : RecFrame :=
      { port := p, id := f.id, sof := f.sof, w := f.width, h := f.height, depth := f.depth,
        stripes := (if p = 0 then getBits c 2 0 else getBits c 6 4) + 1 }
    let s1 := recDrop p f.id s
    setRec { s1.recorder with frames := s1.recorder.frames ++ [r] } s1

/-- A checked line joins the recording feed; a stripe after the first is submitted with its last line. -/
def recLine (p : Nat) (f : SiuFrame) (samples : List Nat) (s : State) : State :=
  match recFrame s p f.id with
  | none => s
  | some r =>
    let b := 10 + 2 * r.depth
    let bytes := leBytes ((r.w * b + 255) / 256 * 32) (samples.foldr (fun v acc => v / 2 ^ (16 - b) + acc * 2 ^ b) 0)
    let r1 := { r with lines := r.lines ++ [bytes] }
    let s1 := putRecFrame r1 s
    match (upto r1.stripes).find? fun k => decide (0 < k) && (stripeLines r1 k).2 == r1.lines.length && decide ((stripeLines r1 k).1 < (stripeLines r1 k).2) with
    | some k => stripeSubmit r1 k [] s1
    | none => s1

/-- The frame is complete: stripe 0 takes the record header and the metadata as its prefix. -/
def recDone (p id : Nat) (head : List Byte) (s : State) : State :=
  match recFrame s p id with
  | none => s
  | some r => stripeSubmit r 0 head s

/-- The frame is abandoned on the recording path. -/
def recAbandon (p id : Nat) (s : State) : State := recDrop p id s

end Sys2Proof.Machine
end

