-- ==== Sys2Proof/Machine/Siu.lean ====
section
/-! DEFINITION. The sensor ingest unit: packets, frame checking, padding, the T0 tap, triggers, echoes, alignment (R47 to R72). -/

namespace Sys2Proof.Machine

/-! ### Port state (R50) -/

def portState (s : State) (p : Nat) : Nat := rfld s (R.SIU_PORT p) 2 0

/-- Change a port's state; interrupt bit 3 reports it (R71). -/
def setPortState (p v : Nat) (s : State) : State :=
  if portState s p = v then s else raiseInt (pg 2 p) 3 (rsetFld (R.SIU_PORT p) 2 0 v s)

/-- A port that receives packets: UP (3) or SUBSTITUTING (4). -/
def portUp (s : State) (p : Nat) : Bool := decide (portState s p = 3 ∨ portState s p = 4)

/-- The port's page takes a new frame: running with its grant and not held idle (R14). -/
def siuTakes (s : State) (p : Nat) : Bool := unitRuns s (pg 2 p) && !idleReq s (pg 2 p)

/-- The page takes no frame and has none open: it discards every packet and raises no error (R14). -/
def siuQuiet (s : State) (p : Nat) : Bool := !siuTakes s p && (siuAt s p).frame.isNone

/-- A port leaves DOWN while its page runs: TRAINING, and ALIGNING at once on lanes that LAN holds UP, a spare in use among them (R71). -/
def siuStartPort (p : Nat) (s : State) : State :=
  if portState s p = 0 then
    (let up := (upto 4).all fun i => laneCarries s 0 (5 * p + i)
     setPortState p (if up then 2 else 1) s)
  else s

/-! ### Packet words (R52 to R54) -/

def hword (k : Nat) (pkt : RxPacket) : Word := nth 0#32 pkt.words k
def pktType (pkt : RxPacket) : Nat := getBits (hword 0 pkt) 7 0
def pktLength (pkt : RxPacket) : Nat := getBits (hword 0 pkt) 31 16
def pktFrame (pkt : RxPacket) : Nat := getBits (hword 1 pkt) 15 0

/-- A packet as the port reads it from its codewords; after a packet that failed step 1 it hunts for a header (R63). -/
def siuPacket (s : State) (p : Nat) (packet : Packet) : RxPacket :=
  rxPacket (siuAt s p).hunting packet.first packet.pos packet.codewords

/-- The header holds: in no uncorrectable codeword, with S = 1, and H7 its CRC (R52, R63). -/
def headerHolds (pkt : RxPacket) : Bool :=
  !pkt.headerLost && decide (crc32 (headerBytes pkt.words) = (hword 7 pkt).toNat)

/-- The header words of a packet from the device to the bridge, with its CRC (R52, R56). -/
def bridgePacket (type h1 h2 h3 : Nat) : List Word := withHeaderCrc [w32 type, w32 h1, w32 h2, w32 h3, 0#32, 0#32, 0#32]

/-- The logical lane whose transmit a port mirrors on its spare lane: from START on while a substitution runs, then while the spare is in use (R59). -/
def siuMirror (s : State) (p : Nat) : Option Nat :=
  let q := siuAt s p
  let used := rfld s (R.SIU_PORT p) 15 8
  match q.spare with
  | some t => if (q.txCount + 2 ^ 24 - t.start) % 2 ^ 24 < 2 ^ 23 then some t.logical else if used = 0xF then none else some used
  | none => if used = 0xF then none else some used

/-- Send one data codeword on its lane, and its copy on a spare that mirrors that lane (R49, R59). -/
def sendCodeword (p : Nat) (c : Codeword) (s : State) : State :=
  let q := siuAt s p
  let lane := dataLane q.txNext
  let s1 := emit (.bridge p lane c) (setSiu p { q with txNext := q.txNext + 1 } s)
  if siuMirror s p = some lane then emit (.bridge p 4 c) s1 else s1

/-- Send a packet to the bridge. -/
def sendBridge (p : Nat) (ws : List Word) (s : State) : State :=
  (packetCodewords ws []).foldl (fun s c => sendCodeword p c s) s

/-- Bits per sample of a DEPTH code. -/
def depthBits (d : Nat) : Nat := 10 + 2 * d

/-! ### Counting and discarding -/

def siuErr (p cause : Nat) (info : Nat) (s : State) : State := raiseErr (pg 2 p) cause (w32 info) s

def pktDiscard (p : Nat) (s : State) : State := rinc (R.SIU_CNT_PKT_DISCARDED p) 1 s

/-- A packet has arrived: each of its codewords that FEC could not correct counts once, and after a failure of step 1 the port hunts (R63). -/
def arrive (p : Nat) (sound : Bool) (pkt : RxPacket) (s : State) : State :=
  let q := siuAt s p
  let fresh := pkt.lost.filter fun j => decide (q.fecNext ≤ j)
  rinc (R.SIU_CNT_FEC_UNCORR p) fresh.length (setSiu p { q with hunting := !sound, fecNext := max q.fecNext pkt.last } s)

def putSiuFrame (p : Nat) (f : Option SiuFrame) (s : State) : State := setSiu p { siuAt s p with frame := f } s

/-! ### Frame flags (R69) -/

def flSHORT_LINE : Nat := 0x001
def flLONG_LINE : Nat := 0x002
def flMISSING_LINE : Nat := 0x004
def flPAY_CRC : Nat := 0x008
def flSHORT_FRAME : Nat := 0x010
def flLONG_FRAME : Nat := 0x020
def flLATE_LINE : Nat := 0x040
def flNO_EOF : Nat := 0x080
def flEOF_MISMATCH : Nat := 0x100
def flBRIDGE_FLAG : Nat := 0x200

def addFlag (fl : Nat) (f : SiuFrame) : SiuFrame := { f with flags := Nat.lor f.flags fl }

/-! ### The T0 record (R68, R69) -/

/-- Bytes of one packed line. -/
def lineBytes (w d : Nat) : Nat := (w * depthBits d + 255) / 256 * 32

/-- The length of a T0 record of a geometry. -/
def t0Len (w h d : Nat) : Nat := roundUp 64 (64 + 4096 + h * lineBytes w d)

/-- A line packed as R55. -/
def packLine (w d : Nat) (xs : List Nat) : List Byte :=
  let b := depthBits d
  leBytes (lineBytes w d) (xs.foldr (fun v acc => v / 2 ^ (16 - b) + acc * 2 ^ b) 0)

/-- The 64-byte header and the metadata area of a frame's record (R69). -/
def recordHead (p : Nat) (f : SiuFrame) : List Byte :=
  padTo 64 (leBytes 4 (t0Len f.width f.height f.depth) ++ leBytes 2 f.id ++ leBytes 2 f.flags ++ longBytes f.sof ++
    leBytes 4 ((f.width - 1) + (f.height - 1) * 2 ^ 16 + f.depth * 2 ^ 30) ++ leBytes 8 f.bridgeTs ++
    leBytes 4 f.padded ++ leBytes 4 f.cut ++ leBytes 4 f.metaBytes.length ++ [BitVec.ofNat 8 p]) ++
  padTo 4096 f.metaBytes

/-- The tap at an accepted SOF (R68, R423): where the record starts, if the frame is tapped. -/
def t0AtSof (p id w h d : Nat) (s : State) : Option Nat × State :=
  let (ring, s1) := ringAdopt (t0Regs p) (siuAt s p).ring s
  let c := rget s1 (R.SIU_T0_CTRL p)
  if !bitAt c 0 then (none, setSiu p { siuAt s1 p with ring := ring } s1)
  else
    let due := ringDue ring (getBits c 8 1)
    let ring1 := { ring with due := ring.due + 1 }
    let len := t0Len w h d
    if !due then (none, setSiu p { siuAt s1 p with ring := ring1 } s1)
    else if ringFree ring1 (rnat s1 (R.SIU_T0_RD p)) < len then
      (none, siuErr p 0x20 id (rincFld (R.SIU_CNT_TAP_SKIPS p) 15 0 1 (setSiu p { siuAt s1 p with ring := ring1 } s1)))
    else (some ring1.res, setSiu p { siuAt s1 p with ring := ringReserve ring1 len id (getBits c 31 21) } s1)

/-- The tapped record's lines are written as they arrive. -/
def t0Line (p : Nat) (f : SiuFrame) (y : Nat) (xs : List Nat) (s : State) : State :=
  match f.t0 with
  | none => s
  | some st =>
    let r := (siuAt s p).ring
    ringWrite r.host r.base r.size (st + 64 + 4096 + y * lineBytes f.width f.depth) (packLine f.width f.depth xs) s

/-- After the last line: padding, metadata and header; the record then waits to be published (R69). -/
def t0Finish (p : Nat) (f : SiuFrame) (s : State) : State :=
  match f.t0 with
  | none => s
  | some st =>
    let r := (siuAt s p).ring
    let body := 64 + 4096 + f.height * lineBytes f.width f.depth
    let len := t0Len f.width f.height f.depth
    let s1 := ringWrite r.host r.base r.size (st + body) (List.replicate (len - body) 0#8) s
    let s2 := ringWrite r.host r.base r.size st (recordHead p f) s1
    setSiu p { siuAt s2 p with ring := ringDone r st } s2

/-! ### Lines, pads, and the ends of a frame -/

/-- A checked line goes to the pipeline, to T0 and to the recording feed (R61). -/
def deliverLine (p : Nat) (xs : List Nat) (f : SiuFrame) (s : State) : SiuFrame × State :=
  let y := f.lines.length
  let f1 := { f with lines := f.lines ++ [xs], next := y + 1 }
  let s1 := t0Line p f y xs s
  let s2 := if f.recording then recLine p f xs s1 else s1
  let s3 := if f.toClr then clrLineIn p f.id xs s2 else s2
  (f1, s3)

/-- A pad line (R65): a copy of the line PAD_DY above, or PAD_VALUE. -/
def padLine (s : State) (p : Nat) (f : SiuFrame) : List Nat :=
  let c := uget s (R.SIU_POLICY p)
  let dy := getBits c 27 24
  let n := f.lines.length
  let v := getBits c 19 4
  if bitAt c 3 || decide (n < dy) || decide (dy = 0) then List.replicate f.width v
  else nth (List.replicate f.width v) f.lines (n - dy)

/-- Generate `k` pad lines. -/
def padLines (p : Nat) : Nat → SiuFrame → State → SiuFrame × State
  | 0, f, s => (f, s)
  | k + 1, f, s =>
    let (f1, s1) := deliverLine p (padLine s p f) f (rinc (R.SIU_CNT_PADDED p) 1 s)
    padLines p k { f1 with padded := f1.padded + 1 } s1

/-- Pad a short line to `w` samples (R65). -/
def padSamples (dx v w : Nat) (copy : Bool) : Nat → List Nat → List Nat
  | 0, xs => xs
  | k + 1, xs =>
    let i := xs.length
    if w ≤ i then xs
    else padSamples dx v w copy k (xs ++ [if copy && decide (dx ≤ i ∧ 0 < dx) then nth v xs (i - dx) else v])

/-- FRAME_DONE: the last frame's flags and number, and interrupt bit 2 (R71). -/
def frameDoneInt (p : Nat) (f : SiuFrame) (s : State) : State :=
  raiseInt (pg 2 p) 2 (rset (R.SIU_LAST_FRAME p) (w32 (f.id + f.flags * 65536)) s)

/-- The frame is complete: counted, its record finished, its consumers told (R64, R69). -/
def completeFrame (p : Nat) (f : SiuFrame) (s : State) : State :=
  let s1 := t0Finish p f (putSiuFrame p none s)
  let s2 := if f.recording then recDone p f.id (recordHead p f) s1 else s1
  let s3 := if f.toClr then clrFrameClosed p f.id f.flags s2 else s2
  frameDoneInt p f (rinc (R.SIU_CNT_FRAMES_OK p) 1 s3)

/-- SIU abandons a frame: every consumer withdraws it, and its remaining packets are discarded (R66). -/
def abandonFrame (p : Nat) (f : SiuFrame) (s : State) : State :=
  let s1 := setSiu p { siuAt s p with frame := none, dead := some f.id } s
  let s2 := match f.t0 with
    | some st =>
      let (r, s') := ringGiveUp (siuAt s1 p).ring st s1
      setSiu p { siuAt s' p with ring := r } s'
    | none => s1
  let s3 := if f.recording then recAbandon p f.id s2 else s2
  let s4 := if f.toClr then clrAbandon p f.id s3 else s3
  frameDoneInt p f (rinc (R.SIU_CNT_ABANDONED p) 1 s4)

/-- Close an open frame at its EOF, at a SOF or when the link is lost: lines that miss make it short (R64). DESIGN CHOICE (log 123):
"lines received" in INFO counts the LINE packets that passed step 3, cut and discarded ones among them, and no pads. -/
def closeFrame (p : Nat) (f : SiuFrame) (s : State) : State :=
  if f.height ≤ f.lines.length then completeFrame p f s
  else
    let f1 := addFlag flSHORT_FRAME f
    let s1 := siuErr p 0x18 (f.id * 65536 + f.passed % 65536) s
    if ubit s (R.SIU_POLICY p) 2 then abandonFrame p f1 s1
    else setSiu p { siuAt s1 p with frame := some { f1 with closing := true } } s1

/-- The pad lines of a closed frame are generated and the frame completes (R65, R67). -/
def finishPads (p : Nat) (s : State) : State :=
  match (siuAt s p).frame with
  | some f =>
    if f.closing then
      (let (f1, s1) := padLines p (f.height - f.lines.length) f s
       completeFrame p f1 s1)
    else s
  | none => s

/-- LINE_TIMEOUT has expired on the open frame (R64, R67). -/
def lateClose (p : Nat) (f : SiuFrame) (s : State) : State :=
  let f1 := addFlag flLATE_LINE (addFlag flSHORT_FRAME f)
  let s1 := siuErr p 0x1A (f.id * 65536 + f.passed % 65536) s
  if ubit s (R.SIU_POLICY p) 2 then abandonFrame p f1 s1
  else setSiu p { siuAt s1 p with frame := some { f1 with closing := true }, dead := some f.id } s1

/-- A line or EOF that belongs to no open frame: silently discarded where its frame was abandoned or closed by timeout, else E_ORPHAN (R64, R66, R67). -/
def orphan (p : Nat) (pkt : RxPacket) (s : State) : State :=
  let id := pktFrame pkt
  if (siuAt s p).dead = some id ∨ siuQuiet s p then pktDiscard p s
  else siuErr p 0x12 (id * 65536 + pktType pkt) (pktDiscard p s)

/-- The open frame a packet belongs to: open, not closing, with the packet's FRAME_ID. -/
def memberFrame (s : State) (p : Nat) (pkt : RxPacket) : Option SiuFrame :=
  match (siuAt s p).frame with
  | some f => if f.closing ∨ f.id ≠ pktFrame pkt then none else some f
  | none => none

/-- Step 1 of R63 holds for a packet of TYPE `t`. -/
def packetSound (t : Nat) (lengthOk : Bool) (pkt : RxPacket) : Bool :=
  headerHolds pkt && decide (pktType pkt = t) && lengthOk

/-- Step 1 of R63: the state after a failure, or none when it passes. While the page takes no frame nothing is raised (R14). -/
def step1 (p t : Nat) (lengthOk : Bool) (pkt : RxPacket) (s : State) : Option State :=
  if packetSound t lengthOk pkt then none
  else if !headerHolds pkt then some (if siuQuiet s p then s else siuErr p 0x10 pkt.pos s)
  else some (if siuQuiet s p then pktDiscard p s else siuErr p 0x11 (hword 0 pkt).toNat (pktDiscard p s))

/-! ### SOF (R58, R64, R67) -/

/-- A SOF whose FRAME_ID matches an outstanding trigger reports its deviation (R58). DESIGN CHOICE (log 123): the deviation is
rounded to ns towards minus infinity, and of several outstanding triggers with one FRAME_ID the oldest matches. -/
def trigMatch (p id stamp : Nat) (s : State) : State :=
  let q := siuAt s p
  match q.trigs.find? (fun t => t.id == id) with
  | none => s
  | some t =>
    let dev : Int := ((stamp : Int) - (t.at16 : Int)) / 65536
    rset (R.SIU_TRIG_DEV p) (w32 (unsignedOf 32 dev)) (setSiu p { q with trigs := q.trigs.filter fun x => x.id != id } s)

/-- The commit at a port's SOF; new geometry ends a calibration (R71, R83). -/
def siuCommit (p : Nat) (s : State) : State :=
  if commitPending s (pg 2 p) then
    (let moved := decide (rget s (R.SIU_LINECFG p) ≠ uget s (R.SIU_LINECFG p))
     let s1 := otRearm p (commitApply (pg 2 p) s)
     if moved then calAbort p s1 else s1)
  else s

/-- A frame discarded whole under R14. -/
def noPipe (p id : Nat) (s : State) : State :=
  pktDiscard p (rinc (R.SIU_CNT_NOPIPE p) 1 (setSiu p { siuAt s p with dead := some id, frame := none } s))

/-- Throttle levels 5 and 6 keep the first SOF they would accept and then every second or fourth (R378). -/
def decimates (s : State) (p : Nat) : Bool :=
  let lv := rfld s R.PLT_THERM_STATE 2 0
  decide (5 ≤ lv) && decide ((siuAt s p).keep % (if lv = 5 then 2 else 4) ≠ 0)

/-- The accepted SOF: stamp, tap, recording, pipeline, motion latches (R62, R68, R70, R320). -/
def acceptSof (p : Nat) (pkt : RxPacket) (s : State) : State :=
  let id := pktFrame pkt
  let stamp := merNow s
  let g := uget s (R.SIU_LINECFG p)
  let w := getBits g 15 0 + 1
  let h := getBits g 29 16 + 1
  let d := getBits g 31 30
  let s1 := raiseInt (pg 2 p) 1 s
  let (t0, s2) := t0AtSof p id w h d s1
  let rec_ := rbit s2 (R.SIU_REC_CTRL p) 0
  let toClr := clrRunning s2 p
  let f : SiuFrame :=
    { id := id, sof := stamp, bridgeTs := (hword 4 pkt).toNat + (hword 5 pkt).toNat * 2 ^ 32,
      width := w, height := h, depth := d, lastStamp := stamp, t0 := t0, recording := rec_, toClr := toClr }
  let s3 := setSiu p { siuAt s2 p with frame := some f, dead := none, keep := (siuAt s2 p).keep + 1 } s2
  let s4 := if rec_ then recSof p f s3 else s3
  let s5 := if toClr then clrFrameStart p id stamp w h s4 else s4
  motSofLatch p stamp s5

/-- The geometry of a SOF differs from the committed one: the frame is abandoned before it starts, and its SOF discarded with it (R64). -/
def geometryFault (p : Nat) (pkt : RxPacket) (s : State) : State :=
  let id := pktFrame pkt
  let s1 := siuErr p 0x1D (hword 2 pkt).toNat (pktDiscard p (setSiu p { siuAt s p with dead := some id } s))
  raiseInt (pg 2 p) 2 (rset (R.SIU_LAST_FRAME p) (w32 id) (rinc (R.SIU_CNT_ABANDONED p) 1 s1))

/-- The frame still open when a SOF comes is closed as at EOF (R64). -/
def noEofClose (p newId : Nat) (s : State) : State :=
  match (siuAt s p).frame with
  | none => s
  | some f => finishPads p (closeFrame p (addFlag flNO_EOF f) (siuErr p 0x1C (f.id * 65536 + newId) s))

/-- A SOF whose header CRC held restarts FRAME_TIMEOUT, whatever its LENGTH (R64). -/
def sofHeard (p : Nat) (pkt : RxPacket) (s : State) : State :=
  if headerHolds pkt && decide (pktType pkt = 0x01) then
    setSiu p { siuAt s p with sofSeen := true, lateRaised := false, lastId := pktFrame pkt } s
  else s

/-- The geometry of a SOF is the committed one. -/
def sameGeometry (s : State) (p : Nat) (pkt : RxPacket) : Bool :=
  let g := uget s (R.SIU_LINECFG p)
  decide (getBits (hword 2 pkt) 15 0 = getBits g 15 0 ∧ getBits (hword 2 pkt) 31 16 = getBits g 29 16 ∧
    getBits (hword 3 pkt) 1 0 = getBits g 31 30)

/-- A SOF from the bridge: it is stamped and closes an open frame; then the commit, the tests of R14, the geometry (R62, R67). -/
def sofPacket (p : Nat) (pkt : RxPacket) (s : State) : State :=
  if !portUp s p then s
  else
    let s0 := sofHeard p pkt (arrive p (packetSound 0x01 (pktLength pkt == 0) pkt) pkt s)
    match step1 p 0x01 (pktLength pkt == 0) pkt s0 with
    | some s' => s'
    | none =>
      let id := pktFrame pkt
      let s1 := rsetLong (R.SIU_SOF_TIME p) (merNow s) (finishPads p s0)
      let s2 := siuCommit p (noEofClose p id (trigMatch p id (merNow s1) s1))
      if !siuTakes s2 p then pktDiscard p (setSiu p { siuAt s2 p with dead := some id } s2)
      else if clrUnable s2 p then noPipe p id s2
      else if !sameGeometry s2 p pkt then geometryFault p pkt s2
      else if decimates s2 p then
        raiseInt (pg 1 3) 4 (noPipe p id (setSiu p { siuAt s2 p with keep := (siuAt s2 p).keep + 1 } s2))
      else acceptSof p pkt s2

/-! ### LINE (R55, R61, R63 to R65) -/

/-- Samples of a payload, MSB-justified to 16 bits. -/
def samplesOf (d n : Nat) (payload : List Byte) : List Nat :=
  let b := depthBits d
  let v := leNat payload
  (upto n).map fun i => v / 2 ^ (b * i) % 2 ^ b * 2 ^ (16 - b)

/-- Steps 4 to 6 of R63, once the gap rule has run. The first step that fails decides (R63); DESIGN CHOICE (log 123): a line at or
above the height that fails step 5 and is not abandoned for it is cut and counted as one, with that step's flag and error and no LONG_FRAME. -/
def lineSteps (p : Nat) (pkt : RxPacket) (stagingFull : Bool) (f0 : SiuFrame) (s : State) : State :=
  let f := { f0 with passed := f0.passed + 1 }
  let no := getBits (hword 2 pkt) 15 0
  let smp := getBits (hword 2 pkt) 31 16
  let pol := uget s (R.SIU_POLICY p)
  let payOk := !pkt.payloadLost && decide (crc32 pkt.payload = (hword 6 pkt).toNat)
  let above := decide (f.height ≤ no)
  let cutIt := fun (f : SiuFrame) (s : State) =>
    putSiuFrame p (some { f with cut := f.cut + 1, next := if f.next < no + 1 then no + 1 else f.next }) (rinc (R.SIU_CNT_CUT p) 1 s)
  -- a full staging buffer loses the frame on the recording path only (R70)
  let beyond := stagingFull && f.recording && !above
  let f := if beyond then { f with recording := false } else f
  let s := if beyond then siuErr p 0x1F f.id (rincFld (R.SIU_CNT_TAP_SKIPS p) 31 16 1 (recAbandon p f.id s)) else s
  if !payOk then
    (let f1 := addFlag flPAY_CRC (if above then f else addFlag flMISSING_LINE f)
     let s1 := siuErr p 0x15 (f.id * 65536 + no) s
     if bitAt pol 0 then pktDiscard p (abandonFrame p f1 s1)
     else if above then cutIt f1 s1
     else
       let (f2, s2) := padLines p 1 f1 s1
       putSiuFrame p (some f2) (pktDiscard p s2))
  else if smp + 1 < f.width then
    (let f1 := addFlag flSHORT_LINE f
     let s1 := siuErr p 0x16 (smp * 65536 + no) s
     if bitAt pol 1 then pktDiscard p (abandonFrame p f1 s1)
     else if above then cutIt f1 s1
     else
       let xs := padSamples (getBits pol 23 20) (getBits pol 19 4) f.width (!bitAt pol 3) f.width (samplesOf f.depth (smp + 1) pkt.payload)
       let (f2, s2) := deliverLine p xs f1 s1
       putSiuFrame p (some f2) s2)
  else if f.width < smp + 1 then
    (let f1 := addFlag flLONG_LINE f
     let s1 := siuErr p 0x17 (smp * 65536 + no) s
     if bitAt pol 28 then pktDiscard p (abandonFrame p f1 s1)
     else if above then cutIt f1 s1
     else
       let (f2, s2) := deliverLine p (samplesOf f.depth f.width pkt.payload) f1 s1
       putSiuFrame p (some f2) s2)
  else if above then
    (let f1 := addFlag flLONG_FRAME f
     let s1 := siuErr p 0x19 (f.id * 65536 + no) s
     if bitAt pol 2 then pktDiscard p (abandonFrame p f1 s1) else cutIt f1 s1)
  else
    let (f2, s2) := deliverLine p (samplesOf f.depth f.width pkt.payload) f s
    putSiuFrame p (some f2) s2

/-- Step 3 of R63: a line behind is discarded, a gap is padded or abandons the frame. -/
def lineOrder (p : Nat) (pkt : RxPacket) (stagingFull : Bool) (f0 : SiuFrame) (s : State) : State :=
  let f := { f0 with lastStamp := merNow s }
  let no := getBits (hword 2 pkt) 15 0
  if no < f.next then siuErr p 0x13 (f.id * 65536 + no) (pktDiscard p (putSiuFrame p (some f) s))
  else if f.next < no then
    (let f1 := addFlag flMISSING_LINE f
     let s1 := siuErr p 0x14 (f.next * 65536 + no) s
     if ubit s (R.SIU_POLICY p) 0 then pktDiscard p (abandonFrame p f1 s1)
     else
       let stop := if no < f.height then no else f.height
       let (f2, s2) := padLines p (stop - f1.lines.length) f1 s1
       lineSteps p pkt stagingFull f2 s2)
  else lineSteps p pkt stagingFull f s

/-- The open frame's next line is late by its stamp (R64, R67). -/
def lineIsLate (s : State) (p : Nat) (f : SiuFrame) : Bool :=
  decide (f.lines.length < f.height) &&
    decide (f.lastStamp + rfld s (R.SIU_TIMEOUT p) 15 0 * 10 * 65536 < merNow s)

/-- A LINE from the bridge (R63). -/
def linePacket (p : Nat) (pkt : RxPacket) (fifoFull stagingFull : Bool) (s : State) : State :=
  if !portUp s p then s
  else
    let d := match (siuAt s p).frame with
      | some f => f.depth
      | none => ufld s (R.SIU_LINECFG p) 31 30
    let n := getBits (hword 2 pkt) 31 16 + 1
    let lenOk := decide (pktLength pkt = (n * depthBits d + 255) / 256) && decide (pkt.payload.length = 32 * pktLength pkt)
    let s0 := arrive p (packetSound 0x02 lenOk pkt) pkt s
    match step1 p 0x02 lenOk pkt s0 with
    | some s' => s'
    | none =>
      match memberFrame s0 p pkt with
      | none => orphan p pkt s0
      | some f =>
        if lineIsLate s0 p f then pktDiscard p (lateClose p f s0)
        else if fifoFull then pktDiscard p (siuErr p 0x1E f.id (abandonFrame p f s0))
        else lineOrder p pkt stagingFull f s0

end Sys2Proof.Machine
end

