-- ==== Sys2Proof/Machine/SiuCmds.lean ====
section
/-! DEFINITION. The meanings of the sensor ports' packets and events. -/

namespace Sys2Proof.Machine

/-- SOF (R36, R58, R64, R67). -/
def execSof (port : Fin 2) (packet : Packet) (s : State) : Host.Outcome State Fault Refusal :=
  .next (sofPacket port.val (siuPacket s port.val packet) s)

/-- LINE (R63 to R65). -/
def execLine (port : Fin 2) (packet : Packet) (fifoFull stagingFull : Bool) (s : State) : Host.Outcome State Fault Refusal :=
  .next (linePacket port.val (siuPacket s port.val packet) fifoFull stagingFull s)

/-- EOF (R64): the bridge's flags, the count of lines, and the frame's close. -/
def eofPacket (p : Nat) (pkt : RxPacket) (s : State) : State :=
  if !portUp s p then s
  else
    let s0 := arrive p (packetSound 0x03 (pktLength pkt == 0) pkt) pkt s
    match step1 p 0x03 (pktLength pkt == 0) pkt s0 with
    | some s' => s'
    | none =>
      match memberFrame s0 p pkt with
      | none => orphan p pkt s0
      | some f =>
        let f1 := if getBits (hword 3 pkt) 7 0 ≠ 0 then addFlag flBRIDGE_FLAG f else f
        let f2 := if getBits (hword 2 pkt) 15 0 ≠ f.passed % 65536 then addFlag flEOF_MISMATCH f1 else f1
        closeFrame p f2 s0

def execEof (port : Fin 2) (packet : Packet) (s : State) : Host.Outcome State Fault Refusal :=
  .next (eofPacket port.val (siuPacket s port.val packet) s)

/-- META (R53, R69): the last metadata before EOF wins. A payload in an uncorrectable codeword is discarded. -/
def metaArrives (p : Nat) (pkt : RxPacket) (s : State) : State :=
  if !portUp s p then s
  else
    let n := pktLength pkt
    let lenOk := decide (1 ≤ n ∧ n ≤ 128 ∧ pkt.payload.length = 32 * n)
    let s0 := arrive p (packetSound 0x04 lenOk pkt) pkt s
    match step1 p 0x04 lenOk pkt s0 with
    | some s' => s'
    | none =>
      match memberFrame s0 p pkt with
      | none => orphan p pkt s0
      | some f => if pkt.payloadLost then pktDiscard p s0 else putSiuFrame p (some { f with metaBytes := pkt.payload }) s0

def execMetaPacket (port : Fin 2) (packet : Packet) (s : State) : Host.Outcome State Fault Refusal :=
  .next (metaArrives port.val (siuPacket s port.val packet) s)

/-- ECHO (R57): SIU sends an echo and notes when it left. -/
def execEcho (port : Fin 2) (s : State) : Host.Outcome State Fault Refusal :=
  let p := port.val
  let q := siuAt s p
  .next (if portUp s p then
      sendBridge p (bridgePacket 0x83 (q.echoTag % 65536) 0 0)
        (setSiu p { q with echoTag := (q.echoTag + 1) % 65536, echoOut := some (q.echoTag % 65536, merNow s) } s)
    else s)

/-- ECHO_REPLY (R57): OWD = (RTT - TURN) / 2, for the reply to the echo outstanding and within 100 µs; every other is discarded (R14, R64). -/
def echoReplyArrives (p : Nat) (pkt : RxPacket) (s : State) : State :=
  if !portUp s p then s
  else
    let s0 := arrive p (packetSound 0x05 (pktLength pkt == 0) pkt) pkt s
    match step1 p 0x05 (pktLength pkt == 0) pkt s0 with
    | some s' => s'
    | none =>
      if siuQuiet s0 p then pktDiscard p s0
      else
        let q := siuAt s0 p
        match q.echoOut with
        | none => pktDiscard p s0
        | some (tag, t) =>
          if tag ≠ pktFrame pkt then pktDiscard p s0
          else
            let rtt := merNow s0 - t
            let s1 := setSiu p { q with echoOut := none } s0
            if 100000 * 65536 < rtt then pktDiscard p s1
            else rset (R.SIU_OWD p) (w32 ((rtt - (hword 2 pkt).toNat) / 2)) s1

def execEchoReply (port : Fin 2) (packet : Packet) (s : State) : Host.Outcome State Fault Refusal :=
  .next (echoReplyArrives port.val (siuPacket s port.val packet) s)

/-- ECHO_TIMEOUT (R57): an echo not answered within 100 µs is given up; OWD stays. -/
def execEchoTimeout (port : Fin 2) (s : State) : Host.Outcome State Fault Refusal :=
  .next (setSiu port.val { siuAt s port.val with echoOut := none } s)

/-- The exposure instant of trigger `k` (R58). -/
def trigInstant (s : State) (p k : Nat) : Nat :=
  rlong s (R.SIU_TRIG_FIRST p) + k * rnat2 s (R.SIU_TRIG_PERIOD p)

/-- TRIGGER (R58): the next trigger departs with its delay, or is skipped and counted when it cannot leave LEAD ahead. -/
def execTrigger (port : Fin 2) (s : State) : Host.Outcome State Fault Refusal :=
  let p := port.val
  let q := siuAt s p
  let c := rget s (R.SIU_TRIG_CTRL p)
  let k := q.nextTrig
  let t := trigInstant s p k
  let now := merNow s
  .next (if !bitAt c 0 || !portUp s p then s
    else if now + getBits c 16 1 * 1000 * 65536 ≤ t then
      (let delay := t - now - rnat s (R.SIU_OWD p)
       sendBridge p (bridgePacket 0x81 (k % 65536) (delay / 65536) (delay % 65536))
         (setSiu p { q with nextTrig := k + 1, trigs := q.trigs ++ [{ id := k % 65536, at16 := t }] } s))
    else rincFld (R.SIU_CNT_TAP_SKIPS p) 31 16 1 (setSiu p { q with nextTrig := k + 1 } s))

/-- LATE_LINE (R64): LINE_TIMEOUT expires while lines below the height are outstanding. -/
def execLateLine (port : Fin 2) (s : State) : Host.Outcome State Fault Refusal :=
  let p := port.val
  .next (match (siuAt s p).frame with
    | none => s
    | some f => if f.closing ∨ f.height ≤ f.lines.length then s else lateClose p f s)

/-- LATE_FRAME (R64): FRAME_TIMEOUT expires with no SOF, once per silence; a page that takes no frame raises no error (R14). -/
def execLateFrame (port : Fin 2) (s : State) : Host.Outcome State Fault Refusal :=
  let p := port.val
  let q := siuAt s p
  .next (if q.sofSeen && !q.lateRaised && portUp s p && !siuQuiet s p then
      siuErr p 0x1B q.lastId (setSiu p { q with lateRaised := true } s)
    else s)

/-- PAD_LINES_DONE (R65, R67): the last pad line of a closed frame is out, and the frame completes. -/
def execPadLinesDone (port : Fin 2) (s : State) : Host.Outcome State Fault Refusal :=
  .next (finishPads port.val s)

/-- One alignment codeword on a logical lane: in ALIGNING, three in a row on every lane, counts in agreement, and a skew of at most
102.4 ns bring the port up (R50). DESIGN CHOICE (log 123): SKEW shows 255 for a skew above 255 ns. -/
def alignLane (p lane count skew : Nat) (s : State) : State :=
  let q := siuAt s p
  let (found, last, _) := nth (0, 0, 0) q.lanes lane
  let run := if found = 0 ∨ (last + 1) % 2 ^ 24 = count then found + 1 else 1
  let lanes := setNth q.lanes lane (run, count, 0)
  let s1 := rsetFld (R.SIU_PORT p) 23 16 (satTo 255 skew) (setSiu p { q with lanes := lanes } s)
  let ready := lanes.all fun l => decide (3 ≤ l.1 ∧ l.2.1 = count)
  if portState s p ≠ 2 || !ready then s1
  else if 102 < skew then siuErr p 0x22 skew s1
  else setPortState p 3 (setSiu p { siuAt s1 p with sofSeen := false, lateRaised := false } s1)

/-- Alignment periods from START to `count`. -/
def periodsSince (start count : Nat) : Nat := (count + 2 ^ 24 - start) % 2 ^ 24

/-- A data lane's alignment codeword during a substitution (R59): from START the port is SUBSTITUTING; at the eighth period without
2 clean ones on the spare it ends: LANE_MAP with ACTION = 0, and the port stays on the original lane. -/
def substTick (p count : Nat) (s : State) : State :=
  let q := siuAt s p
  match q.spare with
  | none => s
  | some t =>
    if portState s p = 3 ∧ count = t.start then setPortState p 4 s
    else if portState s p = 4 ∧ 8 ≤ periodsSince t.start count ∧ t.clean < 2 then
      lanSpareResult 0 p false
        (sendBridge p (bridgePacket 0x82 t.logical ((count + 2) % 2 ^ 24) 0) (setPortState p 3 (setSiu p { q with spare := none } s)))
    else s

/-- The spare's alignment codeword during a substitution (R59): after 2 clean periods the receiver switches at the next one. -/
def spareCodeword (p lane count : Nat) (clean : Bool) (s : State) : State :=
  let q := siuAt s p
  match q.spare with
  | none => s
  | some t =>
    if portState s p ≠ 4 ∨ lane ≠ t.logical ∨ count = t.start then s
    else if 2 ≤ t.clean then
      lanSpareResult 0 p true
        (setPortState p 3 (rsetBit (hdrStatus (pg 2 p)) 4 true
          (rsetFld (R.SIU_PORT p) 15 8 t.logical (setSiu p { q with spare := none } s))))
    else setSiu p { q with spare := some { t with clean := if clean then t.clean + 1 else 0 } } s

/-- The switch back to the original lane at START, after RELEASE (R59, R232). -/
def spareBack (p count : Nat) (s : State) : State :=
  match (siuAt s p).back with
  | some start => if 2 ^ 23 ≤ periodsSince start count then s else spareReturned 0 p (rsetFld (R.SIU_PORT p) 15 8 0xF (setSiu p { siuAt s p with back := none } s))
  | none => s

/-- ALIGNMENT_CODEWORD (R49, R50, R59): a codeword in the alignment slot of physical lane `lane`, 4 the spare, and whether every
codeword of that lane since its last one could be corrected. One that FEC cannot correct counts (R63). -/
def alignArrives (p lane : Nat) (c : Codeword) (skew : Nat) (clean : Bool) (s : State) : State :=
  if portState s p < 2 then s
  else
    match alignRead c with
    | none =>
      let s1 := if (rsDecode c).isNone ∧ (lane ≠ 4 ∨ rfld s (R.SIU_PORT p) 15 8 ≠ 0xF) then rinc (R.SIU_CNT_FEC_UNCORR p) 1 s else s
      if lane = 4 then (match (siuAt s1 p).spare with
        | some t => setSiu p { siuAt s1 p with spare := some { t with clean := 0 } } s1
        | none => s1)
      else s1
    | some (byte, count) =>
      if lane = 4 then
        (if byte < 128 ∨ 131 < byte then s
         else if rfld s (R.SIU_PORT p) 15 8 = byte - 128 then spareBack p count (alignLane p (byte - 128) count skew s)
         else spareCodeword p (byte - 128) count clean s)
      else if byte ≠ logicalLane s 0 (5 * p + lane) ∨ rfld s (R.SIU_PORT p) 15 8 = byte then s
      else spareBack p count (substTick p count (alignLane p byte count skew s))

def execAlignmentCodeword (port : Fin 2) (lane : Fin 5) (codeword : BitVec 5440) (skew : Nat) (clean : Bool) (s : State) :
    Host.Outcome State Fault Refusal :=
  .next (alignArrives port.val lane.val codeword skew clean s)

/-- The device's own alignment codewords, in the same slot on all five lanes of a port that has left TRAINING (R49): the count goes
up by 1, and the spare's lane byte is 0x0F or the lane it mirrors. -/
def siuAlignSend (p : Nat) (s : State) : State :=
  if portState s p < 2 then s
  else
    let count := ((siuAt s p).txCount + 1) % 2 ^ 24
    let s1 := setSiu p { siuAt s p with txCount := count } s
    let spare := match siuMirror s1 p with
      | some l => l + 128
      | none => 0xF
    [0, 1, 2, 3, 4].foldl (fun s i => emit (.bridge p i (alignCodeword (if i = 4 then spare else i) count)) s) s1

/-- ALIGNMENT_LOST (R50): three alignment codewords in a row missing return the port to ALIGNING; an open frame is completed by the short-frame rule. -/
def execAlignmentLost (port : Fin 2) (lanes : BitVec 4) (s : State) : Host.Outcome State Fault Refusal :=
  let p := port.val
  .next (if portUp s p && decide (lanes ≠ 0#4) then
      (let s1 := siuErr p 0x21 lanes.toNat (substAbandon 0 p <| setPortState p 2
         (setSiu p { siuAt s p with lanes := [(0, 0, 0), (0, 0, 0), (0, 0, 0), (0, 0, 0)], spare := none, back := none } s))
       match (siuAt s1 p).frame with
       | some f => if f.closing then s1 else closeFrame p f s1
       | none => s1)
    else s)

/-- T0_PUBLISH (R68, R423): WR passes the next record written whole, then its vector is sent. -/
def execT0Publish (port : Fin 2) (s : State) : Host.Outcome State Fault Refusal :=
  let p := port.val
  let (r, s1) := ringPublish (t0Regs p) (fun _ => rfld s (R.SIU_T0_CTRL p) 31 21) (siuAt s p).ring s
  .next (setSiu p { siuAt s1 p with ring := r } s1)

/-- A lane substitution on port `p` begins: LANE_MAP with START two alignment counts ahead of the one the lane last received (R59). -/
def siuSubstStart (p logical : Nat) (s : State) : State :=
  let q := siuAt s p
  let (_, last, _) := nth (0, 0, 0) q.lanes logical
  let start := (last + 2) % 2 ^ 24
  if portState s p = 3 ∧ q.spare = none then
    sendBridge p (bridgePacket 0x82 (logical + 256) start 0)
      (setSiu p { q with spare := some { logical := logical, start := start, clean := 0, periods := 0 } } s)
  else s

end Sys2Proof.Machine
end

