-- ==== Sys2Proof/Machine/Pho.lean ====
section
/-! DEFINITION. The Sextant: class table, tile records, the pass, the limiter, reference capture and their commands (R147 to R161). -/

namespace Sys2Proof.Machine

def setPho (v : PhoState) (s : State) : State := { s with pho := v }

/-- A byte list's field of `k` bytes at `off`, least significant byte first. -/
def fieldAt (bs : List Byte) (off k : Nat) : Nat := leNat ((bs.drop off).take k)

def f32Field (bs : List Byte) (off : Nat) : F32 := w32 (fieldAt bs off 4)
def halfField (bs : List Byte) (off : Nat) : Half := BitVec.ofNat 16 (fieldAt bs off 2)
def f16Field (bs : List Byte) (off : Nat) : F32 := f16to32 (halfField bs off)

/-- The Sextant runs (R32, R157). -/
def phoRuns (s : State) : Bool := unitRuns s (pg 5 0) && !idleReq s (pg 5 0)

/-! ### The class table (R150) -/

def f32In (x lo hi : F32) : Bool := f32IsFinite x && f32Le lo x && f32Le x hi

/-- Above 0, to 100. -/
def f32To100 (x : F32) : Bool := f32IsFinite x && f32Lt f32Zero x && f32Le x 0x42C80000#32

/-- A class record's fields are finite and in range. -/
def classOk (c : List Byte) : Bool :=
  ((upto 12).all fun i => f16IsFinite (halfField c (2 * i))) &&
  ((upto 3).all fun i => f32In (f16Field c (18 + 2 * i)) 0xBDCCCCCD#32 0x3DCCCCCD#32) &&
  f32In (f32Field c 24) 0xC2200000#32 0x43160000#32 &&
  ([28, 32, 36, 40].all fun o => f32To100 (f32Field c o)) &&
  f32In (f32Field c 44) f32Zero 0x461C4000#32 &&
  ([48, 52, 56].all fun o => f32In (f32Field c o) f32Zero f32One) &&
  ([60, 62].all fun o => f16IsFinite (halfField c o) && f32In (f16Field c o) f32Zero f32One)

def classBytes (s : State) (k : Nat) : List Byte := memRead s false 64 (unat2 s R.PHO_CLASS_BASE + 64 * k)

def classValid (s : State) (k : Nat) : Bool :=
  !memPoisoned s false 64 (unat2 s R.PHO_CLASS_BASE + 64 * k) && classOk (classBytes s k)

/-- The whole table is read at a pass start: each invalid class raises E_CLASS_INVALID (R150). -/
def checkClasses (s : State) : State :=
  (upto 256).foldl (fun t k => if classValid s k then t else raiseErr (pg 5 0) 0x11 (w32 k) t) (memSee false 16384 (unat2 s R.PHO_CLASS_BASE) s)

/-! ### Records (R148, R149) -/

def bankBase (s : State) (sel : Bool) : Nat := if sel then unat2 s R.PHO_BANK1 else unat2 s R.PHO_BANK0

/-- A record can be used (R154). -/
def recordUsable (s : State) (a : Nat) (r : List Byte) : Bool :=
  !memPoisoned s false 64 a && decide (fieldAt r 25 1 % 2 = 1) && ((upto 12).all fun i => f16IsFinite (halfField r (2 * i))) &&
    classValid s (fieldAt r 24 1)

/-- A correction element clamped, and 1 where the clamp acted (R147). -/
def corrClamp (lo x : F32) : F32 × Nat :=
  (f32Clamp x lo f32Top, b2n (f32Lt x lo || f32Lt f32Top x))

/-- The limiter's gain in use (R156). -/
def glim (s : State) : F32 := if ubit s R.PHO_CTRL 1 then rget s R.PHO_GLIM else f32One

/-- PHO_GLIM and LIMITING: each change of LIMITING raises interrupt bit 2 (R156). -/
def setGlim (g : F32) (s : State) : State :=
  let lim := f32Lt g f32One
  let s1 := rsetBit R.PHO_STATUS 0 lim (rset R.PHO_GLIM g s)
  if rbit s R.PHO_STATUS 0 ≠ lim then raiseInt (pg 5 0) 2 s1 else s1

def identityK : List F32 := [f32One, f32Zero, f32Zero, f32Zero, f32One, f32Zero, f32Zero, f32Zero, f32One]

/-- A tile without a record of its own: identity, GLIM (R154). -/
def plainTile (key cal : Nat) (g : F32) : PhoTile :=
  { key := key, cal := cal, plain := true, k := identityK, g := [g, g, g] }

/-- The state part of a record as the pass takes it up: from its bank, or initialised (R157). -/
def stateOf (st cls cal : List Byte) (key calIdx at16 : Nat) (mode : Bool) : PhoTile :=
  let t : PhoTile := { key := key, cal := calIdx, plain := false, k := [], g := [], calPart := cal, cls := cls }
  if fieldAt cal 25 1 / 8 % 2 = 1 then
    let pi := f32Field cls 44
    { t with
      tj := if mode then f32Mul pi (f32Field cls 28) else f32Zero
      tb := if mode then f32Mul pi (f32Field cls 36) else f32Zero
      pLast := pi
      upd := at16
      age := 0xFFFF }
  else
    { t with
      tj := f32Field st 32
      tb := f32Field st 36
      pLast := f32Field st 40
      upd := (fieldAt st 44 4 * 1000000000 + fieldAt st 48 4) * 65536
      tmeas := fieldAt st 52 2
      age := fieldAt st 54 2
      launchId := fieldAt st 56 2
      tPred := f32Field st 60 }

/-- DT in seconds, rounded once (R152). UPD holds the low 32 bits of the seconds. -/
def elapsed (at16 upd : Nat) : F32 :=
  let span := 2 ^ 32 * 1000000000 * 65536
  f32OfRat (((at16 % span + span - upd % span) % span : Nat) : Int) (65536 * 1000000000)

/-- R152 on one record: the two poles. -/
def advancePoles (t : PhoTile) (at16 : Nat) : PhoTile :=
  let dt := elapsed at16 t.upd
  let kj := f32Min (f32Mul dt (f32Field t.cls 32)) f32One
  let kb := f32Min (f32Mul dt (f32Field t.cls 40)) f32One
  { t with
    tj := f32Add t.tj (f32Mul kj (f32Sub (f32Mul t.pLast (f32Field t.cls 28)) t.tj))
    tb := f32Add t.tb (f32Mul kb (f32Sub (f32Mul t.pLast (f32Field t.cls 36)) t.tb))
    upd := at16 }

def hasSensor (t : PhoTile) : Bool := decide (fieldAt t.calPart 25 1 / 2 % 2 = 1)

/-- R152's observer: applied, or rejected, when a fresh measurement has come. -/
def observe (s : State) (t : PhoTile) : PhoTile :=
  if ubit s R.PHO_CTRL 2 && hasSensor t && decide (t.age = 0) then
    let e := f32Sub (f16to32 (BitVec.ofNat 16 t.tmeas))
      (f32Add (f32Add (uget s R.PHO_T_AMB) t.tb) (f32Mul (f16Field t.cls 62) t.tj))
    if f32Le (f32Abs e) (uget s R.PHO_OBS_REJECT) then
      { t with tb := f32Add t.tb (f32Mul (f16Field t.cls 60) e), applied := true }
    else { t with rejected := true }
  else t

/-- R152's prediction and correction, clamped under R147, with the count of clamps. -/
def correct (s : State) (g : F32) (t : PhoTile) : PhoTile × Nat :=
  let pred := f32Add (f32Add (uget s R.PHO_T_AMB) t.tb) t.tj
  let dT := if fieldAt t.calPart 25 1 / 4 % 2 = 1 then f32Zero else f32Sub pred (f32Field t.cls 24)
  let ks := (upto 9).map fun i =>
    corrClamp (f32Neg f32Top) (f32Add (f16Field t.calPart (2 * i)) (f32Mul dT (f16Field t.cls (2 * i))))
  let gs := (upto 3).map fun c =>
    corrClamp f32Zero (f32Mul (f32Mul (f16Field t.calPart (18 + 2 * c)) (f32Add f32One (f32Mul dT (f16Field t.cls (18 + 2 * c))))) g)
  ({ t with k := ks.map (·.1), g := gs.map (·.1), tPred := pred },
    (ks ++ gs).foldl (fun a x => a + x.2) 0)

def phoMeasAt (s : State) (key : Nat) : PhoMeas := smGet { temp := 0, steady := false, fresh := false } s.pho.meas key

def setMeas (key : Nat) (m : PhoMeas) (s : State) : State :=
  { s with pho := { s.pho with meas := smSet { temp := 0, steady := false, fresh := false } s.pho.meas key m } }

/-- A fresh measurement is copied into the record and used up (R155). -/
def takeMeas (key : Nat) (t : PhoTile) (s : State) : PhoTile × State :=
  let m := phoMeasAt s key
  if m.fresh then ({ t with tmeas := m.temp, age := 0 }, setMeas key { m with fresh := false } s) else (t, s)

/-- TLK hands a temperature reply over (R155). -/
def measStore (key temp : Nat) (steady : Bool) (s : State) : State :=
  let s1 := if (phoMeasAt s key).fresh then rinc R.PHO_CNT_MEAS_OVERWRITE 1 s else s
  setMeas key { temp := temp, steady := steady, fresh := true } s1

/-- The state part of a usable record comes from the old bank in the pass where SEL changes, unless INIT = 1; it must not read as
poisoned there (R154, R157). -/
def statePart (s : State) (calBase stBase cal : Nat) (r : List Byte) : Option (List Byte) :=
  if stBase = calBase ∨ fieldAt r 25 1 / 8 % 2 = 1 then some r
  else if memPoisoned s false 64 (stBase + 64 * cal) then none
  else some (memRead s false 64 (stBase + 64 * cal))

/-- Prepare one valid entry (R152, R154, R155, R157). `calBase` and `stBase` are the banks its two parts come from. -/
def prepareTile (at16 calBase stBase : Nat) (g : F32) (acc : List PhoTile × State) (e : MapEntry) : List PhoTile × State :=
  let (done, s) := acc
  let cal := meCal e
  let key := meKey e
  match done.find? fun t => t.cal == cal && !t.plain with
  | some first =>
    (done ++ [{ plainTile key cal g with k := first.k, g := first.g }],
     raiseErr (pg 5 0) 0x12 (w32 cal) (rinc R.PHO_CNT_SHARED 1 s))
  | none =>
    let a := calBase + 64 * cal
    let r := memRead s false 64 a
    let s := memSee false 64 a s
    let s := if recordUsable s a r ∧ stBase ≠ calBase ∧ fieldAt r 25 1 / 8 % 2 = 0 then memSee false 64 (stBase + 64 * cal) s else s
    match if recordUsable s a r then statePart s calBase stBase cal r else none with
    | none =>
      (done ++ [{ plainTile key cal g with missing := true }],
       (let s' := rinc R.PHO_CNT_CAL_MISSING 1 s
        if done.any (·.missing) then s' else raiseErr (pg 5 0) 0x10 (w32 cal) s'))
    | some st =>
      let (t1, s1) := takeMeas key (stateOf st (classBytes s (fieldAt r 24 1)) (r.take 32) key cal at16 (ubit s R.PHO_CTRL 3)) s
      let t2 := observe s1 (advancePoles t1 at16)
      let s2 := if t2.applied then rinc R.PHO_CNT_MEAS 1 s1
        else if t2.rejected then raiseErr (pg 5 1) 0x13 (w32 key) (rinc R.PHO_CNT_MEAS_REJECT 1 s1)
        else s1
      let (t3, n) := correct s2 g t2
      (done ++ [t3], rinc R.PHO_CNT_CLAMPED n s2)

/-! ### Reference capture (R158) -/

def refState (s : State) : Nat := rfld s R.PHO_REF_CTRL 3 2

/-- The capture ends: RESULT, STATE 0, interrupt bit 1 of page 1. -/
def refEnd (result : Nat) (s : State) : State :=
  raiseInt (pg 5 1) 1 (rsetFld R.PHO_REF_CTRL 5 4 result (rsetFld R.PHO_REF_CTRL 3 2 0
    (setPho { s.pho with steadyRun := 0, refOut := [] } s)))

/-- The capture ends ABORTED with E_CAL_ABORT. -/
def refAbort (s : State) : State :=
  if refState s = 0 then s else refEnd 3 (raiseErr (pg 5 1) 0x16 (w32 (refState s)) s)

/-! ### The pass -/

/-- W[v] (R153). -/
def slotWeights (u : Nat → Word) : List F32 :=
  (upto (viewCount u)).map fun v => f32OfRat ((slotLen u v * 65536 : Nat) : Int) (wfPeriod u)

/-- The pass for launch instant `at16` begins: commits, the banks, every valid entry's record (R151 to R157). -/
def passBegin (at16 : Nat) (u : Nat → Word) (s : State) : State :=
  let before := ubit s R.PHO_CTRL 0
  let stBase := match s.pho.oldBank with | some b => b | none => bankBase s before
  let s1 := if commitPending s (pg 5 0) then commitApply (pg 5 0) s else s
  let s2 := if commitPending s1 (pg 5 1) then commitApply (pg 5 1) s1 else s1
  let sel := ubit s2 R.PHO_CTRL 0
  let s3 := if sel ≠ before then refAbort s2 else s2
  let s4 := if ubit s3 R.PHO_CTRL 1 then s3 else setGlim f32One s3
  let s5 := checkClasses s4
  let old := if sel = before ∧ s.pho.oldBank = none then bankBase s5 sel else stBase
  let (ts, s6) := ((scanEntries s5 u).filter fun e => !entryPoisoned s5 u e).foldl
    (prepareTile at16 (bankBase s5 sel) old (glim s5)) ([], s5)
  rsetBit R.PHO_STATUS 2 true
    (setPho { s6.pho with oldBank := none, pass := some { at16 := at16, bank := bankBase s6 sel, tiles := ts, weights := slotWeights u } } s6)

/-- The pass's tile of an entry: what CNV corrects with. -/
def passTile (s : State) (at16 key : Nat) : Option PhoTile :=
  match s.pho.pass with
  | some p => if p.at16 = at16 then p.tiles.find? fun t => t.key == key else none
  | none => none

/-- P_LAST from the sums of a launch (R153). -/
def tilePower (t : PhoTile) (ws : List F32) (views : List (F32 × F32 × F32)) : F32 :=
  let d := (views.zip ws).foldl (fun a (v, w) =>
    f32Add a (f32Mul w (f32Add (f32Add (f32Mul (f32Field t.cls 48) v.1) (f32Mul (f32Field t.cls 52) v.2.1))
      (f32Mul (f32Field t.cls 56) v.2.2)))) f32Zero
  f32Add (f32Field t.cls 44) d

/-- MEAS_AGE one pass on (R149). -/
def nextAge (a : Nat) : Nat := if a = 0xFFFF then a else satTo 0xFFFE (a + 1)

/-- A record is steady (R158). -/
def tileSteady (s : State) (t : PhoTile) : Bool :=
  let tol := rget s R.PHO_REF_TOL
  f32Le (f32Abs (f32Sub (f32Mul t.pLast (f32Field t.cls 28)) t.tj)) tol &&
  f32Le (f32Abs (f32Sub (f32Mul t.pLast (f32Field t.cls 36)) t.tb)) tol &&
  (!hasSensor t || (decide (t.age ≤ ufld s R.PHO_MEAS_MAX_AGE 15 0) && (phoMeasAt s t.key).steady))

/-- The record's 64 bytes as written back (R149, R153). -/
def recordBytes (t : PhoTile) (flags : Nat) : List Byte :=
  let cal := (t.calPart.take 25) ++ [BitVec.ofNat 8 (fieldAt t.calPart 25 1 - fieldAt t.calPart 25 1 / 8 % 2 * 8)] ++ (t.calPart.drop 26)
  let ns := t.upd / 65536
  cal ++ leBytes 4 t.tj.toNat ++ leBytes 4 t.tb.toNat ++ leBytes 4 t.pLast.toNat ++ leBytes 4 (ns / 1000000000) ++
    leBytes 4 (ns % 1000000000) ++ leBytes 2 t.tmeas ++ leBytes 2 t.age ++ leBytes 2 t.launchId ++ leBytes 2 flags ++
    leBytes 4 t.tPred.toNat

/-- A tile at close: power from its sums, age, steadiness; the record is written. Returns the tile and whether it is steady. -/
def closeTile (p : PhoPass) (limited : Bool) (t : PhoTile) (s : State) : PhoTile × Bool × State :=
  let got := match p.sums with
    | some (id, held, ss) => (ss.find? fun (x : TileSums) => x.key == t.key).map fun (x : TileSums) => (id, held, x.views)
    | none => none
  let t1 := match got with
    | some (id, _, vs) => { t with pLast := tilePower t p.weights vs, launchId := id }
    | none => t
  let t2 := { t1 with age := nextAge t1.age }
  let held := match got with | some (_, h, _) => h | none => false
  let testing := decide (refState s = 1)
  let steady := tileSteady s t2
  let stale := hasSensor t2 && decide (ufld s R.PHO_MEAS_MAX_AGE 15 0 < t2.age)
  let flags := b2n t2.applied + 2 * b2n t2.rejected + 4 * b2n held + 8 * b2n limited + 16 * b2n stale + 32 * b2n (testing && steady)
  (t2, steady, memWrite false (p.bank + 64 * t2.cal) (recordBytes t2 flags) s)

/-- The limiter (R156). -/
def limiter (pw pi dt : F32) (s : State) : State :=
  if !ubit s R.PHO_CTRL 1 then rsetBit R.PHO_STATUS 1 false (setGlim f32One s)
  else
    let g0 := rget s R.PHO_GLIM
    let df := f32Div (f32Sub pw pi) g0
    let raw := if f32Le df f32Zero then f32One else f32Min f32One (f32Div (f32Sub (uget s R.PHO_BUDGET) pi) df)
    let low := f32Lt raw (uget s R.PHO_GLIM_MIN)
    let g := if low then uget s R.PHO_GLIM_MIN else raw
    let s1 := rsetBit R.PHO_STATUS 1 low s
    let s2 := if low then
        (let e := raiseErr (pg 5 0) 0x14 (w32 (f32Floor pw).toNat) s1
         if rbit s R.PHO_STATUS 1 then e else raiseInt (pg 5 0) 3 e)
      else s1
    setGlim (if f32Lt g g0 then f32Max g (f32Sub g0 (f32Mul dt (uget s R.PHO_SLEW_DOWN)))
      else f32Min g (f32Add g0 (f32Mul dt (uget s R.PHO_SLEW_UP)))) s2

/-- The reference capture after a pass (R158). -/
def refAfterPass (ts : List (PhoTile × Bool)) (s : State) : State :=
  if refState s ≠ 1 then s
  else
    let bad := (ts.filter fun t => !t.2).length
    let run := if bad = 0 then s.pho.steadyRun + 1 else 0
    let s1 := rset R.PHO_REF_UNSTEADY (w32 bad) (setPho { s.pho with steadyRun := run } s)
    if rfld s R.PHO_REF_CTRL 15 8 ≤ run ∧ 0 < run then
      rsetFld R.PHO_REF_CTRL 3 2 2 (setPho { s1.pho with refOut := ts.map fun t =>
        (t.1.cal, t.1.tPred, if t.1.age = 0xFFFF then 0x7FC00000#32 else f16to32 (BitVec.ofNat 16 t.1.tmeas)) } s1)
    else s1

/-- The pass closes: every record written back, power, limiter, capture (R153, R156, R158). -/
def passClose (p : PhoPass) (s : State) : State :=
  let limited := f32Lt (rget s R.PHO_GLIM) f32One
  let (ts, s1) := (p.tiles.filter fun t => !t.plain).foldl (fun (acc : List (PhoTile × Bool) × State) t =>
    let (t', st, s') := closeTile p limited t acc.2
    (acc.1 ++ [(t', st)], s')) ([], s)
  let pw := ts.foldl (fun a t => f32Add a t.1.pLast) f32Zero
  let pi := ts.foldl (fun a t => f32Add a (f32Field t.1.cls 44)) f32Zero
  let dt := match s.pho.lastAt with
    | some a => f32OfRat ((p.at16 : Int) - (a : Int)) (65536 * 1000000000)
    | none => f32Zero
  let s2 := rset R.PHO_PWR_PEAK (f32Max (rget s1 R.PHO_PWR_PEAK) pw) (rset R.PHO_PWR_WALL pw s1)
  let s3 := refAfterPass ts (limiter pw pi dt s2)
  raiseInt (pg 5 0) 1 (rsetBit R.PHO_STATUS 2 false (rinc R.PHO_PASS_SEQ 1
    (setPho { s3.pho with pass := none, lastAt := some p.at16 } s3)))

/-! ### Commands -/

/-- A pass whose launch instant is no longer scheduled: the hold-over it was begun for has been dropped (R137, R151). -/
def passGone (s : State) (p : PhoPass) : Bool :=
  let past := match s.cnv.lastAt with | some t => decide (p.at16 ≤ t) | none => false
  !past && (match nextLaunch s with | some (at16, _) => at16 != p.at16 | none => false)

/-- A dropped hold-over has no pass: what was prepared for it is let go, and no record is written (R151; DEDUCED, log 136). -/
def passForget (s : State) : State :=
  match s.pho.pass with
  | some p => if passGone s p then rsetBit R.PHO_STATUS 2 false (setPho { s.pho with pass := none } s) else s
  | none => s

/-- The pass of the next launch scheduled may begin: its scan may start, or D_k has come (R151). -/
def passDue (s : State) (at16 : Nat) (b : Option Nat) : Bool :=
  (match s.pho.lastAt with | some a => decide (a < at16) | none => true) &&
    (scanMayStart s at16 b || decide (deadline (launchUse s b) at16 ≤ merNow s))

/-- PASS_BEGIN (R151): once the pass before has closed, for the oldest instant that is owed one, else for the next launch scheduled. -/
def execPassBegin (s : State) : Host.Outcome State Fault Refusal :=
  let s1 := passForget s
  .next (if !phoRuns s1 || s1.pho.pass.isSome then s1
    else
      match s1.pho.owed, nextLaunch s1 with
      | (at16, use) :: rest, _ => passBegin at16 (useOf use) (setPho { s1.pho with owed := rest } s1)
      | [], some (at16, b) => if passDue s1 at16 b then passBegin at16 (launchUse s1 b) s1 else s1
      | [], none => s1)

/-- The sums a pass closes with: of the scan that has ended, of the launch just sent, or held in self-refresh (R135, R141, R153). -/
def passSums (s : State) (p : PhoPass) : Option (Nat × Bool × List TileSums) :=
  match p.sums with
  | some x => some x
  | none =>
    match s.cnv.scan with
    | some sc => if sc.at16 = p.at16 && sc.done then some (sc.id, false, sc.sums) else none
    | none =>
      if selfrefState s = 2 then
        (match s.cnv.lastId with
         | some id => some (id, true, s.cnv.lastSums)
         | none => none)
      else none

/-- PASS_CLOSE (R153): once the launch has been scanned or dealt with, or the wall is held. -/
def execPassClose (s : State) : Host.Outcome State Fault Refusal :=
  let s := passForget s
  .next (match s.pho.pass with
    | none => s
    | some p =>
      let sums := passSums s p
      let past := match s.cnv.lastAt with | some t => decide (p.at16 ≤ t) | none => false
      if sums.isSome || past || decide (selfrefState s = 2) || !cnvRuns s then passClose { p with sums := sums } s else s)

/-- REF_CAPTURE_START (R158): a write of PHO_REF_CTRL with START = 1. -/
def execRefCaptureStart (who : Requester) (value : Word) (s : State) : Host.Outcome State Fault Refusal :=
  let taken := pageTakes R.PHO_REF_CTRL s
  let s1 := writeReg who R.PHO_REF_CTRL value 0#32 s
  .next (if !taken || !bitAt value 0 then s1
    else if refState s ≠ 0 then raiseErr (pg 5 1) 0x17 (w32 (refState s)) s1
    else rsetFld R.PHO_REF_CTRL 5 4 0 (rsetFld R.PHO_REF_CTRL 3 2 1 (setPho { s1.pho with steadyRun := 0, refOut := [] } s1)))

/-- REF_CAPTURE_CANCEL (R158): a write of PHO_REF_CTRL with CANCEL = 1. -/
def execRefCaptureCancel (who : Requester) (value : Word) (s : State) : Host.Outcome State Fault Refusal :=
  let taken := pageTakes R.PHO_REF_CTRL s
  let s1 := writeReg who R.PHO_REF_CTRL value 0#32 s
  .next (if taken && bitAt value 1 then refAbort s1 else s1)

/-- REF_CAPTURE_TIMEOUT (R158): TIMEOUT passes before the tiles are steady. -/
def execRefCaptureTimeout (s : State) : Host.Outcome State Fault Refusal :=
  .next (if refState s = 1 then refEnd 2 (raiseErr (pg 5 1) 0x15 (rget s R.PHO_REF_UNSTEADY) s) else s)

/-- REF_CAPTURE_WRITE_DONE (R158): the capture array is written and RESULT = PASS. -/
def execRefCaptureWriteDone (s : State) : Host.Outcome State Fault Refusal :=
  .next (if refState s = 2 then
      refEnd 1 (s.pho.refOut.foldl (fun t (cal, pred, meas) =>
        memWrite false (rnat2 s R.PHO_REF_BASE + 8 * cal) (leBytes 4 pred.toNat ++ leBytes 4 meas.toNat) t) s)
    else s)

/-- PHO_PWR_PEAK_READ (R160): the peak since the last read starts anew. -/
def execPhoPwrPeakRead (who : Requester) (s : State) : Host.Outcome State Fault Refusal :=
  .next (if pageTakes R.PHO_PWR_PEAK s then
      readOut who R.PHO_PWR_PEAK (rget s R.PHO_PWR_PEAK) (rset R.PHO_PWR_PEAK 0#32 s)
    else readOut who R.PHO_PWR_PEAK 0#32 s)

end Sys2Proof.Machine
end

