-- ==== Sys2Proof/Machine/Tlk.lean ====
section
/-! DEFINITION. The Emorn Tile Link: frames, queries and replies, enumeration, chain changes, a port's loss and return (R164 to R182, R384). -/

namespace Sys2Proof.Machine

def tlkAt (s : State) (p : Nat) : TlkPort := nth {} s.tlk p
def setTlk (p : Nat) (v : TlkPort) (s : State) : State := { s with tlk := setNth s.tlk p v }

/-- STATE of a tile port: 0 DOWN, 1 TRAINING, 2 ENUMERATING, 3 UP, 4 HELD. -/
def tlkState (s : State) (p : Nat) : Nat := rfld s (R.TLK_PORT_STATE p) 2 0
def setTlkState (p v : Nat) (s : State) : State := rsetFld (R.TLK_PORT_STATE p) 2 0 v s

def tlkCount (s : State) (p : Nat) : Nat := rfld s (R.TLK_PORT_STATE p) 29 16
def setTlkCount (p v : Nat) (s : State) : State := rsetFld (R.TLK_PORT_STATE p) 29 16 v s

/-- A port the ordering code has, whose unit runs (R4, R32). -/
def tlkRuns (s : State) (p : Nat) : Bool := pageThere s (pg 6 p) && unitRuns s (pg 6 p) && !idleReq s (pg 6 p)

/-- The lane of a port carries frames: lane p of LAN page 1, or the spare that stands for it. -/
def tlkLaneUp (s : State) (p : Nat) : Bool := laneCarries s 1 p

/-! ### The forward stream and its frames (R52, R164 to R169) -/

/-- Send codewords on a port. -/
def tileSend (p : Nat) (cs : List Codeword) (s : State) : State := cs.foldl (fun s c => emit (.tile p c) s) s

/-- The header words of a frame. -/
def tileWords (type length h1 h2 h3 h4 h5 h6 : Nat) : List Word :=
  withHeaderCrc [w32 (type + length * 65536), w32 h1, w32 h2, w32 h3, w32 h4, w32 h5, w32 h6]

/-- Send a frame on a port. -/
def tileFrame (p type length h1 h2 h3 h4 h5 h6 : Nat) (payload : List Byte) (s : State) : State :=
  tileSend p (packetCodewords (tileWords type length h1 h2 h3 h4 h5 h6) payload) s

/-- The message of a tile link's alignment codeword: marker, direction, 24-bit count, zeros. -/
def tileAlignMessage (back : Bool) (count : Nat) : Nat := 0x1EE16996 + b2n back * 2 ^ 32 + count % 2 ^ 24 * 2 ^ 40

/-- The port's forward stream runs: its lane is up and its unit runs. -/
def tileStreams (s : State) (p : Nat) : Bool := tlkRuns s p && tlkLaneUp s p

/-- An alignment codeword leaves the port: the count goes up by 1, and the local Meridian time of its first symbol is noted for REF (R164, R171). -/
def tileAlignSend (p : Nat) (s : State) : State :=
  let t := tlkAt s p
  let count := (t.refCount + 1) % 2 ^ 24
  tileSend p [rsEncode (tileAlignMessage false count)] (setTlk p { t with refCount := count, refAt := merNow s } s)

/-- A Meridian interval (2^-16 ns) in 2^-8 UI: 53.125 UI per ns, by the measured ratio of the transmit clock to Meridian time. The clock's
deviation is free within ±100 ppm (R219), in 2^-32; FREQ is Meridian's own. Rounded down (DESIGN CHOICE, log 126). -/
def uiOf (dev freq : Int) (interval : Nat) : Nat :=
  let held : Int := if dev < -429496 then -429496 else if 429496 < dev then 429496 else dev
  interval * 53125 * ((2 ^ 32 : Int) + held).toNat / (256000 * ((2 ^ 32 : Int) + freq).toNat)

/-- An interval with the clock ratio measured at draw `k`. -/
def measuredUi (s : State) (k interval : Nat) : Nat := uiOf (Config.tlkClock k) (merFreq s) interval

/-- H1 of a broadcast, and of a frame to one tile (R166). -/
def bcastH1 (id : Nat) : Nat := 0x1FFF + 0x8000 + id * 65536
def tileH1 (pos id : Nat) : Nat := pos + id * 65536

/-- The payload check of R54 that H6 carries. -/
def payCrc (payload : List Byte) : Nat := crc32 payload

/-- LAUNCH and SELFREF (R168, R171): REF is the latest alignment codeword, N the UI from its first symbol to the instant. -/
def timedFrame (p type id at16 : Nat) (s : State) : State :=
  let t := tlkAt s p
  let n := measuredUi s s.drawn (at16 - t.refAt)
  let (a, b, c) := longWords at16
  tileFrame p type 0 (bcastH1 id) (t.refCount + n % 256 * 2 ^ 24) (n / 256) a.toNat b.toNat c.toNat [] (draw s)

/-- A broadcast CONFIG frame with one field. -/
def configAll (p kind h3 : Nat) (s : State) : State := tileFrame p 0x13 0 (bcastH1 0) kind h3 0 0 0 [] s

/-- A CONFIG frame to one tile. -/
def configOne (p pos kind h3 : Nat) (s : State) : State := tileFrame p 0x13 0 (tileH1 pos 0) kind h3 0 0 0 [] s

/-- V, WF_PERIOD and the slot edges a SCHEDULE is made from. -/
def scheduleOf (u : Nat → Word) : List Nat :=
  [viewCount u, wfPeriod u] ++ (upto (viewCount u)).flatMap fun v => [slotOfs u v, slotLen u v]

/-- The edges of a schedule converted with the ratio measured at draw `k`, in 2^-8 UI: WF, then OFS and LEN of each view (R169). -/
def scheduleEdges (s : State) (k : Nat) (u : Nat → Word) : List Nat :=
  measuredUi s k (wfPeriod u) :: (upto (viewCount u)).flatMap fun v => [measuredUi s k (slotOfs u v * 65536), measuredUi s k (slotLen u v * 65536)]

/-- The payload of a SCHEDULE: WF in 2^-8 UI, slot edges in whole UI (R169). -/
def schedulePayload (u : Nat → Word) (edges : List Nat) : List Byte :=
  let wf := nth 0 edges 0
  let pair := fun v => leBytes 4 (nth 0 edges (2 * v + 1) / 256) ++ leBytes 4 (nth 0 edges (2 * v + 2) / 256)
  [BitVec.ofNat 8 (viewCount u - 1), 0#8, 0#8, 0#8] ++ leBytes 4 (wf / 256) ++ [BitVec.ofNat 8 wf] ++ List.replicate 23 0#8 ++ (upto 8).flatMap pair

/-- A SCHEDULE (R169), converted with the clock ratio measured now. -/
def sendSchedule (p : Nat) (u : Nat → Word) (s : State) : State :=
  let edges := scheduleEdges s s.drawn u
  let s1 := tileFrame p 0x13 3 (bcastH1 0) 0x05 0 0 0 0 (schedulePayload u edges) (draw s)
  setTlk p { tlkAt s1 p with slots := scheduleOf u, edges := edges } s1

/-- An edge has moved by 1 ns (13,600 units of 2^-8 UI) or more between two conversions (R169). -/
def edgeMoved : List Nat → List Nat → Bool
  | a :: as, b :: bs => decide (a + 13600 ≤ b ∨ b + 13600 ≤ a) || edgeMoved as bs
  | _, _ => false

/-- A changed schedule goes to the tiles of a port ahead of the frames of the launch that uses it (R136, R165). -/
def scheduleAhead (p : Nat) (u : Nat → Word) (s : State) : State :=
  if (tlkAt s p).slots = scheduleOf u then s else sendSchedule p u s

/-- The port takes PIX and LAUNCH frames (R177, R182). -/
def tlkTakes (s : State) (p : Nat) : Bool := tlkRuns s p && decide (tlkState s p = 3) && !(tlkAt s p).withheld

def countDropped (p n : Nat) (s : State) : State := rinc (R.TLK_CNT_DROPPED p) n s

/-- The PIX frames of one view of one tile: 256 pixels each, the last the remainder (R167). -/
def pixFrames (p chain view id total : Nat) : Nat → Nat → List Nat → State → State
  | 0, _, _, s => s
  | _ + 1, _, [], s => s
  | n + 1, first, px, s =>
    let part := px.take 256
    let payload := part.flatMap (leBytes 6)
    let s1 := tileFrame p 0x10 (part.length * 6 / 32) (tileH1 chain id) (view + first * 2 ^ 14) (total - 1) 0 0 (payCrc payload) payload
      (rinc (R.TLK_CNT_PIX p) 1 s)
    let s2 := if tlkCount s p ≤ chain then rinc (R.TLK_CNT_NO_TILE p) 1 s1 else s1
    pixFrames p chain view id total n (first + 256) (px.drop 256) s2

/-- CNV hands over one view of a tile: sent, or discarded and counted; E_NO_TILE once per bank in use (R167, R177, R181, R182). -/
def tlkPix (p chain view id : Nat) (u : Nat → Word) (px : List Nat) (s : State) : State :=
  let frames := (px.length + 255) / 256
  if !tlkTakes s p then countDropped p frames s
  else
    let s1 := scheduleAhead p u s
    let bank := bankOf u
    let s2 := if tlkCount s1 p ≤ chain ∧ !(tlkAt s1 p).noTile.contains bank then
        raiseErr (pg 6 p) 0x16 (w32 chain) (setTlk p { tlkAt s1 p with noTile := bank :: (tlkAt s1 p).noTile } s1)
      else s1
    pixFrames p chain view id px.length frames 0 px s2

/-! ### The chain table (R178) and delays (R172, R174) -/

def chainEntry (s : State) (p c : Nat) : Nat := rnat2 s (R.TLK_CHAIN_BASE p) + 32 * c

def chainD (s : State) (p c : Nat) : Nat := memNat s false 4 (chainEntry s p c)

/-- `n` entries of the chain table from `c` are read; poison that they meet is an error again (R240). -/
def chainSee (p c n : Nat) (s : State) : State := memSee false (32 * n) (chainEntry s p c) s
def chainPoisoned (s : State) (p c : Nat) : Bool := memPoisoned s false 32 (chainEntry s p c)

/-- Position `c` answers TEMP: CAPS.SENSOR of its identity. -/
def chainSensor (s : State) (p c : Nat) : Bool := !chainPoisoned s p c && decide (memNat s false 1 (chainEntry s p c + 20) % 2 = 1)

/-- TLK_CHAIN_DELAY follows the D of the last position. -/
def showDelay (p : Nat) (s : State) : State :=
  rset (R.TLK_CHAIN_DELAY p) (if tlkCount s p = 0 then 0#32 else w32 (chainD s p (tlkCount s p - 1))) s

/-- D_last + 5 µs against LEAD; E_LEAD_SHORT once per change of either (R174). One ns is 13,600 units of 2^-8 UI. -/
def leadCheck (p : Nat) (s : State) : State :=
  let d := rnat s (R.TLK_CHAIN_DELAY p)
  let lead := ufld s R.CNV_SCHED 17 8
  let now := some (d, lead)
  if (tlkAt s p).leadSeen = now then s
  else
    let s1 := setTlk p { tlkAt s p with leadSeen := now } s
    if lead * 1000 * 13600 < d + 5000 * 13600 then raiseErr (pg 6 p) 0x15 (w32 ((d + 5000 * 13600) / 13600000)) s1 else s1

/-- Write a measured D to the chain table, and to the tile with a DELAY CONFIG (R172). -/
def putDelay (p c d : Nat) (s : State) : State :=
  showDelay p (configOne p c 0x03 d (memWrite false (chainEntry s p c) (leBytes 4 d) s))

/-- Write an identity to the chain table (R178). -/
def putIdent (p c : Nat) (ident : List Byte) (s : State) : State :=
  memWrite false (chainEntry s p c + 4) (ident.take 17 ++ [1#8] ++ List.replicate 10 0#8) s

/-- (RTT − TURN) ÷ 2, to nearest, ties to even (R172). -/
def measuredD (rtt turn : Nat) : Nat := (rneShift (rtt - turn) 1) % 2 ^ 32

/-! ### Queries (R175) -/

def askLater (p : Nat) (q : TlkQuery) (s : State) : State :=
  let t := tlkAt s p
  setTlk p { t with waiting := t.waiting ++ [q] } s

def ask (p kind dst : Nat) (why : TlkWhy) (s : State) : State :=
  askLater p { kind := kind, dst := dst, bcast := false, why := why } s

/-- ASSIGN ahead of an IDENT (R177, R180). -/
def askAssign (p dst : Nat) (why : TlkWhy) (s : State) : State :=
  askLater p { kind := 0x01, dst := dst, bcast := false, why := why, assign := true } s

/-- What TLK asks for itself no longer matters once a port enumerates anew or loses its lane: waiting queries of its own go, and an
outstanding one stays outstanding until its reply or timeout, without effect (R175, R177, R182). -/
def dropQueries (p : Nat) (s : State) : State :=
  let t := tlkAt s p
  let mine := fun (q : TlkQuery) => q.why != .host && q.why != .temp
  setTlk p { t with
    waiting := t.waiting.filter fun q => !mine q,
    asked := t.asked.map fun q => if mine q then { q with why := .void } else q } s

/-- The sums of a port's tiles scanned so far are withheld from PHO (R153, R177, R182). -/
def dropSums (p : Nat) (s : State) : State :=
  { s with cnv := { s.cnv with scan := s.cnv.scan.map fun c => { c with sums := c.sums.filter fun x => decide (x.key / 8192 ≠ p) } } }

/-- Enumerate a port (R177): UNNUMBER, a wait of 10 µs, then position by position. -/
def tlkEnumerate (p : Nat) (s : State) : State :=
  let s1 := configAll p 0x01 0 (setTlkCount p 0 (setTlkState p 2 (dropSums p (dropQueries p s))))
  askAssign p 0 .enumIdent (setTlk p { tlkAt s1 p with readyAt := s1.now + 10000, withheld := false } s1)

/-- The chain is known: SCHEDULE, UP, and the STATUS of position 0; interrupt bit 1 where it was enumerated (R177, R179, R184, R384). -/
def chainKnown (p count : Nat) (why : TlkWhy) (s : State) : State :=
  let s1 := showDelay p (setTlkCount p count s)
  let s2 := setTlkState p 3 (sendSchedule p (uget s1) s1)
  let s2 := leadCheck p (if why = .enumStatus then raiseInt (pg 6 p) 1 s2 else s2)
  if 0 < count then ask p 0x04 0 why s2 else s2

/-- Enumeration ends with `count` tiles (R177). -/
def enumEnd (p count : Nat) (s : State) : State := chainKnown p count .enumStatus (rset (R.TLK_REACH p) (w32 count) s)

/-- A tile's D is measured in enumeration: on to the next position (R177). -/
def enumNext (p c : Nat) (s : State) : State :=
  if c + 1 < 8192 then askAssign p (c + 1) .enumIdent s else enumEnd p 8192 s

/-- RESUME goes on at position `c`, or ends there (R180). -/
def resumeAt (p c : Nat) (s : State) : State :=
  if 8192 ≤ c then
    raiseInt (pg 6 p) 1 (rset (R.TLK_REACH p) (w32 c) (showDelay p (setTlkCount p c s)))
  else ask p 0x01 c .resumeIdent s

def resumeEnd (p c : Nat) (s : State) : State :=
  leadCheck p (raiseInt (pg 6 p) 1 (rset (R.TLK_REACH p) (w32 c) (showDelay p (setTlkCount p c s))))

/-- The search for the last position that answers goes on, or ends: REACH, E_CHAIN_BREAK, interrupt bit 2 (R180). -/
def chainSearch (p lo hi : Nat) (s : State) : State :=
  if lo < hi then ask p 0x04 ((lo + hi) / 2) (.search lo hi) s
  else raiseInt (pg 6 p) 2 (raiseErr (pg 6 p) 0x13 (w32 lo) (rset (R.TLK_REACH p) (w32 lo) s))

/-- The identity in a REPLY is the one the chain table holds for the position. -/
def identMatches (s : State) (p c : Nat) (ident : List Byte) : Bool :=
  !chainPoisoned s p c && decide (memRead s false 17 (chainEntry s p c + 4) = ident.take 17)

/-- The chain does not match its table: E_ENUM_MISMATCH, and the port is enumerated (R179). -/
def enumMismatch (p c : Nat) (s : State) : State :=
  let t := tlkAt s p
  let s1 := setTlk p { t with waiting := t.waiting.filter fun q => q.why != .warmFirst && q.why != .warmLast } s
  tlkEnumerate p (raiseErr (pg 6 p) 0x14 (w32 c) s1)

/-- Both identities match at a warm start: every D is sent again, then SCHEDULE, and the port is UP (R179). -/
def warmKnown (p : Nat) (s : State) : State :=
  let n := tlkCount s p
  chainKnown p n .warmStatus
    ((upto n).foldl (fun t c => if chainPoisoned t p c then t else configOne p c 0x03 (chainD t p c) t) (chainSee p 0 n s))

/-- A lane that came back: the change in D of position 0 goes to every tile, then SCHEDULE; the next scan releases the port (R182). -/
def returnUp (p delta : Nat) (s : State) : State :=
  let s1 := (upto (tlkCount s p)).foldl (fun t c =>
    memWrite false (chainEntry t p c) (leBytes 4 (chainD t p c + delta)) t) s
  let s2 := sendSchedule p (uget s1) (configAll p 0x04 (delta % 2 ^ 32) (showDelay p s1))
  setTlkState p 3 (setTlk p { tlkAt s2 p with withheld := true } s2)

/-- The host window's request ends (R184). -/
def hostDone (p : Nat) (timeout : Bool) (s : State) : State :=
  raiseInt (pg 6 p) 3 (rsetBit (R.TLK_HQ_CTRL p) 30 true (rsetBit (R.TLK_HQ_CTRL p) 29 timeout s))

/-- REPLY data into the host window. -/
def hostReply (p : Nat) (h4 : Word) (payload : List Byte) (s : State) : State :=
  let s1 := if payload.isEmpty then s
    else (upto 8).foldl (fun t i => rset (R.TLK_HQ_DATA p i) (w32 (leNat ((payload.drop (4 * i)).take 4))) t) s
  rset (R.TLK_HQ_H4 p) h4 s1

/-- A query has its reply: what follows, by why it was asked. -/
def queryAnswered (p : Nat) (q : TlkQuery) (h4 : Word) (payload : List Byte) (rtt : Nat) (s : State) : State :=
  let c := q.dst
  let d := measuredD rtt h4.toNat
  let s0 := if q.kind = 0x04 ∧ c = 0 then setTlk p { tlkAt s p with statusId := fieldAt payload 0 2 } s else s
  let s0 := if q.why = .echo ∨ q.why = .warmFirst ∨ q.why = .warmLast ∨ q.why = .resumeIdent ∨ q.why = .resumeAssign ∨ q.why = .adjust
    then chainSee p c 1 s0 else s0
  match q.why with
  | .host => hostDone p false (hostReply p h4 payload s0)
  | .temp => raiseInt (pg 6 p) 4 s0
  | .echo =>
    let old := chainD s0 p c
    if old + 1360 ≤ d ∨ d + 1360 ≤ old then putDelay p c d s0 else s0
  | .probe => s0
  | .search _ hi => chainSearch p (c + 1) hi s0
  | .enumIdent => ask p 0x02 c .enumEcho (putIdent p c payload s0)
  | .enumEcho => enumNext p c (putDelay p c d s0)
  | .enumStatus => s0
  | .warmFirst =>
    if identMatches s0 p c payload then ask p 0x01 (tlkCount s0 p - 1) .warmLast s0 else enumMismatch p c s0
  | .warmLast => if identMatches s0 p c payload then warmKnown p s0 else enumMismatch p c s0
  | .warmStatus => s0
  | .resumeIdent =>
    if identMatches s0 p c payload then ask p 0x02 c .resumeEcho s0
    else ask p 0x02 c .resumeEcho (putIdent p c payload s0)
  | .resumeAssign =>
    if identMatches s0 p c payload then ask p 0x02 c .resumeEcho s0
    else ask p 0x02 c .resumeEcho (putIdent p c payload s0)
  | .resumeEcho => resumeAt p (c + 1) (putDelay p c d s0)
  | .void => s0
  | .adjust => returnUp p (d + 2 ^ 32 - chainD s0 p 0) s0

/-- A query's timeout passes without its reply: counted, E_REPLY_TIMEOUT, and what follows (R175, R177, R179, R180). -/
def queryTimedOut (p : Nat) (q : TlkQuery) (s : State) : State :=
  let c := q.dst
  let s0 := raiseErr (pg 6 p) 0x11 (w32 (c + q.kind * 65536)) (rinc (R.TLK_CNT_TIMEOUT p) 1 s)
  match q.why with
  | .host => hostDone p true s0
  | .temp => raiseInt (pg 6 p) 4 s0
  | .echo => s0
  | .probe => chainSearch p 0 c s0
  | .search lo _ => chainSearch p lo c s0
  | .enumIdent => enumEnd p c s0
  | .enumEcho => enumEnd p c s0
  | .enumStatus => s0
  | .warmFirst => enumMismatch p c s0
  | .warmLast => enumMismatch p c s0
  | .warmStatus => s0
  | .resumeIdent => askAssign p c .resumeAssign s0
  | .resumeAssign => resumeEnd p c s0
  | .resumeEcho => resumeAt p (c + 1) s0
  | .void => s0
  | .adjust => returnUp p 0 s0

/-- D_ref of a query to position `c` (R175): its stored D; with none stored, the largest of a lower position, or 0. -/
def refDelay (s : State) (p c : Nat) : Nat :=
  let stored := if tlkState s p = 2 then c else tlkCount s p
  if c < stored then chainD s p c else (upto (min c stored)).foldl (fun a i => max a (chainD s p i)) 0

/-- A query's timeout in ns (R175). -/
def queryTimeout (s : State) (p : Nat) (q : TlkQuery) : Nat :=
  if q.bcast then rfld s (R.TLK_TEMP_CTRL p) 31 16 * 1000 + 2 * rnat s (R.TLK_CHAIN_DELAY p) / 13600
  else rfld s (R.TLK_REPLY_TIMEOUT p) 15 0 * 1000 + 2 * refDelay s p q.dst / 13600

/-- The next waiting query leaves: its ASSIGN first where it has one; a maker CONFIG of the host window takes no reply (R175, R184). -/
def querySend (p : Nat) (s : State) : State :=
  let t := tlkAt s p
  match t.asked, t.waiting with
  | none, q :: rest =>
    if tlkState s p < 2 ∨ s.now < t.readyAt ∨ !tlkLaneUp s p then s
    else
      let tag := t.nextTag % 65536
      let s1 := setTlk p { t with waiting := rest } s
      let s2 := if q.assign then configAll p 0x02 q.dst s1 else s1
      let s2 := if q.bcast then chainSee p 0 (tlkCount s2 p) s2 else s2
      let h1 := if q.bcast then bcastH1 0 else tileH1 q.dst 0
      if q.config then
        (let payload := (upto 8).flatMap fun i => leBytes 4 (rnat s2 (R.TLK_HQ_DATA p i))
         hostDone p false (tileFrame p 0x13 1 h1 q.kind 0 0 0 0 payload s2))
      else
        let left := if q.bcast then (upto (tlkCount s2 p)).filter (chainSensor s2 p) else []
        let s3 := tileFrame p 0x14 0 h1 q.kind tag 0 0 0 [] s2
        if q.bcast && left.isEmpty then
          queryAnswered p q 0#32 [] 0 (setTlk p { tlkAt s3 p with nextTag := tag + 1 } s3)
        else
          setTlk p { tlkAt s3 p with
            asked := some { q with tag := tag, due := s.now + queryTimeout s p q }, nextTag := tag + 1, tempLeft := left } s3
  | _, _ => s

/-- A temperature in a REPLY goes to PHO (R155, R176). -/
def tempToPho (p pos : Nat) (h4 : Word) (s : State) : State :=
  measStore (p * 8192 + pos) (getBits h4 15 0) (bitAt h4 16) (rinc (R.TLK_CNT_TEMP p) 1 s)

/-- The back channel's codewords that FEC could not correct count once each (R184). -/
def tileArrive (p : Nat) (pkt : RxPacket) (s : State) : State :=
  let t := tlkAt s p
  let fresh := pkt.lost.filter fun j => decide (t.fecNext ≤ j)
  rinc (R.TLK_CNT_BACK_UNCORR p) fresh.length (setTlk p { t with fecNext := max t.fecNext pkt.last } s)

/-- A frame of the back channel: a REPLY, or the IDLE that fills it (R166, R170, R175, R176). A reply after its query's timeout is late. -/
def replyFrame (p : Nat) (pkt : RxPacket) (rtt : Nat) (s : State) : State :=
  let s0 := tileArrive p pkt s
  let badCrc := fun info s => raiseErr (pg 6 p) 0x12 (w32 info) (rinc (R.TLK_CNT_BACK_CRC p) 1 s)
  let discard := fun s => rinc (R.TLK_CNT_REPLY_DISCARD p) 1 s
  let src := getBits (hword 1 pkt) 12 0
  if !headerHolds pkt then badCrc 0xFFFF s0
  else if pktType pkt = 0x00 then s0
  else if pktType pkt ≠ 0x20 then discard s0
  else if 0 < pktLength pkt ∧ (pkt.payloadLost ∨ payCrc pkt.payload ≠ (hword 6 pkt).toNat) then badCrc src s0
  else
    let t := tlkAt s0 p
    match t.asked with
    | none => discard s0
    | some q =>
      let kind := getBits (hword 2 pkt) 7 0
      let match_ := decide (getBits (hword 3 pkt) 15 0 = q.tag ∧ kind = q.kind ∧ s0.now ≤ q.due)
      let h4 := hword 4 pkt
      if q.bcast then
        (if match_ && t.tempLeft.contains src then
          let left := t.tempLeft.erase src
          let s1 := tempToPho p src h4 (setTlk p { t with tempLeft := left, asked := if left.isEmpty then none else some q } s0)
          if left.isEmpty then queryAnswered p q h4 [] rtt s1 else s1
        else discard s0)
      else if match_ && decide (src = q.dst) then
        (let s1 := setTlk p { t with asked := none } s0
         let s2 := if kind = 0x03 then tempToPho p src h4 s1 else s1
         queryAnswered p q h4 (if pktLength pkt = 0 then [] else pkt.payload) rtt s2)
      else discard s0

/-! ### A port's lane (R177, R179, R182) -/

/-- The port starts, or its lane comes up: the chain is enumerated, checked, or returned to (R177, R179, R182). -/
def tlkLinkUp (p : Nat) (s : State) : State :=
  if !tlkRuns s p || !tlkLaneUp s p then s
  else if tlkState s p = 4 ∧ (tlkAt s p).wasUp then ask p 0x02 0 .adjust s
  else if 2 ≤ tlkState s p then s
  else
    let s1 := setTlk p { tlkAt s p with wasUp := true } s
    if s.warmStart && decide (0 < tlkCount s p) then ask p 0x01 0 .warmFirst (setTlkState p 4 s1)
    else tlkEnumerate p s1

/-- A lane in bring-up shows TRAINING (R184). -/
def tlkTraining (p : Nat) (s : State) : State :=
  if tlkRuns s p && decide (tlkState s p = 0) then setTlkState p 1 s else s

/-- The next scheduled launch instant, for SELFREF (R168). -/
def nextInstant (s : State) : Nat := match scheduled s with | some (a, _) => a | none => 0

/-- The port leaves UP, or loses its lane again (R182); `carries` says that the lane can still send. -/
def tlkLinkDown (p : Nat) (carries : Bool) (s : State) : State :=
  let st := tlkState s p
  if st = 3 then
    (let s1 := if carries then timedFrame p 0x12 s.tlkLastId (nextInstant s) s else s
     let s2 := dropSums p (dropQueries p s1)
     setTlkState p 4 (setTlk p { tlkAt s2 p with wasUp := true, withheld := false } (raiseErr (pg 6 p) 0x10 (w32 st) s2)))
  else if st = 4 then setTlk p { tlkAt (dropQueries p s) p with wasUp := true, withheld := false } (dropQueries p s)
  else if st = 2 then setTlkState p 1 (dropQueries p s)
  else s

/-- A scan begins: ports that wait for it are released (R182). -/
def tlkRelease (s : State) : State :=
  { s with tlk := s.tlk.map fun t => { t with withheld := false } }

/-- LAUNCH on a port (R140, R168, R174). -/
def tlkLaunch (p id at16 : Nat) (u : Nat → Word) (s : State) : State :=
  if !tlkTakes s p then countDropped p 1 s
  else leadCheck p { timedFrame p 0x11 id at16 (scheduleAhead p u s) with tlkLastId := id }

/-- SELFREF on a port (R141). -/
def tlkSelfref (p : Nat) (at16 : Nat) (s : State) : State :=
  if tlkRuns s p && decide (tlkState s p = 3) then timedFrame p 0x12 s.tlkLastId at16 s else s

/-- The base of the first launch number after a cold start or a block reset of CNV (R384). -/
def launchBase (s : State) : Nat := s.tlk.foldl (fun a t => max a t.statusId) s.tlkLastId

end Sys2Proof.Machine
end

