-- ==== Sys2Proof/Machine/Lan.lean ====
section
/-! DEFINITION. The serial lanes: bring-up, figure of merit, substitution, and their commands (R218 to R236). -/

namespace Sys2Proof.Machine

/-- Lanes of a group (R218). -/
def lanCount (p : Nat) : Nat := nth 0 [10, 18, 18, 8, 20] p

/-- The lane is there on this ordering code (R4, R218). -/
def laneThere (s : State) (p i : Nat) : Bool :=
  decide (i < lanCount p) && !(s.code == .wall && p == 0) && !(s.code == .camera && p == 1 && decide (4 ≤ i ∧ i < 16))

/-- The owning block enables the lane: its port's unit runs, and a group spare is wired. A tile spare is brought up only once it is selected (R231). -/
def laneEnabled (s : State) (p i : Nat) : Bool :=
  let port := lanePort s p i
  laneThere s p i &&
    (if p = 0 then unitRuns s (pg 2 port)
     else if p = 1 then unitRuns s (pg 6 port) && (!isSpareLane 1 i || (let k := i - 16; spareWired s 1 k && decide (spareStateOf s 1 k = 1 ∨ spareStateOf s 1 k = 2)))
     else if p = 2 then casPortRuns s port && (!isSpareLane 2 i || spareWired s 2 (i - 16))
     else false)

def laneRetired (s : State) (p i : Nat) : Bool := rbit s (R.LAN_RETIRED p) i

/-- A lane in DOWN whose owner enables it enters DETECT. -/
def laneWake (p i : Nat) (s : State) : State :=
  if laneState s p i = 0 ∧ !laneRetired s p i ∧ laneEnabled s p i then setLane p i 1 s else s

/-- The lanes of a port, spare included. -/
def portLanes (s : State) (p port : Nat) : List Nat := (upto (lanCount p)).filter fun i => lanePort s p i == port && (!isSpareLane p i || spareWired s p (if p = 0 then i / 5 else i - 16))

/-- The owning block enables the lanes of a port (R223). -/
def lanEnablePort (p port : Nat) (s : State) : State := (portLanes s p port).foldl (fun s i => laneWake p i s) s

/-- The four data lanes of an ingest or cascade port. -/
def dataLanes (p port : Nat) : List Nat := (upto 4).map fun i => (if p = 0 then 5 * port else 4 * port) + i

/-! ### Training blocks and adaptation (R222, R227, R228) -/

/-- The lane byte of the device's own training blocks: lane within the port, 0xF for a group spare; the group. -/
def laneIdByte (p i : Nat) : Nat := (if p = 0 then i % 5 else if isSpareLane p i then 0xF else if p = 1 then 0 else i % 4) + 16 * p

/-- A lane in DETECT, TRAIN or CHECK sends its next training block; the model shows one for each event of the lane (DESIGN CHOICE, log 124).
Its READY bit says that its own receiver has passed CHECK; the preset it asks of its partner is free. -/
def sendTraining (p i : Nat) (s : State) : State :=
  if 2 < p ∨ laneState s p i < 1 ∨ 3 < laneState s p i then s
  else
    let l := lanLane s p i
    let (block, r) := trainingBlock (laneIdByte p i) (b2n (decide (16 ≤ l.good))) (Config.lanPreset (p * 32 + i) (rnat s (R.LAN_L_CNT_TRAIN p i)) % 11) l.prbs
    let levels := encodeLevels l.txSymbol block
    emit (.laneSymbols p i levels) (setLanLane p i { l with prbs := r, txSymbol := levelSymbol (nth (-3) levels 255) } s)

/-- The equaliser settles: CTLE and DFE1 in use are what adaptation makes them (R223, R228). -/
def lanAdapt (p i : Nat) (s : State) : State :=
  draw (rsetFld (R.LAN_L_EQ p i) 11 4 (Config.lanCtle s.drawn % 256) (rsetFld (R.LAN_L_EQ p i) 31 16 (Config.lanDfe s.drawn % 65536) s))

/-! ### A lane comes up -/

/-- The original lane of a released spare is UP again: the spare's protocol stops it from START, two alignment counts ahead (R59, R190, R232). -/
def releaseStart (p k : Nat) (s : State) : State :=
  let lane := spareLaneFor s p k
  let port := lanePort s p lane
  if p = 0 ∧ 2 ≤ portState s port then
    (let q := siuAt s port
     let logical := logicalLane s 0 lane
     let start := ((nth (0, 0, 0) q.lanes logical).2.1 + 2) % 2 ^ 24
     sendBridge port (bridgePacket 0x82 logical start 0) (setSiu port { q with back := some start } s))
  else if p = 2 ∧ 2 ≤ casState s port then
    (let c := casAt s port
     let start := (c.alignCount + 2) % 2 ^ 32
     linkFields port 5 [0, logicalLane s 2 lane, start] (setCasPort port { c with back := some start } s))
  else spareReturned p port s

/-- A lane has passed CHECK: UP, or STANDBY for a spare; the owning block takes it when the whole port carries (R50, R182, R198, R223). -/
def laneUp (p i : Nat) (s : State) : State :=
  let port := lanePort s p i
  let spare := isSpareLane p i
  let k := if p = 0 then i / 5 else i - 16
  let stand := spare && !(p == 1 && decide (spareStateOf s p k = 1)) && decide (spareStateOf s p k ≠ 2)
  let s0 := if stand then leaveRelease 27 (setLane p i 5 s) else setLane p i 4 s
  if stand then s0
  else
    let back := (upto 2).find? fun j => s.lanRelease.contains (p, j) && decide (spareLaneFor s p j = i)
    let s1 := match back with | some j => releaseStart p j s0 | none => s0
    if p = 1 then tlkLinkUp port (if spare && decide (spareStateOf s1 1 k = 1) then substEnd 1 k s1 else s1)
    else if (dataLanes p port).all (laneCarries s1 p) then
      (if p = 0 then (if portState s1 port = 1 then setPortState port 2 s1 else s1) else casLinkUp port s1)
    else s1

/-! ### A lane goes down -/

/-- A sensor port loses lanes: E_LINK_DOWN, the open frame closed by the short-frame rule, TRAINING (R50). -/
def siuLinkLost (p mask : Nat) (s : State) : State :=
  if portState s p = 0 ∨ portState s p = 1 then s
  else
    let was := portUp s p
    let s0 := if (siuAt s p).back.isSome then spareReturned 0 p (rsetFld (R.SIU_PORT p) 15 8 0xF s) else s
    let s1 := setPortState p 1 (setSiu p { siuAt s0 p with lanes := [(0, 0, 0), (0, 0, 0), (0, 0, 0), (0, 0, 0)], spare := none, back := none } s0)
    if !was then s1
    else
      let s2 := siuErr p 0x21 mask s1
      match (siuAt s2 p).frame with
      | some f => if f.closing then s2 else closeFrame p f s2
      | none => s2

/-- The link-loss rule of the owning block (R229): the lane carried data. -/
def ownerLoses (p i : Nat) (s : State) : State :=
  let port := lanePort s p i
  if p = 0 then siuLinkLost port (2 ^ logicalLane s 0 i) (substAbandon 0 port s)
  else if p = 1 then tlkLinkDown port false s
  else if p = 2 then casLeave port 1 true (substAbandon 2 port s)
  else s

/-- A lane is DOWN; the owning block, still enabled, brings it up again (R223). -/
def laneDown (p i : Nat) (s : State) : State :=
  let st := laneState s p i
  if st = 6 ∨ st = 0 then s
  else
    let s1 := setLane p i 0 s
    let s2 := if st = 4 then ownerLoses p i s1 else s1
    laneWake p i s2

/-! ### Substitution (R230 to R232) -/

/-- Spare `k` serves the port of lane `i` and is free: in STANDBY, or for a tile only not in use (R231). -/
def spareFree (s : State) (p k i : Nat) : Bool :=
  let l := spareLane p k
  spareWired s p k && decide (l ≠ i ∧ lanePort s p l = lanePort s p i ∧ spareStateOf s p k = 0) && (p == 1 || decide (laneState s p l = 5))

def freeSpare (s : State) (p i : Nat) : Option Nat := lowest 2 fun k => spareFree s p k i

/-- Spare `k` begins to stand for lane `i`; the owning block carries it out (R59, R182, R190). -/
def substStart (p k i : Nat) (s : State) : State :=
  let port := lanePort s p i
  if p = 0 then
    (if portState s port = 3 ∧ (siuAt s port).spare = none then siuSubstStart port (logicalLane s 0 i) (setSpareOf 0 k 1 i s) else s)
  else if p = 2 then
    (if 2 ≤ casState s port ∧ (casAt s port).spare = none then casSubstStart port (logicalLane s 2 i) (setSpareOf 2 k 1 i s) else s)
  else
    laneWake 1 (spareLane 1 k) (emit (.tspSel k true) (tlkLinkDown port true (setSpareOf 1 k 1 i s)))

/-- A substitution for lane `i` is under way. -/
def substRuns (s : State) (p i : Nat) : Bool := (upto 2).any fun k => decide (spareStateOf s p k = 1 ∧ spareLaneFor s p k = i)

/-- A lane meets the SPARE condition with AUTO = 1: a free spare starts, or E_NO_SPARE once per lane. -/
def autoSubst (p i : Nat) (s : State) : State :=
  if substRuns s p i then s
  else match freeSpare s p i with
  | some k => substStart p k i s
  | none =>
    if (lanLane s p i).noSpare then s
    else raiseErr (pg 9 p) 0x13 (w32 i) (setLanLane p i { lanLane s p i with noSpare := true } s)

/-! ### Commands -/

/-- SIGNAL_DETECT (R223): signal for 1 µs takes a lane from DETECT to TRAIN. A PCIe lane's LTSSM has reached L0 (R235). -/
def execSignalDetect (page : Fin 5) (lane : Fin 20) (s : State) : Host.Outcome State Fault Refusal :=
  let p := page.val
  let i := lane.val
  .next (if !laneThere s p i then s
    else if 3 ≤ p then setLane p i 4 s
    else if laneState s p i = 1 then
      (let s1 := sendTraining p i (setLane p i 2 s)
       if p = 1 then tlkTraining (lanePort s1 1 i) s1 else s1)
    else s)

/-- The lanes of an ingest or cascade port, its spare included, whose partner's LANE_ID has been read. -/
def knownLanes (s : State) (p port : Nat) : List Nat :=
  (portLanes s p port).filter fun i => decide (3 ≤ laneState s p i ∧ laneState s p i ≤ 5) || (lanLane s p i).seen

/-- The order of the port's lanes, as far as it is known: direct or reversed. A spare shows its own lane number, 4 or 0xF, in both; a block
of another group fits neither (R224). -/
def laneOrder (s : State) (p port : Nat) : Bool × Bool :=
  let known := knownLanes s p port
  let peer := fun i => rfld s (R.LAN_L_STATE p i) 11 8
  let own := fun i => laneIdByte p i % 16
  let fits := fun (reverse : Bool) (i : Nat) =>
    !(lanLane s p i).alien && decide (peer i = if reverse && !isSpareLane p i then 3 - own i else own i)
  (known.all (fits false), known.all (fits true))

/-- PEER_LANE of a port's lanes, 4 bits each. -/
def peerMask (s : State) (p port : Nat) : Nat :=
  ((if p = 0 then (upto 5).map (5 * port + ·) else dataLanes p port).map fun i => rfld s (R.LAN_L_STATE p i) 11 8).foldr (fun v a => v + 16 * a) 0

/-- A wrong order holds the port in TRAIN: its lanes in CHECK go back, with what they read kept (R224). -/
def orderHold (p port : Nat) (s : State) : State :=
  (portLanes s p port).foldl (fun s i => if laneState s p i = 3 then (let s1 := setLane p i 2 s; setLanLane p i { lanLane s1 p i with seen := true } s1) else s) s

/-- Sixteen windows passed, and the partner shows READY. -/
def checkPassed (s : State) (p i : Nat) : Bool := decide (16 ≤ (lanLane s p i).good) && (lanLane s p i).ready

/-- A valid training block on a lane in TRAIN or CHECK (R222 to R224). -/
def blockTaken (p i : Nat) (negated : Bool) (block : List Byte) (s : State) : State :=
  let st := laneState s p i
  let b := fun k => (nth 0#8 block k).toNat
  let s0 := setLanLane p i { lanLane s p i with ready := decide (b 5 % 2 = 1) } s
  let s1 := if b 6 ≤ 10 then rsetFld (R.LAN_L_EQ p i) 3 0 (b 6) s0 else s0
  if st = 3 then (if checkPassed s1 p i then laneUp p i s1 else s1)
  else
    let port := lanePort s p i
    let s2 := lanAdapt p i (rsetFld (R.LAN_L_STATE p i) 11 8 (b 4 % 16) (rsetBit (R.LAN_L_STATE p i) 3 negated s1))
    let s3 := setLanLane p i { lanLane s2 p i with seen := true, alien := decide (b 4 / 16 ≠ p) } s2
    if p = 1 then setLane p i 3 s3
    else
      let (direct, reverse) := laneOrder s3 p port
      if !direct && !reverse then raiseErr (pg 9 p) 0x11 (w32 (peerMask s3 p port)) (orderHold p port s3)
      else setLane p i 3 ((dataLanes p port).foldl (fun s j => rsetBit (R.LAN_L_STATE p j) 4 (!direct) s) s3)

/-- TRAINING_BLOCK (R220, R222 to R224): the level of the symbol before the block, and the 256 of the block. In TRAIN the MARKER is looked
for in the sequence and in its negation; in CHECK the sense found stays. -/
def execTrainingBlock (page : Fin 3) (lane : Fin 18) (before : Int) (levels : List Int) (s : State) : Host.Outcome State Fault Refusal :=
  let p := page.val
  let i := lane.val
  let st := laneState s p i
  let plain := decodeLevels (before :: levels)
  let turned := decodeLevels ((before :: levels).map fun l => -l)
  let negated := if st = 3 then rbit s (R.LAN_L_STATE p i) 3 else !hasMarker plain
  let block := if negated then turned else plain
  .next (if !laneThere s p i || !blockHolds block || decide (st ≠ 2 ∧ st ≠ 3) then s
    else sendTraining p i (blockTaken p i negated block s))

/-- TRAIN_TIMEOUT (R223): bring-up takes too long; the lane returns to DETECT, counted (in no register) and reported. -/
def execTrainTimeout (page : Fin 3) (lane : Fin 18) (s : State) : Host.Outcome State Fault Refusal :=
  let p := page.val
  let i := lane.val
  let st := laneState s p i
  .next (if laneThere s p i && decide (1 ≤ st ∧ st ≤ 3) then
      (let s1 := setLane p i 1 s
       sendTraining p i (raiseErr (pg 9 p) 0x10 (w32 (i + st * 256)) (setLanLane p i { lanLane s1 p i with returns := (lanLane s p i).returns + 1 } s1)))
    else s)

/-- The thresholds on a lane that is UP (R229). -/
def fomUp (p i fom : Nat) (s : State) : State :=
  let thr := R.LAN_FOM_THR p
  let l := lanLane s p i
  let isLow := decide (fom < rfld s thr 9 0)
  let s1 := if isLow && !l.low then raiseInt (pg 9 p) 2 (raiseErr (pg 9 p) 0x12 (w32 (i + fom * 65536)) s) else s
  let down := if fom < rfld s thr 29 20 then l.down + 1 else 0
  let below := if p ≤ 2 ∧ fom < rfld s thr 19 10 then l.below + 1 else 0
  let s2 := setLanLane p i { l with low := isLow, down := if 4 ≤ down then 0 else down, below := below } s1
  if 4 ≤ down then
    (if 3 ≤ p then emit (.pcieRecovery p i) s2 else laneDown p i (raiseErr (pg 9 p) 0x15 (w32 (i + fom * 65536)) s2))
  else if 64 ≤ below ∧ rbit s2 (R.LAN_SPARE_CTRL p) 0 then autoSubst p i s2
  else s2

/-- A window of a lane has ended with the figure of merit `v` (R227 to R231). -/
def fomWindow (p i v : Nat) (s : State) : State :=
  if !laneThere s p i then s
    else
      let l := lanLane s p i
      let least := if l.minHeld then min (rfld s (R.LAN_L_FOM p i) 25 16) v else v
      let s1 := setLanLane p i { l with minHeld := true } (rset (R.LAN_L_FOM p i) (w32 (v + least * 65536)) s)
      let st := laneState s1 p i
      if st = 3 ∧ p ≤ 2 then
        (if v < rfld s1 (R.LAN_FOM_THR p) 19 10 then sendTraining p i (setLane p i 2 s1)
         else
           let s2 := setLanLane p i { lanLane s1 p i with good := (lanLane s1 p i).good + 1 } s1
           if checkPassed s2 p i then laneUp p i s2 else sendTraining p i s2)
      else if st = 4 then fomUp p i v (if p ≤ 2 then lanAdapt p i s1 else s1)
      else if st = 5 then
        (let s2 := lanAdapt p i s1
         if v < rfld s2 (R.LAN_FOM_THR p) 19 10 then
           leaveRequest 27 (setLanLane p i { lanLane s2 p i with below := (lanLane s2 p i).below + 1 } s2)
         else s2)
      else s1

/-- The figure of merit of a window from d and the sum of e²; none without a signal (R227). -/
def windowFom (sums : Option (Nat × Nat)) : Nat :=
  match sums with
  | some (half, squares) => fomOf true half squares
  | none => fomOf false 0 0

/-- FOM_WINDOW: with a signal, the adaptation's d and the sum of e² over the window; none without one (R227). -/
def execFomWindow (page : Fin 5) (lane : Fin 20) (sums : Option (Nat × Nat)) (s : State) : Host.Outcome State Fault Refusal :=
  .next (fomWindow page.val lane.val (windowFom sums) s)

/-- An adaptation sweep with its grant: each STANDBY spare below SPARE runs TRAIN again (R228). -/
def sweepRun (s : State) : State :=
  [0, 2].foldl (fun s p => (upto 2).foldl (fun s k =>
    let i := spareLane p k
    if laneState s p i = 5 ∧ 0 < (lanLane s p i).below then setLane p i 2 s else s) s) s

/-- LINK_LOSS (R223). -/
def execLinkLoss (page : Fin 5) (lane : Fin 20) (s : State) : Host.Outcome State Fault Refusal :=
  .next (if laneThere s page.val lane.val then laneDown page.val lane.val s else s)

/-- TILE_SPARE_CHECK_TIMEOUT (R231): the selector goes back, the spare is marked failed, and the original lane stays in use. -/
def execTileSpareCheckTimeout (spare : Fin 2) (s : State) : Host.Outcome State Fault Refusal :=
  let k := spare.val
  let i := spareLaneFor s 1 k
  .next (if spareStateOf s 1 k ≠ 1 then s
    else
      let s1 := spareFailed 1 k (emit (.tspSel k false) (setLane 1 (spareLane 1 k) 0 s))
      laneWake 1 i (setLane 1 i 0 s1))

/-- The spare and lane that FORCE or RELEASE of a written LAN_SPARE_CTRL names, if the spare is wired to that lane's port. An in-use spare is a lane like any other (R231). -/
def spareNamed (s : State) (p : Nat) (value : Word) : Option (Nat × Nat) :=
  let lane := getBits value 12 8
  let k := if p = 0 then lane / 5 else getBits value 3 3
  if laneThere s p lane ∧ spareLane p k ≠ lane ∧ k < 2 ∧ spareWired s p k ∧ lanePort s p (spareLane p k) = lanePort s p lane
  then some (k, lane) else none

/-- LAN_FORCE (R232): the spare that SPARE names stands in for FORCE_LANE, where it is free; else E_NO_SPARE. -/
def execLanForce (who : Requester) (page : Fin 3) (value : Word) (s : State) : Host.Outcome State Fault Refusal :=
  let p := page.val
  let addr := R.LAN_SPARE_CTRL p
  let s1 := writeReg who addr value 0#32 s
  .next (if !pageTakes addr s || !bitAt value 1 then s1
    else
      match spareNamed s1 p value with
      | none => raiseErr (pg 9 p) causeRange (w32 0x044) s1
      | some (k, i) =>
        if substRuns s1 p i then s1
        else if spareFree s1 p k i then substStart p k i s1
        else raiseErr (pg 9 p) 0x13 (w32 i) s1)

/-- LAN_RELEASE (R232): the original lane is brought up again, and takes over from the spare when it is UP. -/
def execLanRelease (who : Requester) (page : Fin 3) (value : Word) (s : State) : Host.Outcome State Fault Refusal :=
  let p := page.val
  let addr := R.LAN_SPARE_CTRL p
  let s1 := writeReg who addr value 0#32 s
  .next (if !pageTakes addr s || !bitAt value 2 then s1
    else
      match spareNamed s1 p value with
      | none => raiseErr (pg 9 p) causeRange (w32 0x044) s1
      | some (k, _) =>
        if spareStateOf s1 p k ≠ 2 then s1
        else
          let i := spareLaneFor s1 p k
          let s2 := setLane p i 0 (rsetBit (R.LAN_RETIRED p) i false { markDrop p i s1 with lanRelease := s1.lanRelease ++ [(p, k)] })
          laneWake p i (if p = 1 then emit (.tspSel k false) (tlkLinkDown (lanePort s2 1 i) true s2) else s2))

/-- RETIRED_CLEAR (R223, R232): a lane whose RETIRED bit is cleared may be trained again. -/
def execRetiredClear (who : Requester) (page : Fin 5) (value : Word) (s : State) : Host.Outcome State Fault Refusal :=
  let p := page.val
  let addr := R.LAN_RETIRED p
  let s1 := writeReg who addr value 0#32 s
  .next ((upto (lanCount p)).foldl (fun s i =>
    if laneState s p i = 6 ∧ !laneRetired s p i then
      (let s' := setLane p i 0 (markDrop p i s)
       match spareInUseFor s' p i with
       | some _ => s'
       | none => laneWake p i s')
    else s) s1)

/-- RETRAIN (R215, R223): the port's lanes return to DOWN, and are brought up again; FORCE_BLOCK acts on the link at once. -/
def execRetrain (who : Requester) (port : Fin 4) (value : Word) (s : State) : Host.Outcome State Fault Refusal :=
  let p := port.val
  let addr := R.CAS_PORT_CTRL p
  let s1 := writeReg who addr value 0#32 s
  .next (if !pageTakes addr s then s1
    else if !bitAt value 1 then electWritten (casId s) s1
    else
      let s2 := casLeave p 1 false s1
      lanEnablePort 2 p ((portLanes s2 2 p).foldl (fun s i => if laneState s 2 i = 6 then s else setLane 2 i 0 s) s2))

/-- A cascade port's unit starts: TRAINING while its lanes come up. -/
def casPortStart (p : Nat) (s : State) : State :=
  if casPortRuns s p then
    (let s1 := lanEnablePort 2 p (if casState s p = 0 then setCasState p 1 s else s)
     if (dataLanes 2 p).all (laneCarries s1 2) then casLinkUp p s1 else s1)
  else s

/-- The cascade starts: TOPO goes to each port as it begins to forward (R197, R198, R201). -/
def casStart (s : State) : State := sendTopo false ((upto 4).foldl (fun s p => casPortStart p s) s)

end Sys2Proof.Machine
end

