-- ==== Sys2Proof/Machine/Cnv.lean ====
section
/-! DEFINITION. The canvas engine at work: commits, picture starts, composition, scan-out, launches, self-refresh, latency tolerance, the monitor view (R124 to R144, R427). -/

namespace Sys2Proof.Machine

/-! ### Picture start (R125, R126, R128, R138) -/

def boundTo (s : State) (b : Nat) : Bool := s.cnv.bounds.any fun x => x.buf == b

/-- The buffer is under the scan of a bound launch. -/
def launchScanned (s : State) (b : Nat) : Bool :=
  match s.cnv.scan with | some sc => sc.buf == b && sc.bound | none => false

def holdScanned (s : State) (b : Nat) : Bool :=
  match s.cnv.scan with | some sc => sc.buf == b && !sc.bound | none => false

def bufShown (s : State) (b : Nat) : Bool := decide (shownIntact s = some b)

/-- Drop the picture bound in buffer `b`: counted, its launch instant becomes a hold-over (R126, R139). -/
def dropPicture (b : Nat) (s : State) : State := bufRelease b (rinc R.CNV_CNT_PIC_DROPPED 1 s)

/-- The buffer a new picture takes, and the state once it is free (R126). -/
def takeBuffer (s : State) : Nat × State :=
  let free := fun b => !boundTo s b && !launchScanned s b
  let calm := fun b => free b && !holdScanned s b
  match lowest 2 fun b => calm b && !bufShown s b with
  | some b => (b, s)
  | none =>
    match lowest 2 calm with
    | some b => (b, s)
    | none =>
      match lowest 2 free with
      | some b => (b, { s with cnv := { s.cnv with scan := none } })
      | none =>
        let b := if launchScanned s 0 then 1 else 0
        (b, dropPicture b s)

/-- The instant a picture that starts now is bound to (R138). -/
def bindInstant (s : State) (start : Nat) : Option Nat :=
  let u := uget s
  if schedLock u then some (start + (u R.CNV_LOCK_DELAY).toNat * 65536)
  else scheduleFrom s u (max (launchFloor s u) (start + fillTime u + leadTime u + guardTime))

/-- Bind a buffer to an instant; an older picture bound there is dropped (R138, R139). -/
def bindBuf (b at16 : Nat) (s : State) : State :=
  let s1 := match s.cnv.bounds.find? fun x => x.at16 == at16 && x.buf != b with
    | some x => dropPicture x.buf s
    | none => s
  { s1 with cnv := { s1.cnv with bounds := (s1.cnv.bounds.filter fun x => x.buf != b) ++ [{ buf := b, at16 := at16 }] } }

/-- The live layers of a picture: the pacing pipeline's, and the other's when its SOF lies within SYNC_WIN (R128). -/
def liveAtStart (s : State) (start : Nat) : List (Nat × Nat × Nat) :=
  let u := uget s
  let pace := schedPace u
  (upto 8).filterMap fun l =>
    if lyrOn u l ∧ lyrSrc u l ≤ 1 ∧ (pace = 1 ∨ pace = 2) then
      (let p := lyrSrc u l
       if p + 1 = pace then (s.cnv.ot0.find? fun o => o.pipe == p && o.sof == start).map fun o => (l, p, o.sof)
       else (s.cnv.ot0.reverse.find? fun o => o.pipe == p && within o.sof start (getBits (u R.CNV_SYNC_WIN) 15 0)).map
         fun o => (l, p, o.sof))
    else none

/-- The store buffers of the other enabled layers: the host layer's by HOST_SEL, else the newest complete picture. -/
def storedAtStart (s : State) (live : List (Nat × Nat × Nat)) : List (Nat × Nat) :=
  let u := uget s
  (upto 8).filterMap fun l =>
    if !lyrOn u l || live.any (fun e => e.1 == l) then none
    else if lyrSrc u l = 2 then some (l, b2n (bitAt (u (R.CNV_LYR_HOST_SEL l)) 0))
    else (newestStore (layerAt s l)).map fun b => (l, b)

/-- Layer states as a picture starts: CURRENT, LIVE, and the stores a composition now uses. -/
def showLayers (live : List (Nat × Nat × Nat)) (stored : List (Nat × Nat)) (s : State) : State :=
  let s1 := (upto 8).foldl (fun t l => rsetBit (R.CNV_LYR_STATE l) 1 (live.any fun e => e.1 == l) t) s
  stored.foldl (fun t (l, b) =>
    let y := layerAt t l
    rsetFld (R.CNV_LYR_STATE l) 0 0 b (setLayer l (setStore y b { storeAt y b with unused := false }) t)) s1

/-- A live picture that is not also stored stops going to its store (R128). -/
def liveOnly (live : List (Nat × Nat × Nat)) (s : State) : State :=
  live.foldl (fun t (l, p, sof) =>
    match ot0At t p sof with
    | some o =>
      (match o.store with
       | some b => if sendBound t l then t else storeDrop l b (putOt0 { o with store := none } t)
       | none => t)
    | none => t) s

/-- The monitor buffer of a new picture, or none: off, or the ring is full (R113, R144). -/
def monTake (seq : Nat) (s : State) : Option Nat × State :=
  let u := uget s
  if !monOn u then (none, s)
  else
    let cnt := getBits (u R.CNV_MON_RING) 5 0 + 1
    let ahead := (s.cnv.bufs.filter fun b => b.mon.isSome && !b.launched).length
    let buf := (rfld s R.CNV_MON_WR_IDX 5 0 + ahead) % cnt
    if (buf + 1) % cnt = rfld s R.CNV_MON_RD_IDX 5 0 then
      (none, raiseErr (pg 4 3) 0x1C (w32 seq) (rinc R.CNV_MON_CNT_SKIP 1 s))
    else (some buf, s)

/-- A picture starts (R125 to R128, R138). -/
def pictureStart (start : Nat) (s : State) : State :=
  let s0 := cnvCommits { s with cnv := { s.cnv with paceSof := none, storeNews := false } }
  let seq := rnat s0 R.CNV_PIC_SEQ
  let (b, t) := takeBuffer (rinc R.CNV_PIC_SEQ 1 s0)
  let s1 := monGone b t
  let live := liveAtStart s1 start
  let stored := storedAtStart s1 live
  let (mon, s2) := monTake seq s1
  let c : CnvPic := { seq := seq, buf := b, start := start, live := live, stored := stored, use := s2.inUse, mon := mon }
  let s3 := liveOnly live (showLayers live stored s2)
  let s4 := { s3 with cnv := { s3.cnv with
    pics := (s3.cnv.pics.filter fun x => x.buf != b) ++ [c]
    bufs := setNth s3.cnv.bufs b { seq := seq, ready := 0, holds := true, launched := false, mon := mon, use := s2.inUse, live := live } } }
  let s5 := match bindInstant s4 start with
    | some at16 => bindBuf b at16 s4
    | none => s4
  let lost := live.any fun e => match ot0At s5 e.2.1 e.2.2 with | some o => o.withdrawn | none => true
  if lost then picAbandon b s5 else showHostFree (showReady s5)

/-- From a compose instant to its launch instant: FILL_TIME, 80 µs and LEAD (R125, R138). -/
def composeAhead (u : Nat → Word) : Nat := fillTime u + guardTime + leadTime u

/-- With PACE = 0, the free-running launch whose compose instant is the last that has come, unless it has been dealt with (R125). -/
def composeDue (s : State) : Option Nat :=
  let u := uget s
  let t := merNow s + composeAhead u
  if wfPeriod u = 0 ∨ t < wfFirst u then none
  else
    let at16 := wfFirst u + (t - wfFirst u) / wfPeriod u * wfPeriod u
    match s.cnv.composed with
    | some x => if at16 ≤ x then none else some at16
    | none => some at16

/-- Something for a new picture has come since the last picture start (R125). -/
def composeNews (s : State) : Bool := s.cnv.storeNews || (upto 4).any fun k => commitPending s (pg 4 k)

/-- PICTURE_START (R125): at a pacing SOF, or at a compose instant when something has changed. -/
def execPictureStart (s : State) : Host.Outcome State Fault Refusal :=
  .next (if !cnvRuns s then { s with cnv := { s.cnv with paceSof := none } }
    else if ufld s R.CNV_SCHED 1 0 ≠ 0 then
      (match s.cnv.paceSof with
       | some sof => pictureStart sof s
       | none => s)
    else
      match composeDue s with
      | none => s
      | some at16 =>
        let s1 := { s with cnv := { s.cnv with composed := some at16 } }
        if composeNews s then pictureStart (at16 - composeAhead (uget s)) s1 else s1)

/-! ### Composition (R129, R130, R427) -/

/-- A clamped channel as binary16, +0.0 for −0.0, and 1 where the clamp acted (R75, R422). -/
def outChannel (x : F32) : Half × Nat :=
  (f32to16 (f32Clamp x f32Zero f32Top), b2n (f32Lt x f32Zero || f32Lt f32Top x))

/-- One channel over the layers (R129): the running value, then sanitised sources counted. -/
def overChannel (d a sRaw : F32) : F32 × Nat :=
  let (v, n) := f32Sanitise sRaw
  (f32Add d (f32Mul a (f32Sub v d)), n)

/-- The P48 pixel a layer gives at its own (x, y). -/
def layerPixel (s : State) (u : Nat → Word) (c : CnvPic) (l x y : Nat) : Option Nat :=
  match c.live.find? fun e => e.1 == l with
  | some e => (ot0At s e.2.1 e.2.2).map fun o => nth 0 (nth [] o.rows y) x
  | none =>
    (c.stored.find? fun e => e.1 == l).map fun e =>
      let base := if e.2 = 0 then useU64 u (R.CNV_LYR_STORE0 l) else useU64 u (R.CNV_LYR_STORE1 l)
      memNat s (bitAt (u (R.CNV_LYR_CTRL l)) 5) 6 (base + y * (u (R.CNV_LYR_STRIDE l)).toNat + 6 * x)

/-- The address of a host layer's alpha value. -/
def alphaAddr (u : Nat → Word) (l b x y : Nat) : Nat :=
  (if b = 0 then useU64 u (R.CNV_LYR_ALPHA0 l) else useU64 u (R.CNV_LYR_ALPHA1 l)) + y * (u (R.CNV_LYR_STRIDE l)).toNat / 3 + 2 * x

/-- The alpha of a layer at a pixel (R129). -/
def layerAlpha (s : State) (u : Nat → Word) (c : CnvPic) (l x y : Nat) : F32 :=
  let a := u (R.CNV_LYR_ALPHA l)
  if lyrSrc u l = 2 ∧ bitAt (u (R.CNV_LYR_CTRL l)) 4 then
    match c.stored.find? fun e => e.1 == l with
    | some e =>
      let v := f16to32 (BitVec.ofNat 16 (memNat s (bitAt (u (R.CNV_LYR_CTRL l)) 5) 2 (alphaAddr u l e.2 x y)))
      f32Mul a (if f32IsNaN v then f32Zero else f32Clamp v f32Zero f32One)
    | none => a
  else a

/-- A canvas pixel: its P48, and how many values were sanitised and clamped (R129). -/
def composePixel (s : State) (u : Nat → Word) (c : CnvPic) (x y : Nat) : Nat × Nat × Nat :=
  let bg := useU64 u R.CNV_BG
  let start : List F32 × Nat := ((upto 3).map (p48Ch bg), 0)
  let (ds, san) := (upto 8).foldl (fun (acc : List F32 × Nat) l =>
    if lyrOn u l ∧ lyrX u l ≤ x ∧ x < lyrX u l + lyrW u l ∧ lyrY u l ≤ y ∧ y < lyrY u l + lyrH u l then
      match layerPixel s u c l (x - lyrX u l) (y - lyrY u l) with
      | none => acc
      | some px =>
        let a := layerAlpha s u c l (x - lyrX u l) (y - lyrY u l)
        let rs := (upto 3).map fun k => overChannel (nth f32Zero acc.1 k) a (p48Ch px k)
        (rs.map (·.1), rs.foldl (fun n r => n + r.2) acc.2)
    else acc) start
  let os := ds.map outChannel
  let o := fun k => (nth (0#16, 0) os k).1
  (p48Of (o 0) (o 1) (o 2), san, os.foldl (fun n r => n + r.2) 0)

/-- A layer of the other pipeline covers row `y`, and whether it is live is not settled: its SOF may still come within SYNC_WIN (R128). -/
def rowUnsettled (s : State) (u : Nat → Word) (c : CnvPic) (y : Nat) : Bool :=
  decide (schedPace u ≠ 0 ∧ merNow s ≤ c.start + getBits (u R.CNV_SYNC_WIN) 15 0 * 1000 * 65536) &&
    (upto 8).any fun l => lyrOn u l && decide (lyrSrc u l ≤ 1 ∧ lyrSrc u l + 1 ≠ schedPace u ∧ lyrY u l ≤ y ∧ y < lyrY u l + lyrH u l) &&
      !(c.live.any fun e => e.1 == l)

/-- Every live layer covering row `y` has delivered its line (R130), and no layer is still to become live there (DEDUCED, log 134). -/
def rowReady (s : State) (u : Nat → Word) (c : CnvPic) (y : Nat) : Bool :=
  !rowUnsettled s u c y &&
  c.live.all fun e => decide (y < lyrY u e.1 ∨ lyrY u e.1 + lyrH u e.1 ≤ y) ||
    match ot0At s e.2.1 e.2.2 with
    | some o => decide (y - lyrY u e.1 < o.rows.length)
    | none => false

/-- A stored input of row `y` reads as poisoned (R427). -/
def rowPoisoned (s : State) (u : Nat → Word) (c : CnvPic) (y : Nat) : Bool :=
  c.stored.any fun e =>
    let l := e.1
    let host := bitAt (u (R.CNV_LYR_CTRL l)) 5
    decide (lyrY u l ≤ y ∧ y < lyrY u l + lyrH u l) &&
      (let base := if e.2 = 0 then useU64 u (R.CNV_LYR_STORE0 l) else useU64 u (R.CNV_LYR_STORE1 l)
       memPoisoned s host (6 * lyrW u l) (base + (y - lyrY u l) * (u (R.CNV_LYR_STRIDE l)).toNat) ||
       (decide (lyrSrc u l = 2) && bitAt (u (R.CNV_LYR_CTRL l)) 4 &&
         memPoisoned s host (2 * lyrW u l) (alphaAddr u l e.2 0 (y - lyrY u l))))

/-- The stored inputs of row `y` are read (R240). -/
def rowReads (u : Nat → Word) (c : CnvPic) (y : Nat) (s : State) : State :=
  c.stored.foldl (fun s e =>
    let l := e.1
    let host := bitAt (u (R.CNV_LYR_CTRL l)) 5
    if lyrY u l ≤ y ∧ y < lyrY u l + lyrH u l then
      (let base := if e.2 = 0 then useU64 u (R.CNV_LYR_STORE0 l) else useU64 u (R.CNV_LYR_STORE1 l)
       let s1 := memSee host (6 * lyrW u l) (base + (y - lyrY u l) * (u (R.CNV_LYR_STRIDE l)).toNat) s
       if lyrSrc u l = 2 ∧ bitAt (u (R.CNV_LYR_CTRL l)) 4 then memSee host (2 * lyrW u l) (alphaAddr u l e.2 0 (y - lyrY u l)) s1 else s1)
    else s) s

/-- A canvas pixel as stored. -/
def canvasPixel (s : State) (u : Nat → Word) (b x y : Nat) : Nat := memNat s false 6 (canvasAddr u b x y)

/-- One monitor pixel: the B × B block summed row by row, times 1/B² (R144). -/
def monPixel (s : State) (u : Nat → Word) (b i j : Nat) : Nat :=
  let n := monBox u
  let ch := fun k =>
    let sum := (upto n).foldl (fun a dy => (upto n).foldl (fun a dx =>
      f32Add a (p48Ch (canvasPixel s u b (monX u + i * n + dx) (monY u + j * n + dy)) k)) a) f32Zero
    f32to16 (f32Mul sum (f32OfRat 1 (n * n)))
  p48Of (ch 0) (ch 1) (ch 2)

/-- The monitor line that row `y` completes is written to the picture's monitor buffer, after its 64-byte header. -/
def monLine (c : CnvPic) (u : Nat → Word) (y : Nat) (s : State) : State :=
  match c.mon with
  | none => s
  | some k =>
    let n := monBox u
    if monY u ≤ y ∧ y < monY u + monH u ∧ (y - monY u + 1) % n = 0 then
      let j := (y - monY u) / n
      memWrite (monHost u) (monBufBase u k + 64 + j * monStride u)
        ((upto (monW u / n)).flatMap fun i => leBytes 6 (monPixel s u c.buf i j)) s
    else s

/-- Compose the next row of a picture (R129, R130). -/
def composeRow (c : CnvPic) (s : State) : State :=
  let u := useOf c.use
  let y := c.next
  let s := rowReads u c y s
  if rowPoisoned s u c y then
    picAbandon c.buf (raiseErr (pg 4 0) 0x1D (w32 c.seq) (rinc R.CNV_CNT_POISON 1 s))
  else
    let px := (upto (canvasW u)).map fun x => composePixel s u c x y
    let s1 := memWrite false (canvasAddr u c.buf 0 y) (rowBytes (px.map (·.1))) s
    let s2 := rinc R.CNV_CNT_CLAMPED (px.foldl (fun a p => a + p.2.2) 0)
      (rinc R.CNV_CNT_SANITISED (px.foldl (fun a p => a + p.2.1) 0) s1)
    let c1 := { c with next := y + 1 }
    let s3 := { s2 with cnv := { s2.cnv with
      pics := s2.cnv.pics.map fun x => if x.seq = c.seq then c1 else x
      bufs := setNth s2.cnv.bufs c.buf { canvasBuf s2 c.buf with ready := y + 1 } } }
    let s4 := showReady (monLine c u y s3)
    if y + 1 = canvasH u then
      showHostFree (showReady (sweepOt0 { s4 with cnv := { s4.cnv with pics := s4.cnv.pics.filter fun x => x.seq != c.seq } }))
    else s4

/-- ROW_COMPOSE (R130): the oldest picture whose next row can be composed goes one row on. -/
def execRowCompose (s : State) : Host.Outcome State Fault Refusal :=
  .next (match s.cnv.pics.find? fun c => rowReady s (useOf c.use) c c.next with
    | some c => composeRow c s
    | none => s)

/-! ### Map validation (R133) -/

/-- MAP_VALIDATE (R133): a write of CNV_MAP_CTRL with VALIDATE = 1 checks bank TARGET against the values staged at that write. -/
def execMapValidate (who : Requester) (value : Word) (s : State) : Host.Outcome State Fault Refusal :=
  let taken := pageTakes R.CNV_MAP_CTRL s
  let s1 := writeReg who R.CNV_MAP_CTRL value 0#32 s
  let t := getBits value 5 5
  .next (if !taken || !bitAt value 4 then s1
    else if (enabled s1 (pg 4 0) && decide (bankOf (uget s1) = t)) || (commitPending s1 (pg 4 2) && decide (bankOf (rget s1) = t)) ||
        decide (mapState s1 t = 1) then
      raiseErr (pg 4 2) 0x16 (w32 t) s1
    else
      setMapState t 1 { s1 with cnv := { s1.cnv with
        checked := setNth s1.cnv.checked t (mapValues (rget s1) t)
        atCheck := setNth s1.cnv.atCheck t (s1.regs.filter fun e => decide (pg 4 0 ≤ pageOf e.1 ∧ pageOf e.1 ≤ pg 4 2)) } })

/-- The most loaded port of a bank, the lower of two alike. -/
def heaviestPort (es : List MapEntry) : Nat × Nat :=
  (upto 16).foldl (fun (best : Nat × Nat) p =>
    let a := (es.filter fun e => mePort e == p).foldl (fun a e => a + meW e * meH e) 0
    if best.2 < a then (p, a) else best) (0, 0)

/-- MAP_VALIDATE_DONE (R133): the check of a bank ends. -/
def execMapValidateDone (bank : Fin 2) (s : State) : Host.Outcome State Fault Refusal :=
  let b := bank.val
  .next (if mapState s b ≠ 1 then s
    else
      let u := useOf (nth [] s.cnv.atCheck b)
      let clear := fun s => { s with cnv := { s.cnv with atCheck := setNth s.cnv.atCheck b [] } }
      let ended := fun s => raiseInt (pg 4 2) 1 (clear s)
      match mapCheck s u b with
      | some f =>
        let a := mapBase u b + 16 * f.idx
        let s := memSee false 16 a s
        let s1 := if memPoisoned s false 16 a then rinc R.CNV_CNT_POISON 1 s else s
        ended (raiseErr (pg 4 2) f.cause (w32 f.info) (rset R.CNV_MAP_RESULT (w32 (f.idx + f.check * 2 ^ 24)) (setMapState b 3 s1)))
      | none =>
        let es := validEntries s u b
        let (p, a) := heaviestPort es
        ended (rset R.CNV_MAP_PIX_PORT (w32 (a % 2 ^ 28 + p * 2 ^ 28))
          (rset R.CNV_MAP_PIX_TOTAL (w32 (es.foldl (fun a e => a + meW e * meH e) 0))
            (rset R.CNV_MAP_RESULT 0#32 (setMapState b 2 (memWake s))))))

/-! ### Scan-out (R135, R427) -/

/-- The launch ID the next launch carries (R140, R384). -/
def nextLaunchId (s : State) : Nat :=
  match s.cnv.lastId with
  | some i => (i + 1 + b2n s.cnv.skipId) % 65536
  | none => (launchBase s + 2 + b2n s.cnv.skipId) % 65536

/-- One corrected channel (R135). -/
def correctChannel (k : List F32) (g : F32) (c : Nat) (px : Nat) : Half × Nat :=
  let m := fun j => f32Mul (nth f32Zero k (3 * c + j)) (p48Ch px j)
  outChannel (f32Mul (f32Add (f32Add (m 0) (m 1)) (m 2)) g)

/-- A pixel corrected with a tile's K and G, and its clamps. -/
def correctPixel (k g : List F32) (px : Nat) : Nat × Nat :=
  let os := (upto 3).map fun c => correctChannel k (nth f32Zero g c) c px
  let o := fun c => (nth (0#16, 0) os c).1
  (p48Of (o 0) (o 1) (o 2), os.foldl (fun n r => n + r.2) 0)

/-- The 64-byte bursts that `n` bytes at an address lie in (R238). -/
def burstsOf (a n : Nat) : List Nat := (upto ((a + n - 1) / 64 - a / 64 + 1)).map fun k => a / 64 + k

/-- The canvas pixels of a tile view in the tile's raster order, black where a burst is poisoned, and the poisoned reads: each burst of
the view counts once (R132, R427; DESIGN CHOICE, log 135). -/
def tilePixels (s : State) (u : Nat → Word) (b : Nat) (e : MapEntry) (v : Nat) : List Nat × List Nat :=
  let at_ := (upto (meH e)).flatMap fun j => (upto (meW e)).map fun i =>
    let (dx, dy) := meOffset e i j
    canvasAddr u b (meX0 e + viewX u v + dx) (meY0 e + viewY u v + dy)
  let hit := at_.filter fun a => memPoisoned s false 6 a
  let bursts := hit.foldl (fun acc a => (burstsOf a 6).foldl (fun acc k => if memPoisoned s false 64 (64 * k) then setInsert acc k else acc) acc) []
  (at_.map fun a => if hit.contains a then 0 else memNat s false 6 a, bursts)

/-- E_IN_POISON once per launch, each poisoned read counted (R427). -/
def scanPoison (n : Nat) (sc : CnvScan) (s : State) : CnvScan × State :=
  if n = 0 then (sc, s)
  else
    let s1 := rinc R.CNV_CNT_POISON n s
    ({ sc with poisonSeen := true }, if sc.poisonSeen then s1 else raiseErr (pg 4 0) 0x1D (w32 sc.id) s1)

/-- One view of an entry: read, correct, sum, hand over (R135). -/
def scanView (u : Nat → Word) (e : MapEntry) (k g : List F32) (acc : CnvScan × List (F32 × F32 × F32) × State) (v : Nat) :
    CnvScan × List (F32 × F32 × F32) × State :=
  let (sc, sums, s) := acc
  let (px, bad) := tilePixels s u sc.buf e v
  let (sc1, s1) := scanPoison bad.length sc (bad.foldl (fun s b => memUe b s) (memWake s))
  let out := px.map (correctPixel k g)
  let sum := fun c => out.foldl (fun a p => f32Add a (p48Ch p.1 c)) f32Zero
  let s2 := rinc R.CNV_CNT_CLAMPED (out.foldl (fun a p => a + p.2) 0) s1
  (sc1, sums ++ [(sum 0, sum 1, sum 2)], tlkPix (mePort e) (meChain e) v sc.id u (out.map (·.1)) s2)

def putScan (sc : CnvScan) (s : State) : State := { s with cnv := { s.cnv with scan := some sc } }

/-- Go on to the entry after this one. -/
def scanNext (sc : CnvScan) (n : Nat) (s : State) : State :=
  putScan { sc with entry := sc.entry + 1, done := decide (n ≤ sc.entry + 1) } s

/-- Scan one entry of the launch (R135, R151, R177, R427). -/
def scanEntry (sc : CnvScan) (s : State) : State :=
  let u := useOf (canvasBuf s sc.buf).use
  let es := scanWalk s u
  match es.drop sc.entry with
  | [] => putScan { sc with done := true } s
  | e :: _ =>
    if entryPoisoned s u e then
      (let (sc1, s1) := scanPoison 1 sc (memSee false 16 (mapBase (rget s) (bankOf u) + 16 * e.idx) s)
       scanNext sc1 es.length s1)
    else if !entryReady s u sc.buf e then putScan sc s
    else
      match phoRuns s, passTile s sc.at16 (meKey e) with
      | true, none => putScan sc (rinc R.PHO_CNT_SCAN_WAIT 1 s)
      | runs, tile =>
        let k := match tile with | some t => t.k | none => identityK
        let g := match tile with | some t => t.g | none => [f32One, f32One, f32One]
        let sent := tlkTakes s (mePort e)
        let (sc1, sums, s1) := (upto (viewCount u)).foldl (scanView u e (if runs then k else identityK)
          (if runs then g else [f32One, f32One, f32One])) (sc, [], s)
        scanNext (if sent then { sc1 with sums := sc1.sums ++ [{ key := meKey e, views := sums }] } else sc1) es.length s1

/-- The scan of a launch begins: ports that waited for it are released, and a changed slot schedule goes to every tile before the
launch's first PIX frame (R136, R182). -/
def scanBegin (buf at16 : Nat) (b : Option Nat) (s : State) : State :=
  let u := useOf (canvasBuf s buf).use
  let s1 := (upto 16).foldl (fun t p => if tlkTakes t p then scheduleAhead p u t else t) (tlkRelease s)
  scanEntry { buf := buf, at16 := at16, bound := b.isSome, id := nextLaunchId s1 } s1

/-- TILE_SCAN (R135): the scan of the next launch begins, or goes one entry on. -/
def execTileScan (s : State) : Host.Outcome State Fault Refusal :=
  .next (match nextLaunch s with
    | none => s
    | some (at16, b) =>
      match launchBuf s b, s.cnv.scan with
      | none, _ => s
      | some buf, some sc =>
        if !scanAllowed s at16 then s
        else if sc.at16 = at16 ∧ sc.buf = buf ∧ sc.bound = b.isSome then (if sc.done then s else scanEntry sc s)
        else if scanMayStart s at16 b then scanBegin buf at16 b s else s
      | some buf, none => if scanMayStart s at16 b then scanBegin buf at16 b s else s)

/-! ### Deadlines and launches (R137, R139, R140, R144) -/

/-- PHO runs a pass for every launch instant, whatever becomes of its launch: one that is dealt with before its pass has begun is owed
one (R151). -/
def passOwed (at16 : Nat) (use : List (Nat × Word)) (s : State) : State :=
  let begun := (match s.pho.pass with | some p => decide (at16 ≤ p.at16) | none => false) ||
    (match s.pho.lastAt with | some a => decide (at16 ≤ a) | none => false)
  if !phoRuns s || begun then s else setPho { s.pho with owed := s.pho.owed ++ [(at16, use)] } s

/-- The values in use for what a launch shows. -/
def launchWords (s : State) (b : Option Nat) : List (Nat × Word) :=
  match launchBuf s b with | some x => (canvasBuf s x).use | none => s.inUse

/-- A launch instant is dealt with. -/
def instantPast (at16 : Nat) (b : Option Nat) (s : State) : State :=
  let s1 := passOwed at16 (launchWords s b) s
  { s1 with cnv := { s1.cnv with
      lastAt := some at16
      scan := match s1.cnv.scan with | some sc => if sc.at16 ≤ at16 then none else some sc | none => none } }

/-- A launch is missed: counted, and its picture rebound to the next instant of its schedule, or dropped for a newer one (R139). -/
def launchMiss (at16 : Nat) (b : Option Nat) (s : State) : State :=
  let seq := match launchBuf s b with | some x => (canvasBuf s x).seq | none => 0
  let s1 := instantPast at16 b (raiseInt (pg 4 0) 2 (raiseErr (pg 4 0) 0x1A (w32 seq) (rinc R.CNV_CNT_MISSES 1 s)))
  match b with
  | none => { s1 with cnv := { s1.cnv with holdOvers := s1.cnv.holdOvers + 1 } }
  | some buf =>
    let next := at16 + wfPeriod (launchUse s1 b)
    if s1.cnv.bounds.any fun x => x.buf != buf && decide (x.at16 ≤ next) && decide (seq < (canvasBuf s1 x.buf).seq) then
      dropPicture buf s1
    else bindBuf buf next s1

/-- A hold-over whose picture is gone is skipped (R137). -/
def holdSkipped (at16 : Nat) (s : State) : State :=
  let s1 := instantPast at16 none (rinc R.CNV_CNT_HOLD_SKIPPED 1 s)
  { s1 with cnv := { s1.cnv with holdOvers := s1.cnv.holdOvers + 1 } }

/-- DISPATCH_DEADLINE (R139): at D_k the rows the launch needs must be ready. -/
def execDispatchDeadline (s : State) : Host.Outcome State Fault Refusal :=
  .next (match nextLaunch s with
    | none => s
    | some (at16, b) =>
      if merNow s < deadline (launchUse s b) at16 ∨ !scanAllowed s at16 then s
      else
        match launchBuf s b with
        | none => holdSkipped at16 s
        | some buf =>
          let u := useOf (canvasBuf s buf).use
          let es := scanEntries s u
          if b.isSome && !es.isEmpty && decide ((canvasBuf s buf).ready ≤ lastRow u es) then launchMiss at16 b s else s)

/-- The header of a monitor buffer, and its publication at the picture's first launch (R144). -/
def monPublish (buf at16 : Nat) (s : State) : State :=
  let c := canvasBuf s buf
  let u := useOf c.use
  match c.mon with
  | none => s
  | some k =>
    let n := monBox u
    let hdr := leBytes 4 (64 + monStride u * (monH u / n)) ++ leBytes 2 c.seq ++ leBytes 2 0 ++ longBytes at16 ++
      leBytes 2 (monW u / n - 1) ++ leBytes 2 (monH u / n - 1) ++ [4#8, 0#8, 0xFF#8, 0#8] ++ leBytes 4 (monStride u) ++
      List.replicate 32 0#8
    let cnt := getBits (u R.CNV_MON_RING) 5 0 + 1
    let s1 := memWrite (monHost u) (monBufBase u k) hdr s
    let s2 := rset R.CNV_MON_WR_IDX (w32 ((rfld s1 R.CNV_MON_WR_IDX 5 0 + 1) % cnt)) s1
    raiseInt (pg 4 3) 1 (sourceVector (getBits (u R.CNV_MON_CTRL) 31 21)
      { s2 with cnv := { s2.cnv with bufs := setNth s2.cnv.bufs buf { canvasBuf s2 buf with mon := none } } })

/-- The ports with a valid entry (R140). -/
def scanPorts (es : List MapEntry) : List Nat := es.foldl (fun a e => setInsert a (mePort e)) []

/-- A launch is sent on every port with valid entries (R140, R141, R144, R153). -/
def launchSend (sc : CnvScan) (s : State) : State :=
  let u := useOf (canvasBuf s sc.buf).use
  let first := !(canvasBuf s sc.buf).launched
  let s1 := (scanPorts (scanEntries s u)).foldl (fun t p => tlkLaunch p sc.id sc.at16 u t) s
  let s2 := rsetBit R.CNV_STATUS 0 (sc.buf == 1) (rset R.CNV_LAUNCH_ID (w32 sc.id) (rsetLong R.CNV_LAST_LAUNCH sc.at16
    (rinc R.CNV_CNT_LAUNCHES 1 s1)))
  let s3 := if sc.bound then s2 else rinc R.CNV_CNT_HOLDOVERS 1 s2
  let s4 := if first then monPublish sc.buf sc.at16 s3 else s3
  let cnv := s4.cnv
  let pho := match s4.pho.pass with
    | some p => if p.at16 = sc.at16 then { s4.pho with pass := some { p with sums := some (sc.id, false, sc.sums) } } else s4.pho
    | none => s4.pho
  let s5 := { passOwed sc.at16 (canvasBuf s4 sc.buf).use { s4 with pho := pho } with
    cnv := { cnv with
      scan := none
      lastAt := some sc.at16
      bounds := if sc.bound then cnv.bounds.filter fun x => x.buf != sc.buf else cnv.bounds
      bufs := setNth cnv.bufs sc.buf { canvasBuf s4 sc.buf with launched := true }
      shown := some (sc.buf, (canvasBuf s4 sc.buf).seq)
      holdOvers := if sc.bound then 0 else cnv.holdOvers + 1
      lastId := some sc.id
      skipId := false
      lastSums := sc.sums
      notBefore := if selfrefState s4 = 3 then none else cnv.notBefore } }
  raiseInt (pg 4 0) 1 (if selfrefState s5 = 3 then setSelfref 0 s5 else s5)

/-- In self-refresh an instant passes without a launch: its picture stays the newest (R141). -/
def instantHeld (at16 : Nat) (b : Option Nat) (s : State) : State :=
  let s1 := instantPast at16 b s
  match b with
  | some x => { s1 with cnv := { s1.cnv with bounds := s1.cnv.bounds.filter fun y => y.buf != x } }
  | none => s1

/-- LAUNCH (R139, R140): the scan has ended and the dispatch instant has not passed; a scan still unfinished then is a miss. -/
def execLaunch (s : State) : Host.Outcome State Fault Refusal :=
  .next (match nextLaunch s with
    | none => s
    | some (at16, b) =>
      let late := decide (at16 < merNow s + leadTime (launchUse s b))
      if !scanAllowed s at16 then (if late then instantHeld at16 b s else s)
      else
        match launchBuf s b with
        | none => if deadline (launchUse s b) at16 ≤ merNow s then holdSkipped at16 s else s
        | some buf =>
          if late then launchMiss at16 b s
          else
            match s.cnv.scan with
            | some sc => if sc.at16 = at16 ∧ sc.buf = buf ∧ sc.bound = b.isSome ∧ sc.done then launchSend sc s else s
            | none => s)

/-! ### Self-refresh (R141, R142) -/

/-- A request bit is 1. -/
def selfrefAsked (s : State) : Bool := decide (rfld s R.CNV_SELFREF 3 0 ≠ 0)

/-- The scan in progress stops at once; its launch is not sent, and its ID is passed over (R141, R142). -/
def scanStop (s : State) : State :=
  match s.cnv.scan with
  | some _ => { s with cnv := { s.cnv with scan := none, skipId := true } }
  | none => s

/-- The picture that ends self-refresh: the newest, else the last launched one while it is intact. -/
def newestBuf (s : State) : Option Nat :=
  let a := canvasBuf s 0
  let b := canvasBuf s 1
  let fresh := fun (c : CanvasBuf) => c.holds && !c.launched
  if fresh a && (!fresh b || decide (b.seq < a.seq)) then some 0
  else if fresh b then some 1
  else shownIntact s

/-- Exit begins (R141). -/
def selfrefExit (s : State) : State :=
  let s1 := setSelfref 3 s
  match newestBuf s1 with
  | none => setSelfref 0 s1
  | some b =>
    let u := useOf (canvasBuf s1 b).use
    let from_ := merNow s + wfPeriod u + leadTime u + guardTime
    let at16 := match scheduleFrom s1 u from_ with | some t => t | none => from_
    let s2 := bindBuf b at16 s1
    { s2 with cnv := { s2.cnv with
        notBefore := some at16
        bounds := s2.cnv.bounds.filter fun x => decide (at16 ≤ x.at16) } }

/-- The request bits have changed (R141). -/
def selfrefUpdate (s : State) : State :=
  let st := selfrefState s
  let reset := rbit s R.CNV_SELFREF 3
  if selfrefAsked s then
    (if st = 0 ∨ st = 3 then
      (let s1 := setSelfref 1 { s with cnv := { s.cnv with notBefore := none } }
       if reset then scanStop s1 else s1)
     else if st = 1 ∧ reset then scanStop s else s)
  else if st = 2 then selfrefExit s else s

/-- HOST_REQ (R141): host software writes CNV_SELFREF. -/
def execHostReq (value : Word) (s : State) : Host.Outcome State Fault Refusal :=
  .next (selfrefUpdate (writeReg .host R.CNV_SELFREF value 0#32 s))

/-- FW_REQ (R141): firmware writes CNV_SELFREF. -/
def execFwReq (value : Word) (s : State) : Host.Outcome State Fault Refusal :=
  .next (selfrefUpdate (writeReg .binnacle R.CNV_SELFREF value 0#32 s))

/-- SELFREF goes out on every port with valid entries (R141). -/
def selfrefFrames (s : State) : State :=
  let u := match shownIntact s with | some b => useOf (canvasBuf s b).use | none => uget s
  (scanPorts (scanEntries s u)).foldl (fun t p => tlkSelfref p (nextInstant s) t) s

/-- SELFREF (R141): sent once no launch is in scan; STATE 2. -/
def execSelfref (s : State) : Host.Outcome State Fault Refusal :=
  .next (if selfrefState s = 1 && s.cnv.scan.isNone then selfrefUpdate (setSelfref 2 (selfrefFrames s)) else s)

/-! ### Latency tolerance (R143) -/

/-- Pixel-views still to scan for the next launch. -/
def pixLeft (s : State) (u : Nat → Word) (entry : Nat) : Nat :=
  ((scanWalk s u).drop entry).foldl (fun a e => a + meW e * meH e * viewCount u) 0

/-- Whole microseconds of a Meridian interval, held to 0 … 65,534. -/
def tolOf (i : Int) : Nat := if i < 0 then 0 else satTo 65534 (i.toNat / 65536000)

/-- TOL of a launch in scan, or of one that waits for its scan: its deadline less what is left to scan (R143). -/
def scanTol (s : State) (at16 : Nat) (b : Option Nat) (buf entry : Nat) : Nat :=
  tolOf ((deadline (launchUse s b) at16 : Int) - (merNow s : Int) -
    ((pixLeft s (useOf (canvasBuf s buf).use) entry * 65536 / 20 : Nat) : Int) - 10 * 1000 * 65536)

/-- The first free-running launch whose compose instant lies ahead (R125, R143). -/
def composeNext (s : State) : Option Nat :=
  let u := uget s
  if wfPeriod u = 0 then none
  else some (latticeFrom (wfFirst u) (wfPeriod u) (max (merNow s + composeAhead u + 1) (match s.cnv.composed with | some x => x + 1 | none => 0)))

/-- TOL in whole microseconds: the first row of R143 whose state holds. DESIGN CHOICE (log 42): with PACE = 0 the third row holds while
something waits to be composed; a launch that waits for its scan, which no row names, is treated as in scan. -/
def latencyTol (s : State) : Nat :=
  let u := uget s
  let owed := s.cnv.pics.any fun c => c.live.any fun e =>
    match ot0At s e.2.1 e.2.2 with | some o => !o.done && decide (o.rows.length < lyrH (useOf c.use) e.1) | none => false
  let scanning := match s.cnv.scan, nextLaunch s with
    | some sc, some (at16, b) => if sc.done ∨ sc.at16 ≠ at16 then none else some (scanTol s at16 b sc.buf sc.entry)
    | _, _ => none
  if owed then 0
  else
    match scanning with
    | some t => t
    | none =>
      if !s.cnv.pics.isEmpty then 0
      else if cnvRuns s ∧ schedPace u = 0 ∧ composeNews s then
        (match composeNext s with
         | some at16 => tolOf ((at16 : Int) - (composeAhead u : Int) - (merNow s : Int) - 10 * 1000 * 65536)
         | none => 65535)
      else if selfrefState s = 2 then 65535
      else
        match nextLaunch s with
        | some (at16, b) =>
          (match launchBuf s b, s.cnv.scan with
           | some buf, none => scanTol s at16 b buf 0
           | _, _ => 65535)
        | none => 65535

/-- CNV_LTR_READ (R143): MIN starts anew at NOW. -/
def execCnvLtrRead (who : Requester) (s : State) : Host.Outcome State Fault Refusal :=
  .next (if pageTakes R.CNV_LTR s then
      readOut who R.CNV_LTR (rget s R.CNV_LTR) (rsetFld R.CNV_LTR 31 16 (rfld s R.CNV_LTR 15 0) s)
    else readOut who R.CNV_LTR 0#32 s)

end Sys2Proof.Machine
end

