-- ==== Sys2Proof/Machine/Mem.lean ====
section
/-! DEFINITION. External memory: requests and their arbitration, bursts and ECC, refresh, margins and retraining, rank migration, and its commands (R237 to R253). -/

namespace Sys2Proof.Machine

/-! ### Bursts (R238 to R240, R244) -/

/-- Bank, row and column of a burst: consecutive units lie on different banks of the 32; A[7] is the lowest column bit above the burst (R238). -/
def memSite (s : State) (burst : Nat) : Nat × Nat × Nat :=
  let v := (memUnit s burst).2
  ((v + Config.memBankTurn (v / 32)) % 32, Config.memRow v, 2 * Config.memColumn v + burst / 2 % 2)

/-- A burst goes over its subchannel, which A[6] selects (R238, R239). -/
def memBurst (rank burst : Nat) (write : Bool) (s : State) : State :=
  let (bank, row, column) := memSite s burst
  emit (.dram (memPlace s burst).1 (burst % 2) rank bank row column write) s

/-- A row's neighbours are refreshed: by command, or by activating them (R244). -/
def refreshAround (ch rank bank row : Nat) (s : State) : State :=
  if Config.memRfm then emit (.refreshNeighbours ch rank bank row) s
  else emit (.activate ch rank bank (row + 1)) (if row = 0 then s else emit (.activate ch rank bank (row - 1)) s)

/-- An activation draws from its channel's generator, and may refresh the row's neighbours first (R244). -/
def memAct (rank burst : Nat) (s : State) : State :=
  let ch := (memPlace s burst).1
  let c := memChan s ch
  let (bank, row, _) := memSite s burst
  let s1 := setMemChan ch { c with acts := c.acts + 1 } s
  if Config.memRandom ch c.seed c.acts % 2 ^ rfld s R.MEM_NR_K 4 0 = 0 then rinc (R.MEM_CNT_NR ch) 1 (refreshAround ch rank bank row s1) else s1

/-- The symbols of RS(80,64) that errors fall in: symbol j holds pin j mod 40 over beats 8⌊j/40⌋ to 8⌊j/40⌋ + 7 (R240). -/
def symbolsHit (errors : List DqError) : Nat :=
  ((upto 80).filter fun j => errors.any fun e => decide (e.1.val = j % 40 ∧ e.2.val / 8 = j / 40)).length

/-- A burst is read from a rank: up to 4 symbols in error are corrected and written back, up to 12 detected; beyond, the decoder may
detect them, or correct them to other data. -/
def memReadBurst (burst : Nat) (errors : List DqError) (s : State) : State :=
  let bad := symbolsHit errors
  let ce := memCe (memPlace s burst).1 (readRank s burst)
  if s.poison.contains burst || decide (4 < bad ∧ bad ≤ 12) then memUe burst s
  else if 12 < bad then
    (match Config.eccWide s.drawn with
     | none => memUe burst (draw s)
     | some bs => ce (memPuts false (64 * burst) ((padTo 64 bs).take 64) (draw s)))
  else if 0 < bad then ce s
  else s

/-- A write's bytes over what the burst holds. -/
def maskBytes (mask : Nat) (new old : List Byte) : List Byte :=
  (upto 64).map fun i => if mask / 2 ^ i % 2 = 1 then nth 0#8 new i else nth 0#8 old i

/-- A request writes all 64 bytes. -/
def writesWhole (q : MemReq) : Bool := q.isWrite && decide (q.mask % 2 ^ 64 = 2 ^ 64 - 1)

/-- The read of a request. -/
def memReadReq (q : MemReq) (s : State) : State :=
  let rank := readRank s q.burst
  memReadBurst q.burst q.errors (memBurst rank q.burst false (memAct rank q.burst s))

/-- The write of a request, to each rank that holds the burst (R248). -/
def memWriteReq (q : MemReq) (s : State) : State :=
  let s1 := (writeRanks s q.burst).foldl (fun s rank => memBurst rank q.burst true (memAct rank q.burst s)) s
  let a := 64 * q.burst
  if writesWhole q then memClean false a 64 (memPuts false a (padTo 64 (q.data.take 64)) s1)
  else memPuts false a (maskBytes q.mask q.data (memRead s1 false 64 a)) s1

/-- One request is served: a read, a whole write, or a read, merge and write (R239). What an uncorrectable burst returns is not
specified, but that it is marked poisoned; a merge into it leaves it so (R240). A patrol scrub returns nothing. -/
def memServe (q : MemReq) (s : State) : State :=
  if !q.isWrite then
    (let s1 := memReadReq q s
     if q.group = 8 then s1
     else if s1.poison.contains q.burst then draw (emit (.memData q.burst ((upto 64).map (Config.poisonByte s1.drawn)) true) s1)
     else emit (.memData q.burst (memRead s1 false 64 (64 * q.burst)) false) s1)
  else memWriteReq q (if writesWhole q then s else memReadReq q s)

/-! ### Arbitration (R246, R250, R251) -/

/-- The channel is held for retraining (R246). -/
def chanHeld (s : State) (ch : Nat) : Bool := rbit s R.MEM_STATE (16 + ch)

/-- The time in ps that a burst of 16 beats occupies its subchannel. -/
def burstTime (s : State) : Nat := 16000000 / nth 8800 [4800, 5600, 6400, 7200, 8000, 8800] (rfld s R.MEM_CFG 7 4)

def reqChannel (s : State) (q : MemReq) : Nat := (memPlace s q.burst).1

/-- The requests that wait for a channel. -/
def chanQueue (s : State) (ch : Nat) : List MemReq := s.memCtl.queue.filter fun q => reqChannel s q == ch

/-- Of waiting requests those that may go now: their subchannel is free, and no earlier one is for the same 64 bytes (R239). -/
def mayGo (s : State) (c : MemChan) : List Nat → List MemReq → List MemReq
  | _, [] => []
  | seen, q :: qs =>
    let rest := mayGo s c (q.burst :: seen) qs
    if !seen.contains q.burst && decide (nth 0 c.busy (q.burst % 2) ≤ s.now * 1000) then q :: rest else rest

/-- GW × ACTIVE of a group; a group with a request has a client at least. Scrub counts as one client with GW = 1 (R250). -/
def groupWeight (s : State) (c : MemChan) (g : Nat) : Nat :=
  if g = 8 then 1 else rfld s R.MEM_GW (4 * g + 3) (4 * g) * max 1 (nth 0 c.active g)

/-- The group served next, among those with a request that may go: group 0 while CNV is pressed (R251), else by deficit round robin; GW = 0
only while no other group has a request. Also the deficits after it. -/
def nextGroup (s : State) (c : MemChan) (waiting ready : List MemReq) : Option (Nat × List Nat) :=
  let has := fun (qs : List MemReq) g => qs.any fun q => q.group == g
  let weighted := (upto 9).any fun g => has waiting g && decide (0 < groupWeight s c g)
  let cands := (upto 9).filter fun g => has ready g && (!weighted || decide (0 < groupWeight s c g))
  let fresh := (upto 9).map fun g => if has waiting g then nth 0 c.deficit g else 0
  if has ready 0 && decide (rfld s R.CNV_LTR 15 0 ≤ rfld s R.MEM_URGENT_US 7 0) then some (0, c.deficit)
  else if cands.contains c.turn && decide (0 < nth 0 c.deficit c.turn) then some (c.turn, setNth c.deficit c.turn (nth 0 c.deficit c.turn - 1))
  else
    match ((upto 9).map fun i => (c.turn + 1 + i) % 9).find? fun g => cands.contains g with
    | none => none
    | some g => some (g, setNth fresh g (nth 0 fresh g + max 1 (groupWeight s c g) - 1))

/-- Round robin over a group's clients, the oldest request of the one whose turn it is. -/
def nextRequest (c : MemChan) (g : Nat) (ready : List MemReq) : Option MemReq :=
  let qs := ready.filter fun q => q.group == g
  let least := fun (qs : List MemReq) => qs.foldl (fun (b : Option Nat) q => match b with | none => some q.client | some k => some (min k q.client)) none
  match (match least (qs.filter fun q => decide (nth 0 c.last g < q.client)) with | some k => some k | none => least qs) with
  | none => none
  | some k => qs.find? fun q => q.client == k

/-- A channel serves the requests that may go. DESIGN CHOICE (log 138): no bank timing is modelled, so what is chosen goes at once. -/
def memRun (ch : Nat) : Nat → State → State
  | 0, s => s
  | fuel + 1, s =>
    if chanHeld s ch then s
    else
      let c := memChan s ch
      let waiting := chanQueue s ch
      let ready := mayGo s c [] waiting
      match nextGroup s c waiting ready with
      | none => s
      | some (g, deficit) =>
        match nextRequest c g ready with
        | none => s
        | some q =>
          let bursts := if q.isWrite && !writesWhole q then 2 else 1
          let c1 := { c with deficit := deficit, turn := g, last := setNth c.last g q.client,
                             busy := setNth c.busy (q.burst % 2) (s.now * 1000 + bursts * burstTime s) }
          memRun ch fuel (memServe q (setMemChan ch c1 { s with memCtl := { s.memCtl with queue := s.memCtl.queue.erase q } }))

/-- A request enters, waking memory; its client is active (R243, R250). -/
def memEnter (q : MemReq) (s : State) : State :=
  let s1 := memWake s
  let ch := reqChannel s1 q
  let c := memChan s1 ch
  let seen := c.recent.filter fun e => !(e.1 == q.group && e.2.1 == q.client)
  memRun ch 2 (setMemChan ch { c with recent := seen ++ [(q.group, q.client, s1.now)] }
    { s1 with memCtl := { s1.memCtl with queue := s1.memCtl.queue ++ [q] } })

/-- ACTIVE of a channel is sampled: clients with a request pending, or one within the last 256 ns (R250). -/
def memSample (ch : Nat) (s : State) : State :=
  let c := memChan s ch
  let waits := fun (e : Nat × Nat × Nat) => (chanQueue s ch).any fun q => q.group == e.1 && q.client == e.2.1
  let live := c.recent.filter fun e => waits e || decide (s.now ≤ e.2.2 + 256)
  setMemChan ch { c with recent := live, active := (upto 8).map fun g => (live.filter fun e => e.1 == g).length } s

/-- A nanosecond has passed at MEM. -/
def memTick (s : State) : State :=
  let s1 := if s.now % 256 = 0 then (upto (memChannels s)).foldl (fun s ch => memSample ch s) s else s
  if s1.memCtl.queue.isEmpty then s1 else (upto (memChannels s1)).foldl (fun s ch => memRun ch 2 s) s1

/-- Every request that waits is served, in arrival order (R347). -/
def memDrain (s : State) : State :=
  s.memCtl.queue.foldl (fun s q => memServe q s) { s with memCtl := { s.memCtl with queue := [] } }

/-- Bytes of the DRAM address space. -/
def memBytes (s : State) : Nat := 2 * memChannels s * rankMapped s

/-- MEM_ACCESS (R239, R240, R243, R246, R250): a request of a client of a group enters; it is served at once where its channel is free. -/
def execMemAccess (client : Fin 8 × Nat) (addr : BitVec 48) (write : Option (List Byte)) (mask : BitVec 64) (errors : List DqError)
    (s : State) : Host.Outcome State Fault Refusal :=
  .next (if memBytes s ≤ addr.toNat then s
    else memEnter { group := client.1.val, client := client.2, burst := addr.toNat / 64, isWrite := write.isSome, data := write.getD [], mask := mask.toNat,
                    errors := errors } s)

/-- PATROL_SCRUB (R241): the next burst in order over the active ranks is read and corrected, at the
lowest weight; `errors` are those of the burst at `addr`, met where the scrub has come to it. -/
def execPatrolScrub (addr : BitVec 48) (errors : List DqError) (s : State) : Host.Outcome State Fault Refusal :=
  let b := s.memCtl.scrubAt
  .next (if memBytes s = 0 ∨ rbit s R.MEM_STATE 0 then s
    else memEnter { group := 8, client := 0, burst := b % (memBytes s / 64), isWrite := false, data := [], mask := 0,
                    errors := if addr.toNat / 64 = b % (memBytes s / 64) then errors else [] }
      { s with memCtl := { s.memCtl with scrubAt := (b + 1) % (memBytes s / 64) } })

/-! ### Refresh and self-refresh (R242, R243) -/

/-- The refreshes of a rank that were postponed, and `k` more. -/
def refreshRun (ch r k : Nat) (s : State) : State :=
  let c := memChan s ch
  (upto (nth 0 c.postponed r + k)).foldl (fun s _ => emit (.refresh ch r) s) (setMemChan ch { c with postponed := setNth c.postponed r 0 } s)

/-- REFRESH (R242): a rank's refresh is due, tREFI after its last. While TOL is 0 up to 4 are postponed; else what was postponed goes with it. -/
def execRefresh (channel : Fin 12) (rank : Fin 3) (s : State) : Host.Outcome State Fault Refusal :=
  let ch := channel.val
  let r := rank.val
  let c := memChan s ch
  let k := nth 0 c.postponed r
  .next (if memChannels s ≤ ch ∨ (r = 2 ∧ !rbit s R.MEM_CFG 10) ∨ rbit s R.MEM_STATE 0 ∨ s.now < nth 0 c.nextRefresh r then s
    else
      let c1 := { c with nextRefresh := setNth c.nextRefresh r (s.now + s.memCtl.trefi) }
      if rfld s R.CNV_LTR 15 0 = 0 ∧ k < 4 then
        rinc (R.MEM_CNT_POSTPONED ch) 1 (setMemChan ch { c1 with postponed := setNth c.postponed r (k + 1) } s)
      else refreshRun ch r 1 (setMemChan ch c1 s))

/-- The tolerance has risen above 0: every postponed refresh is issued (R242). -/
def refreshCatchUp (s : State) : State :=
  (upto (memChannels s)).foldl (fun s ch => (upto 3).foldl (fun s r => refreshRun ch r 0 s) s) s

/-- LTR_REPORT (R143): MEM leaves self-refresh when TOL falls to 3 µs or less (R243), and issues postponed refreshes when it rises (R242). -/
def execLtrReport (s : State) : Host.Outcome State Fault Refusal :=
  let t := latencyTol s
  let s1 := rsetFld R.CNV_LTR 31 16 (min t (rfld s R.CNV_LTR 31 16)) (rsetFld R.CNV_LTR 15 0 t s)
  .next (if t = 0 then memWake s1 else refreshCatchUp (if t ≤ 3 then memWake s1 else s1))

/-- MR4_POLL (R242): the DRAM's temperature sets tREFI. -/
def execMr4Poll (hot : Bool) (s : State) : Host.Outcome State Fault Refusal :=
  .next { s with memCtl := { s.memCtl with trefi := if hot then 1950 else 3900 } }

/-- MEM_SELFREF_ENTRY (R243): every queue has been empty for SR_IDLE, and the exit time of 2 µs is below TOL. -/
def execMemSelfrefEntry (s : State) : Host.Outcome State Fault Refusal :=
  let busy := !s.memCtl.queue.isEmpty || decide (rfld s R.MEM_STATE 27 16 ≠ 0) || (upto 12).any fun ch => rbit s (R.MEM_MIG ch) 24
  .next (if decide (2 < rfld s R.CNV_LTR 15 0) && !busy && decide (0 < memChannels s) then memSleep s else s)

/-! ### Margins and retraining (R246) -/

def marginWord (t0 v0 t1 v1 : Byte) : Word := w32 (t0.toNat + v0.toNat * 2 ^ 8 + t1.toNat * 2 ^ 16 + v1.toNat * 2 ^ 24)

/-- A subchannel's margins lie below half its training margins: which. -/
def marginLow (train now_ : Word) : Option Nat :=
  lowest 2 fun k => decide (2 * getBits now_ (16 * k + 7) (16 * k) < getBits train (16 * k + 7) (16 * k) ∨
    2 * getBits now_ (16 * k + 15) (16 * k + 8) < getBits train (16 * k + 15) (16 * k + 8))

/-- Request 25 is put, unless it is granted already. -/
def retrainAsk (s : State) : State := if granted s 25 then s else leaveRequest 25 s

/-- A margin falls on a channel in use: its word is kept, and a value below the trained one asks for request 25 (R246). -/
def marginNoted (ch : Nat) (w : Word) (s : State) : State :=
  let s1 := rset (R.MEM_MARGIN_NOW ch) w s
  match marginLow (rget s1 (R.MEM_MARGIN_TRAIN ch)) w with
  | none => s1
  | some _ => retrainAsk { s1 with memCtl := { s1.memCtl with retrain := setInsert s1.memCtl.retrain ch } }

/-- MARGIN_CHECK (R246): a channel below half its training margins waits to retrain, under the one grant of request 25. -/
def execMarginCheck (channel : Fin 12) (t0 : Byte) (v0 : Byte) (t1 : Byte) (v1 : Byte) (s : State) : Host.Outcome State Fault Refusal :=
  let ch := channel.val
  .next (if memChannels s ≤ ch ∨ s.memCtl.retrain.contains ch ∨ chanHeld s ch then s
    else marginNoted ch (marginWord t0 v0 t1 v1) s)

/-- On the grant of request 25, MEM asks CNV to stop (R246). -/
def retrainGranted (s : State) : State := selfrefUpdate (rsetBit R.CNV_SELFREF 2 true s)

/-- An address in the 64 KiB at the top of rank 0 of a channel. -/
def trainRegion (s : State) (ch a : Nat) : Bool :=
  let (c, v) := memUnit s (a / 64)
  decide (c = ch ∧ v < rankMapped s / 256 ∧ rankMapped s / 256 ≤ v + 256)

/-- The region goes to the on-chip buffer; and comes back from it. -/
def regionSave (ch : Nat) (s : State) : State :=
  { s with memCtl := { s.memCtl with saved := s.mem.filter fun e => trainRegion s ch e.1 } }
def regionRestore (ch : Nat) (s : State) : State :=
  let s1 := { s with mem := s.mem.filter fun e => !trainRegion s ch e.1, memCtl := { s.memCtl with saved := [] } }
  s.memCtl.saved.foldl (fun s e => memPut false e.1 e.2 s) s1

/-- CHANNEL_RETRAIN (R246): with leave granted and CNV in STATE 2 the lowest waiting channel is held, its region saved, and it retrains. -/
def execChannelRetrain (channel : Fin 12) (s : State) : Host.Outcome State Fault Refusal :=
  let ch := channel.val
  .next (if granted s 25 && decide (selfrefState s = 2) && decide (s.memCtl.retrain.head? = some ch) && decide (rfld s R.MEM_STATE 27 16 = 0) then
      (let w := rget s (R.MEM_MARGIN_NOW ch)
       let k := match marginLow (rget s (R.MEM_MARGIN_TRAIN ch)) w with | some k => k | none => 0
       regionSave ch (raiseErr (chanPage ch) 0x13 (w32 (getBits w (16 * k + 15) (16 * k))) (rsetBit R.MEM_STATE (16 + ch) true (memWake s))))
    else s)

/-- RETRAIN_DONE (R246): the region back, new margins in both registers, the Log book, the held requests released; MEM_REQ stays while another
channel waits. -/
def execRetrainDone (channel : Fin 12) (t0 : Byte) (v0 : Byte) (t1 : Byte) (v1 : Byte) (s : State) : Host.Outcome State Fault Refusal :=
  let ch := channel.val
  let w := marginWord t0 v0 t1 v1
  .next (if !chanHeld s ch then s
    else
      let old := rget s (R.MEM_MARGIN_TRAIN ch)
      let s1 := rset (R.MEM_MARGIN_NOW ch) w (rset (R.MEM_MARGIN_TRAIN ch) w (rsetBit R.MEM_STATE (16 + ch) false (regionRestore ch s)))
      let s2 := logEvent 10 ch 0x0032 (leBytes 4 ch ++ leBytes 4 old.toNat ++ leBytes 4 w.toNat) s1
      let s3 := raiseInt (chanPage ch) 1 (rinc (R.MEM_CNT_RETRAIN ch) 1 s2)
      let s4 := memRun ch 2 { s3 with memCtl := { s3.memCtl with retrain := setErase s3.memCtl.retrain ch } }
      if s4.memCtl.retrain.isEmpty then leaveRelease 25 (selfrefUpdate (rsetBit R.CNV_SELFREF 2 false s4)) else s4)

/-! ### Migration (R248) -/

/-- A migration has ended: the next one runs under the same grant, or the grant goes. -/
def migEnd (ch : Nat) (s : State) : State :=
  let s1 := { s with memCtl := { s.memCtl with migrate := s.memCtl.migrate.filter fun e => e.1 != ch } }
  if s1.memCtl.migrate.isEmpty then leaveRelease 26 s1 else migStart s1

/-- Burst `k` of region `p` of a slot. -/
def regionBurst (s : State) (ch slot p k : Nat) : Nat := ((slot * (rankMapped s / 256) + 16 * p + k / 4) * memChannels s + ch) * 4 + k % 4

/-- The region at P is read, corrected and copied: what is uncorrectable stays so on the spare. -/
def regionCopy (ch slot p : Nat) (errors : RegionErrors) (s : State) : State :=
  let at_ := fun (k : Nat) => (errors.filter fun e => e.1.val == k).flatMap (·.2)
  emit (.rankCopy ch (slotRank s ch slot) 2 p) ((upto 64).foldl (fun s k => memReadBurst (regionBurst s ch slot p k) (at_ k) s) s)

/-- The time in ns that MIG_RATE gives a region. -/
def regionTime (s : State) : Nat := 8192 / max 1 (rfld s R.MEM_MIG_RATE 7 0)

/-- MIGRATION_REGION (R248): with leave granted and the channel not held, at MIG_RATE, a 4 KiB region is copied and P advances; at the end of
the rank the spare takes its place. A spare that fails, where no copy is made, ends the migration. A request meets no region half copied: the copy is one step. -/
def execMigrationRegion (channel : Fin 12) (copied : Option RegionErrors) (s : State) : Host.Outcome State Fault Refusal :=
  let ch := channel.val
  let m := R.MEM_MIG ch
  let slot := rfld s m 25 25
  let p := rfld s m 21 0
  .next (if !rbit s m 24 then s
    else if !granted s 26 then leaveRequest 26 s
    else if chanHeld s ch || decide (s.now < s.memCtl.migNext) then s
    else if copied.isNone then
      migEnd ch (raiseErr (chanPage ch) 0x15 (w32 p) (setMemChan ch { memChan s ch with spareBad := true } (rsetBit m 24 false s)))
    else
      let s0 := memWake (regionCopy ch slot p (copied.getD []) { s with memCtl := { s.memCtl with migNext := s.now + regionTime s } })
      if p + 1 < rankMapped s / 4096 then rsetFld m 21 0 (p + 1) s0
      else
        let rank := slotRank s ch slot
        let s1 := rset m 0#32 (rsetFld (R.MEM_RANK_MAP ch) (2 * slot + 1) (2 * slot) 2 s0)
        let s2 := rsetBit (R.MEM_RANK_MAP ch) (4 + rank) true s1
        let s3 := raiseInt (chanPage ch) 2 (rsetBit (hdrStatus (chanPage ch)) 4 true s2)
        migEnd ch (logSubstitution 4 (chanPage ch) rank 2 s3))

/-! ### Training (R245) -/

/-- The subchannels whose timing margin is below 8/64 UI. -/
def trainFails (w : Word) : List Nat := (upto 2).filter fun k => decide (getBits w (16 * k + 7) (16 * k) < 8)

/-- Training of every fitted channel, all together, in the order of its steps; each channel's generator is seeded (R244). Then the margins, and
E_TRAIN_FAIL where they fail; `spareBad` names the channels whose spare fails its training (R247). -/
def memTrain (margins : List Word) (spareBad : List Nat) (s : State) : Bool × State :=
  let s0 := (upto 5).foldl (fun s k => emit (.memTraining k) s) s
  (upto (memChannels s)).foldl (fun (acc : Bool × State) ch =>
    let w := nth 0#32 margins ch
    let seeded := setMemChan ch { memChan acc.2 ch with seed := acc.2.drawn, spareBad := spareBad.contains ch } (draw acc.2)
    let bad := trainFails w
    (acc.1 && bad.isEmpty,
     bad.foldl (fun t k => draw (raiseErr (chanPage ch) 0x12 (w32 (k + Config.trainStep t.drawn % 16 * 16)) t)) (rset (R.MEM_MARGIN_TRAIN ch) w seeded)))
    (true, s0)

end Sys2Proof.Machine
end

