-- ==== Sys2Proof/Machine/RecMedia.lean ====
section
/-! DEFINITION. The media array: placement, reads and updates of rows, its states, and the events NVMe reports (R301 to R303). -/

namespace Sys2Proof.Machine

/-! ### Placement (R302) -/

def jsect : Nat := 1048576
def parityMember (stripe : Nat) : Nat := 3 - stripe % 4
/-- The member that holds data unit `u` of a stripe. -/
def unitMember (stripe u : Nat) : Nat := if u < parityMember stripe then u else u + 1
def ssdLba (stripe row : Nat) : Nat := jsect + 64 * stripe + row

/-- Volume sector of a unit's row. -/
def volumeOf (stripe row u : Nat) : Nat := 192 * stripe + 64 * u + row

/-- The smallest member's capacity in sectors, and the stripes of the array. -/
def memberCap (s : State) : Nat :=
  let cs := (upto 4).map fun m => nth 0 s.recorder.caps (memberPort s m)
  cs.foldl min (nth 0 cs 0)
def arrayStripes (s : State) : Nat := (memberCap s - jsect) / 64
def volumeSectors (s : State) : Nat := 3 * (memberCap s - jsect)

def portState_ (s : State) (p : Nat) : Nat := rfld s (R.REC_PORT_STATE p) 2 0
def setMediaPort (p v : Nat) (s : State) : State := if p < 5 then rsetFld (R.REC_PORT_STATE p) 2 0 v s else s
def spareReady (s : State) : Bool := decide (sparePort s < 5) && decide (portState_ s (sparePort s) = 2)
/-- The port that reads member `m`'s unit of a stripe, if any (R303). -/
def readPort (s : State) (m stripe : Nat) : Option Nat :=
  if movedTo s m stripe then some (sparePort s)
  else if s.recorder.lost.contains m || decide (4 < memberPort s m) then none
  else some (memberPort s m)

/-! ### Asynchronous events (R291) -/

def setNvme (v : Nvme) (s : State) : State := setRec { s.recorder with nvme := v } s
def nv (s : State) : Nvme := s.recorder.nvme

/-- An MSI-X message of function 1, held back by interrupt coalescing for I/O queues (Features 08h, 09h). -/
def nvmeInterrupt (vector : Nat) (admin : Bool) (s : State) : State :=
  let f := smGet 0 (nv s).feats 0x08
  let thr := f % 256
  let time := f / 256 % 256
  if admin || decide (time = 0) || (nv s).noCoalesce.contains vector then emit (.msix1 vector) s
  else
    let n := smGet 0 (nv s).heldInts vector + 1
    if thr < n then emit (.msix1 vector) (setNvme { nv s with heldInts := smSet 0 (nv s).heldInts vector 0 } s)
    else setNvme { nv s with heldInts := smSet 0 (nv s).heldInts vector n } s

def cqOf (s : State) (id : Nat) : Option NvmeCq := (nv s).cqs.find? fun q => q.id == id
def sqOf (s : State) (id : Nat) : Option NvmeSq := (nv s).sqs.find? fun q => q.id == id
def putCq (q : NvmeCq) (s : State) : State := setNvme { nv s with cqs := (nv s).cqs.map fun x => if x.id = q.id then q else x } s
def putSq (q : NvmeSq) (s : State) : State := setNvme { nv s with sqs := (nv s).sqs.map fun x => if x.id = q.id then q else x } s

/-- Completions of a queue that find room are written, each with the phase tag, and then its interrupt is raised (OP10). -/
def cqFlush : Nat → NvmeCq → State → State
  | 0, _, s => s
  | fuel + 1, q, s =>
    match q.waiting with
    | [] => putCq q s
    | c :: rest =>
      let next := if q.size = 0 then 0 else (q.tail + 1) % q.size
      if next = q.head then putCq q s
      else
        let w3 := leNat ((c.drop 12).take 4) + b2n q.phase * 65536
        let bytes := c.take 12 ++ leBytes 4 w3
        let q1 := { q with waiting := rest, tail := next, phase := if next = 0 then !q.phase else q.phase }
        let s1 := psEnd 0 (leNat ((c.drop 10).take 2) * 65536 + leNat ((c.drop 12).take 2)) id
          (memWrite true (q.base + 16 * q.tail) bytes s)
        cqFlush fuel q1 (if q.ien then nvmeInterrupt q.vector (decide (q.id = 0)) s1 else s1)

/-- A completion entry: DW0, the queue's head, the command, its status. A failed one goes to the Error Information log. -/
def nvmeComplete (sq cid status dw0 : Nat) (s : State) : State :=
  match sqOf s sq with
  | none => s
  | some q =>
    let s1 := if status = 0 then s
      else
        (let n := (nv s).errCount + 1
         let e := padTo 64 (leBytes 8 n ++ leBytes 2 sq ++ leBytes 2 cid ++ leBytes 2 (status * 2) ++ leBytes 2 0xFFFF)
         setNvme { nv s with errCount := n, errors := (e :: (nv s).errors).take 64 } s)
    let c := leBytes 4 dw0 ++ leBytes 4 0 ++ leBytes 2 q.head ++ leBytes 2 sq ++ leBytes 4 (cid + status * 2 ^ 17)
    match cqOf s1 q.cq with
    | none => s1
    | some k => cqFlush (k.waiting.length + 1) { k with waiting := k.waiting ++ [c] } s1

/-- The log page that clears an event type. -/
def eventPage (type : Nat) : Nat := if type = 1 then 0x02 else if type = 6 then 0x81 else if type = 7 then 0xC0 else 0x04

/-- Report waiting events to waiting requests; a type is masked until its log page is read. -/
def eventPump : Nat → State → State
  | 0, s => s
  | fuel + 1, s =>
    match (nv s).events.find? (fun e => !(nv s).masked.contains (e % 8)), (nv s).aers with
    | some e, (sq, cid) :: rest =>
      let n := nv s
      eventPump fuel (nvmeComplete sq cid 0 e
        (setNvme { n with events := n.events.erase e, aers := rest, masked := if e % 8 = 2 then n.masked else setInsert n.masked (e % 8) } s))
    | _, _ => s

/-- An asynchronous event: type, information, log page. -/
def nvmeEvent (type info : Nat) (s : State) : State :=
  if !(nv s).ready then s
  else eventPump 4 (setNvme { nv s with events := (nv s).events ++ [type + info * 256 + eventPage type * 65536] } s)

/-- Composite Temperature: the highest die sensor, in kelvin (R292). -/
def compositeKelvin (s : State) : Nat := (signedOf 8 (rfld s R.PLT_THERM_STATE 31 24) + 273).toNat

/-- Critical Warning of the SMART log (R292). -/
def criticalWarning (s : State) : Nat :=
  let kelvin := compositeKelvin s
  let beyond := smGet 0xFFFF (nv s).feats 0x04
  let under := smGet 0 (nv s).feats 0x104
  let st := arrayState s
  b2n (!spareReady s) + 2 * b2n (decide (beyond ≤ kelvin ∨ kelvin ≤ under)) + 4 * b2n (decide (st = 2 ∨ st = 3)) +
    8 * b2n (decide (st = 4)) + 16 * b2n (decide (rfld s R.REC_DIRTY_LIMIT 15 0 = 0))

/-- Warning bits that have risen raise their event, where Feature 0Bh asks for it. -/
def smartCheck (s : State) : State :=
  let w := criticalWarning s
  let rose := (upto 5).filter fun k => decide (w / 2 ^ k % 2 = 1 ∧ (nv s).warned / 2 ^ k % 2 = 0 ∧ smGet 0 (nv s).feats 0x0B / 2 ^ k % 2 = 1)
  let s1 := setNvme { nv s with warned := w } s
  if rose.isEmpty then s1
  else nvmeEvent 1 (if rose.contains 0 then 2 else if rose.contains 1 then 1 else 0) s1

/-! ### Array states (R303) -/

/-- The array goes to another state: interrupt, event, Log book (naming no spare), and SPARE_IN_USE while the spare serves. -/
def setArray (st member : Nat) (s : State) : State :=
  let s1 := rset R.REC_ARRAY_STATE (w32 (st + member * 16 + s.recorder.pointer / 65536 * 256)) s
  let s2 := raiseInt (pg 13 1) 1 s1
  let s3 := logEvent 13 0 0x0030 (leBytes 4 6 ++ leBytes 4 (pg 13 1) ++ leBytes 4 (memberPort s member) ++ leBytes 4 7) s2
  let serves := decide (st = 1 ∨ st = 3 ∨ (st = 4 ∧ 0 < s.recorder.pointer))
  let s4 := (upto 3).foldl (fun s k => rsetBit (hdrStatus (pg 13 k)) 4 serves s) s3
  smartCheck (nvmeEvent 7 0 s4)

def setPointer (n : Nat) (s : State) : State :=
  rsetFld R.REC_ARRAY_STATE 31 8 (n / 65536) (setRec { s.recorder with pointer := n } s)

/-- E_NO_SPARE_MEDIA. -/
def noSpareMedia (m : Nat) (s : State) : State := raiseErr (pg 13 1) 0x14 (w32 m) s

/-- A copy of a readable member begins, with leave requested. -/
def copyStart (m : Nat) (s : State) : State := leaveRequest 24 (setArray 1 m (setPointer 0 s))

/-- DEGRADED: with a spare in STANDBY the rebuild begins. -/
def rebuildStart (m : Nat) (s : State) : State :=
  if spareReady s then leaveRequest 24 (setArray 3 m (setPointer 0 s)) else noSpareMedia m s

/-- A spare has become ready: a pending rebuild or copy begins. -/
def spareCame (s : State) : State :=
  if !spareReady s then s
  else if arrayState s = 2 then rebuildStart (movingMember s) s
  else if arrayState s = 0 then
    (match lowest 4 fun m => decide (memberPort s m < 5) && decide (portState_ s (memberPort s m) = 5) with
     | some m => copyStart m (setMediaPort (memberPort s m) 1 s)
     | none => s)
  else s

/-- Ports of the lost members. -/
def failedPorts (s : State) : Nat := (upto 5).foldl (fun a p => if portState_ s p = 3 then a + 2 ^ p else a) 0

/-- A member or the spare fails (R303). -/
def portFails (p : Nat) (s : State) : State :=
  let member := lowest 4 fun m => memberPort s m == p
  let st := arrayState s
  let s0 := setMediaPort p 3 s
  match member with
  | none =>
    if p ≠ sparePort s then s0
    else
      let s1 := raiseErr (pg 13 1) 0x12 (w32 p) s0
      let m := movingMember s
      if st = 1 then noSpareMedia m (setMediaPort (memberPort s m) 5 (leaveRelease 24 (setArray 0 0 (setPointer 0 s1))))
      else if st = 3 then noSpareMedia m (leaveRelease 24 (setArray 2 m (setPointer 0 s1)))
      else smartCheck (if st = 4 then setArray 4 m (setPointer 0 s1) else s1)
  | some m =>
    if s.recorder.lost.contains m then s
    else
      let s1 := raiseErr (pg 13 1) 0x12 (w32 p) (setRec { s0.recorder with lost := setInsert s0.recorder.lost m } s0)
      if st = 0 then rebuildStart m (setArray 2 m s1)
      else if st = 1 ∧ m = movingMember s then setArray 3 m s1
      else if st = 1 then
        (let s2 := leaveRelease 24 (setMediaPort (memberPort s (movingMember s)) 5 (setPointer 0 s1))
         rebuildStart m (setArray 2 m s2))
      else if st = 4 then s1
      else raiseErr (pg 13 1) 0x13 (w32 (failedPorts s1)) (leaveRelease 24 (setArray 4 (movingMember s) s1))

/-- The pointer has reached the end: the spare takes the member's place in one step, and the old port is RETIRED. -/
def moveEnd (s : State) : State :=
  let m := movingMember s
  let old := memberPort s m
  let spare := sparePort s
  let s1 := rsetFld R.REC_MEDIA_MAP 18 16 7 (rsetFld R.REC_MEDIA_MAP (4 * m + 2) (4 * m) spare s)
  let s2 := setMediaPort old 4 (setMediaPort spare 1 (if old < 5 then rsetBit R.REC_MEDIA_RETIRED old true s1 else s1))
  let s3 := logEvent 13 0 0x0030 (leBytes 4 6 ++ leBytes 4 (pg 13 1) ++ leBytes 4 old ++ leBytes 4 spare)
    (setRec { s2.recorder with lost := setErase s2.recorder.lost m } s2)
  leaveRelease 24 (setArray 0 0 (setPointer 0 s3))

/-! ### Row operations (R302) -/

/-- Bytes XORed. -/
def xorBytes (a b : List Byte) : List Byte := (upto sectorBytes).map fun i => BitVec.xor (nth 0#8 a i) (nth 0#8 b i)

/-- Issue reads of members on a row. -/
def issueReads (stripe row : Nat) : List Nat → State → List (Nat × Nat × Nat) × State
  | [], s => ([], s)
  | m :: ms, s =>
    match readPort s m stripe with
    | none => issueReads stripe row ms s
    | some p =>
      let t := s.recorder.nextTag
      let s1 := emit (.mediaRead p (ssdLba stripe row) t) (setRec { s.recorder with nextTag := t + 1 } s)
      let (ws, s2) := issueReads stripe row ms s1
      ((t, p, m) :: ws, s2)

/-- Issue one write per port. -/
def issueWrites (stripe row m : Nat) (data : List Byte) : List Nat → State → List (Nat × Nat × Nat) × State
  | [], s => ([], s)
  | p :: ps, s =>
    let t := s.recorder.nextTag
    let s1 := emit (.mediaWrite p (ssdLba stripe row) t data) (setRec { s.recorder with nextTag := t + 1 } s)
    let (ws, s2) := issueWrites stripe row m data ps s1
    ((t, p, m) :: ws, s2)

/-- The members a row operation reads first; none when the row cannot be had. -/
def opReads (s : State) (o : RecOp) : Option (List Nat) :=
  let par := parityMember o.stripe
  let can := fun m => (readPort s m o.stripe).isSome
  match o.news with
  | [] =>
    if o.why = .replay then
      (let data := (upto 4).filter fun k => k != par
       if can par && data.all can then some data else none)
    else
    let m := unitMember o.stripe o.unit
    let others := (upto 4).filter fun k => k != m
    if can m then some [m] else if others.all can then some others else none
  | [(u, _)] =>
    let m := unitMember o.stripe u
    if can m && can par then some [m, par]
    else if can m then some []
    else
      let others := (upto 4).filter fun k => k != m && k != par
      if others.all can then some others else none
  | _ => some []

/-- The writes of a row operation: the new data, and the row's parity. -/
def opWrites (o : RecOp) (s : State) : List (Nat × Nat × Nat) × State :=
  let par := parityMember o.stripe
  let got := fun m => match o.got.find? (fun e => e.1 == m) with | some e => e.2 | none => []
  let parity : List Byte :=
    match o.news with
    | [(u, d)] =>
      let m := unitMember o.stripe u
      if o.got.any (fun e => e.1 == m) then xorBytes (xorBytes (got par) (got m)) d
      else o.got.foldl (fun a e => xorBytes a e.2) d
    | ds => ds.foldl (fun a e => xorBytes a e.2) (List.replicate sectorBytes 0#8)
  let (ws, s1) := o.news.foldl (fun (acc : List (Nat × Nat × Nat) × State) e =>
    let m := unitMember o.stripe e.1
    let (w, t) := issueWrites o.stripe o.row m e.2 (writePorts acc.2 m o.stripe) acc.2
    (acc.1 ++ w, t)) ([], s)
  let (wp, s2) := issueWrites o.stripe o.row par parity (writePorts s1 par o.stripe) s1
  (ws ++ wp, s2)

/-- What a read of one unit gives: itself, or the XOR of the other three. -/
def opData (o : RecOp) : List Byte :=
  match o.got with
  | [(_, d)] => d
  | ds => ds.foldl (fun a e => xorBytes a e.2) (List.replicate sectorBytes 0#8)

end Sys2Proof.Machine
end

