-- ==== Sys2Proof/Machine/RecOps.lean ====
section
/-! DEFINITION. Row operations as the SSDs complete their commands, draining, hold-up flushes, the dirty limit (R298 to R303). -/

namespace Sys2Proof.Machine

/-! ### Host memory as PRPs name it -/

/-- Segments of a PRP list at `ptr` that cover `left` bytes: the last entry of a page that is not the last one names the next page of the list. -/
def prpWalk (s : State) : Nat → Nat → Nat → List (Nat × Nat)
  | 0, _, _ => []
  | fuel + 1, ptr, left =>
    if left = 0 then []
    else
      let e := memNat s true 8 ptr
      if ptr % 4096 = 4088 ∧ 4096 < left then prpWalk s fuel e left
      else (e, min 4096 left) :: prpWalk s fuel (ptr + 8) (left - 4096)

/-- Address and length of each piece of a buffer of `len` bytes. -/
def prpSegs (s : State) (prp1 prp2 len : Nat) : List (Nat × Nat) :=
  let first := min len (4096 - prp1 % 4096)
  let rest := len - first
  (prp1, first) ::
    (if rest = 0 then [] else if rest ≤ 4096 then [(prp2, rest)] else prpWalk s (len / 2048 + 4) prp2 rest)

def hostGather (s : State) (prp1 prp2 len : Nat) : List Byte := (prpSegs s prp1 prp2 len).flatMap fun (a, n) => memRead s true n a

def scatterInto : List (Nat × Nat) → List Byte → State → State
  | [], _, s => s
  | (a, n) :: segs, bs, s => scatterInto segs (bs.drop n) (memWrite true a (bs.take n) s)

def hostScatter (prp1 prp2 : Nat) (bs : List Byte) (s : State) : State := scatterInto (prpSegs s prp1 prp2 bs.length) bs s

/-! ### Host commands end -/

def cmdOf (s : State) (id : Nat) : Option NvmeCmd := (nv s).cmds.find? fun c => c.id == id
def putCmd (c : NvmeCmd) (s : State) : State := setNvme { nv s with cmds := (nv s).cmds.map fun x => if x.id = c.id then c else x } s
def dropCmd (id : Nat) (s : State) : State := setNvme { nv s with cmds := (nv s).cmds.filter fun x => x.id != id } s
def addCmd (c : NvmeCmd) (s : State) : State :=
  setNvme { nv s with cmds := (nv s).cmds ++ [{ c with id := (nv s).nextCmd }], nextCmd := (nv s).nextCmd + 1 } s

/-- The volatile write cache is on: Feature 06h WCE, and the store can hold it up (R296, R299). -/
def cacheOn (s : State) : Bool := decide (smGet 1 (nv s).feats 0x06 % 2 = 1) && decide (rfld s R.REC_DIRTY_LIMIT 15 0 ≠ 0)

/-- Orders of the dirty sectors of a namespace, and its Write Zeroes commands under way. -/
def nsOrders (s : State) (n : RecNs) : List Nat :=
  (s.recorder.dirty.filter fun d => decide (n.start ≤ d.v ∧ d.v < n.start + n.sectors)).map (·.order)
def nsZeroes (s : State) (nsid : Nat) : List Nat := ((nv s).cmds.filter fun c => c.op == 0x08 && c.nsid == nsid).map (·.id)

/-- Nothing that a command waits for is still outstanding. -/
def cmdFree (s : State) (c : NvmeCmd) : Bool :=
  decide (c.left = 0) && c.until_.all (fun o => !s.recorder.dirty.any fun d => d.order == o) &&
    c.after.all fun k => !(nv s).cmds.any fun x => x.id == k

/-- A Write's sectors enter the dirty buffer. With the cache off it completes as though a Flush followed it (R296). -/
def writeApply (c : NvmeCmd) (data : List Byte) (s : State) : State :=
  let s1 := putDirties c.v (toSectors data) s
  if cacheOn s then nvmeComplete c.sq c.cid 0 0 s1
  else
    match nsOf s c.nsid with
    | none => nvmeComplete c.sq c.cid 0 0 s1
    | some n => addCmd { c with until_ := nsOrders s1 n, after := nsZeroes s1 c.nsid } s1

/-- The data a Read or Compare has gathered, in order. -/
def cmdData (c : NvmeCmd) : List Byte :=
  (upto c.n).flatMap fun i => match c.data.find? (fun e => e.1 == i) with | some e => e.2 | none => []

/-- The effect of a command that waits for nothing any more. Operation 0x108 is an Abort that lets its command finish (R297). -/
def cmdEnd (c : NvmeCmd) (s : State) : State :=
  let s1 := dropCmd c.id s
  if c.op = 0x108 then nvmeComplete c.sq c.cid 0 1 s1
  else if c.op = 0x02 then
    (if c.status = 0 then nvmeComplete c.sq c.cid 0 0 (hostScatter c.prp1 c.prp2 (cmdData c) s1) else nvmeComplete c.sq c.cid c.status 0 s1)
  else if c.op = 0x05 then
    (let st := if c.status ≠ 0 then c.status
       else if hostGather s c.prp1 c.prp2 (sectorBytes * c.n) = cmdData c then 0 else 0x285
     let s2 := nvmeComplete c.sq c.cid st 0 s1
     match c.fused with
     | none => s2
     | some (cid2, p1, p2) =>
       if st ≠ 0 then nvmeComplete c.sq cid2 0x09 0 s2
       else writeApply { c with op := 0x01, cid := cid2, fused := none, data := [] } (hostGather s p1 p2 sectorBytes) s2)
  else nvmeComplete c.sq c.cid c.status 0 s1

/-- Every command that can end does, oldest first. -/
def cmdsPump : Nat → State → State
  | 0, s => s
  | fuel + 1, s =>
    match (nv s).cmds.find? (cmdFree s) with
    | some c => cmdsPump fuel (cmdEnd c s)
    | none => s

def pumpCmds (s : State) : State := cmdsPump ((nv s).cmds.length + 1) s

/-! ### Row operations advance -/

/-- A row of the journal's replay has ended. With the last one CSTS.RDY follows CC.EN (R301). -/
def replayEnd (s : State) : State :=
  if s.recorder.ops.any (fun o => o.why == .replay) then s
  else setNvme { nv s with ready := (nv s).ready || bitAt (nv s).cc 0 } s

/-- What ends a row operation that the array cannot do (R303). -/
def opFails (o : RecOp) (s : State) : State :=
  match o.why with
  | .read cmd _ =>
    (match cmdOf s cmd with
     | some c => putCmd { c with left := c.left - 1, status := 0x281 } s
     | none => s)
  | .zeroes cmd =>
    (match cmdOf s cmd with
     | some c => putCmd { c with left := c.left - 1, status := 0x20 } s
     | none => s)
  | .drain _ => s
  | .replay => replayEnd s

/-- REC_AON_DIRTY follows the flush, every 1 MiB (R300). -/
def flushCount (before : Nat) (s : State) : State :=
  if s.recorder.flushing ∧ before / 256 ≠ s.recorder.drained / 256 then rset R.REC_AON_DIRTY (w32 s.recorder.dirty.length) s else s

/-- A row operation is done. -/
def opDone (o : RecOp) (s : State) : State :=
  match o.why with
  | .read cmd i =>
    (match cmdOf s cmd with
     | some c => putCmd { c with left := c.left - 1, data := c.data ++ [(i, opData o)] } s
     | none => s)
  | .zeroes cmd =>
    (match cmdOf s cmd with
     | some c => putCmd { c with left := c.left - 1 } s
     | none => s)
  | .drain orders =>
    let before := s.recorder.drained
    showDirty (flushCount before
      (setRec { s.recorder with
        dirty := s.recorder.dirty.filter fun d => !orders.contains d.order
        drained := before + orders.length } s))
  | .replay => replayEnd s

/-- Bring an operation on from its present phase: wait, or go to the next phase, or end. Phase 3 has not begun. -/
def opAdvance : Nat → RecOp → State → State
  | 0, _, s => s
  | fuel + 1, o, s =>
    if !o.wants.isEmpty then setRec { s.recorder with ops := s.recorder.ops ++ [o] } s
    else if o.phase = 3 then
      (match opReads s o with
       | none => opFails o s
       | some ms =>
         let (ws, s1) := issueReads o.stripe o.row ms s
         opAdvance fuel { o with phase := 0, wants := ws, got := [] } s1)
    else if o.phase = 0 then
      (match o.why, o.news with
       | .replay, _ =>
         let par := parityMember o.stripe
         let (ws, s1) := issueWrites o.stripe o.row par (opData o) (writePorts s par o.stripe) s
         opAdvance fuel { o with phase := 2, wants := ws } s1
       | _, [] => opDone o s
       | _, [_] =>
         let (ws, s1) := journalWrite 0 [o.stripe, o.row] s
         opAdvance fuel { o with phase := 1, wants := ws } s1
       | _, _ =>
         let (ws, s1) := opWrites o s
         opAdvance fuel { o with phase := 2, wants := ws } s1)
    else if o.phase = 1 then
      (let (ws, s1) := opWrites o s
       opAdvance fuel { o with phase := 2, wants := ws } s1)
    else opDone o s

/-- Operations on one row run one after the other: the first that waits begins once the row is free. -/
def rowNext (stripe row : Nat) (s : State) : State :=
  let here := fun (o : RecOp) => o.stripe == stripe && o.row == row
  if s.recorder.ops.any fun o => here o && o.phase != 3 then s
  else
    match s.recorder.ops.find? here with
    | none => s
    | some o => opAdvance 5 o (setRec { s.recorder with ops := s.recorder.ops.erase o } s)

/-- A new operation joins its row's queue. -/
def opBegin (why : RecWhy) (stripe row unit : Nat) (news : List (Nat × List Byte)) (s : State) : State :=
  let o : RecOp := { why := why, stripe := stripe, row := row, unit := unit, news := news, phase := 3 }
  rowNext stripe row (setRec { s.recorder with ops := s.recorder.ops ++ [o] } s)

/-- The rows whose update was in flight at a reset have their parity computed anew, from the data the members hold (R301). -/
def tornReplay (s : State) : State :=
  s.recorder.torn.foldl (fun s x => opBegin .replay x.1 x.2 0 [] s) (setRec { s.recorder with torn := [] } s)

/-- Rows with an update the journal holds as in flight: its record is written, or on its way. -/
def tornRows (r : RecState) : List (Nat × Nat) :=
  (r.ops.filter fun o => o.why == .replay || (o.news.length == 1 && (o.phase == 1 || o.phase == 2))).foldl (fun l o =>
    if l.contains (o.stripe, o.row) then l else l ++ [(o.stripe, o.row)]) r.torn

/-- Bring every row on that has stopped: a row's operations may end one after another. -/
def rowsPump : Nat → State → State
  | 0, s => s
  | fuel + 1, s =>
    match s.recorder.ops.find? fun o => o.phase == 3 && !s.recorder.ops.any fun x => x.stripe == o.stripe && x.row == o.row && x.phase != 3 with
    | some o => rowsPump fuel (rowNext o.stripe o.row s)
    | none => s

def pumpRec (s : State) : State := pumpCmds (rowsPump (s.recorder.ops.length + 1) s)

/-- Media port `p` has failed: reads from it begin again from what is left, writes to it are no longer waited for. -/
def opsLose (p : Nat) (s : State) : State :=
  let hit := s.recorder.ops.filter fun o => o.wants.any fun w => w.2.1 == p
  let s0 := setRec { s.recorder with ops := s.recorder.ops.filter fun o => !o.wants.any fun w => w.2.1 == p } s
  hit.foldl (fun s o =>
    if o.phase = 0 then opAdvance 5 { o with phase := 3, wants := [], got := [] } s
    else opAdvance 5 { o with wants := o.wants.filter fun w => w.2.1 != p } s) s0

/-- A media port fails, with what depends on it. -/
def mediaLost (p : Nat) (s : State) : State := pumpRec (opsLose p (portFails p s))

/-! ### Draining (R298, R302) -/

def stripeOf (v : Nat) : Nat := v / 192
def unitOf (v : Nat) : Nat := v % 192 / 64
def rowOf (v : Nat) : Nat := v % 64

/-- The oldest dirty sector that no operation on its row is already writing. -/
def oldestDirty (s : State) : Option DirtySector :=
  s.recorder.dirty.find? fun d => !s.recorder.ops.any fun o => o.stripe == stripeOf d.v && o.row == rowOf d.v

def dirtyData (s : State) (d : DirtySector) : List Byte := memRead s false sectorBytes (dirtyAddr s d.slot)

/-- The dirty units of a row. -/
def rowDirty (s : State) (stripe row : Nat) : List DirtySector :=
  (upto 3).filterMap fun u => dirtyOf s (volumeOf stripe row u)

/-- Write a row's dirty units: all three at once when all are dirty, else one. -/
def drainRow (stripe row : Nat) (ds : List DirtySector) (s : State) : State :=
  opBegin (.drain (ds.map (·.order))) stripe row 0 (ds.map fun d => (unitOf d.v, dirtyData s d)) s

/-- A dirty sector that reads as poisoned cannot be drained: E_IN_POISON, and it is dropped (R240, R308). -/
def poisonDrop (d : DirtySector) (s : State) : State :=
  showDirty (setRec { s.recorder with dirty := s.recorder.dirty.filter fun x => x.order != d.order }
    (raiseErr (pg 13 0) 0x18 (w32 (dirtyAddr s d.slot)) s))

/-- One turn of draining: the stripe of the oldest dirty sector when it is wholly dirty, else its row. -/
def drainOnce (s : State) : State :=
  if arrayState s = 4 ∨ (s.recorder.flushing ∧ !granted s 22) then s
  else
    match oldestDirty s with
    | none => s
    | some d =>
      let s := memSee false sectorBytes (dirtyAddr s d.slot) s
      if memPoisoned s false sectorBytes (dirtyAddr s d.slot) then pumpRec (poisonDrop d s)
      else
        let st := stripeOf d.v
        let clean := fun (x : DirtySector) => !memPoisoned s false sectorBytes (dirtyAddr s x.slot)
        let whole := (upto 64).all fun r => (rowDirty s st r).length == 3 && (rowDirty s st r).all clean &&
          !s.recorder.ops.any fun o => o.stripe == st && o.row == r
        if whole then (upto 64).foldl (fun s r => drainRow st r (rowDirty s st r) s) s
        else
          let ds := rowDirty s st (rowOf d.v)
          if ds.length = 3 ∧ ds.all clean then drainRow st (rowOf d.v) ds s else drainRow st (rowOf d.v) [d] s

/-! ### Admission (R298) -/

/-- Whether a Write of `n` bytes may alter the dirty buffer now. With no limit to speak of, one at a time (R299). -/
def writeFits (s : State) (n : Nat) : Bool :=
  if rfld s R.REC_DIRTY_LIMIT 15 0 = 0 then decide (dirtyBytes s = 0)
  else decide (dirtyBytes s + n ≤ dirtyLimit s - rfld s R.REC_RESERVE 15 0 * mib)

/-- A fused pair that has not ended keeps other commands from its sector (R295). -/
def fusedOn (s : State) (v n : Nat) : Bool := (nv s).cmds.any fun c => c.fused.isSome && decide (v ≤ c.v ∧ c.v < v + n)

/-- The oldest waiting Write that fits alters the dirty buffer. -/
def writeAdmit (s : State) : State :=
  match (nv s).writeWait.find? fun c => writeFits s (sectorBytes * c.n) && !fusedOn s c.v c.n with
  | none => s
  | some c =>
    let s1 := setNvme { nv s with writeWait := (nv s).writeWait.erase c } s
    pumpRec (writeApply { c with prp1 := 0, prp2 := 0 } (hostGather s c.prp1 c.prp2 (sectorBytes * c.n)) s1)

/-! ### The dirty limit (R299) -/

/-- E has changed: the new limit, mirrored to PLT; at 0, recording stops and Critical Warning bit 4 is set. -/
def holdLimit (e10 : Nat) (s : State) : State :=
  let was := rfld s R.REC_DIRTY_LIMIT 15 0
  let n := limitFor s e10
  let s1 := rset R.PLT_DIRTY_LIMIT (w32 n) (rset R.REC_DIRTY_LIMIT (w32 n) s)
  let s2 := if n = was then s1 else raiseInt (pg 13 0) 1 s1
  smartCheck (if n = 0 ∧ !s2.recorder.lowRaised then
      raiseErr (pg 13 0) 0x11 (w32 e10) (setRec { s2.recorder with lowRaised := true } s2)
    else if n = 0 then s2 else setRec { s2.recorder with lowRaised := false } s2)

/-! ### The hold-up flush (R300) -/

/-- Extents of rising volume sectors: first, count. -/
def extentsOf : List Nat → List (Nat × Nat)
  | [] => []
  | v :: vs =>
    match extentsOf vs with
    | (a, n) :: es => if v + 1 = a then (v, n + 1) :: es else (v, 1) :: (a, n) :: es
    | [] => [(v, 1)]

def dirtyExtents (s : State) : List (Nat × Nat) :=
  extentsOf (s.recorder.dirty.foldl (fun m d => setInsert m d.v) [])

/-- A flush begins (R300, R348): fetching and recording stop, frames on their way are lost, the dirty extents go to the
journal. At a loss of main power request 22 is forced (R373); a flush that runs already goes on. -/
def recFlushBegin (forced : Bool) (s : State) : State :=
  if s.recorder.flushing then (if forced then leaveForce 22 s else s)
  else
    let s1 := s.recorder.frames.foldl (fun s f => recDrop f.port f.id s) s
    let s2 := setRec { s1.recorder with flushing := true, drained := 0 } s1
    let s3 := if forced then leaveForce 22 s2 else leaveEvaluate (leaveRequest 22 s2)
    rset R.REC_AON_DIRTY (w32 s3.recorder.dirty.length)
      (rset R.REC_FLUSH_STATE 1#32 (journalNote 3 ((dirtyExtents s3).flatMap fun (a, n) => [a, n]) s3))

/-- The last dirty sector is on the media: the CLEAN record, and the flush is complete. -/
def recFlushEnd (s : State) : State :=
  raiseInt (pg 13 0) 2 (rset R.REC_CNT_FLUSH_BYTES (w32 ((s.recorder.drained + 255) / 256))
    (rset R.REC_FLUSH_STATE 2#32 (rset R.REC_AON_DIRTY 0#32
      (journalNote 5 [] (leaveRelease 22 (setRec { s.recorder with flushing := false } s))))))

/-- The store ran out first (R300, R393): what is still dirty stays listed. -/
def recFlushCut (s : State) : State :=
  if s.recorder.flushing then
    rset R.REC_FLUSH_STATE 3#32 { setRec { s.recorder with flushing := false, lostExtents := dirtyExtents s } s with plt := { s.plt with cutReported := false } }
  else s

end Sys2Proof.Machine
end

