-- ==== Sys2Proof/Machine/Nvme.lean ====
section
/-! DEFINITION. The NVMe controller: arbitration, submission entries, Identify data and log pages (R289 to R293). Layouts and
status codes are those of NVM Express Base 2.0, which R289 and R290 name (PRESUMED, log entry on NVMe). -/

namespace Sys2Proof.Machine

/-! ### Controller registers (R289, R290) -/

/-- CAP: MQES 4,095, CQR, AMS 1, TO 0x3C, and, PRESUMED, the NVM command set in CSS; all else 0. -/
def nvmeCap : Nat := 4095 + 2 ^ 16 + 2 ^ 17 + 0x3C * 2 ^ 24 + 2 ^ 37

/-- CSTS: RDY, and SHST. -/
def nvmeCsts (s : State) : Nat := b2n (nv s).ready + 4 * (nv s).shst

/-- A controller register by its BAR0 offset. -/
def nvmeRegister (s : State) (off : Nat) : Nat :=
  if off = 0x00 then nvmeCap
  else if off = 0x08 then 0x00020000
  else if off = 0x14 then (nv s).cc.toNat
  else if off = 0x1C then nvmeCsts s
  else if off = 0x24 then (nv s).aqa.toNat
  else if off = 0x28 then (nv s).asq
  else if off = 0x30 then (nv s).acq
  else 0

/-! ### Submission entries -/

structure Sqe where
  op : Nat
  fuse : Nat
  cid : Nat
  nsid : Nat
  prp1 : Nat
  prp2 : Nat
  d10 : Nat
  d11 : Nat
  d12 : Nat
  d13 : Nat
  deriving DecidableEq, Repr

def sqeAt (s : State) (q : NvmeSq) (i : Nat) : Sqe :=
  let a := q.base + 64 * i
  let dw := fun k => memNat s true 4 (a + 4 * k)
  { op := dw 0 % 256, fuse := bitsOf (dw 0) 9 8, cid := bitsOf (dw 0) 31 16, nsid := dw 1, prp1 := memNat s true 8 (a + 24),
    prp2 := memNat s true 8 (a + 32), d10 := dw 10, d11 := dw 11, d12 := dw 12, d13 := dw 13 }

/-- Slots of a queue from its head to its tail. -/
def sqSlots (q : NvmeSq) : List Nat :=
  if q.size = 0 then [] else (upto ((q.tail + q.size - q.head) % q.size)).map fun k => (q.head + k) % q.size

/-- Entries aborted before they were fetched are passed over (R297). -/
def sqSkip : Nat → NvmeSq → NvmeSq
  | 0, q => q
  | fuel + 1, q =>
    if q.head ≠ q.tail ∧ q.aborted.contains q.head then
      sqSkip fuel { q with head := (q.head + 1) % q.size, aborted := q.aborted.erase q.head }
    else q

/-! ### Arbitration (R293) -/

/-- Weight of class 0 high, 1 medium, 2 low; and Arbitration Burst, of Feature 01h. A burst code of 7 sets no limit. -/
def arbWeight (s : State) (cls : Nat) : Nat :=
  let f := smGet 0 (nv s).feats 0x01
  bitsOf f (31 - 8 * cls) (24 - 8 * cls) + 1
def arbBurst (s : State) : Nat :=
  let b := smGet 0 (nv s).feats 0x01 % 8
  if b = 7 then 65536 else 2 ^ b

/-- The next queue of a class in turn: the one being served while its burst lasts, else the next ID that has a command, round. -/
def classPick (s : State) (cls : Nat) (qs : List NvmeSq) : Option NvmeSq :=
  let n := nv s
  match qs.find? fun q => q.id == n.burstQ && decide (0 < n.burstLeft) with
  | some q => some q
  | none =>
    let last := nth 0 n.lastQ cls
    match qs.find? fun q => decide (last < q.id) with
    | some q => some q
    | none => qs.head?

/-- The queue that is served next. Classes: 0 urgent, 1 high, 2 medium, 3 low. -/
def arbPick (s : State) : Option (NvmeSq × Nat) :=
  let n := nv s
  let live := (n.sqs.map fun q => sqSkip q.size q).filter fun q => q.head != q.tail
  match live.find? fun q => q.id == 0 with
  | some q => some (q, 0)
  | none =>
    if getBits n.cc 13 11 = 0 then (classPick s 0 live).map fun q => (q, 0)
    else
      let of := fun k => live.filter fun q => q.prio == k
      match classPick s 0 (of 0) with
      | some q => some (q, 0)
      | none =>
        let full := fun k => !(of k).isEmpty
        match [1, 2, 3].find? fun k => full k && decide (0 < nth 0 n.credits (k - 1)) with
        | some k => (classPick s k (of k)).map fun q => (q, k)
        | none =>
          match [1, 2, 3].find? full with
          | some k => (classPick s k (of k)).map fun q => (q, k)
          | none => none

/-- Account for one command fetched from a queue of a class: its burst, and the weight of its class. -/
def arbTake (q : NvmeSq) (cls : Nat) (s : State) : State :=
  let n := nv s
  if q.id = 0 then s
  else
    let b := if q.id = n.burstQ ∧ 0 < n.burstLeft then n.burstLeft - 1 else arbBurst s - 1
    let fresh := n.credits.all fun c => decide (c = 0)
    let cr := if cls = 0 then n.credits
      else if nth 0 n.credits (cls - 1) = 0 ∨ fresh then
        (let l := [arbWeight s 0, arbWeight s 1, arbWeight s 2]
         setNth l (cls - 1) (nth 0 l (cls - 1) - 1))
      else setNth n.credits (cls - 1) (nth 0 n.credits (cls - 1) - 1)
    setNvme { n with burstQ := q.id, burstLeft := b, credits := cr, lastQ := setNth n.lastQ cls q.id } s

/-- Fetching is possible: the controller is ready, REC is enabled, no hold-up flush runs (R300). -/
def fetchAble (s : State) : Bool :=
  (nv s).ready && enabled s (pg 13 0) && !idleReq s (pg 13 0) && !s.recorder.flushing && decide ((nv s).shst = 0)

/-- The next command by arbitration. While a fused pair is under way no I/O command is fetched (R295). -/
def nvmeNext (s : State) : Option (NvmeSq × Nat × Sqe) :=
  if !fetchAble s then none
  else
    match arbPick s with
    | none => none
    | some (q, k) => if q.id ≠ 0 ∧ (nv s).cmds.any (fun c => c.fused.isSome) then none else some (q, k, sqeAt s q q.head)

/-- A fetched command begins its latency span (R403). -/
def psFetch (q : NvmeSq) (e : Sqe) (s : State) : State :=
  let io := decide (q.id ≠ 0)
  psBegin 0 (q.id * 65536 + e.cid) (4 * b2n (io && decide (e.op = 0x01 ∨ e.op = 0x08))) 0x0D q.id e.cid
    (if io then e.d10 + e.d11 * 2 ^ 32 else 0) s

/-- Take `k` entries off the head of a queue. -/
def sqTake (q : NvmeSq) (cls k : Nat) (s : State) : State :=
  (upto k).foldl (fun s i => psFetch q (sqeAt s q ((q.head + i) % q.size)) s)
    (putSq { q with head := (q.head + k) % q.size } (arbTake q cls s))

/-! ### Namespaces and checks -/

def nsValid (nsid : Nat) : Bool := decide (1 ≤ nsid ∧ nsid ≤ 16)

/-- Status of an I/O command that touches sectors `lba … lba + n - 1`: 0 when it may run. `data` says that it moves data. -/
def ioStatus (s : State) (e : Sqe) (lba n : Nat) (data : Bool) : Nat :=
  if s.recorder.erase.sanStatus = 2 then 0x1D
  else
    match nsOf s e.nsid with
    | none => 0x0B
    | some x =>
      if !x.attached then 0x0B
      else if x.formatting then 0x84
      else if data && decide (512 < n) then 0x02
      else if x.sectors < lba + n then 0x80
      else 0

/-- Supported opcodes (R291). -/
def adminOps : List Nat := [0x00, 0x01, 0x02, 0x04, 0x05, 0x06, 0x08, 0x09, 0x0A, 0x0C, 0x0D, 0x15, 0x80, 0x84]
def ioOps : List Nat := [0x00, 0x01, 0x02, 0x05, 0x08, 0x09]

/-- Commands with opcodes the device does not execute are fetched and completed with Invalid Command Opcode (R291). -/
def rejectBad : Nat → State → State
  | 0, s => s
  | fuel + 1, s =>
    match nvmeNext s with
    | none => s
    | some (q, k, e) =>
      if (if q.id = 0 then adminOps else ioOps).contains e.op then s
      else rejectBad fuel (nvmeComplete q.id e.cid 0x01 0 (sqTake q k 1 s))

def rejectAll (s : State) : State := rejectBad 4096 s

/-- Run the next command if it is the admin (I/O) command `op` and, where given, satisfies `p`; then pass over what is not supported. -/
def nvmeRun (admin : Bool) (op : Nat) (p : State → NvmeSq → Sqe → Bool) (f : NvmeSq → Nat → Sqe → State → State) (s : State) : State :=
  match nvmeNext s with
  | none => s
  | some (q, k, e) =>
    if decide (q.id = 0) == admin && e.op == op && p s q e then
      rejectAll (pumpRec (f q k e s))
    else s

/-- The usual admin or I/O command: one entry, then its effect gives a status and DW0. A fused operation of any other kind is a field error. -/
def nvmeSimple (admin : Bool) (op : Nat) (f : Sqe → State → Nat × Nat × State) (s : State) : State :=
  nvmeRun admin op (fun _ _ _ => true) (fun q k e s =>
    let s1 := sqTake q k 1 s
    if e.fuse ≠ 0 then nvmeComplete q.id e.cid (if e.op = 0x01 ∧ e.fuse = 2 then 0x0A else 0x02) 0 s1
    else
      let (st, dw0, s2) := f e s1
      nvmeComplete q.id e.cid st dw0 s2) s

/-! ### Identify (R290) -/

/-- Put bytes at an offset of a page. -/
def pageSet (bs : List Byte) (at_ : Nat) (v : List Byte) : List Byte := bs.take at_ ++ v ++ bs.drop (at_ + v.length)
def page0 : List Byte := List.replicate 4096 0#8
def pageOfFields (fs : List (Nat × Nat × Nat)) : List Byte := fs.foldl (fun b (at_, n, v) => pageSet b at_ (leBytes n v)) page0

def gib : Nat := 262144

/-- How many GiB hold `n` sectors. -/
def gibs (n : Nat) : Nat := n / gib + if n % gib = 0 then 0 else 1

/-- Identify Namespace. -/
def idNs (n : RecNs) : List Byte :=
  pageOfFields [(0, 8, n.sectors), (8, 8, n.sectors), (16, 8, n.sectors), (48, 16, n.sectors * sectorBytes), (128, 4, 12 * 2 ^ 16)]

/-- Volume sectors that no namespace holds. -/
def volumeFree (s : State) : Nat :=
  volumeSectors s - s.recorder.ns.foldl (fun a n => a + gibs n.sectors * gib) 0

/-- Identify Controller. -/
def idCtrl (s : State) : List Byte :=
  pageOfFields [(77, 1, 9), (80, 4, 0x00020000), (92, 4, 0x100), (111, 1, 1), (256, 2, 0x0A), (258, 1, 3), (259, 1, 3), (261, 1, 2), (262, 1, 63),
    (280, 16, volumeSectors s * sectorBytes), (296, 16, volumeFree s * sectorBytes), (328, 4, 0x06), (512, 1, 0x66), (513, 1, 0x44), (516, 4, 16),
    (520, 2, 0x0D), (522, 2, 1), (525, 1, 1), (2048, 2, 13500)]

def idList (ids : List Nat) : List Byte := padTo 4096 (ids.flatMap fun n => leBytes 4 n)

/-- IDs above `after`, in order. -/
def nsAbove (s : State) (after : Nat) (p : RecNs → Bool) : List Nat :=
  (upto 17).filter fun k => decide (after < k) && s.recorder.ns.any fun n => n.nsid == k && p n

/-- The 4,096 bytes Identify returns, or a status. -/
def identify (s : State) (e : Sqe) : Nat × List Byte :=
  let cns := e.d10 % 256
  if cns = 0x01 then (0, idCtrl s)
  else if cns = 0x00 ∨ cns = 0x11 then
    (if e.nsid = 0xFFFFFFFF ∧ cns = 0x00 then (0, pageOfFields [(128, 4, 12 * 2 ^ 16)])
     else if !nsValid e.nsid then (0x0B, [])
     else
       match nsOf s e.nsid with
       | some n => (0, if n.attached || cns == 0x11 then idNs n else page0)
       | none => (0, page0))
  else if cns = 0x02 then (if 0xFFFFFFFE ≤ e.nsid then (0x0B, []) else (0, idList (nsAbove s e.nsid (·.attached))))
  else if cns = 0x10 then (if 0xFFFFFFFE ≤ e.nsid then (0x0B, []) else (0, idList (nsAbove s e.nsid fun _ => true)))
  else if cns = 0x03 then (if nsValid e.nsid && (nsOf s e.nsid).any (·.attached) then (0, page0) else (0x0B, []))
  else (0x02, [])

/-! ### Log pages (R291, R292) -/

/-- The highest Percentage Used of the members. -/
def usedMax (s : State) : Nat :=
  ((upto 4).map fun m => if memberPort s m < 5 then rfld s (R.REC_PORT_STATE (memberPort s m)) 15 8 else 0).foldl max 0

def logSmart (s : State) : List Byte :=
  padTo 512 (leBytes 1 (criticalWarning s) ++ leBytes 2 (compositeKelvin s) ++ leBytes 1 (if spareReady s then 100 else 0) ++ leBytes 1 10 ++
    leBytes 1 (usedMax s))

def logEffects : List Byte :=
  let set := fun (ops : List Nat) => (upto 256).flatMap fun k => leBytes 4 (b2n (ops.contains k))
  padTo 4096 (set adminOps ++ set ioOps)

/-- Sanitize Status: SPROG, SSTAT (with completed passes left 0), the dword of the command, the estimates not reported. -/
def logSanitize (s : State) : List Byte :=
  let x := s.recorder.erase
  let prog := if x.sanStatus = 2 then (Config.sanitizeProgress s.drawn).toNat else 0xFFFF
  padTo 512 (leBytes 2 prog ++ leBytes 2 x.sanStatus ++ leBytes 4 x.action ++ List.replicate 24 0xFF#8)

/-- C0h: the state registers of page 1 for each port. -/
def logArray (s : State) : List Byte :=
  (upto 5).flatMap fun p =>
    padTo 64 (leBytes 4 (rnat s (R.REC_PORT_STATE p)) ++ leBytes 4 (rnat s R.REC_ARRAY_STATE) ++ leBytes 4 (rnat s R.REC_MEDIA_MAP) ++
      leBytes 4 (rnat s R.REC_MEDIA_RETIRED))

/-- An entry of the clip table (R305). -/
def clipEntry (c : RecClip) : List Byte :=
  padTo 8 (leBytes 4 c.clipId ++ leBytes 1 c.port ++
    leBytes 1 (b2n c.opened + 2 * b2n c.abandoned + 4 * b2n c.breakDuring)) ++
    leBytes 8 c.first ++ leBytes 8 c.sectors ++ leBytes 4 c.frames ++ leBytes 4 c.lost ++ longBytes c.sofFirst ++ longBytes c.sofLast ++
    leBytes 4 c.taiOfs ++ leBytes 2 c.breaks0 ++ leBytes 2 c.breaks1

def logClips (s : State) : List Byte := s.recorder.clips.flatMap clipEntry

/-- C2h: the extents a flush left undrained: first sector, count. -/
def logLost (s : State) : List Byte := s.recorder.lostExtents.flatMap fun (a, n) => leBytes 8 a ++ leBytes 8 n

/-- The content of a log page, where the device offers it. -/
def logPage (s : State) (id : Nat) : Option (List Byte) :=
  if id = 0x01 then some (padTo 4096 (nv s).errors.flatten)
  else if id = 0x02 then some (logSmart s)
  else if id = 0x05 then some logEffects
  else if id = 0x81 then some (logSanitize s)
  else if id = 0xC0 then some (logArray s)
  else if id = 0xC1 then some (logClips s)
  else if id = 0xC2 then some (logLost s)
  else none

end Sys2Proof.Machine
end

