-- ==== Sys2Proof/Machine/NvmeCmds.lean ====
section
/-! DEFINITION. The NVMe commands, doorbells and the controller's reset (R289 to R297, R306). A command row takes the
command that arbitration serves next, where it is of that row's kind; else nothing happens. -/

namespace Sys2Proof.Machine

/-! ### Doorbells and the controller -/

/-- SQ_TAIL_DOORBELL: the queue's tail moves; REC fetches (R289, R293). -/
def execSqTailDoorbell (queue : Fin 65) (tail : BitVec 16) (s : State) : Host.Outcome State Fault Refusal :=
  .next <|
    match sqOf s queue.val with
    | none => s
    | some q => rejectAll (if tail.toNat < q.size then putSq { q with tail := tail.toNat } s else s)

/-- CQ_HEAD_DOORBELL: entries are freed, and completions that waited are posted (R289). -/
def execCqHeadDoorbell (queue : Fin 65) (head : BitVec 16) (s : State) : Host.Outcome State Fault Refusal :=
  .next <|
    match cqOf s queue.val with
    | none => s
    | some q => if head.toNat < q.size then cqFlush (q.waiting.length + 1) { q with head := head.toNat } s else s

/-- What a Controller Reset leaves: queues, commands, requests and current feature values go; what is on its way to the media, Sanitize, Format and namespaces stay. -/
def controllerClear (s : State) : State :=
  psDiscard 0 (fun _ => true) (setRec { s.recorder with nvme := { nextCmd := (nv s).nextCmd } } s)

/-- CONTROLLER_RESET: software writes CC. EN 0 to 1 takes the admin queues and raises RDY; 1 to 0 is a Controller Reset; SHN starts a shutdown, which ends at once (R289). -/
def execControllerReset (cc : Word) (aqa : Word) (asq : BitVec 64) (acq : BitVec 64) (s : State) : Host.Outcome State Fault Refusal :=
  .next <|
    let was := bitAt (nv s).cc 0
    let s1 :=
      if bitAt cc 0 && !was then
        (let q : NvmeSq := { id := 0, base := asq.toNat, size := getBits aqa 11 0 + 1, cq := 0, prio := 0 }
         let c : NvmeCq := { id := 0, base := acq.toNat, size := getBits aqa 27 16 + 1, vector := 0, ien := true }
         setNvme { nv s with ready := !s.recorder.ops.any (fun o => o.why == .replay), sqs := [q], cqs := [c] } s)
      else if !bitAt cc 0 && was then controllerClear s
      else s
    setNvme { nv s1 with cc := cc, aqa := aqa, asq := asq.toNat, acq := acq.toNat, shst := if getBits cc 15 14 = 0 then (nv s1).shst else 2 } s1

/-- INTERRUPT_COALESCING_EXPIRY: the held interrupt of a vector goes out (Feature 08h). -/
def execInterruptCoalescingExpiry (vector : Fin 65) (s : State) : Host.Outcome State Fault Refusal :=
  .next <|
    if smGet 0 (nv s).heldInts vector.val = 0 then s
    else emit (.msix1 vector.val) (setNvme { nv s with heldInts := smDel (nv s).heldInts vector.val } s)

/-! ### Queues -/

/-- CREATE_IO_CQ (05h). -/
def execCreateIoCq (s : State) : Host.Outcome State Fault Refusal :=
  .next <| nvmeSimple true 0x05 (fun e s =>
    let id := e.d10 % 65536
    let size := e.d10 / 65536
    let iv := e.d11 / 65536
    if id = 0 ∨ 64 < id ∨ (cqOf s id).isSome then (0x101, 0, s)
    else if size = 0 ∨ 4095 < size then (0x102, 0, s)
    else if e.d11 % 2 = 0 then (0x02, 0, s)
    else if e.prp1 % 4096 ≠ 0 then (0x13, 0, s)
    else if 64 < iv then (0x108, 0, s)
    else
      let c : NvmeCq := { id := id, base := e.prp1, size := size + 1, vector := iv, ien := decide (e.d11 / 2 % 2 = 1) }
      (0, 0, setNvme { nv s with cqs := (nv s).cqs ++ [c] } s)) s

/-- Queues stay in the order of their IDs. -/
def insertSq (q : NvmeSq) : List NvmeSq → List NvmeSq
  | [] => [q]
  | x :: xs => if q.id < x.id then q :: x :: xs else x :: insertSq q xs

/-- CREATE_IO_SQ (01h). -/
def execCreateIoSq (s : State) : Host.Outcome State Fault Refusal :=
  .next <| nvmeSimple true 0x01 (fun e s =>
    let id := e.d10 % 65536
    let size := e.d10 / 65536
    let cq := e.d11 / 65536
    if id = 0 ∨ 64 < id ∨ (sqOf s id).isSome then (0x101, 0, s)
    else if cq = 0 ∨ 64 < cq then (0x101, 0, s)
    else if (cqOf s cq).isNone then (0x100, 0, s)
    else if size = 0 ∨ 4095 < size then (0x102, 0, s)
    else if e.d11 % 2 = 0 then (0x02, 0, s)
    else if e.prp1 % 4096 ≠ 0 then (0x13, 0, s)
    else
      let q : NvmeSq := { id := id, base := e.prp1, size := size + 1, cq := cq, prio := bitsOf e.d11 2 1 }
      (0, 0, setNvme { nv s with sqs := insertSq q (nv s).sqs } s)) s

/-- DELETE_IO_SQ (00h): what was fetched from it and has not ended completes with Aborted due to SQ Deletion. -/
def execDeleteIoSq (s : State) : Host.Outcome State Fault Refusal :=
  .next <| nvmeSimple true 0x00 (fun e s =>
    let id := e.d10 % 65536
    if id = 0 ∨ (sqOf s id).isNone then (0x101, 0, s)
    else
      let mine := fun (c : NvmeCmd) => c.sq == id
      let gone := (nv s).cmds.filter mine ++ (nv s).writeWait.filter mine
      let s1 := gone.foldl (fun s c =>
        let s := nvmeComplete id c.cid 0x08 0 s
        match c.fused with | some (cid2, _, _) => nvmeComplete id cid2 0x08 0 s | none => s) s
      (0, 0, setNvme { nv s1 with
        cmds := (nv s1).cmds.filter fun c => !mine c
        writeWait := (nv s1).writeWait.filter fun c => !mine c
        sqs := (nv s1).sqs.filter fun q => q.id != id } s1)) s

/-- DELETE_IO_CQ (04h). -/
def execDeleteIoCq (s : State) : Host.Outcome State Fault Refusal :=
  .next <| nvmeSimple true 0x04 (fun e s =>
    let id := e.d10 % 65536
    if id = 0 ∨ (cqOf s id).isNone then (0x101, 0, s)
    else if (nv s).sqs.any (fun q => q.cq == id) then (0x10C, 0, s)
    else (0, 0, setNvme { nv s with cqs := (nv s).cqs.filter fun q => q.id != id } s)) s

/-! ### Admin commands that report -/

/-- GET_LOG_PAGE (02h). -/
def execGetLogPage (s : State) : Host.Outcome State Fault Refusal :=
  .next <| nvmeSimple true 0x02 (fun e s =>
    let id := e.d10 % 256
    let len := (e.d10 / 65536 + e.d11 % 65536 * 65536 + 1) * 4
    let off := e.d12 + e.d13 * 2 ^ 32
    match logPage s id with
    | none => (0x109, 0, s)
    | some bs =>
      if 2 * mib < len ∨ bs.length < off then (0x02, 0, s)
      else
        let s1 := hostScatter e.prp1 e.prp2 ((bs.drop off).take len) s
        let s2 := if id = 0x81 ∧ s.recorder.erase.sanStatus = 2 then draw s1 else s1
        let keep := decide (bitsOf e.d10 15 15 = 1)
        (0, 0, if keep then s2
          else eventPump 4 (setNvme { nv s2 with masked := (nv s2).masked.filter fun t => eventPage t != id } s2))) s

/-- IDENTIFY (06h). -/
def execIdentify (s : State) : Host.Outcome State Fault Refusal :=
  .next <| nvmeSimple true 0x06 (fun e s =>
    let (st, bs) := identify s e
    (st, 0, if st = 0 then hostScatter e.prp1 e.prp2 bs s else s)) s

/-- The value a feature has by default. The spec states none but for the cache, which is present: on. -/
def featDefault (key : Nat) : Nat := if key = 0x04 then 0xFFFF else if key = 0x06 then 1 else 0

/-- Supported feature identifiers (R291). -/
def featIds : List Nat := [0x01, 0x02, 0x04, 0x06, 0x07, 0x08, 0x09, 0x0B]

/-- Where a feature's value is kept: Temperature Threshold has one for over and one for under. -/
def featKey (id d11 : Nat) : Nat := if id = 0x04 ∧ bitsOf d11 21 20 = 1 then 0x104 else id

/-- SET_FEATURES (09h). -/
def execSetFeatures (s : State) : Host.Outcome State Fault Refusal :=
  .next <| nvmeSimple true 0x09 (fun e s =>
    let id := e.d10 % 256
    let v := e.d11
    let key := featKey id v
    let put := fun (x : Nat) (s : State) => setNvme { nv s with feats := smSet (featDefault key) (nv s).feats key x } s
    if !featIds.contains id then (0x02, 0, s)
    else if e.d10 / 2 ^ 31 % 2 = 1 then (0x10D, 0, s)
    else if id = 0x02 then (if v % 32 = 0 then (0, 0, s) else (0x02, 0, s))
    else if id = 0x04 then
      (let sel := bitsOf v 19 16
       if sel ≠ 0 ∧ sel ≠ 15 ∨ 1 < bitsOf v 21 20 then (0x02, 0, s) else (0, 0, smartCheck (put (v % 65536) s)))
    else if id = 0x06 then (0, 0, put (v % 2) s)
    else if id = 0x07 then
      (if v % 65536 = 0xFFFF ∨ v / 65536 % 65536 = 0xFFFF then (0x02, 0, s)
       else if 1 < (nv s).sqs.length ∨ 1 < (nv s).cqs.length then (0x0C, 0, s)
       else (0, 63 + 63 * 65536, s))
    else if id = 0x09 then
      (let iv := v % 65536
       if 64 < iv then (0x02, 0, s)
       else (0, 0, setNvme { nv s with noCoalesce := if v / 65536 % 2 = 1 then setInsert (nv s).noCoalesce iv else setErase (nv s).noCoalesce iv } s))
    else if id = 0x08 then (0, 0, put (v % 65536) s)
    else (0, 0, (if id = 0x0B then smartCheck else fun s => s) (put v s))) s

/-- GET_FEATURES (0Ah): the current value, the default, or what the host may do with the feature. -/
def execGetFeatures (s : State) : Host.Outcome State Fault Refusal :=
  .next <| nvmeSimple true 0x0A (fun e s =>
    let id := e.d10 % 256
    let sel := bitsOf e.d10 10 8
    let key := featKey id e.d11
    if !featIds.contains id ∨ 3 < sel then (0x02, 0, s)
    else if sel = 3 then (0, 4, s)
    else if id = 0x07 then (0, 63 + 63 * 65536, s)
    else if id = 0x09 then
      (let iv := e.d11 % 65536
       if 64 < iv then (0x02, 0, s)
       else (0, iv + (if sel = 0 ∧ (nv s).noCoalesce.contains iv then 65536 else 0), s))
    else (0, if sel = 0 then smGet (featDefault key) (nv s).feats key else featDefault key, s)) s

/-- ASYNCHRONOUS_EVENT_REQUEST (0Ch). -/
def execAsynchronousEventRequest (s : State) : Host.Outcome State Fault Refusal :=
  .next <| nvmeRun true 0x0C (fun _ _ _ => true) (fun q k e s =>
    let s1 := sqTake q k 1 s
    if e.fuse ≠ 0 then nvmeComplete 0 e.cid 0x02 0 s1
    else if 4 ≤ (nv s1).aers.length then nvmeComplete 0 e.cid 0x105 0 s1
    else eventPump 4 (setNvme { nv s1 with aers := (nv s1).aers ++ [(0, e.cid)] } s1)) s

/-- ABORT (08h): a command not fetched, or that has not begun to change the dirty buffer, is discarded; another is let finish first (R297). -/
def execAbort (s : State) : Host.Outcome State Fault Refusal :=
  .next <| nvmeRun true 0x08 (fun _ _ _ => true) (fun q k e s =>
    let s1 := sqTake q k 1 s
    let sq := e.d10 % 65536
    let cid := e.d10 / 65536
    let killed := fun (s : State) => nvmeComplete 0 e.cid 0 0 (nvmeComplete sq cid 0x07 0 s)
    let mine := fun (c : NvmeCmd) => c.sq == sq && c.cid == cid
    if e.fuse ≠ 0 then nvmeComplete 0 e.cid 0x02 0 s1
    else if 4 ≤ ((nv s1).cmds.filter fun c => c.op == 0x108).length then nvmeComplete 0 e.cid 0x103 0 s1
    else
      match sqOf s1 sq with
      | none => nvmeComplete 0 e.cid 0 1 s1
      | some t =>
        match (sqSlots t).find? fun i => !t.aborted.contains i && (sqeAt s1 t i).cid == cid with
        | some i => killed (putSq { t with aborted := t.aborted ++ [i] } s1)
        | none =>
          if (nv s1).aers.contains (sq, cid) then killed (setNvme { nv s1 with aers := (nv s1).aers.erase (sq, cid) } s1)
          else if (nv s1).writeWait.any mine then killed (setNvme { nv s1 with writeWait := (nv s1).writeWait.filter fun c => !mine c } s1)
          else
            match (nv s1).cmds.find? mine with
            | none => nvmeComplete 0 e.cid 0 1 s1
            | some c =>
              if (c.op = 0x00 ∨ c.op = 0x02 ∨ c.op = 0x05) ∧ c.fused = none then killed (dropCmd c.id s1)
              else addCmd { id := 0, sq := 0, cid := e.cid, op := 0x108, nsid := 0, v := 0, n := 0, prp1 := 0, prp2 := 0, after := [c.id] } s1) s

/-! ### Namespaces, Format, Sanitize (R302, R306) -/

/-- The first whole-GiB place that `n` sectors fit. -/
def nsPlace (s : State) (n : Nat) : Option Nat :=
  let total := volumeSectors s / gib
  let need := gibs n
  (upto (total + 1)).find? fun g => decide (g + need ≤ total) &&
    s.recorder.ns.all fun x => decide (g + need ≤ x.start / gib ∨ x.start / gib + gibs x.sectors ≤ g)

/-- Dirty copies of a range are discarded. -/
def dirtyDiscard (v n : Nat) (s : State) : State :=
  showDirty (setRec { s.recorder with dirty := s.recorder.dirty.filter fun d => !decide (v ≤ d.v ∧ d.v < v + n) } s)

/-- The namespaces as the journal records them. -/
def nsRecord (s : State) : List Nat := s.recorder.ns.flatMap fun n => [n.nsid, n.start, n.sectors, b2n n.attached]

/-- The journal takes the allocation, and the change is an event where Feature 0Bh asks for it. -/
def nsChanged (s : State) : State :=
  let s1 := journalNote 1 (nsRecord s) s
  if smGet 0 (nv s1).feats 0x0B / 2 ^ 8 % 2 = 1 then nvmeEvent 2 0 s1 else s1

/-- A namespace is taken away, with what is dirty in it. -/
def nsRemove (n : RecNs) (s : State) : State :=
  let s1 := dirtyDiscard n.start n.sectors s
  setRec { s1.recorder with ns := s1.recorder.ns.filter fun x => x.nsid != n.nsid } s1

/-- Namespace `id` is created at `place`, in GiB. -/
def nsCreateAt (place : Option Nat) (id size : Nat) (s : State) : Nat × Nat × State :=
  match place with
  | none => (0x115, 0, s)
  | some g => (0, id, nsChanged (setRec { s.recorder with ns := s.recorder.ns ++ [{ nsid := id, start := g * gib, sectors := size, attached := false }] } s))

/-- A namespace of `size` sectors and capacity `cap`, in format `flbas`, is created at the lowest free identifier and place. -/
def nsCreateWith (size cap flbas : Nat) (s : State) : Nat × Nat × State :=
  if flbas % 16 ≠ 0 then (0x10A, 0, s)
  else if size = 0 ∨ cap ≠ size then (0x02, 0, s)
  else
    match (upto 17).find? (fun k => decide (0 < k) && (nsOf s k).isNone) with
    | none => (0x116, 0, s)
    | some id => nsCreateAt (nsPlace s size) id size s

/-- The creation reads its fields in the 4,096 bytes the command points at. -/
def nsCreate (e : Sqe) (s : State) : Nat × Nat × State :=
  nsCreateFrom (hostGather s e.prp1 e.prp2 4096) s
where
  nsCreateFrom (bs : List Byte) (s : State) : Nat × Nat × State :=
    nsCreateWith (leNat (bs.take 8)) (leNat ((bs.drop 8).take 8)) (leNat ((bs.drop 26).take 1)) s

/-- A namespace, or every one, is deleted. -/
def nsDelete (e : Sqe) (s : State) : Nat × Nat × State :=
  if e.nsid = 0xFFFFFFFF then (0, 0, nsChanged (s.recorder.ns.foldl (fun s n => nsRemove n s) s))
  else
    match nsOf s e.nsid with
    | none => (0x0B, 0, s)
    | some n => if n.formatting then (0x84, 0, s) else (0, 0, nsChanged (nsRemove n s))

/-- NAMESPACE_MANAGEMENT (0Dh): create places the namespace first fit; delete frees it. -/
def execNamespaceManagement (s : State) : Host.Outcome State Fault Refusal :=
  .next <| nvmeSimple true 0x0D (fun e s =>
    if s.recorder.erase.sanStatus = 2 then (0x1D, 0, s)
    else if e.d10 % 16 = 0 then nsCreate e s
    else if e.d10 % 16 = 1 then nsDelete e s
    else (0x02, 0, s)) s

/-- NAMESPACE_ATTACHMENT (15h): the one controller has ID 0. -/
def execNamespaceAttachment (s : State) : Host.Outcome State Fault Refusal :=
  .next <| nvmeSimple true 0x15 (fun e s =>
    let bs := hostGather s e.prp1 e.prp2 4096
    let count := leNat (bs.take 2)
    let id := leNat ((bs.drop 2).take 2)
    if s.recorder.erase.sanStatus = 2 then (0x1D, 0, s)
    else
      match nsOf s e.nsid with
      | none => (0x0B, 0, s)
      | some n =>
        if 1 < e.d10 % 16 then (0x02, 0, s)
        else if n.formatting then (0x84, 0, s)
        else if count ≠ 1 ∨ id ≠ 0 then (0x11C, 0, s)
        else if e.d10 % 16 = 0 ∧ n.attached then (0x118, 0, s)
        else if e.d10 % 16 = 1 ∧ !n.attached then (0x11A, 0, s)
        else
          (0, 0, nsChanged (setRec { s.recorder with ns := s.recorder.ns.map fun x => if x.nsid = n.nsid then { x with attached := decide (e.d10 % 16 = 0) } else x } s))) s

/-- Sanitize or Format begins, once leave is granted. -/
def eraseStart (s : State) : State :=
  let x := s.recorder.erase
  if x.sanStatus = 2 then
    (upto 4).foldl (fun s m => if memberPort s m < 5 then emit (.mediaErase (memberPort s m) (x.action % 8)) s else s) s
  else
    match x.format with
    | none => s
    | some (_, nsid) =>
      match nsOf s nsid with
      | some n => if x.ses = 1 then emit (.mediaZero n.start n.sectors) s else s
      | none => s

/-- FORMAT_NVM (80h): the namespace takes no command until SANITIZE_DONE; leave is requested first. -/
def execFormatNvm (s : State) : Host.Outcome State Fault Refusal :=
  .next <| nvmeRun true 0x80 (fun _ _ _ => true) (fun q k e s =>
    let s1 := sqTake q k 1 s
    let ses := bitsOf e.d10 11 9
    let bad := fun st => nvmeComplete 0 e.cid st 0 s1
    if e.fuse ≠ 0 then bad 0x02
    else if s.recorder.erase.sanStatus = 2 then bad 0x1D
    else
      match nsOf s e.nsid with
      | none => bad 0x0B
      | some n =>
        if n.formatting ∨ s.recorder.erase.format.isSome then bad 0x84
        else if e.d10 % 16 ≠ 0 then bad 0x10A
        else if 1 < ses then bad 0x02
        else if arrayState s = 4 then bad 0x20
        else
          let s2 := dirtyDiscard n.start n.sectors s1
          let id := (nv s2).nextCmd
          let s3 := addCmd { id := 0, sq := 0, cid := e.cid, op := 0x80, nsid := n.nsid, v := n.start, n := n.sectors, prp1 := 0, prp2 := 0, left := 1 } s2
          leaveRequest 23 (setRec { s3.recorder with
            ns := s3.recorder.ns.map fun x => if x.nsid = n.nsid then { x with formatting := true } else x
            erase := { s3.recorder.erase with format := some (id, n.nsid), ses := ses } } s3)) s

/-- SANITIZE (84h): the command completes at once, and the operation runs after it, once leave is granted. The records it acts on are erased with the data. -/
def execSanitize (s : State) : Host.Outcome State Fault Refusal :=
  .next <| nvmeSimple true 0x84 (fun e s =>
    let act := e.d10 % 8
    if s.recorder.erase.sanStatus = 2 then (0x1D, 0, s)
    else if s.recorder.erase.format.isSome then (0x84, 0, s)
    else if act = 1 then (0, 0, s)
    else if act ≠ 2 ∧ act ≠ 3 then (0x02, 0, s)
    else
      let s1 := s.recorder.frames.foldl (fun s f => mediaFull f.port f.id s) s
      let s2 := showDirty (setRec { s1.recorder with dirty := [], erase := { s1.recorder.erase with sanStatus := 2, action := e.d10 } } s1)
      (0, 0, leaveRequest 23 s2)) s

/-- Journal checkpoints: one for each GiB per member (R306). -/
def checkpoints : Nat → Nat → State → State
  | 0, _, s => s
  | k + 1, i, s => checkpoints k (i + 1) (journalNote 4 [i] s)

/-- An erase that is in progress without its leave asks for it, again after a reset or a withdrawal (R306, R369, R374). -/
def eraseResume (s : State) : State :=
  if s.recorder.erase.sanStatus = 2 ∨ s.recorder.erase.format.isSome then leaveRequest 23 s else s

/-- SANITIZE_DONE: Sanitize or Format completes (R306). -/
def execSanitizeDone (s : State) : Host.Outcome State Fault Refusal :=
  .next <|
    if !granted s 23 then eraseResume s
    else
      let x := s.recorder.erase
      let s0 := leaveRelease 23 s
      if x.sanStatus = 2 then
        (let s1 := checkpoints ((memberCap s0 - jsect) / gib) 0 s0
         rejectAll (nvmeEvent 6 1 (setRec { s1.recorder with erase := { x with sanStatus := 1 }, ns := [], clips := [] } s1)))
      else
        match x.format with
        | none => s0
        | some (cmd, nsid) =>
          let s1 := setRec { s0.recorder with
            ns := s0.recorder.ns.map fun n => if n.nsid = nsid then { n with formatting := false } else n
            erase := { x with format := none } } s0
          let size := match nsOf s0 nsid with | some n => n.sectors | none => 0
          let s2 := if x.ses = 1 then checkpoints ((size / 3) / gib) 0 s1 else journalNote 1 (nsRecord s1) s1
          match cmdOf s2 cmd with
          | none => s2
          | some c => pumpRec (putCmd { c with left := 0 } s2)

/-! ### I/O commands (R294 to R296) -/

def lbaOf (e : Sqe) : Nat := e.d10 + e.d11 * 2 ^ 32
def nlb (e : Sqe) : Nat := e.d12 % 65536 + 1

/-- A command over the sectors an entry names. -/
def cmdFor (s : State) (q : NvmeSq) (e : Sqe) (n : Nat) : NvmeCmd :=
  let start := match nsOf s e.nsid with | some x => x.start | none => 0
  { id := 0, sq := q.id, cid := e.cid, op := e.op, nsid := e.nsid, v := start + lbaOf e, n := n, prp1 := e.prp1, prp2 := e.prp2 }

/-- FLUSH (00h). -/
def execFlush (s : State) : Host.Outcome State Fault Refusal :=
  .next <| nvmeRun false 0x00 (fun _ _ _ => true) (fun q k e s =>
    let s1 := sqTake q k 1 s
    let st := if e.fuse ≠ 0 then 0x02 else ioStatus s e 0 0 false
    match nsOf s e.nsid with
    | none => nvmeComplete q.id e.cid (if st = 0 then 0x0B else st) 0 s1
    | some n =>
      if st ≠ 0 then nvmeComplete q.id e.cid st 0 s1
      else addCmd { cmdFor s1 q e 0 with until_ := nsOrders s1 n, after := nsZeroes s1 n.nsid } s1) s

/-- WRITE (01h): held whole in the dirty buffer, or waiting for room (R294, R298). -/
def execWrite (s : State) : Host.Outcome State Fault Refusal :=
  .next <| nvmeRun false 0x01 (fun _ _ _ => true) (fun q k e s =>
    let s1 := sqTake q k 1 s
    let n := nlb e
    let st := if e.fuse = 2 then 0x0A else if e.fuse ≠ 0 then 0x02
      else if ioStatus s e (lbaOf e) n true ≠ 0 then ioStatus s e (lbaOf e) n true
      else if arrayState s = 4 then 0x20 else 0
    if st ≠ 0 then nvmeComplete q.id e.cid st 0 s1
    else
      let c := cmdFor s1 q e n
      if writeFits s1 (sectorBytes * n) && !fusedOn s1 c.v n then writeApply c (hostGather s1 e.prp1 e.prp2 (sectorBytes * n)) s1
      else rinc R.REC_CNT_WAIT 1 (setNvme { nv s1 with writeWait := (nv s1).writeWait ++ [c] } s1)) s

/-- WRITE_ADMIT: a waiting Write alters the dirty buffer (R298). -/
def execWriteAdmit (s : State) : Host.Outcome State Fault Refusal := .next (writeAdmit s)

/-- Sector `i` of a command is read: from the dirty buffer where it is held there, else from the media (R295). -/
def readSector (id i v : Nat) (s : State) : State :=
  match dirtyOf s v, cmdOf s id with
  | some d, some c =>
    let s := memSee false sectorBytes (dirtyAddr s d.slot) s
    if memPoisoned s false sectorBytes (dirtyAddr s d.slot) then
      putCmd { c with left := c.left - 1, status := 0x04 } (raiseErr (pg 13 0) 0x18 (w32 (dirtyAddr s d.slot)) s)
    else putCmd { c with left := c.left - 1, data := c.data ++ [(i, dirtyData s d)] } s
  | none, some _ => opBegin (.read id i) (stripeOf v) (rowOf v) (unitOf v) [] s
  | _, none => s

/-- A Read or Compare begins. -/
def readBegin (c : NvmeCmd) (s : State) : State :=
  let id := (nv s).nextCmd
  (upto c.n).foldl (fun s i => readSector id i (c.v + i) s) (addCmd { c with left := c.n } s)

/-- A Read or Compare by itself. -/
def readRun (op : Nat) (s : State) : State :=
  nvmeRun false op (fun _ _ e => !(e.op == 0x05 && e.fuse == 1)) (fun q k e s =>
    let s1 := sqTake q k 1 s
    let st := if e.fuse ≠ 0 then 0x02 else ioStatus s e (lbaOf e) (nlb e) true
    if st ≠ 0 then nvmeComplete q.id e.cid st 0 s1 else readBegin (cmdFor s1 q e (nlb e)) s1) s

/-- READ (02h). -/
def execRead (s : State) : Host.Outcome State Fault Refusal := .next (readRun 0x02 s)

/-- COMPARE (05h). -/
def execCompare (s : State) : Host.Outcome State Fault Refusal := .next (readRun 0x05 s)

/-- COMPARE_AND_WRITE: a Compare marked first with the Write marked second behind it, of one sector. Without its second half the first is aborted. -/
def execCompareAndWrite (s : State) : Host.Outcome State Fault Refusal :=
  .next <| nvmeRun false 0x05 (fun _ q e => e.fuse == 1 && decide (1 < (sqSlots q).length)) (fun q k e s =>
    let e2 := sqeAt s q ((q.head + 1) % q.size)
    if e2.op ≠ 0x01 ∨ e2.fuse ≠ 2 then nvmeComplete q.id e.cid 0x0A 0 (sqTake q k 1 s)
    else
      let s1 := sqTake q k 2 s
      let both := fun st => nvmeComplete q.id e2.cid st 0 (nvmeComplete q.id e.cid st 0 s1)
      if e.nsid ≠ e2.nsid ∨ lbaOf e ≠ lbaOf e2 ∨ nlb e ≠ 1 ∨ nlb e2 ≠ 1 then both 0x02
      else
        let st := ioStatus s e (lbaOf e) 1 true
        if st ≠ 0 then both st
        else if arrayState s = 4 then both 0x20
        else readBegin { cmdFor s1 q e 1 with fused := some (e2.cid, e2.prp1, e2.prp2) } s1) s

/-- One sector of zeros goes to the media. -/
def zeroSector (id v : Nat) (s : State) : State :=
  opBegin (.zeroes id) (stripeOf v) (rowOf v) 0 [(unitOf v, List.replicate sectorBytes 0#8)] s

/-- WRITE_ZEROES (08h): dirty copies are discarded, and it completes once zeros are on the media (R296). -/
def execWriteZeroes (s : State) : Host.Outcome State Fault Refusal :=
  .next <| nvmeRun false 0x08 (fun _ _ _ => true) (fun q k e s =>
    let s1 := sqTake q k 1 s
    let n := nlb e
    let st := if e.fuse ≠ 0 then 0x02 else if ioStatus s e (lbaOf e) n false ≠ 0 then ioStatus s e (lbaOf e) n false
      else if arrayState s = 4 then 0x20 else 0
    if st ≠ 0 then nvmeComplete q.id e.cid st 0 s1
    else
      let c := cmdFor s1 q e n
      let id := (nv s1).nextCmd
      (upto n).foldl (fun s i => zeroSector id (c.v + i) s) (addCmd { c with left := n } (dirtyDiscard c.v n s1))) s

/-- A Deallocate range: the hint goes to the members for every stripe it covers whole (R296). -/
def hintRange (v n : Nat) (s : State) : State :=
  let first := (v + 191) / 192
  let last := (v + n) / 192
  (upto (last - first)).foldl (fun s i =>
    (upto 4).foldl (fun s m => if memberPort s m < 5 then emit (.mediaHint (memberPort s m) (first + i)) s else s) s) s

/-- DATASET_MANAGEMENT (09h). -/
def execDatasetManagement (s : State) : Host.Outcome State Fault Refusal :=
  .next <| nvmeRun false 0x09 (fun _ _ _ => true) (fun q k e s =>
    let s1 := sqTake q k 1 s
    let bs := hostGather s e.prp1 e.prp2 (16 * (e.d10 % 256 + 1))
    let ranges := (upto (e.d10 % 256 + 1)).map fun i =>
      (leNat ((bs.drop (16 * i + 8)).take 8), leNat ((bs.drop (16 * i + 4)).take 4))
    let st := if e.fuse ≠ 0 then 0x02 else ranges.foldl (fun a r => if a ≠ 0 then a else ioStatus s e r.1 r.2 false) 0
    if st ≠ 0 then nvmeComplete q.id e.cid st 0 s1
    else
      let c := cmdFor s1 q { e with d10 := 0, d11 := 0 } 0
      nvmeComplete q.id e.cid 0 0 (if e.d11 / 4 % 2 = 1 then ranges.foldl (fun s r => hintRange (c.v + r.1) r.2 s) s1 else s1)) s

end Sys2Proof.Machine
end

