-- ==== Sys2Proof/Machine/Twi.lean ====
section
/-! DEFINITION. The two-wire buses (R338 to R343). -/

namespace Sys2Proof.Machine

def twiAt (s : State) (p : Nat) : TwiBus := nth {} s.twi p
def putTwi (p : Nat) (x : TwiBus) (s : State) : State := { s with twi := setNth s.twi p x }
def twiPage (p : Nat) : Nat := pg 16 p
def twiBusy (s : State) (p : Nat) : Bool := rbit s (R.TWI_XSTAT p) 1
def twiAddressed (s : State) (p : Nat) : Bool := rbit s (R.TWI_TGT_STATE p) 16

/-- The target FIFO levels and ADDRESSED as they read. -/
def showTgt (p : Nat) (addressed : Bool) (s : State) : State :=
  let x := twiAt s p
  rset (R.TWI_TGT_STATE p) (w32 (x.rx.length + x.tx.length * 256 + b2n addressed * 65536)) s

/-- A transfer ends: DONE, STATUS, BYTES, interrupt bit 1. -/
def twiEnd (p status bytes : Nat) (s : State) : State :=
  raiseInt (twiPage p) 1 (rset (R.TWI_XSTAT p) (w32 (1 + status * 4 + bytes * 256))
    (putTwi p { twiAt s p with retryDue := false, goWaits := false } s))

/-- Byte `i` of TWI_DATA0 to 7, least significant byte first. -/
def twiData (s : State) (p i : Nat) : Byte := BitVec.ofNat 8 (rfld s (R.TWI_DATA p (i / 4)) (8 * (i % 4) + 7) (8 * (i % 4)))

def putTwiData (p : Nat) : Nat → List Byte → State → State
  | _, [], s => s
  | i, b :: bs, s => putTwiData p (i + 1) bs (rsetFld (R.TWI_DATA p (i / 4)) (8 * (i % 4) + 7) (8 * (i % 4)) b.toNat s)

/-- The transfer goes onto the bus. With SDA held low, or after a warm start, a bus clear comes first (R340). -/
def twiBegin (p : Nat) (sdaLow freed : Bool) (s : State) : State :=
  let x := twiAt s p
  let clear := x.clearFirst || sdaLow
  let s1 := putTwi p { x with clearFirst := false, goWaits := false } s
  let s2 := if clear then emit (.twiClear p) (rinc (R.TWI_CNT_CLEAR p) 1 s1) else s1
  if sdaLow && !freed then twiEnd p 5 0 (raiseErr (twiPage p) 0x16 2#32 s2)
  else emit (.twiStart p x.addr x.write x.read) s2

/-- TWI_GO (R342). -/
def twiGo (p : Nat) (value : Word) (sdaLow freed : Bool) (s : State) : State :=
  if twiBusy s p then raiseErr (twiPage p) 0x18 value s
  else if !enabled s (twiPage p) || !rbit s (R.TWI_CTRL p) 0 then s
  else
    let addr := rfld s (R.TWI_XFER p) 6 0
    let wr := (upto (rfld s (R.TWI_XFER p) 13 8)).map (twiData s p)
    let s1 := putTwi p { twiAt s p with addr := addr, write := wr, read := rfld s (R.TWI_XFER p) 21 16, retries := 0, retryDue := false } s
    if rbit s (R.TWI_ABSENT p (addr / 32)) (addr % 32) then twiEnd p 1 0 (raiseErr (twiPage p) 0x17 (w32 addr) s1)
    else
      let s2 := rset (R.TWI_XSTAT p) 2#32 s1
      if twiAddressed s p || (twiAt s p).stuck then putTwi p { twiAt s2 p with goWaits := true } s2
      else twiBegin p sdaLow freed s2

/-- A retry is due `gap` later, in ns, if there is one left; else the transfer ends as `last` says (R341, R342). -/
def twiRetryOr (p gap : Nat) (last : State → State) (s : State) : State :=
  let x := twiAt s p
  if x.retries < rfld s (R.TWI_CTRL p) 19 16 then
    putTwi p { x with retries := x.retries + 1, retryDue := true, retryAt := s.now + gap } s
  else last s

/-- Arbitration is lost. -/
def twiArb (p cause : Nat) (info : Word) (s : State) : State :=
  twiRetryOr p 0 (twiEnd p 3 0) (raiseErr (twiPage p) cause info (rinc (R.TWI_CNT_ARB p) 1 s))

/-- TWI_TRANSFER_DONE (R341, R342). -/
def twiDone (p : Nat) (e : TwiEnd) (s : State) : State :=
  let x := twiAt s p
  if !twiBusy s p || x.retryDue || x.goWaits then s
  else
    match e with
    | .ok bs => twiEnd p 0 (x.write.length + x.read) (putTwiData p 0 (bs.take x.read) s)
    | .addrNack =>
      twiRetryOr p (rfld s (R.TWI_CTRL p) 31 24 * 10000) (fun s => twiEnd p 1 0 (rsetBit (R.TWI_ABSENT p (x.addr / 32)) (x.addr % 32) true s))
        (raiseErr (twiPage p) 0x10 (w32 x.addr) s)
    | .dataNack i => twiEnd p 2 i.val (raiseErr (twiPage p) 0x11 (w32 i.val) s)
    | .arbByte bit byte => twiArb p 0x12 (w32 (bit.val + byte.val * 256)) s
    | .arbRestart => twiArb p 0x13 (w32 x.addr) s
    | .arbStop => twiArb p 0x14 (w32 x.addr) s

/-- Bytes that wait for RX take the room there is. -/
def rxFill (p : Nat) (s : State) : State :=
  let x := twiAt s p
  let n := 32 - x.rx.length
  putTwi p { x with rx := x.rx ++ x.rxWait.take n, rxWait := x.rxWait.drop n } s

/-- Bytes that are to be sent take what TX holds. -/
def txDrain (p : Nat) : Nat → State → State
  | 0, s => s
  | fuel + 1, s =>
    let x := twiAt s p
    match x.tx with
    | [] => s
    | b :: bs => if x.txWait = 0 then s else txDrain p fuel (emit (.twiByte p b) (putTwi p { x with tx := bs, txWait := x.txWait - 1 } s))

/-- Interrupt bit 2 when a FIFO needs service: RX holds bytes, or bytes are to be sent and TX is empty. -/
def tgtService (p : Nat) (s : State) : State :=
  let x := twiAt s p
  if !x.rx.isEmpty || (decide (0 < x.txWait) && x.tx.isEmpty) then raiseInt (twiPage p) 2 s else s

/-- TARGET_ADDRESSED (R343): bytes another controller writes, or how many it reads. -/
def tgtAddressed (p : Nat) (bytes : List Byte) (count : Nat) (s : State) : State :=
  if !enabled s (twiPage p) || !rbit s (R.TWI_CTRL p) 1 then s
  else
    let s1 := putTwi p { twiAt s p with rxWait := (twiAt s p).rxWait ++ bytes, txWait := (twiAt s p).txWait + count } s
    tgtService p (showTgt p true (txDrain p 33 (rxFill p s1)))

/-- TGT_STRETCH_EXPIRY (R343): the byte is NACKed, which ends the write; or 0xFF is sent. -/
def tgtExpiry (p : Nat) (s : State) : State :=
  let x := twiAt s p
  if !x.rxWait.isEmpty then
    raiseErr (twiPage p) 0x19 0#32 (rinc (R.TWI_CNT_TGT_ERR p) 1 (putTwi p { x with rxWait := [] } s))
  else if 0 < x.txWait ∧ x.tx = [] then
    raiseErr (twiPage p) 0x1A 0#32 (rinc (R.TWI_CNT_TGT_ERR p) 1 (emit (.twiByte p 0xFF#8) (putTwi p { x with txWait := x.txWait - 1 } s)))
  else s

/-! ### The commands -/

/-- TWI_GO. `sdaLow`: SDA is low while SCL is free; `freed`: it goes high within 9 clocks. -/
def execTwiGo (who : Requester) (bus : Fin 4) (value : Word) (sdaLow freed : Bool) (s : State) : Host.Outcome State Fault Refusal :=
  let addr := R.TWI_XFER bus.val
  let s1 := writeReg who addr value 0#32 s
  .next (if pageTakes addr s && bitAt value 31 then twiGo bus.val value sdaLow freed s1 else s1)

def execTwiTransferDone (bus : Fin 4) (result : TwiEnd) (s : State) : Host.Outcome State Fault Refusal := .next (twiDone bus.val result s)

/-- TWI_RETRY: the gap has passed, or the bus is free. -/
def execTwiRetry (bus : Fin 4) (s : State) : Host.Outcome State Fault Refusal :=
  .next (let x := twiAt s bus.val
    if twiBusy s bus.val && x.retryDue && decide (x.retryAt ≤ s.now) then
      emit (.twiStart bus.val x.addr x.write x.read) (rinc (R.TWI_CNT_RETRY bus.val) 1 (putTwi bus.val { x with retryDue := false } s))
    else s)

/-- STRETCH_TIMEOUT (R340). -/
def execStretchTimeout (bus : Fin 4) (s : State) : Host.Outcome State Fault Refusal :=
  .next (if twiBusy s bus.val && !(twiAt s bus.val).goWaits then
      twiEnd bus.val 4 0 (raiseErr (twiPage bus.val) 0x15 (w32 (twiAt s bus.val).addr) s)
    else s)

/-- BUS_STUCK (R340): SCL is still low 35 ms later, or SDA is low after 9 clocks. -/
def execBusStuck (bus : Fin 4) (scl sda : Bool) (s : State) : Host.Outcome State Fault Refusal :=
  .next (let p := bus.val
    if !scl && !sda then s
    else
      let s1 := raiseErr (twiPage p) 0x16 (w32 (b2n scl + 2 * b2n sda)) (putTwi p { twiAt s p with stuck := scl } s)
      if twiBusy s p && !(twiAt s p).goWaits then twiEnd p 5 0 s1 else s1)

def execTargetAddressed (bus : Fin 4) (bytes : List Byte) (count : Nat) (s : State) : Host.Outcome State Fault Refusal :=
  .next (tgtAddressed bus.val bytes count s)
def execTgtStretchExpiry (bus : Fin 4) (s : State) : Host.Outcome State Fault Refusal :=
  .next (showTgt bus.val (twiAddressed s bus.val) (tgtExpiry bus.val s))

/-- TGT_TX_PUSH: a byte into the TX FIFO; with 32 there it is lost (R343). -/
def execTgtTxPush (who : Requester) (bus : Fin 4) (value : Word) (s : State) : Host.Outcome State Fault Refusal :=
  let p := bus.val
  let addr := R.TWI_TGT_TX p
  let s1 := writeReg who addr value 0#32 s
  .next (if !pageTakes addr s then s1
    else
      let x := twiAt s1 p
      let x1 := if x.tx.length < 32 then { x with tx := x.tx ++ [BitVec.ofNat 8 value.toNat] } else x
      showTgt p (twiAddressed s1 p) (txDrain p 33 (putTwi p x1 s1)))

/-- TGT_RX_POP: the oldest byte of the RX FIFO with VALID, else VALID = 0 (R343). -/
def execTgtRxPop (who : Requester) (bus : Fin 4) (s : State) : Host.Outcome State Fault Refusal :=
  let p := bus.val
  .next (if !pageTakes (R.TWI_TGT_RX p) s then readOut who (R.TWI_TGT_RX p) 0#32 s
    else
      let x := twiAt s p
      match x.rx with
      | [] => readOut who (R.TWI_TGT_RX p) 0#32 s
      | b :: bs => readOut who (R.TWI_TGT_RX p) (w32 (b.toNat + 256))
          (showTgt p (twiAddressed s p) (rxFill p (putTwi p { x with rx := bs } s))))

/-- BUS_FREE (R340, R343): a target transaction has ended, or a stuck SCL has gone high; a GO that waits begins. -/
def execBusFree (bus : Fin 4) (sdaLow freed : Bool) (s : State) : Host.Outcome State Fault Refusal :=
  let p := bus.val
  .next (let s1 := showTgt p false (putTwi p { twiAt s p with stuck := false, rxWait := [], txWait := 0 } s)
    if (twiAt s1 p).goWaits then twiBegin p sdaLow freed s1 else s1)

end Sys2Proof.Machine
end

