-- ==== Sys2Proof/Machine/Busy.lean ====
section
/-! DEFINITION. PG_STATUS as it reads, and the observation signals of R398. -/

namespace Sys2Proof.Machine

/-- PG_STATUS as it reads. -/
def statusWord (s : State) (n : Nat) : Word := readHeader s n 0x00C

/-- The free memory and stall signals, 6 to 9 of R398, are drawn once per look. -/
def obsSignal (s : State) (block sig : Nat) : Bool :=
  let n := pg block (sig / 16 % 16)
  let k := sig % 16
  if block = 0 ∨ !pageThere s n then false
  else if k = 0 then true
  else if k = 1 then bitAt (statusWord s n) 1
  else if k = 2 then idleRead s n
  else if k = 3 then leaveHeld s n
  else if k = 4 then rbit s (hdrIntStat n) 0
  else if k = 5 then rbit s (hdrStatus n) 4
  else if k ≤ 9 then Config.stallSignal s.drawn n k
  else if k = 10 then pageRequest s n
  else if k = 11 then false
  else rbit s (hdrIntRaw n) (k - 11)

/-- A ball of the test multiplexer (R404): low while its scope is closed, and through every reset. -/
def tmuxBall (s : State) (m : Nat) : Bool :=
  rbit s R.DBG_LOCK 1 && decide (s.plt.phase = .running) && pageThere s (pg 18 0) &&
    obsSignal s (rfld s (R.DBG_TMUX_SEL m) 12 8) (rfld s (R.DBG_TMUX_SEL m) 7 0)

end Sys2Proof.Machine
end

