-- ==== Sys2Proof/Machine/Cnt.lean ====
section
/-! DEFINITION. Event counters, synchronised snapshots and the user page (R398 to R402). -/

namespace Sys2Proof.Machine

/-! ### Counting (R399) -/

/-- Cycles per ns of a domain of R16, as a fraction. CK_AUD follows its DCO; recovered clocks are taken as nominal. -/
def domainRate (s : State) (d : Nat) : Nat × Nat :=
  if d = 0 then (5, 4)
  else if d = 2 then (11, 10)
  else if d = 4 then (4, 5)
  else if d = 5 then (1, 5)
  else if d = 6 then
    ((if rbit s R.AUD_DCO 0 then 983040 else 903168) * (64000000 + signedOf 16 (rfld s R.AUD_DCO_STATE 31 16)).toNat, 10000000 * 64000000)
  else if d = 8 then (53125, 64000)
  else (1, 1)

/-- Cycles of a domain that end in the ns that ends at `now`. -/
def cyclesNow (s : State) (d : Nat) : Nat :=
  let (n, k) := domainRate s d
  s.now * n / k - (s.now - 1) * n / k

/-- SEL registers: block index 0 to 17, counter 0 to 7. -/
def selAddr (block c : Nat) : Nat := R.CNT_SEL (block / 2) (block % 2) c
def valAddr (block c : Nat) : Nat := R.CNT_VAL (block / 2) (block % 2) c

/-- What a counter looks at: a signal, or PG_SEQ for the register writes applied. -/
def counterLook (s : State) (block sig : Nat) : Nat :=
  if sig % 16 = 11 then (if pageThere s (pg (block + 1) (sig / 16 % 16)) then rnat s (hdrSeq (pg (block + 1) (sig / 16 % 16))) else 0)
  else b2n (obsSignal s (block + 1) sig)

/-- What a counter adds in this ns: transitions, cycles high, or writes applied (each high for one cycle). -/
def counterAdds (s : State) (block sel : Nat) (was now_ : Nat) : Nat :=
  if sel % 256 % 16 = 11 then (now_ + 2 ^ 32 - was) % 2 ^ 32
  else if bitsOf sel 8 8 = 0 then (if now_ = 1 ∧ was = 0 then 1 else 0)
  else now_ * cyclesNow s (domainOf (block + 1))

/-- One enabled counter counts. -/
def counterTick (block c : Nat) (s : State) : State :=
  let a := selAddr block c
  let sel := rnat s a
  let look := counterLook s block (sel % 256)
  let k := counterAdds s block sel (smGet look s.cnt.seen a) look
  let s1 := setCnt { s.cnt with seen := smPut s.cnt.seen a look } s
  if k = 0 then s1 else rset2 (valAddr block c) ((rnat2 s1 (valAddr block c) + k) % 2 ^ 48) s1

/-- Every enabled counter counts; the free signals are drawn afresh. -/
def countersTick (s : State) : State :=
  let on := (upto 18).flatMap fun b => ((upto 8).filter fun c => rbit s (selAddr b c) 9).map fun c => (b, c)
  if on.isEmpty then s else draw (on.foldl (fun s x => counterTick x.1 x.2 s) s)

/-- A counter starts from 0 as it is selected. -/
def counterSelected (block c : Nat) (s : State) : State :=
  let a := selAddr block c
  rset2 (valAddr block c) 0
    (setCnt { s.cnt with seen := smPut s.cnt.seen a (counterLook s block (rnat s a % 256)), reconfigured := true } s)

/-- A write of a counter's SEL register. -/
def counterSelect (who : Requester) (block c : Nat) (value : Word) (s : State) : State :=
  let s1 := writeReg who (selAddr block c) value 0#32 s
  if pageTakes (selAddr block c) s then counterSelected block c s1 else s1

/-- COUNTER_SELECT (R399). -/
def execCounterSelect (who : Requester) (block : Fin 18) (counter : Fin 8) (value : Word) (s : State) : Host.Outcome State Fault Refusal :=
  .next (counterSelect who block.val counter.val value s)

/-- A write of a block's CLEAR. -/
def counterClear (who : Requester) (block : Nat) (value : Word) (s : State) : State :=
  let a := R.CNT_CLEAR (block / 2) (block % 2)
  let s1 := writeReg who a value 0#32 s
  if pageTakes a s && bitAt value 0 then (upto 8).foldl (fun s c => rset2 (valAddr block c) 0 s) s1 else s1

/-- COUNTER_CLEAR (R399). -/
def execCounterClear (who : Requester) (block : Fin 18) (value : Word) (s : State) : Host.Outcome State Fault Refusal :=
  .next (counterClear who block.val value s)

/-! ### Snapshots (R400, R401) -/

/-- S_k in 2^-16 ns. -/
def snapshotAt (s : State) (k : Nat) : Nat := rlong s R.CNT_FIRST + k * (rfld s R.CNT_PERIOD 19 0 * 1000 * 65536)

/-- EN rises: from the earliest S_k at least 10 µs ahead, where FIRST has passed. -/
def snapshotEnable (s : State) : State :=
  let first := rlong s R.CNT_FIRST
  let period := rfld s R.CNT_PERIOD 19 0 * 1000 * 65536
  let soon := merNow s + 10000 * 65536
  let k := if merNow s ≤ first ∨ period = 0 then 0 else (soon - first + period - 1) / period
  setCnt { s.cnt with next := k } s

def maskBlocks (s : State) : List Nat := (upto 18).filter fun b => rbit s R.CNT_MASK b

def blockCounts (s : State) (b : Nat) : List Nat := (upto 8).map fun c => rnat2 s (valAddr b c) % 2 ^ 48

/-- The record of snapshot `k`. -/
def snapshotBytes (s : State) (k : Nat) : List Byte :=
  let blocks := maskBlocks s
  let len := (64 + 48 * blocks.length + 63) / 64 * 64
  let breaks := rfld s R.MER_EPOCH_BREAKS 15 0
  let flags := b2n (decide (0 < s.cnt.skipped)) + 2 * b2n s.cnt.reconfigured + 4 * b2n (decide (breaks ≠ s.cnt.breaks)) +
    8 * b2n (rbit s R.MER_STATE 8)
  let head := leBytes 4 len ++ leBytes 4 k ++ longBytes (snapshotAt s k) ++ leBytes 4 (rfld s R.CNT_MASK 17 0) ++
    leBytes 1 flags ++ List.replicate 3 0#8 ++ leBytes 4 s.cnt.skipped ++ List.replicate 32 0#8
  let body := blocks.flatMap fun b => (blockCounts s b).flatMap (leBytes 6)
  head ++ body ++ List.replicate (len - 64 - 48 * blocks.length) 0#8

/-- Free space of the ring, with its margin of 64 bytes (R423). -/
def dumpFree (s : State) : Nat :=
  let size := rnat s R.CNT_SIZE
  if size = 0 then 0 else size - (rnat s R.CNT_WR + size - rnat s R.CNT_RD % size) % size - 64

/-- A snapshot is skipped and counted. -/
def snapshotSkip (cause k : Nat) (s : State) : State :=
  raiseInt (pg 17 0) 2 (raiseErr (pg 17 0) cause (w32 k)
    (rinc R.CNT_CNT_SKIP 1 (setCnt { s.cnt with skipped := s.cnt.skipped + 1 } s)))

/-- Snapshot `k`: reserved, or skipped. -/
def snapshotTake (k : Nat) (s : State) : State :=
  if s.cnt.writing.isSome then snapshotSkip 0x11 k s
  else
    let bytes := snapshotBytes s k
    if dumpFree s < bytes.length then snapshotSkip 0x10 k s
    else
      setCnt { s.cnt with
        writing := some { bytes := bytes, at16 := snapshotAt s k, values := (maskBlocks s).map fun b => (b, blockCounts s b) }
        skipped := 0
        reconfigured := false
        breaks := rfld s R.MER_EPOCH_BREAKS 15 0 } s

/-- SNAPSHOT (R400): at S_k, every counter of every block in MASK. -/
def execSnapshot (s : State) : Host.Outcome State Fault Refusal :=
  let k := s.cnt.next
  .next (if rbit s R.CNT_CTRL 0 ∧ pageThere s (pg 17 0) ∧ !blockResetting s (pg 17 0) ∧ snapshotAt s k ≤ merNow s then
      snapshotTake k (setCnt { s.cnt with next := k + 1 } s)
    else s)

/-- The user page takes a snapshot (R402): USEQ is odd while it does. -/
def userUpdate (r : CntRecord) (s : State) : State :=
  setCnt { s.cnt with
    userTime := r.at16
    useq := (s.cnt.useq + 2) % 2 ^ 32
    user := r.values.foldl (fun m e => smPut m e.1 e.2) s.cnt.user } s

/-- The record is in the ring: WR, then VEC, then the user page. -/
def snapshotDone (r : CntRecord) (s : State) : State :=
  let size := rnat s R.CNT_SIZE
  let wr := rnat s R.CNT_WR
  let s1 := ringWrite (rbit s R.CNT_CTRL 1) (rnat2 s R.CNT_BASE) size wr r.bytes (setCnt { s.cnt with writing := none } s)
  let s2 := raiseInt (pg 17 0) 1 (rset R.CNT_WR (w32 (if size = 0 then wr else (wr + r.bytes.length) % size)) s1)
  userUpdate r (sourceVector (rfld s2 R.CNT_CTRL 31 21) s2)

/-- SNAPSHOT_RECORD_DONE (R401, R402). -/
def execSnapshotRecordDone (s : State) : Host.Outcome State Fault Refusal :=
  .next (match s.cnt.writing with | none => s | some r => snapshotDone r s)

/-- A 32-bit read of BAR2 (R30, R402). -/
def userRead (s : State) (off : Nat) : Word :=
  if !rbit s R.CNT_USER_PERMIT 31 || !s.fabricOpen then 0#32
  else if off < 12 then nth 0#32 [(longWords s.cnt.userTime).1, (longWords s.cnt.userTime).2.1, (longWords s.cnt.userTime).2.2] (off / 4)
  else if off < 16 then w32 s.cnt.useq
  else
    let b := (off - 0x40) / 0x40
    if off < 0x40 ∨ 18 ≤ b ∨ !rbit s R.CNT_USER_PERMIT b then 0#32
    else
      let v := nth 0 (smGet [] s.cnt.user b) (off % 0x40 / 8)
      w32 (if off % 8 < 4 then v else v / 2 ^ 32)

end Sys2Proof.Machine
end

