-- ==== Sys2Proof/Machine/ClrCmds.lean ====
section
/-! DEFINITION. The meanings of the colour engine's commands and events. -/

namespace Sys2Proof.Machine

/-- PIPELINE_LINE (R90): nothing happens until the lines it depends on have entered. A mismatch counts only while the spare shadows this pipeline (R92, R93). -/
def execPipelineLine (pipe : Fin 2) (mismatch : Bool) (overrun : BitVec 4) (s : State) : Host.Outcome State Fault Refusal :=
  let p := pipe.val
  .next (match emitting (clrAt s p) with
    | none => s
    | some f =>
      if !lineReady f p then s
      else if mismatch && spareChecking s && s.clrSpare.shadowing && decide ((spareFor s).1 = p) then sliceMismatch p f s
      else emitLine p overrun f s)

/-- The spare failed its test: it is retired, and nothing waits for it any more (R93). -/
def spareRetire (p k : Nat) (s : State) : State :=
  raiseErr (pg 3 2) 0x17 (w32 (p * 256 + k)) (setSpareState 3 { s with clrSpare := { s.clrSpare with take := none } })

/-- KNOWN_ANSWER_TEST_DONE (R93). DESIGN CHOICE (log 131): a FORCE that was accepted before the mismatch waits through the test; it
takes place after it when both pass, and gives way to the failed slice or to the spare's retirement. -/
def execKnownAnswerTestDone (slicePass sparePass : Bool) (s : State) : Host.Outcome State Fault Refusal :=
  .next (match s.clrSpare.testing with
    | none => s
    | some (p, k) =>
      let s1 := { s with clrSpare := { s.clrSpare with testing := none, shadowing := false } }
      if !slicePass && sparePass then
        setSpareState 2 { s1 with clrSpare := { s1.clrSpare with take := some (p, k) } }
      else if slicePass && !sparePass then spareRetire p k s1
      else if slicePass && sparePass then
        (let n := (p * 16 + k + 1) % 32
         setSpareState 0 (setSpareFor (n / 16) (n % 16) (rinc R.CLR_CNT_TRANSIENT 1 s1)))
      else spareRetire p k { s1 with clrSpare := { s1.clrSpare with failed := s1.clrSpare.failed ++ [(p, k)] } })

/-- CHECK_EN decides between checking and off while the spare is free (R92). -/
def spareCheckEn (s : State) : State :=
  if spareState s = 0 ∧ rbit s R.CLR_SPARE 16 then s
  else if spareState s = 0 ∨ spareState s = 4 then
    setSpareState (if rbit s R.CLR_SPARE 16 then 0 else 4) { s with clrSpare := { s.clrSpare with shadowing := false } }
  else s

/-- CLR_FORCE (R94): a write of CLR_SPARE with FORCE = 1. -/
def execClrForce (who : Requester) (value : Word) (s : State) : Host.Outcome State Fault Refusal :=
  let taken := pageTakes R.CLR_SPARE s
  let s0 := writeReg who R.CLR_SPARE value 0#32 s
  let s1 := if taken then spareCheckEn s0 else s0
  .next (if !taken || !bitAt value 24 then s1
    else if (spareState s1 = 0 ∨ spareState s1 = 4) ∧ s1.clrSpare.take = none then
      { s1 with clrSpare := { s1.clrSpare with take := some (getBits value 19 19, getBits value 23 20) } }
    else raiseErr (pg 3 2) 0x18 (w32 (spareState s1)) s1)

/-- CLR_RELEASE (R94): a write of CLR_SPARE with RELEASE = 1 returns the spare at the next accepted SOF. -/
def execClrRelease (who : Requester) (value : Word) (s : State) : Host.Outcome State Fault Refusal :=
  let taken := pageTakes R.CLR_SPARE s
  let s0 := writeReg who R.CLR_SPARE value 0#32 s
  let s1 := if taken then spareCheckEn s0 else s0
  .next (if taken && bitAt value 25 && decide (spareState s1 = 2) then
      { s1 with clrSpare := { s1.clrSpare with giveBack := true } }
    else s1)

/-- While a calibration runs, a write of CLR_DARK_CTRL leaves [1:0] as they are and raises E_CAL_BUSY (R83). DESIGN CHOICE (log
129): a register write covers [1:0] whatever it holds there, so a CANCEL raises it too. -/
def darkWrite (who : Requester) (p : Nat) (value : Word) (s : State) : State :=
  let addr := R.CLR_DARK_CTRL p
  if calState s p = 0 then writeReg who addr value 0#32 s
  else
    let s1 := writeReg who addr value 3#32 s
    if pageTakes addr s then raiseErr (pg 3 p) 0x12 value s1 else s1

/-- DARK_CAL_START (R81, R82): a write of CLR_DARK_CTRL with START = 1 begins accumulating 2^FRAMES frames. -/
def execDarkCalStart (who : Requester) (pipe : Fin 2) (value : Word) (s : State) : Host.Outcome State Fault Refusal :=
  let p := pipe.val
  let taken := pageTakes (R.CLR_DARK_CTRL p) s
  let s1 := darkWrite who p value s
  .next (if taken && bitAt value 8 && decide (calState s p = 0) then
      setClr p { clrAt s1 p with cal := some { target := 2 ^ rfld s1 (R.CLR_DARK_CTRL p) 14 12, taken := 0 } }
        (setCalState p 1 (rset (R.CLR_CAL_RESULT p) 0#32 s1))
    else s1)

/-- The calibration's verdict over the sums (R82, R83). -/
def calFinish (p w h n : Nat) (s : State) : State :=
  let ms := calMeans s p w h n
  let cnt := w * h
  let sum := ms.foldl (· + ·) (0 : Int)
  let sq := ms.foldl (fun a m => a + m * m) (0 : Int)
  let mean := f32OfRat sum cnt
  let var := f32OfRat ((cnt : Int) * sq - sum * sum) (cnt * cnt)
  let hot := (ms.filter fun m => decide ((rfld s (R.CLR_CAL_HOT_THR p) 15 0 : Int) < m)).length
  let badMean := !f32Le mean (rget s (R.CLR_CAL_MEAN_MAX p))
  let badVar := !f32Le var (rget s (R.CLR_CAL_VAR_MAX p))
  let badHot := decide (rnat s (R.CLR_CAL_HOT_MAX p) < hot)
  let s1 := rset (R.CLR_CAL_MEAS_HOT p) (w32 hot) (rset (R.CLR_CAL_MEAS_VAR p) var (rset (R.CLR_CAL_MEAS_MEAN p) mean
    (setClr p { clrAt s p with cal := none } s)))
  let s2 := if badMean || badVar || badHot then
      (let res := w32 (2 + b2n badMean * 16 + b2n badVar * 32 + b2n badHot * 64)
       raiseErr (pg 3 p) 0x10 res (setCalState p 0 (rset (R.CLR_CAL_RESULT p) res s1)))
    else
      (let other := if ubit s1 (R.CLR_DARK_CTRL p) 1 then unat2 s1 (R.CLR_DARK_BASE0 p) else unat2 s1 (R.CLR_DARK_BASE1 p)
       let stride := unat s1 (R.CLR_DARK_STRIDE p)
       let put := (upto cnt).foldl (fun s k =>
         memWrite false (other + k / w * stride + 2 * (k % w)) (leBytes 2 (unsignedOf 16 (clampSigned 16 (nth 0 ms k)))) s) s1
       setCalState p 3 (rset (R.CLR_CAL_RESULT p) (w32 1) put))
  raiseInt (pg 3 p) 1 s2

/-- CAL_DONE (R82, R83): every frame is accumulated; the map is judged, written and reported. A poisoned scratch read aborts (R426). -/
def execCalDone (pipe : Fin 2) (s : State) : Host.Outcome State Fault Refusal :=
  let p := pipe.val
  let w := ufld s (R.SIU_LINECFG p) 15 0 + 1
  let h := ufld s (R.SIU_LINECFG p) 29 16 + 1
  .next (match (clrAt s p).cal with
    | none => s
    | some c =>
      if c.taken < c.target then s
      else
        let a := rnat2 s (R.CLR_CAL_SCRATCH p)
        let s := memSee false (4 * w * h) a s
        if memPoisoned s false (4 * w * h) a then calAbort p s else calFinish p w h c.target s)

/-- DARK_CAL_CANCEL (R83): a write of CLR_DARK_CTRL with CANCEL = 1. -/
def execDarkCalCancel (who : Requester) (pipe : Fin 2) (value : Word) (s : State) : Host.Outcome State Fault Refusal :=
  let p := pipe.val
  let taken := pageTakes (R.CLR_DARK_CTRL p) s
  let s1 := darkWrite who p value s
  .next (if taken && bitAt value 9 then calAbort p s1 else s1)

/-- TAP_PUBLISH (R95, R423): the next record written whole is published. -/
def execTapPublish (pipe : Fin 2) (s : State) : Host.Outcome State Fault Refusal :=
  let p := pipe.val
  let (r, s1) := ringPublish (tapRegs p) (·.vec) (clrAt s p).ring s
  .next (setClr p { clrAt s1 p with ring := r } s1)

/-- Set the state of a LUT bank in CLR_LUT_CTRL (R106). -/
def setLutState (p bank v : Nat) (s : State) : State :=
  if bank = 0 then rsetFld (R.CLR_LUT_CTRL p) 9 8 v s else rsetFld (R.CLR_LUT_CTRL p) 11 10 v s

/-- LUT_LOAD (R106): a write of CLR_LUT_LOAD with START = 1. -/
def execLutLoad (who : Requester) (pipe : Fin 2) (value : Word) (s : State) : Host.Outcome State Fault Refusal :=
  let p := pipe.val
  let n := pg 3 (3 + p)
  let taken := pageTakes (R.CLR_LUT_LOAD p) s
  let s1 := writeReg who (R.CLR_LUT_LOAD p) value 0#32 s
  let bank := getBits value 1 1
  let info := w32 (p * 256 + bank)
  .next (if !taken || !bitAt value 0 then s1
    else if ufld s1 (R.CLR_LUT_CTRL p) 1 1 = bank ∨ (commitPending s1 n ∧ rfld s1 (R.CLR_LUT_CTRL p) 1 1 = bank) then
      raiseErr n 0x20 info s1
    else if (clrAt s1 p).loading ≠ none then raiseErr n 0x21 info s1
    else setLutState p bank 1 (setClr p { clrAt s1 p with loading := some bank, loadSrc := rnat2 s1 (R.CLR_LUT_SRC p) } s1))

/-- Entries `i …` of a cube image into a bank, up to the first that ends the load; that entry's index, and whether it was poisoned (R106). -/
def loadCube (s : State) (src : Nat) : Nat → Nat → List (Nat × Nat) → List (Nat × Nat) × Option (Nat × Bool)
  | 0, _, bank => (bank, none)
  | n + 1, i, bank =>
    let a := src + 6 * i
    if memPoisoned s false 6 a then (bank, some (i, true))
    else
      let v := memNat s false 6 a
      if !(f16IsFinite (p48R v) && f16IsFinite (p48G v) && f16IsFinite (p48B v)) then (bank, some (i, false))
      else loadCube s src n (i + 1) (smSet 0 bank i v)

/-- LUT_LOAD_DONE (R106): the load ends, READY or INVALID. A block reset that runs has ended it already. -/
def execLutLoadDone (pipe : Fin 2) (s : State) : Host.Outcome State Fault Refusal :=
  let p := pipe.val
  let c := clrAt s p
  .next (match (if blockResetting s (pg 3 0) then none else c.loading) with
    | none => s
    | some b =>
      let n := pg 3 (3 + p)
      let (bank, bad) := loadCube s c.loadSrc 274625 0 (if b = 0 then c.lut0 else c.lut1)
      let c1 := if b = 0 then { c with lut0 := bank, loading := none } else { c with lut1 := bank, loading := none }
      let s1 := setClr p c1 (match bad with | some (i, true) => memSee false 6 (c.loadSrc + 6 * i) s | _ => memWake s)
      match bad with
      | none => raiseInt n 1 (setLutState p b 0 s1)
      | some (i, poisoned) => raiseErr n (if poisoned then 0x23 else 0x22) (w32 i) (setLutState p b 2 s1))

/-- OT_PUBLISH (R113, OP10): output 1 to 3 advances WR_IDX past a buffer written whole, then sends its vector. OT0 publishes through CNV. -/
def execOtPublish (pipe : Fin 2) (output : Fin 4) (s : State) : Host.Outcome State Fault Refusal :=
  let p := pipe.val
  let n := output.val
  let c := clrAt s p
  .next (match c.otWait.find? (·.output == n) with
    | some b =>
      let s1 := setClr p { c with otWait := c.otWait.erase b } s
      let s2 := rsetFld (R.CLR_OT_WR_IDX p n) 5 0 ((rfld s1 (R.CLR_OT_WR_IDX p n) 5 0 + 1) % b.count) s1
      sourceVector b.vec (raiseInt (pg 3 (5 + p)) n s2)
    | none => s)

/-- An entry of a custom transfer table is written; the table is VALID once every entry has been (R122). -/
def tableEntry (p t i : Nat) (v : F32) (s : State) : State :=
  let c := clrAt s p
  let w := setInsert (nth [] c.written t) i
  let s1 := setClr p { c with tables := setNth c.tables t (smSet f32Zero (nth [] c.tables t) i v),
                              written := setNth c.written t w } s
  if w.length = 993 then rsetBit R.CLR_TW_VALID (4 * p + t) true s1 else s1

/-- The next entry of the table window (R122). -/
def tableIndexOn (s : State) : State := rsetFld R.CLR_TW_INDEX 18 0 (rfld s R.CLR_TW_INDEX 18 0 + 1) s

/-- TABLE_WRITE (R122): a write of CLR_TW_DATA_HI applies the entry at INDEX, then INDEX increments. -/
def execTableWrite (who : Requester) (value : Word) (s : State) : Host.Outcome State Fault Refusal :=
  let addr := R.CLR_TW_DATA + 4
  let taken := pageTakes addr s
  let s1 := writeReg who addr value 0#32 s
  let p := rfld s1 R.CLR_TW_SEL 0 0
  let t := rfld s1 R.CLR_TW_SEL 3 1
  let i := rfld s1 R.CLR_TW_INDEX 18 0
  let v := rnat2 s1 R.CLR_TW_DATA
  let c := clrAt s1 p
  let n := pg 3 7
  .next (if !taken then s1
    else if t ≤ 1 then
      (let active := decide (ufld s1 (R.CLR_LUT_CTRL p) 1 1 = t) ||
         (commitPending s1 (pg 3 (3 + p)) && decide (rfld s1 (R.CLR_LUT_CTRL p) 1 1 = t)) || decide (c.loading = some t)
       let e := v % 2 ^ 48
       if active then tableIndexOn (raiseErr n 0x28 (w32 t) s1)
       else if 274625 ≤ i ∨ !(f16IsFinite (p48R e) && f16IsFinite (p48G e) && f16IsFinite (p48B e)) then
         tableIndexOn (raiseErr n causeRange (w32 (addr % 0x1000)) s1)
       else tableIndexOn (setClr p (if t = 0 then { c with lut0 := smSet 0 c.lut0 i e } else { c with lut1 := smSet 0 c.lut1 i e }) s1))
    else
      (let o := t - 1
       let active := ubit s1 (R.CLR_OT_CTRL p o) 0 && decide (ufld s1 (R.CLR_OT_CTRL p o) 6 4 = 4)
       if active then tableIndexOn (raiseErr n 0x28 (w32 t) s1)
       else if 993 ≤ i ∨ !f32IsFinite (w32 v) then tableIndexOn (raiseErr n causeRange (w32 (addr % 0x1000)) s1)
       else tableIndexOn (tableEntry p (o - 1) i (w32 v) s1)))

end Sys2Proof.Machine
end

