-- ==== Sys2Proof/Machine/Deflate.lean ====
section
/-! DEFINITION. RFC 1951 streams, both ways (R263). -/

namespace Sys2Proof.Machine

/-- Bits of a stream, least significant first. -/
def lsbBits (bs : List Byte) : List Bool := bs.flatMap fun b => (upto 8).map fun i => decide (b.toNat / 2 ^ i % 2 = 1)

/-- `n` bits as a number, the first the least significant. -/
def takeLsb (n : Nat) (bs : List Bool) : Option (Nat × List Bool) :=
  if bs.length < n then none else some ((bs.take n).foldr (fun b a => b2n b + 2 * a) 0, bs.drop n)

/-- The inflater: what is left of the input, and the output, newest byte first. -/
structure Inflate where
  bits : List Bool
  out : List Byte
  deriving DecidableEq, Repr

def lenBase : List Nat := [3, 4, 5, 6, 7, 8, 9, 10, 11, 13, 15, 17, 19, 23, 27, 31, 35, 43, 51, 59, 67, 83, 99, 115, 131, 163, 195, 227, 258]
def lenExtra : List Nat := [0, 0, 0, 0, 0, 0, 0, 0, 1, 1, 1, 1, 2, 2, 2, 2, 3, 3, 3, 3, 4, 4, 4, 4, 5, 5, 5, 5, 0]
def distBase : List Nat := [1, 2, 3, 4, 5, 7, 9, 13, 17, 25, 33, 49, 65, 97, 129, 193, 257, 385, 513, 769, 1025, 1537, 2049, 3073, 4097, 6145, 8193, 12289, 16385, 24577]
def distExtra : List Nat := [0, 0, 0, 0, 1, 1, 2, 2, 3, 3, 4, 4, 5, 5, 6, 6, 7, 7, 8, 8, 9, 9, 10, 10, 11, 11, 12, 12, 13, 13]
def codeOrder : List Nat := [16, 17, 18, 0, 8, 7, 9, 6, 10, 5, 11, 4, 12, 3, 13, 2, 14, 1, 15]

/-- The fixed code lengths. -/
def fixedLens : List Nat := List.replicate 144 8 ++ List.replicate 112 9 ++ List.replicate 24 7 ++ List.replicate 8 8
def fixedDist : List Nat := List.replicate 30 5

/-- `n` bytes copied from `d` back; the output is newest first. -/
def copyBack (d : Nat) : Nat → List Byte → List Byte
  | 0, out => out
  | n + 1, out => copyBack d n (nth 0#8 out (d - 1) :: out)

/-- Symbols up to the end of a block; what is left where it fails. -/
def inflateSymbols (ll dd : List Nat) : Nat → Inflate → Except Inflate Inflate
  | 0, z => .error z
  | fuel + 1, z =>
    match readCode ll 15 0 0 z.bits with
    | none => .error z
    | some (sym, b1) =>
      if sym < 256 then inflateSymbols ll dd fuel { bits := b1, out := BitVec.ofNat 8 sym :: z.out }
      else if sym = 256 then .ok { z with bits := b1 }
      else if 285 < sym then .error z
      else
        match takeLsb (nth 0 lenExtra (sym - 257)) b1 with
        | none => .error z
        | some (e, b2) =>
          match readCode dd 15 0 0 b2 with
          | none => .error z
          | some (ds, b3) =>
            if 29 < ds then .error z
            else
              match takeLsb (nth 0 distExtra ds) b3 with
              | none => .error z
              | some (f, b4) =>
                let d := nth 0 distBase ds + f
                if z.out.length < d then .error z
                else inflateSymbols ll dd fuel { bits := b4, out := copyBack d (nth 0 lenBase (sym - 257) + e) z.out }

/-- `n` code lengths of a dynamic block. -/
def readLens (cl : List Nat) (n : Nat) : Nat → List Nat → List Bool → Option (List Nat × List Bool)
  | 0, _, _ => none
  | fuel + 1, acc, bs =>
    if n = acc.length then some (acc, bs)
    else if n < acc.length then none
    else
      match readCode cl 7 0 0 bs with
      | none => none
      | some (sym, b1) =>
        if sym < 16 then readLens cl n fuel (acc ++ [sym]) b1
        else
          let (bits, base, v) := if sym = 16 then (2, 3, acc.getLast?) else if sym = 17 then (3, 3, some 0) else (7, 11, some 0)
          match takeLsb bits b1, v with
          | some (k, b2), some x => readLens cl n fuel (acc ++ List.replicate (base + k) x) b2
          | _, _ => none

/-- A set of code lengths oversubscribes no length. -/
def lensOk (lens : List Nat) : Bool := decide (lens.foldl (fun a l => if l = 0 then a else a + 2 ^ (15 - l)) 0 ≤ 2 ^ 15)

/-- The tables of a dynamic block. -/
def dynamicTables (bs : List Bool) : Option (List Nat × List Nat × List Bool) :=
  match takeLsb 14 bs with
  | none => none
  | some (h, b1) =>
    let hlit := h % 32 + 257
    let hdist := h / 32 % 32 + 1
    let hclen := h / 1024 + 4
    match takeLsb (3 * hclen) b1 with
    | none => none
    | some (v, b2) =>
      let given := (upto hclen).map fun i => (nth 0 codeOrder i, v / 8 ^ i % 8)
      let cl := (upto 19).map fun k => match given.find? (fun e => e.1 == k) with | some e => e.2 | none => 0
      match (if lensOk cl then readLens cl (hlit + hdist) 400 [] b2 else none) with
      | none => none
      | some (ls, b3) =>
        let ll := ls.take hlit
        let dd := ls.drop hlit
        if lensOk ll && lensOk dd && decide (nth 0 ll 256 ≠ 0) then some (ll, dd, b3) else none

/-- Blocks up to the final one. -/
def inflateBlocks (total : Nat) : Nat → Inflate → Except Inflate Inflate
  | 0, z => .error z
  | fuel + 1, z =>
    match takeLsb 3 z.bits with
    | none => .error z
    | some (h, b1) =>
      let r : Except Inflate Inflate := match h / 2 with
        | 0 =>
          -- a stored block begins at the next byte
          let b2 := b1.drop (b1.length % 8)
          (match takeLsb 32 b2 with
           | none => .error z
           | some (v, b3) =>
             let len := v % 65536
             if len + v / 65536 ≠ 65535 ∨ b3.length < 8 * len then .error z
             else
               let bytes := (upto len).map fun i => BitVec.ofNat 8 (((b3.drop (8 * i)).take 8).foldr (fun b a => b2n b + 2 * a) 0)
               .ok { bits := b3.drop (8 * len), out := bytes.reverse ++ z.out })
        | 1 => inflateSymbols fixedLens fixedDist total { z with bits := b1 }
        | 2 =>
          (match dynamicTables b1 with
           | none => .error z
           | some (ll, dd, b2) => inflateSymbols ll dd total { z with bits := b2 })
        | _ => .error z
      match r with
      | .error e => .error e
      | .ok z1 => if h % 2 = 1 then .ok z1 else inflateBlocks total fuel z1

/-- A DEFLATE stream decompressed; on a fault the byte offset in the input where it stood. -/
def inflate (bs : List Byte) : Except Nat (List Byte) :=
  let bits := lsbBits bs
  match inflateBlocks (bits.length + 1) (bits.length + 1) { bits := bits, out := [] } with
  | .ok z => .ok z.out.reverse
  | .error z => .error ((bits.length - z.bits.length) / 8)

/-- Stored blocks of at most 65,535 bytes; the last is final. -/
def storedBlocks : Nat → List Byte → List Byte
  | 0, _ => []
  | fuel + 1, bs =>
    let last := decide (bs.length ≤ 65535)
    let b := bs.take 65535
    leBytes 1 (b2n last) ++ leBytes 2 b.length ++ leBytes 2 (65535 - b.length) ++ b ++
      (if last then [] else storedBlocks fuel (bs.drop 65535))

/-- What a DEFLATE lane emits: LEVEL 0 stored blocks only; above it CMP's own choice, which decompresses to the input and is never longer. -/
def deflate (level : Nat) (bs : List Byte) : List Byte :=
  let stored := storedBlocks (bs.length / 65535 + 1) bs
  if level = 0 then stored
  else
    let z := Config.deflateBytes level bs
    match inflate z with
    | .ok out => if out = bs ∧ z.length ≤ stored.length then z else stored
    | .error _ => stored

end Sys2Proof.Machine
end

