-- ==== Sys2Proof/Machine/Cmp.lean ====
section
/-! DEFINITION. The compression engine: lanes, jobs, host queues, ring output and pausing, and its commands (R254 to R270). -/

namespace Sys2Proof.Machine

/-! ### Descriptors (R265) -/

def descField (d : List Byte) (k i : Nat) : Nat := leNat ((d.drop i).take k)
def descOp (d : List Byte) : Nat := bitsOf (descField d 4 0) 3 0
def descTable (d : List Byte) : Nat := bitsOf (descField d 4 0) 7 4
def descRing (d : List Byte) : Bool := decide (bitsOf (descField d 4 0) 9 9 = 1)
def descVec (d : List Byte) : Nat := bitsOf (descField d 4 0) 31 21
def descTag (d : List Byte) : Nat := descField d 4 44

/-- What a KPC encode descriptor tells the encoder, but for its static table. -/
def descHead (d : List Byte) (table : List Nat) : KpcHeader :=
  let w1 := descField d 4 4
  { p48 := decide (w1 % 2 = 1), w := descField d 2 8 + 1, h := descField d 2 10 + 1, depth := bitsOf w1 12 8,
    dx := bitsOf w1 19 16, dy := bitsOf w1 23 20, dynamic := decide (bitsOf (descField d 4 0) 8 8 = 1), table := table,
    prefixBytes := descField d 4 28, lineBytes := descField d 4 12 }

/-- Every field of a descriptor is in range. -/
def descOk (d : List Byte) : Bool :=
  let k := descHead d []
  let v := descVec d
  decide (v = 0 ∨ (288 ≤ v ∧ v ≤ 2047)) && decide (descOp d ≤ 3) && decide (descOp d ≠ 0 ∨ descTable d ≤ 7) &&
    (decide (descOp d ≠ 0) ||
      ((if k.p48 then decide (k.depth = 16 ∧ k.dx = 1 ∧ k.dy = 1)
        else decide ((k.depth = 10 ∨ k.depth = 12 ∨ k.depth = 14 ∨ k.depth = 16) ∧ 1 ≤ k.dx ∧ k.dx ≤ 8 ∧ 1 ≤ k.dy ∧ k.dy ≤ 8)) &&
       decide (k.lineBytes % 32 = 0 ∧ kpcPerLine k * k.depth ≤ 8 * k.lineBytes ∧
         descField d 4 24 = k.prefixBytes + k.h * k.lineBytes)))

/-! ### Lanes -/

/-- A lane takes jobs: CMP is enabled, not held idle, and the lane holds its grant. -/
def laneTakes (s : State) (k : Nat) : Bool := enabled s (pg 11 0) && !idleReq s (pg 11 0) && granted s (12 + k)
def laneRun (s : State) (k : Nat) : Option CmpRun := nth none s.cmp.lanes k
def lanePaused (s : State) (k : Nat) : Bool := rbit s R.CMP_LANE_STATE (16 + k)

def setLaneRun (k : Nat) (r : Option CmpRun) (s : State) : State :=
  rsetBit R.CMP_LANE_STATE (16 + k) false (rsetBit R.CMP_LANE_STATE k r.isSome (setCmp { s.cmp with lanes := setNth s.cmp.lanes k r } s))

/-- The free lanes of a kind: 0 to 7 KPC, 8 and 9 DEFLATE. -/
def freeLane (s : State) (deflate : Bool) : Option Nat :=
  lowest 10 fun k => decide ((8 ≤ k) = deflate) && laneTakes s k && (laneRun s k).isNone

def userRank : CmpUser → Nat
  | .cascade _ => 1
  | .record _ _ _ => 2
  | .send _ _ _ _ => 3
  | .host _ _ => 4

/-- A job can start: a cascade picture needs a store buffer of its layer. -/
def jobReady (s : State) (j : CmpJob) : Bool :=
  match j.user with
  | .cascade c => (storePick s c.layer).isSome
  | _ => true

/-- The job that starts next on a lane of a kind: the highest rank, within it the oldest; host queues take turns (R255). -/
def nextJob (s : State) (deflate : Bool) : Option CmpJob :=
  let js := s.cmp.waiting.filter fun j => j.deflate == deflate && jobReady s j
  match [1, 2, 3].findSome? fun r => js.find? fun j => userRank j.user == r with
  | some j => some j
  | none =>
    (upto 4).findSome? fun i => js.find? fun j => match j.user with | .host q _ => q == (s.cmp.turn + i) % 4 | _ => false

/-! ### Completions (R265) -/

/-- Commit the completions of a queue in submission order, as far as they are there. -/
def commitSlots (q : Nat) : List CmpSlot → State → State
  | [], s => s
  | e :: es, s =>
    if e.queue ≠ q then commitSlots q es s
    else
      match e.done with
      | none => s
      | some (c, vec) =>
        let n := rfld s (R.CMP_Q_COUNT q) 12 0
        let s1 := psEnd 2 (4096 * q + e.slot) id <| memWrite true (rnat2 s (R.CMP_Q_CPL q) + 16 * e.slot) c
          (setCmp { s.cmp with slots := s.cmp.slots.filter fun x => !(x.queue == q && x.slot == e.slot) } s)
        let s2 := rset (R.CMP_Q_CPL_WR q) (w32 (if n = 0 then 0 else (e.slot + 1) % n)) s1
        commitSlots q es (sourceVector (if vec = 0 then rfld s2 (R.CMP_Q_CTRL q) 31 21 else vec) s2)

/-- A host job has its completion. -/
def hostComplete (q slot : Nat) (d : List Byte) (status out crc : Nat) (s : State) : State :=
  let c := leBytes 4 (descTag d) ++ leBytes 2 status ++ [0#8, 0#8] ++ leBytes 4 out ++ leBytes 4 crc
  let slots := s.cmp.slots.map fun e => if e.queue = q ∧ e.slot = slot then { e with done := some (c, descVec d) } else e
  commitSlots q slots (setCmp { s.cmp with slots := slots } s)

/-! ### The ends of a job -/

/-- A job's output, with the CRC-32 of the uncompressed data; or why it fails. -/
inductive CmpOut
  | ok (bytes : List Byte) (crc : Nat)
  | fail (cause info : Nat)
  deriving DecidableEq, Repr

def ofDecode : Except KpcFail (List Byte × Nat) → CmpOut
  | .ok (b, c) => .ok b c
  | .error (.data n) => .fail 0x12 n
  | .error (.crc v) => .fail 0x13 v

/-- The bytes of a store buffer's picture as a P48 stream's uncompressed data. -/
def storeData (s : State) (l b : Nat) : List Byte :=
  (upto (layerH s l)).flatMap fun y =>
    padTo (roundUp32 (6 * layerW s l)) (memRead s (storeHost s l) (6 * layerW s l) (storeBase s l b + y * storeStride s l))
where roundUp32 (n : Nat) : Nat := (n + 31) / 32 * 32

def storePoisoned (s : State) (l b : Nat) : Bool :=
  (upto (layerH s l)).any fun y => memPoisoned s (storeHost s l) (6 * layerW s l) (storeBase s l b + y * storeStride s l)

/-- What a job reads of device memory is read: poison that it meets is an error again (R240). -/
def jobReads (r : CmpRun) (s : State) : State :=
  match r.job.user with
  | .cascade c => memSee false (46 + c.bytes) c.addr s
  | .send _ l b _ => (upto (layerH s l)).foldl (fun t y => memSee (storeHost s l) (6 * layerW s l) (storeBase s l b + y * storeStride s l) t) s
  | .record _ _ _ => memWake s
  | .host _ _ => s

/-- The picture header CAS sends first (R203). -/
def picHeader (s : State) (k l sof bytes : Nat) : List Byte :=
  padTo 46 (leBytes 2 (rfld s (R.CAS_TXS_STREAM k) 15 0) ++ leBytes 4 (nth 0 s.cmp.picSeq k) ++ longBytes sof ++
    leBytes 2 (layerW s l - 1) ++ leBytes 2 (layerH s l - 1) ++ leBytes 4 bytes)

/-- The record of a send stream (R257). -/
def sendRecord (s : State) (k l sof : Nat) (z : List Byte) : List Byte :=
  let len := (64 + z.length + 63) / 64 * 64
  padTo len (padTo 64 (leBytes 4 len ++ picHeader s k l sof z.length) ++ z)

/-- What a job gives. -/
def jobOutput (lane : Nat) (r : CmpRun) (s : State) : CmpOut :=
  match r.job.user with
  | .cascade c =>
    if memPoisoned s false (46 + c.bytes) c.addr then .fail 0x17 lane
    else ofDecode (kpcDecode (memRead s false c.bytes (c.addr + 46)))
  | .record _ _ _ =>
    (match r.job.head with
     | some k => let (b, c) := kpcEncode { k with table := r.table } r.job.bytes; .ok b c
     | none => .fail 0x16 0)
  | .send k l b sof =>
    if storePoisoned s l b then .fail 0x17 lane
    else
      let line := (6 * layerW s l + 31) / 32 * 32
      let head : KpcHeader :=
        { p48 := true, w := layerW s l, h := layerH s l, depth := 16, dx := 1, dy := 1,
          dynamic := rbit s (R.CMP_SEND_CTRL k) 7, table := r.table, prefixBytes := 0, lineBytes := line }
      let (z, c) := kpcEncode head (storeData s l b)
      .ok (sendRecord s k l sof z) c
  | .host _ _ =>
    let d := r.job.bytes
    let input := memRead s true (descField d 4 24) (descField d 8 16)
    match descOp d with
    | 0 => let (b, c) := kpcEncode (descHead d r.table) input; .ok b c
    | 1 => ofDecode (kpcDecode input)
    | 2 => .ok (deflate (bitsOf (descField d 4 0) 13 12) input) (crc32 input)
    | _ =>
      match inflate input with
      | .ok b => .ok b (crc32 b)
      | .error off => .fail 0x14 off

/-- The lane is free again; the job is counted. -/
def jobEnd (lane : Nat) (failed : Bool) (s : State) : State :=
  let s1 := rinc R.CMP_CNT_JOBS 1 (setLaneRun lane none s)
  if failed then rinc R.CMP_CNT_FAILED 1 s1 else s1

/-- A host job's output buffer after a failure: undefined (R266). -/
def junkBuffer (d : List Byte) (s : State) : State :=
  if descRing d then s
  else draw (memWrite true (descField d 8 32) ((upto (descField d 4 40)).map (Config.junkByte s.drawn)) s)

/-- A cascade picture is not decoded: dropped and counted. -/
def picGone (c : CasPicture) (s : State) : State :=
  { s with cas := { s.cas with pictures := s.cas.pictures.filter fun x => x.addr != c.addr } }

/-- A job fails whole (R266 to R268). -/
def jobFail (lane : Nat) (r : CmpRun) (cause info : Nat) (s : State) : State :=
  let s1 := jobEnd lane true s
  let err := raiseErr (pg 11 0) cause (w32 info)
  match r.job.user with
  | .cascade c => picGone c (rinc R.CAS_CNT_PIC_DROP 1 (storeDrop c.layer r.buf (err s1)))
  | .record p id _ => raiseInt (pg 11 0) 1 (recDrop p id (err s1))
  | .send _ _ _ _ => raiseInt (pg 11 0) 1 (err s1)
  | .host q slot =>
    hostComplete q slot r.job.bytes (0x0B00 + cause) 0 0 (junkBuffer r.job.bytes (raiseErr (pg 11 1) cause (w32 info) s1))

/-- Who a job is for, as E_OUT_OF_SPACE reports it: queue or stream, and TAG. -/
def userInfo (j : CmpJob) : Nat :=
  match j.user with
  | .cascade _ => 0
  | .record p _ _ => p
  | .send k _ _ _ => k
  | .host q _ => q + descTag j.bytes % 65536 * 65536

/-- The ring a job writes: base, size, WR and RD addresses, and which memory; none for a buffer. -/
def jobRing (s : State) (j : CmpJob) : Option (Nat × Nat × Nat × Nat × Bool) :=
  match j.user with
  | .send k _ _ _ => some (rnat2 s (R.CMP_SEND_BASE k), rnat s (R.CMP_SEND_SIZE k), sendWr k, sendRd k, false)
  | .host q _ => if descRing j.bytes then
      some (rnat2 s (R.CMP_Q_ORING q), rnat s (R.CMP_Q_ORING_SIZE q), R.CMP_Q_ORING_WR q, R.CMP_Q_ORING_RD q, true) else none
  | _ => none

/-- Free bytes of a ring: 64 stay free. -/
def ringRoom (s : State) (size wr rd : Nat) : Nat := if size = 0 then 0 else size - 64 - (rnat s wr + size - rnat s rd % size) % size

/-- The space of a job that writes a ring or a buffer (R266). -/
def jobSpace (s : State) (j : CmpJob) : Nat :=
  let lim := match j.user with | .host _ _ => descField j.bytes 4 40 | _ => 2 ^ 32
  match jobRing s j with
  | some (_, size, _, _, _) => min lim (size - 64)
  | none => lim

/-- A cascade picture decoded into its layer's store buffer: complete for CNV, unless its size differs from the layer's or a newer one is already complete (R128, R204). -/
def cascadeDone (c : CasPicture) (buf : Nat) (data : List Byte) (s : State) : State :=
  let l := c.layer
  let line := (6 * c.w + 31) / 32 * 32
  let s1 := picGone c s
  let stale := match nth none s.cas.newest l with | some t => decide (c.sof ≤ t) | none => false
  let drop := fun s => rinc R.CAS_CNT_PIC_DROP 1 (storeDrop l buf s)
  if c.w ≠ layerW s l ∨ c.h ≠ layerH s l ∨ data.length ≠ c.h * line then drop (raiseErr (pg 4 1) 0x18 (w32 l) s1)
  else if stale then drop s1
  else
    let s2 := (upto c.h).foldl (fun s y =>
      memWrite (storeHost s l) (storeBase s l buf + y * storeStride s l) ((data.drop (y * line)).take (6 * c.w)) s) s1
    storeDone l buf c.sof { s2 with cas := { s2.cas with newest := setNth s2.cas.newest l (some c.sof) } }

/-- A job ends with its output. -/
def jobCommit (lane : Nat) (r : CmpRun) (out : List Byte) (crc : Nat) (s : State) : State :=
  let s1 := match jobRing s r.job with
    | some (base, size, wr, _, host) =>
      rset wr (w32 ((rnat s wr + out.length + 63) / 64 * 64 % size)) (ringWrite host base size (rnat s wr) out s)
    | none => s
  let s2 := jobEnd lane false s1
  match r.job.user with
  | .cascade c => cascadeDone c r.buf out s2
  | .record p id k =>
    (match recFrame s2 p id with
     | none => s2
     | some f =>
       let f1 := { f with outs := f.outs ++ [(k, out)] }
       if f1.outs.length = f1.stripes then recAccept f1 (putRecFrame f1 s2) else putRecFrame f1 s2)
  | .send k _ _ _ => setCmp { s2.cmp with picSeq := setNth s2.cmp.picSeq k ((nth 0 s2.cmp.picSeq k + 1) % 2 ^ 32) } s2
  | .host q slot =>
    let d := r.job.bytes
    hostComplete q slot d 0 out.length crc (if descRing d then s2 else memWrite true (descField d 8 32) out s2)

/-- JOB_DONE (R265 to R268): the lane has come to the end of its job: it commits, fails whole, or pauses for ring space. -/
def execJobDone (lane : Fin 10) (s : State) : Host.Outcome State Fault Refusal :=
  let k := lane.val
  .next (match laneRun s k with
    | none => s
    | some r =>
      if lanePaused s k then s
      else
        let s := jobReads r s
        match jobOutput k r s with
        | .fail cause info => jobFail k r cause info s
        | .ok out crc =>
          if jobSpace s r.job < out.length then jobFail k r 0x10 (userInfo r.job) s
          else
            match jobRing s r.job with
            | some (base, size, wr, rd, host) =>
              let room := ringRoom s size wr rd
              if room < out.length then
                rsetBit R.CMP_LANE_STATE (16 + k) true (rinc R.CMP_CNT_PAUSES 1 (ringWrite host base size (rnat s wr) (out.take room) s))
              else jobCommit k r out crc s
            | none => jobCommit k r out crc s)

/-- The ring of a paused job has room. -/
def pausedRoom (s : State) (k : Nat) : Bool :=
  match laneRun s k with
  | none => false
  | some r => (match jobRing s r.job with
    | some (_, size, wr, rd, _) => (match jobOutput k r s with
      | .ok out _ => decide (min out.length (jobSpace s r.job) ≤ ringRoom s size wr rd)
      | .fail _ _ => true)
    | none => true)

/-- JOB_RESUME (R267): the consumer has advanced RD, and the paused lane goes on. -/
def execJobResume (lane : Fin 10) (s : State) : Host.Outcome State Fault Refusal :=
  .next (if lanePaused s lane.val && pausedRoom s lane.val then rsetBit R.CMP_LANE_STATE (16 + lane.val) false s else s)

/-- PAUSE_TIMEOUT (R267): free space seen now resumes the job; else it fails whole. -/
def execPauseTimeout (lane : Fin 10) (s : State) : Host.Outcome State Fault Refusal :=
  let k := lane.val
  .next (match laneRun s k with
    | none => s
    | some r =>
      if !lanePaused s k then s
      else if pausedRoom s k then rsetBit R.CMP_LANE_STATE (16 + k) false s
      else raiseInt (pg 11 0) 2 (jobFail k r 0x11 k s))

/-- JOB_START (R255): a free lane takes the highest-ranked waiting job. A static table it names must be usable (R261). -/
def execJobStart (deflate : Bool) (s : State) : Host.Outcome State Fault Refusal :=
  .next (match freeLane s deflate, nextJob s deflate with
    | some k, some j =>
      let s1 := setCmp { s.cmp with waiting := s.cmp.waiting.filter fun x => x.order != j.order } s
      let take := fun (t : Nat) (depth : Nat) (dyn : Bool) (s : State) =>
        let lens := codeTable s t
        let r : CmpRun := { job := j, table := lens }
        if dyn || codeTableUsable depth lens then setLaneRun k (some r) s else jobFail k r 0x15 t (setLaneRun k (some r) s)
      match j.user with
      | .cascade c =>
        (match storePick s1 c.layer with
         | some b => setLaneRun k (some { job := j, buf := b }) (storeBegin c.layer b s1)
         | none => s)
      | .record _ _ _ =>
        let c := rget s1 R.CMP_REC_CTRL
        let depth := match j.head with | some h => h.depth | none => 16
        let dyn := match j.head with | some h => h.dynamic | none => false
        take (getBits c 14 12) depth dyn s1
      | .send st l _ _ =>
        if !rbit s1 (R.CMP_SEND_CTRL st) 0 || !layerOn s1 l then s1
        else take (rfld s1 (R.CMP_SEND_CTRL st) 6 4) 16 (rbit s1 (R.CMP_SEND_CTRL st) 7) s1
      | .host q _ =>
        let s2 := setCmp { s1.cmp with turn := (q + 1) % 4 } s1
        if descOp j.bytes = 0 then
          (let h := descHead j.bytes []
           take (descTable j.bytes) h.depth h.dynamic s2)
        else setLaneRun k (some { job := j }) s2
    | _, _ => s)

/-! ### Host queues -/

/-- Take the descriptors of a queue from RD up to WR; a bad one stops it. -/
def takeDescs (q : Nat) : Nat → State → State
  | 0, s => s
  | fuel + 1, s =>
    let n := rfld s (R.CMP_Q_COUNT q) 12 0
    let rd := rfld s (R.CMP_Q_RD q) 11 0
    if n = 0 ∨ rd = rfld s (R.CMP_Q_WR q) 11 0 ∨ s.cmp.stopped.contains q then s
    else
      let a := rnat2 s (R.CMP_Q_BASE q) + 64 * rd
      let d := memRead s true 64 a
      if !descOk d then
        raiseInt (pg 11 1) 1 (raiseErr (pg 11 1) 0x16 (w32 (q + rd * 65536)) (setCmp { s.cmp with stopped := setInsert s.cmp.stopped q } s))
      else
        let s1 := psBegin 2 (4096 * q + rd) 2 0x0B q (descTag d) a (rset (R.CMP_Q_RD q) (w32 ((rd + 1) % n)) s)
        let s2 := setCmp { s1.cmp with slots := s1.cmp.slots ++ [{ queue := q, slot := rd }] } s1
        takeDescs q fuel (cmpSubmit (.host q rd) (decide (2 ≤ descOp d)) d none s2)

/-- A queue that is enabled takes what its WR has passed. -/
def queueRun (q : Nat) (s : State) : State :=
  if rbit s (R.CMP_Q_CTRL q) 0 && enabled s (pg 11 1) && !idleReq s (pg 11 1) then takeDescs q 4096 s else s

/-- JOB_SUBMIT (R265): a write of CMP_Qq_WR. -/
def execJobSubmit (who : Requester) (queue : Fin 4) (value : Word) (s : State) : Host.Outcome State Fault Refusal :=
  let q := queue.val
  let addr := R.CMP_Q_WR q
  let s1 := writeReg who addr value 0#32 s
  .next (if pageTakes addr s then queueRun q s1 else s1)

/-- SEND_BIND (R257): EN = 1 that names a disabled layer is refused with E_RANGE. -/
def execSendBind (who : Requester) (stream : Fin 8) (value : Word) (s : State) : Host.Outcome State Fault Refusal :=
  let k := stream.val
  let addr := R.CMP_SEND_CTRL k
  .next (if pageTakes addr s && bitAt value 0 && !layerOn s (getBits value 3 1) then
      raiseErr (pg 11 0) causeRange (w32 (0x100 + 0x20 * k)) (countSeq (pg 11 0) s)
    else writeReg who addr value 0#32 s)

end Sys2Proof.Machine
end

