-- ==== Sys2Proof/Machine/Sha.lean ====
section
/-! DEFINITION. SHA-384 and ECDSA P-384 verification (FIPS 180-4 and FIPS 186-5, as R5 names them), for images and unlock tokens (R359, R406). -/

namespace Sys2Proof.Machine

/-! ### SHA-384 -/

/-- The round constants: the fractions of the cube roots of the first 80 primes. -/
def shaK : List Nat :=
  [0x428A2F98D728AE22, 0x7137449123EF65CD, 0xB5C0FBCFEC4D3B2F, 0xE9B5DBA58189DBBC,
   0x3956C25BF348B538, 0x59F111F1B605D019, 0x923F82A4AF194F9B, 0xAB1C5ED5DA6D8118,
   0xD807AA98A3030242, 0x12835B0145706FBE, 0x243185BE4EE4B28C, 0x550C7DC3D5FFB4E2,
   0x72BE5D74F27B896F, 0x80DEB1FE3B1696B1, 0x9BDC06A725C71235, 0xC19BF174CF692694,
   0xE49B69C19EF14AD2, 0xEFBE4786384F25E3, 0x0FC19DC68B8CD5B5, 0x240CA1CC77AC9C65] ++
  [0x2DE92C6F592B0275, 0x4A7484AA6EA6E483, 0x5CB0A9DCBD41FBD4, 0x76F988DA831153B5,
   0x983E5152EE66DFAB, 0xA831C66D2DB43210, 0xB00327C898FB213F, 0xBF597FC7BEEF0EE4,
   0xC6E00BF33DA88FC2, 0xD5A79147930AA725, 0x06CA6351E003826F, 0x142929670A0E6E70,
   0x27B70A8546D22FFC, 0x2E1B21385C26C926, 0x4D2C6DFC5AC42AED, 0x53380D139D95B3DF,
   0x650A73548BAF63DE, 0x766A0ABB3C77B2A8, 0x81C2C92E47EDAEE6, 0x92722C851482353B] ++
  [0xA2BFE8A14CF10364, 0xA81A664BBC423001, 0xC24B8B70D0F89791, 0xC76C51A30654BE30,
   0xD192E819D6EF5218, 0xD69906245565A910, 0xF40E35855771202A, 0x106AA07032BBD1B8,
   0x19A4C116B8D2D0C8, 0x1E376C085141AB53, 0x2748774CDF8EEB99, 0x34B0BCB5E19B48A8,
   0x391C0CB3C5C95A63, 0x4ED8AA4AE3418ACB, 0x5B9CCA4F7763E373, 0x682E6FF3D6B2B8A3,
   0x748F82EE5DEFB2FC, 0x78A5636F43172F60, 0x84C87814A1F0AB72, 0x8CC702081A6439EC] ++
  [0x90BEFFFA23631E28, 0xA4506CEBDE82BDE9, 0xBEF9A3F7B2C67915, 0xC67178F2E372532B,
   0xCA273ECEEA26619C, 0xD186B8C721C0C207, 0xEADA7DD6CDE0EB1E, 0xF57D4F7FEE6ED178,
   0x06F067AA72176FBA, 0x0A637DC5A2C898A6, 0x113F9804BEF90DAE, 0x1B710B35131C471B,
   0x28DB77F523047D84, 0x32CAAB7B40C72493, 0x3C9EBE0A15C9BEBC, 0x431D67C49C100D4C,
   0x4CC5D4BECB3E42B6, 0x597F299CFC657E2A, 0x5FCB6FAB3AD6FAEC, 0x6C44198C4A475817]

/-- The initial hash value of SHA-384: the fractions of the square roots of the ninth to sixteenth primes. -/
def shaStart : List Nat :=
  [0xCBBB9D5DC1059ED8, 0x629A292A367CD507, 0x9159015A3070DD17, 0x152FECD8F70E5939,
   0x67332667FFC00B31, 0x8EB44A8768581511, 0xDB0C2E0D64F98FA7, 0x47B5481DBEFA4FA4]

def add64 (a b : Nat) : Nat := (a + b) % 2 ^ 64
def rotr64 (n x : Nat) : Nat := x / 2 ^ n + x % 2 ^ n * 2 ^ (64 - n)
def not64 (x : Nat) : Nat := 2 ^ 64 - 1 - x

def shaSigma (a b c x : Nat) : Nat := Nat.xor (Nat.xor (rotr64 a x) (rotr64 b x)) (rotr64 c x)
def shaShift (a b c x : Nat) : Nat := Nat.xor (Nat.xor (rotr64 a x) (rotr64 b x)) (x / 2 ^ c)

/-- The message schedule, newest word first. -/
def shaSchedule : Nat → List Nat → List Nat
  | 0, w => w
  | k + 1, w =>
    let x := add64 (add64 (shaShift 19 61 6 (nth 0 w 1)) (nth 0 w 6)) (add64 (shaShift 1 8 7 (nth 0 w 14)) (nth 0 w 15))
    shaSchedule k (x :: w)

/-- One round on the eight working variables. -/
def shaRound (v : List Nat) (kw : Nat × Nat) : List Nat :=
  let a := nth 0 v 0
  let b := nth 0 v 1
  let c := nth 0 v 2
  let e := nth 0 v 4
  let f := nth 0 v 5
  let g := nth 0 v 6
  let ch := Nat.xor (Nat.land e f) (Nat.land (not64 e) g)
  let maj := Nat.xor (Nat.xor (Nat.land a b) (Nat.land a c)) (Nat.land b c)
  let t1 := add64 (add64 (nth 0 v 7) (shaSigma 14 18 41 e)) (add64 ch (add64 kw.1 kw.2))
  let t2 := add64 (shaSigma 28 34 39 a) maj
  [add64 t1 t2, a, b, c, add64 (nth 0 v 3) t1, e, f, g]

/-- One block of sixteen words. -/
def shaBlock (h block : List Nat) : List Nat :=
  let w := (shaSchedule 64 block.reverse).reverse
  let v := (shaK.zip w).foldl shaRound h
  (h.zip v).map fun p => add64 p.1 p.2

/-- A padded message in 8-byte words, most significant byte first. -/
def shaWords : Nat → List Byte → List Nat
  | 0, _ => []
  | k + 1, bs => beNat (bs.take 8) :: shaWords k (bs.drop 8)

def shaBlocks : Nat → List Nat → List Nat → List Nat
  | 0, _, h => h
  | k + 1, ws, h => shaBlocks k (ws.drop 16) (shaBlock h (ws.take 16))

/-- SHA-384 of a byte string: 48 bytes. -/
def sha384 (m : List Byte) : List Byte :=
  let n := (m.length + 17 + 127) / 128
  let padded := m ++ [0x80#8] ++ List.replicate (128 * n - 17 - m.length) 0#8 ++ beBytes 16 (8 * m.length)
  ((shaBlocks n (shaWords (16 * n) padded) shaStart).flatMap (beBytes 8)).take 48

/-! ### ECDSA P-384 -/

def p384 : Nat := 2 ^ 384 - 2 ^ 128 - 2 ^ 96 + 2 ^ 32 - 1
def p384Order : Nat :=
  0xFFFFFFFFFFFFFFFFFFFFFFFFFFFFFFFFFFFFFFFFFFFFFFFFC7634D81F4372DDF581A0DB248B0A77AECEC196ACCC52973
def p384Base : Nat × Nat :=
  (0xAA87CA22BE8B05378EB1C71EF320AD746E1D3B628BA79B9859F741E082542A385502F25DBF55296C3A545E3872760AB7,
   0x3617DE4A96262C6F5D9E98BF9292DC29F8F41DBD289A147CE9DA3113B5F0B8C00A60B1CE1D7E819D7A431D7C90EA0E5F)

/-- `b` to the power `e` modulo `m`, over the low `k` bits of `e`. -/
def powMod (m : Nat) : Nat → Nat → Nat → Nat
  | 0, _, _ => 1 % m
  | k + 1, b, e =>
    let r := powMod m k (b * b % m) (e / 2)
    if e % 2 = 1 then b * r % m else r

/-- The inverse modulo a prime. -/
def invMod (m a : Nat) : Nat := powMod m 384 (a % m) (m - 2)

def subMod (m a b : Nat) : Nat := (a % m + (m - b % m)) % m

/-- The chord or tangent of slope `l` at (x1, y1), with the other point's x. -/
def curveStep (l x1 y1 x2 : Nat) : Nat × Nat :=
  let x := subMod p384 (subMod p384 (l * l) x1) x2
  (x, subMod p384 (l * subMod p384 x1 x) y1)

/-- Addition of points; none is the point at infinity. -/
def curveAdd : Option (Nat × Nat) → Option (Nat × Nat) → Option (Nat × Nat)
  | none, q => q
  | p, none => p
  | some (x1, y1), some (x2, y2) =>
    if x1 = x2 then
      (if (y1 + y2) % p384 = 0 then none
       else some (curveStep ((3 * x1 * x1 + p384 - 3) * invMod p384 (2 * y1) % p384) x1 y1 x2))
    else some (curveStep (subMod p384 y2 y1 * invMod p384 (subMod p384 x2 x1) % p384) x1 y1 x2)

/-- `e` times a point, over the low `k` bits of `e`. -/
def curveMul : Nat → Nat → Option (Nat × Nat) → Option (Nat × Nat)
  | 0, _, _ => none
  | k + 1, e, q =>
    let r := curveMul k (e / 2) (curveAdd q q)
    if e % 2 = 1 then curveAdd q r else r

/-- The signature (r, s) of a message verifies against a public key (FIPS 186-5). -/
def ecdsaVerify (key : Nat × Nat) (m : List Byte) (r s : Nat) : Bool :=
  if r = 0 ∨ p384Order ≤ r ∨ s = 0 ∨ p384Order ≤ s then false
  else
    let w := invMod p384Order s
    let e := beNat (sha384 m)
    match curveAdd (curveMul 384 (e * w % p384Order) (some p384Base)) (curveMul 384 (r * w % p384Order) (some key)) with
    | none => false
    | some (x, _) => decide (x % p384Order = r)

end Sys2Proof.Machine
end

