-- ==== Sys2Proof/Machine/Boot.lean ====
section
/-! DEFINITION. What the boot ROM does with firmware images and boot records, and what firmware finds in a settings slot (R359 to R363). -/

namespace Sys2Proof.Machine

/-! ### Images (R359) -/

def imageHeader (s : State) (slot : Nat) : List Byte := flashRead s 256 (slotBase slot)
def headField (h : List Byte) (off n : Nat) : Nat := leNat ((h.drop off).take n)

/-- An ECDSA P-384 signature at `off` of `b`, over its first `n` bytes, under a ROM key: R and S least significant byte first. -/
def romVerify (key : Nat) (b : List Byte) (n off : Nat) : Bool :=
  ecdsaVerify (Config.romKey key) (b.take n) (headField b off 48) (headField b (off + 48) 48)

/-- The check of R359 that an image fails first: 1 magic, 2 key, 3 signature, 4 floor, 5 hash. -/
def imageFails (s : State) (slot : Nat) : Option Nat :=
  let h := imageHeader s slot
  let n := headField h 16 4
  if headField h 0 4 ≠ 0x4B46574D then some 1
  else if 3 < headField h 20 1 ∨ s.plt.revoked.contains (headField h 20 1) then some 2
  else if !romVerify (headField h 20 1) h 112 112 then some 3
  else if headField h 12 4 < s.plt.floor then some 4
  else if 917504 < n ∨ sha384 (flashRead s n (slotBase slot + 256)) ≠ (h.drop 64).take 48 then some 5
  else none

/-- What the header of an accepted image says. -/
def imageOf (s : State) (slot : Nat) : FwImage :=
  let h := imageHeader s slot
  { slot := slot, version := headField h 4 4, schema := headField h 8 2, schemaMin := headField h 10 2, secVer := headField h 12 4,
    raises := decide (headField h 21 1 % 2 = 1), hash := (h.drop 64).take 48 }

/-- The retained body runs without a read of flash: the slot and the hash match (R359). -/
def retained (s : State) (warm intact : Bool) (slot : Nat) : Bool :=
  warm && intact && (match s.plt.image with | some i => i.slot == slot | none => false)

/-- The image of a slot is accepted, or the retained body is its. -/
def slotRuns (s : State) (warm intact : Bool) (slot : Nat) : Bool := retained s warm intact slot || (imageFails s slot).isNone

/-- The image of a slot is rejected: E_IMAGE_REJECT. -/
def rejectImage (slot : Nat) (s : State) : State :=
  match imageFails s slot with
  | some c => raiseErr (pg 1 1) 0x13 (w32 (slot + 16 * c)) s
  | none => s

/-! ### The choice of a slot (R360) -/

def incompOf (r : BootRec) (slot : Nat) : Bool := if slot = 0 then r.incompA else r.incompB

/-- The slot to start, none for Dead-reckoning mode; the boot record as the choice leaves it. -/
def chooseSlot (s : State) (warm intact : Bool) (r : BootRec) : Option Nat × BootRec :=
  let runs := slotRuns s warm intact
  let toPrev := fun (r' : BootRec) => if runs r.prev then (some r.prev, r') else (none, { r with fallback := 3 })
  if incompOf r r.next then toPrev { r with next := r.prev, fallback := 1 }
  else if r.trial && s.plt.prevFailed && decide (s.plt.lastSlot = r.next) then toPrev { r with trial := false, fallback := 2 }
  else if runs r.next then (some r.next, { r with fallback := 0 })
  else toPrev { r with next := r.prev, fallback := 3 }

/-- Slots whose image the choice looked at and rejected, in order. -/
def lookedAt (s : State) (r : BootRec) : List Nat :=
  if incompOf r r.next || (r.trial && s.plt.prevFailed && decide (s.plt.lastSlot = r.next)) then [r.prev]
  else if r.next = r.prev then [r.next] else [r.next, r.prev]

/-! ### Charts and settings (R361 to R363) -/

/-- A settings slot's header where MAGIC and CRC hold: SCHEMA, SEQ, VALID_MASK. -/
def settingsHeader (s : State) (slot : Nat) : Option (Nat × Nat × Nat) :=
  let h := flashRead s 64 (settingsBase slot + 0xFF000)
  if headField h 0 4 = 0x53455453 ∧ headField h 60 4 = crc32 (h.take 60) then
    some (headField h 4 2, headField h 8 4, headField h 12 1)
  else none

/-- A Chart in flash: its ROLE and its records, or that it is not valid but for its required records (R362). -/
def chartAt (s : State) (slot n : Nat) : Option (Nat × List (Nat × Word)) :=
  match settingsHeader s slot with
  | none => none
  | some (schema, _, mask) =>
    let base := settingsBase slot + 0x40000 * n
    let h := flashRead s 64 base
    let count := headField h 8 4
    if mask / 2 ^ n % 2 = 0 ∨ headField h 0 4 ≠ 0x43485254 ∨ headField h 4 2 ≠ schema ∨ 30712 < count then none
    else
      let body := flashRead s (8 * count) (base + 64)
      if headField h 12 4 ≠ crc32 (h.take 12 ++ h.drop 16 ++ body) then none
      else some (headField h 7 1, (upto count).map fun i => (headField body (8 * i) 4, w32 (headField body (8 * i + 4) 4)))

/-- Lay a Chart out again with other records. -/
def chartBytes (head : List Byte) (schema : Nat) (rs : List (Nat × Word)) : List Byte :=
  let body := rs.flatMap fun (a, v) => leBytes 4 a ++ leBytes 4 v.toNat
  let first := head.take 4 ++ leBytes 2 schema ++ (head.drop 6).take 2 ++ leBytes 4 rs.length
  let last := (head.drop 16).take 48
  first ++ leBytes 4 (crc32 (first ++ last ++ body)) ++ last ++ body

/-- A record of a converted Chart lies within the ranges of the schema in use. -/
def recordInRange (a : Nat) (v : Word) : Bool :=
  match regAt a with
  | some (r, _) => decide (1 < r.words) || r.fields.all fun f => inRange f.check (getBits v f.hi f.lo)
  | none => true

/-- Firmware's conversion of a record list to another schema; none where a record cannot be held or lies out of range. -/
def migrateRecords (old new : Nat) : List (Nat × Word) → Option (List (Nat × Word))
  | [] => some []
  | (a, v) :: rs =>
    match Config.migrate old new a v, migrateRecords old new rs with
    | some (a', v'), some rs' => if recordInRange a' v' then some ((a', v') :: rs') else none
    | _, _ => none

/-- Write every present Chart of `old` to the other slot in schema `new`; its header comes last. None where a check fails. -/
def migrateSlot (old seen new : Nat) (seq mask : Nat) (s : State) : Option State :=
  let other := 1 - old
  let charts := (upto 4).filter fun n => decide (mask / 2 ^ n % 2 = 1)
  let s0 := flashErase (settingsBase other) 0x100000 s
  let step := fun (acc : Option State) (n : Nat) =>
    match acc, chartAt s old n with
    | some t, some (_, rs) =>
      (match migrateRecords seen new rs with
       | some rs' =>
         some (flashProgram (settingsBase other + 0x40000 * n)
           (chartBytes (flashRead s 64 (settingsBase old + 0x40000 * n)) new rs') t)
       | none => none)
    | _, _ => none
  match charts.foldl step (some s0) with
  | none => none
  | some t =>
    let h := leBytes 4 0x53455453 ++ leBytes 2 new ++ [0#8, 0#8] ++ leBytes 4 (seq + 1) ++ leBytes 1 mask ++ List.replicate 47 0#8
    some (flashProgram (settingsBase other + 0xFF000) (h ++ leBytes 4 (crc32 h)) t)

/-- Units that a role starts: 0 camera, 1 wall, 2 both (R15). -/
def roleBlocks (role : Nat) : List Nat :=
  let camera := [2, 3, 14, 15]
  let wall := [4, 5, 6]
  if role = 0 then camera else if role = 1 then wall else camera ++ wall

/-- Every address of a register row on a page. -/
def rowAddrs (n : Nat) (r : RegDesc) : List Nat :=
  (upto r.cnt).flatMap fun i => (upto r.cnt2).map fun j => pageBase n + r.off + i * r.stride + j * r.stride2

/-- "Chart" fields of a page whose value without a record lies outside its range, by register address (R361). -/
def requiredOn (n : Nat) : List Nat :=
  (regTable (blockOfPage n)).flatMap fun r =>
    if r.plo ≤ n % 16 ∧ n % 16 ≤ r.phi ∧ r.fields.any (fun f => f.chart && !inRange f.check f.cold) then rowAddrs n r else []

/-- A Chart holds a record for every field its role requires. -/
def chartComplete (s : State) (role : Nat) (rs : List (Nat × Word)) : Bool :=
  (upto 288).all fun n => !(roleBlocks role).contains (blockOfPage n) || !pageUsed s.code n ||
    (requiredOn n).all fun a => rs.any fun e => e.1 == a

end Sys2Proof.Machine
end

