-- ==== Sys2Proof/Machine/Dbg.lean ====
section
/-! DEFINITION. The unlock token and the JTAG instructions (R405, R406). -/

namespace Sys2Proof.Machine

def setDbg (v : DbgState) (s : State) : State := { s with dbg := v }

def tokenFails (s : State) : Nat := rfld s R.DBG_LOCK 9 8

/-- The 112 bytes of DBG_TOKEN0 to 27. -/
def tokenBytes (s : State) : List Byte := (upto 28).flatMap fun i => leBytes 4 (rnat s (R.DBG_TOKEN i))

/-- VERIFY: refused after three failures, or while a check runs; else the check begins. -/
def tokenBegin (s : State) : State :=
  if tokenFails s = 3 then raiseErr (pg 18 0) 0x12 3#32 s
  else if s.dbg.token.isSome then raiseErr (pg 18 0) 0x13 0#32 s
  else rsetBit R.DBG_LOCK 4 true (setDbg { s.dbg with token := some (tokenBytes s, rfld s R.DBG_LOCK 17 16) } s)

/-- A write of DBG_LOCK. -/
def tokenVerify (who : Requester) (value : Word) (s : State) : State :=
  let s1 := writeReg who R.DBG_LOCK value 0#32 s
  if pageTakes R.DBG_LOCK s && bitAt value 3 then tokenBegin s1 else s1

/-- TOKEN_VERIFY (R406). -/
def execTokenVerify (who : Requester) (value : Word) (s : State) : Host.Outcome State Fault Refusal := .next (tokenVerify who value s)

/-- A token is valid: the challenge, zeros, and the signature. -/
def tokenValid (s : State) (b : List Byte) (key : Nat) : Bool :=
  decide (leNat (b.take 8) = rnat2 s R.DBG_CHALLENGE) && decide (leNat ((b.drop 12).take 4) = 0) && romVerify key b 16 16

/-- The check ends: the scopes named open, or the failure counts. -/
def tokenEnd (b : List Byte) (key : Nat) (s : State) : State :=
  let s1 := rsetBit R.DBG_LOCK 4 false (setDbg { s.dbg with token := none } s)
  if tokenValid s b key then
    (let opened := (rfld s1 R.DBG_LOCK 2 0) ||| (leNat ((b.drop 8).take 4) % 8)
     let s2 := rsetFld R.DBG_LOCK 2 0 opened s1
     if opened = rfld s1 R.DBG_LOCK 2 0 then s2 else raiseInt (pg 18 0) 1 s2)
  else
    let n := tokenFails s1 + 1
    raiseErr (pg 18 0) 0x11 (w32 n) (rsetFld R.DBG_LOCK 9 8 n s1)

/-- TOKEN_VERIFY_DONE (R406). -/
def execTokenVerifyDone (s : State) : Host.Outcome State Fault Refusal :=
  .next (match s.dbg.token with | none => s | some (b, key) => tokenEnd b key s)

/-! ### JTAG (R405): the instruction stays selected; a scan shifts bits through its register -/

/-- BYPASS: a register of one bit, which starts as 0. -/
def execBypass (tdi : List Bool) (s : State) : Host.Outcome State Fault Refusal :=
  .next (emit (.tdo ((false :: tdi).take tdi.length)) (setDbg { s.dbg with jtag := 0 } s))

/-- IDCODE: version 1, part 0x4816, manufacturer 0x05F, 1. -/
def idcode : Nat := 1 * 2 ^ 28 + 0x4816 * 2 ^ 12 + 0x05F * 2 + 1

/-- The bits of a word as they leave TDO, the lowest first. -/
def shiftBits (n v : Nat) : List Bool := (upto n).map fun i => decide (v / 2 ^ i % 2 = 1)

def execIdcode (s : State) : Host.Outcome State Fault Refusal :=
  .next (emit (.tdo (shiftBits 32 idcode)) (setDbg { s.dbg with jtag := 1 } s))

/-- SAMPLE/PRELOAD: the balls are sampled and shifted out; what is shifted in waits in the boundary latches. -/
def execSamplePreload (pins load : List Bool) (s : State) : Host.Outcome State Fault Refusal :=
  .next (emit (.tdo pins) (setDbg { s.dbg with jtag := 2, boundary := load } s))

/-- EXTEST: the boundary latches drive the balls; the balls are sampled and shifted out, and the latches take what is shifted in. -/
def execExtest (pins load : List Bool) (s : State) : Host.Outcome State Fault Refusal :=
  .next (emit (.boundary load) (emit (.tdo pins) (emit (.boundary s.dbg.boundary) (setDbg { s.dbg with jtag := 3, boundary := load } s))))

/-- A private instruction is served: scope [0] is open. -/
def jtagServed (s : State) : Bool := rbit s R.DBG_LOCK 0

/-- BINNACLE_HALT. -/
def execBinnacleHalt (s : State) : Host.Outcome State Fault Refusal :=
  .next (if jtagServed s then setPlt { s.plt with halted := true } s else s)

/-- BINNACLE_STEP: a halted Binnacle runs one instruction. -/
def execBinnacleStep (s : State) : Host.Outcome State Fault Refusal :=
  .next (if jtagServed s && s.plt.halted then emit .binnacleStep s else s)

end Sys2Proof.Machine
end

