-- ==== Sys2Proof/Machine/Mot.lean ====
section
/-! DEFINITION. The motion block: feedback, faults, states, loops, setpoints (R309 to R329). -/

namespace Sys2Proof.Machine

def axPage (a : Nat) : Nat := pg 14 (a + 1)
def axFault (s : State) (a : Nat) : Word := rget s (R.MOT_AX_FAULT a)
def axBrakeOn (s : State) (a : Nat) : Bool := rbit s R.MOT_BRK_STATE a
def gain (s : State) (a i : Nat) : F32 := uget s (R.MOT_AX_GAIN a i)
def limI (s : State) (a i : Nat) : F32 := uget s (R.MOT_AX_I_LIM a i)
def axBus (s : State) (a : Nat) : Nat := ufld s (R.MOT_AX_CFG a) 9 8

/-! ### States and brakes (R326) -/

/-- Another state: interrupt bit 1. -/
def setAx (a st : Nat) (s : State) : State :=
  if axState s a = st then s else raiseInt (axPage a) 1 (rsetFld (R.MOT_AX_STATE a) 2 0 st s)

def brakeApply (a : Nat) (s : State) : State :=
  putAx a { motAx s a with brakeDue := false } (if axBrakeOn s a then s else emit (.motBrake a false) (rsetBit R.MOT_BRK_STATE a true s))

def brakeRelease (a : Nat) (s : State) : State :=
  putAx a { motAx s a with brakeDue := false } (if axBrakeOn s a then emit (.motBrake a true) (rsetBit R.MOT_BRK_STATE a false s) else s)

def setEn (a : Nat) (high : Bool) (s : State) : State :=
  if (motAx s a).en = high then s else emit (.motEnable a high) (putAx a { motAx s a with en := high } s)

/-- The inverter opens: no duties, no averaging, no alignment, no loop memory. -/
def inverterOpen (a : Nat) (s : State) : State :=
  emit (.motPwm a 0 []) (putAx a { motAx s a with pwmOn := false, cal := none, limitedAt := none, doubtAt := none, intD := 0#32, intQ := 0#32, intV := 0#32, iqCmd := 0#32 }
    (rsetBit (R.MOT_AX_STATE a) 8 false s))

/-- HOLD: the inverter opens at once, and the brake follows BRK_DELAY later. -/
def enterHold (a : Nat) (s : State) : State :=
  let s1 := setAx a 4 (setEn a false (inverterOpen a s))
  putAx a { motAx s1 a with reacq := false, brakeDue := !axBrakeOn s1 a, heldAt := s.now } s1

/-- OFF: open, braked at once, MOT_EN low. -/
def enterOff (a : Nat) (s : State) : State :=
  let s1 := setAx a 0 (brakeApply a (setEn a false (inverterOpen a s)))
  putAx a { motAx s1 a with reacq := false } s1

/-- The inverter is to be used: MOT_EN goes high, the brake is released, offsets are averaged first (R311). -/
def enterDriven (a st : Nat) (s : State) : State :=
  let s1 := setAx a st (brakeRelease a (setEn a true s))
  putAx a { motAx s1 a with pwmOn := false, cal := some (0, 0, 0, 0), reacq := false } s1

/-- RUN: the position command is where the axis stands, and the velocity command 0, until an entry applies (R322). -/
def enterRun (a : Nat) (s : State) : State :=
  let s1 := enterDriven a 1 s
  putAx a { motAx s1 a with entry := none, posCmd := signedOf 48 (axPos s1 a), velCmd := 0#32, soft := none } s1

/-- A fault bit is set (R326): an axis that is not OFF goes to HOLD where `hold` says so. -/
def axFaults (a bit cause : Nat) (info : Word) (hold : Bool) (s : State) : State :=
  if rbit s (R.MOT_AX_FAULT a) bit then s
  else
    let s1 := raiseErr (axPage a) cause info (raiseInt (pg 14 0) 1 (rsetBit (R.MOT_AX_FAULT a) bit true s))
    if hold && decide (axState s1 a ≠ 0) then enterHold a s1 else s1

/-! ### Feedback (R315 to R319) -/

/-- A feedback kind is good. -/
def kindGood (x : MotAxis) (src : Nat) : Bool :=
  if src = 0 then !x.badQuad else if src = 1 then !x.badSin else if src ≤ 4 then !x.badSerial else false

/-- The FEEDBACK fault of the source in use: the alternate takes over where it is good, else HOLD. -/
def feedbackLost (a : Nat) (s : State) : State :=
  let alt := ufld s (R.MOT_AX_CFG a) 7 5
  let onAlt := rbit s (R.MOT_AX_STATE a) 12
  let swap := !onAlt && kindGood (motAx s a) alt && alt != axSource s a
  let s1 := axFaults a 3 0x13 (w32 (ufld s (R.MOT_AX_CFG a) 4 2)) (!swap) s
  if swap then rsetBit (R.MOT_AX_STATE a) 12 true s1 else s1

/-- A source is found bad. -/
def sourceBad (a kind : Nat) (s : State) : State :=
  let x := motAx s a
  let src := axSource s a
  let s1 := putAx a (if kind = 0 then { x with badQuad := true } else if kind = 1 then { x with badSin := true } else { x with badSerial := true }) s
  if src = kind ∨ (kind = 2 ∧ 2 ≤ src ∧ src ≤ 4) then feedbackLost a s1 else s1

/-- A movement in one sense: DIR, and DIR_CHG when it is opposite to the one before (R317). DIR = 1 says that POS falls. -/
def senseOf (a : Nat) (down : Bool) (s : State) : State :=
  let x := motAx s a
  let s1 := putAx a { x with lastDir := some down } (rsetBit (R.MOT_AX_STATE a) 9 down s)
  if x.lastDir = some !down then raiseInt (axPage a) 2 (rsetBit (R.MOT_AX_STATE a) 10 true s1) else s1

/-- Quadrature states in the order of rising POS: A leads B. -/
def quadPhase (qa qb : Bool) : Nat := if qa then (if qb then 2 else 1) else (if qb then 3 else 0)

/-- A filtered sample of A and B (R316). -/
def qeiSample (a : Nat) (na nb : Bool) (s : State) : State :=
  let x := motAx s a
  let d := (quadPhase na nb + 4 - quadPhase x.qa x.qb) % 4
  let s1 := putAx a { x with qa := na, qb := nb } s
  if d = 0 then s1
  else if d = 2 then
    (let n := x.illegal + 1
     let s2 := raiseErr (axPage a) 0x14 (rget s (R.MOT_AX_POS a)) (rinc (R.MOT_AX_CNT_QEI_ILLEGAL a) 1 (putAx a { motAx s1 a with illegal := n } s1))
     if n = 16 then sourceBad a 0 s2 else s2)
  else if axSource s a = 0 then senseOf a (decide (d = 3)) (movePos a (if d = 1 then 1 else -1) s1)
  else s1

/-- The index pulse (R317). -/
def indexEdge (a : Nat) (s : State) : State := rset2 (R.MOT_AX_IDX a) (axPos s a + 2 ^ 63) s

/-- The top `n` binary places of the angle of (c, s) in turns, by doubling the angle. -/
def turnBits : Nat → Int → Int → Nat
  | 0, _, _ => 0
  | n + 1, c, v =>
    let half := decide (v < 0 ∨ (v = 0 ∧ c < 0))
    b2n half * 2 ^ n + turnBits n (c * c - v * v) (2 * c * v)

/-- A sample of S and C (R318): the amplitude's window, then the period and the place in it. -/
def sinCosSample (a : Nat) (s : State) : State :=
  let x := motAx s a
  let sq := x.sinS * x.sinS + x.sinC * x.sinC
  let lo := ufld s (R.MOT_AX_AMP a) 15 0
  let hi := ufld s (R.MOT_AX_AMP a) 31 16
  let amp := Nat.sqrt sq.toNat
  if sq.toNat < lo * lo ∨ hi * hi < sq.toNat then
    (if x.badSin then s else sourceBad a 1 (raiseErr (axPage a) 0x16 (w32 amp) s))
  else
    let n := ufld s (R.MOT_AX_ENC a) 19 16
    let idx := turnBits n x.sinC x.sinS
    match x.sinIdx with
    | none =>
      let at_ : Int := if x.sinS = 0 ∧ x.sinC < 0 then (idx : Int) else signedOf n idx
      let s1 := putAx a { x with sinIdx := some idx, sinAt := merNow s, badSin := false } s
      if axSource s a = 1 then rset2 (R.MOT_AX_POS a) (unsignedOf 48 at_) s1 else s1
    | some was =>
      let d := signedOf n (idx + 2 ^ n - was)
      let s1 := putAx a { x with sinIdx := some idx, sinAt := merNow s, badSin := false } s
      let s2 := if axSource s a = 1 then movePos a d s1 else s1
      if 2 ^ n ≤ 4 * d.natAbs then sourceBad a 1 s2 else s2

/-- CRC-8 of R319 over bits, first bit first. -/
def crc8 (bits : List Bool) : Nat :=
  bits.foldl (fun r b =>
    let top := r / 128 % 2
    let r2 := r * 2 % 256
    if (top == 1) != b then r2 ^^^ 7 else r2) 0

/-- The low `n` bits of `v`, most significant first. -/
def bitsDown (n v : Nat) : List Bool := (upto n).map fun i => decide (v / 2 ^ (n - 1 - i) % 2 = 1)

/-- Binary from Gray code. -/
def grayToBinary : Nat → Nat → Nat
  | 0, g => g
  | k + 1, g => g ^^^ grayToBinary k (g / 2)

/-- The serial kind an axis has: its primary, or else its alternate. -/
def serialKind (s : State) (a : Nat) : Option Nat :=
  let p := ufld s (R.MOT_AX_CFG a) 4 2
  let q := ufld s (R.MOT_AX_CFG a) 7 5
  if 2 ≤ p ∧ p ≤ 4 then some p else if 2 ≤ q ∧ q ≤ 4 then some q else none

/-- A serial read has failed. -/
def serialFails (a : Nat) (s : State) : State :=
  let n := (motAx s a).serFails + 1
  let s1 := putAx a { motAx s a with serFails := n } s
  if n = 3 then sourceBad a 2 s1 else s1

/-- SERIAL_READ_DONE (R319). `started`: the start bit came; `stamp`: the sampling instant, in 2^-16 ns. -/
def serialRead (a : Nat) (started : Bool) (raw : Nat) (alarm stale : Bool) (crc : Nat) (stamp : Nat) (s : State) : State :=
  match serialKind s a with
  | none => s
  | some kind =>
    let n := ufld s (R.MOT_AX_ENC a) 9 4
    let bits := raw % 2 ^ n
    let pos := if kind = 4 then grayToBinary n bits else bits
    let x := motAx s a
    let d : Int := match x.serPrev with | some p => signedOf n (pos + 2 ^ n - p) | none => 0
    let frame := if kind = 2 then (2 ^ n + bits) * 1024 + b2n alarm * 512 + b2n stale * 256 + crc else bits
    let bound := f32Mul (f32Mul (f32OfNat 2) (uget s (R.MOT_AX_VEL_MAX a))) (f32OfRat 50 1000000)
    let crcBad := if kind = 2 then decide (crc8 (bitsDown n bits ++ [alarm, stale]) ≠ crc) else f32Lt bound (f32OfNat d.natAbs)
    if kind = 2 && !started then serialFails a s
    else if crcBad then serialFails a (raiseErr (axPage a) 0x15 (w32 frame) (rinc (R.MOT_AX_CNT_ENC_CRC a) 1 s))
    else if kind = 2 && alarm then sourceBad a 2 (putAx a { x with serFails := x.serFails + 1 } s)
    else
      let x1 := { x with serFails := 0, badSerial := false }
      if kind = 2 && stale then putAx a x1 s
      else
        let s1 := putAx a { x1 with serPrev := some pos, serAt := stamp } s
        if 2 ≤ axSource s a ∧ axSource s a ≤ 4 then movePos a d s1 else s1

/-! ### Filter outputs (R311, R318, R326) -/

def s32Of (w : Word) : Int := signedOf 32 w.toNat

/-- A phase current in A. -/
def phaseAmps (s : State) (a phase : Nat) (v : Int) : F32 :=
  let ofs := rfld s (R.MOT_AX_I_OFS a) (16 * phase + 15) (16 * phase)
  f32Mul (f32OfInt (v - signedOf 16 ofs)) (uget s (R.MOT_AX_I_SCALE a))

/-- |i| beyond I_TRIP. -/
def tripCheck (a phase : Nat) (i : F32) (s : State) : State :=
  if f32Lt (limI s a 1) (f32Abs i) then
    axFaults a 1 0x11 (w32 (phase + (f32ToIntRNE (f32Mul (f32Abs i) (f32OfNat 100))).toNat % 65536 * 65536)) true s
  else s

def calAdd (phase : Nat) (v : Int) : Nat × Int × Nat × Int → Nat × Int × Nat × Int
  | (nu, su, nv, sv) =>
    if phase = 0 then (if nu < 1024 then (nu + 1, su + v, nv, sv) else (nu, su, nv, sv))
    else (if nv < 1024 then (nu, su, nv + 1, sv + v) else (nu, su, nv, sv))

/-- Axes on a bus. -/
def busAxes (s : State) (b : Nat) : List Nat := (upto 8).filter fun a => axBus s a == b

def busGood (s : State) (b : Nat) : Bool :=
  f32Le (rget s (R.MOT_BUS_MIN b)) (rget s (R.MOT_BUS_V b)) && f32Le (rget s (R.MOT_BUS_V b)) (rget s (R.MOT_BUS_MAX b))

/-- A filter's output: channel 4a + (0 U, 1 V, 2 S, 3 C) of axis a, or 32 + bus. -/
def filterOutput (chan : Nat) (v : Int) (s : State) : State :=
  if 32 ≤ chan then
    let b := chan - 32
    let s1 := rset (R.MOT_BUS_V b) (f32Mul (f32OfInt v) (rget s (R.MOT_BUS_SCALE b))) s
    if busGood s1 b then s1
    else
      let volts := (f32ToIntRNE (rget s1 (R.MOT_BUS_V b))).toNat % 65536
      (busAxes s b).foldl (fun s a => axFaults a 2 0x12 (w32 (b + volts * 65536)) true s) s1
  else
    let a := chan / 4
    let k := chan % 4
    let x := motAx s a
    if k ≤ 1 then
      let i := phaseAmps s a k v
      let x1 := { x with
        cal := x.cal.map (calAdd k v), su := if k = 0 then v else x.su, sv := if k = 1 then v else x.sv
        iu := if k = 0 then i else x.iu, iv := if k = 1 then i else x.iv }
      tripCheck a k i (putAx a x1 s)
    else if k = 2 then putAx a { x with sinS := v } s
    else sinCosSample a (putAx a { x with sinC := v } s)

/-- A modulator clock of a sinc3 filter: a 1 counts up, a 0 down. PRESUMED (log 140). -/
def sincClock (b : Bool) (f : Sinc) : Sinc :=
  let i1 := f.i1 + if b then 1 else -1
  let i2 := f.i2 + i1
  { f with i1 := i1, i2 := i2, i3 := f.i3 + i2, count := f.count + 1, last := b, still := if b = f.last then f.still + 1 else 0 }

/-- What the filter puts out, every OSR clocks. -/
def sincOutput (f : Sinc) : Int × Sinc :=
  let d1 := f.i3 - f.c1
  let d2 := d1 - f.c2
  (d2 - f.c3, { f with c1 := f.i3, c2 := d1, c3 := d2, count := 0 })

/-- OSR. -/
def dsmOsr (s : State) : Nat := 2 ^ (rfld s R.MOT_DSM_CTRL 9 8 + 5)

/-- Axes that a ΔΣ input serves, and its number among an axis's inputs: 0 U, 1 V, 2 S, 3 C, 4 to 7 the buses. -/
def dsmAxes (s : State) (chan : Nat) : List Nat := if chan < 32 then [chan / 4] else busAxes s (chan - 32)
def dsmInput (chan : Nat) : Nat := if chan < 32 then chan % 4 else 4 + (chan - 32)

/-- An input has shown no transition for 64 clocks: DSM_LOST. -/
def dsmStill (chan : Nat) (s : State) : State :=
  let k := dsmInput chan
  (dsmAxes s chan).foldl (fun s a =>
    axFaults a 7 0x1A (w32 k) true (putAx a { motAx s a with dsmLost := setInsert (motAx s a).dsmLost k } s)) s

/-- An input has moved: its loss is over. -/
def dsmMoves (chan : Nat) (s : State) : State :=
  (dsmAxes s chan).foldl (fun s a => putAx a { motAx s a with dsmLost := setErase (motAx s a).dsmLost (dsmInput chan) } s) s

/-- One bit of a ΔΣ input (R311). -/
def dsmBit (chan : Nat) (s : State) (b : Bool) : State :=
  let was := nth {} s.sinc chan
  let f := sincClock b was
  let s1 := if b = was.last then (if f.still = 64 then dsmStill chan s else s) else dsmMoves chan s
  if dsmOsr s ≤ f.count then
    (let (v, g) := sincOutput f
     filterOutput chan v { s1 with sinc := setNth s1.sinc chan g })
  else { s1 with sinc := setNth s1.sinc chan f }

/-- The bits of the current inputs U and V of an axis up to the carrier centre, where a window of their filters ends (R311). -/
def currentBits (a : Nat) (u v : List Bool) (s : State) : State :=
  v.foldl (dsmBit (4 * a + 1)) (u.foldl (dsmBit (4 * a)) s)

/-- The offsets are averaged, and the PWM outputs enabled (R311). -/
def offsetDone (a : Nat) (s : State) : State :=
  match (motAx s a).cal with
  | some (nu, su, nv, sv) =>
    if nu < 1024 ∨ nv < 1024 then s
    else
      putAx a { motAx s a with cal := none, pwmOn := true }
        (rset (R.MOT_AX_I_OFS a) (w32 (unsignedOf 16 (su / 1024) + unsignedOf 16 (sv / 1024) * 65536)) s)
  | none => s

/-! ### Loops (R312, R313) -/

/-- The electrical angle in turns: of the encoder, or of the observer. -/
def axAngle (s : State) (a : Nat) : F32 :=
  if axSource s a = 5 then (motAx s a).obsAngle
  else
    let rev : Nat := max 1 (unat2 s (R.MOT_AX_COUNTS_REV a) % 2 ^ 48)
    let pp := ufld s (R.MOT_AX_CFG a) 23 16
    let ofs := rfld s (R.MOT_AX_ALIGN_OFS a) 15 0
    -- (POS × PP ÷ REV − OFS ÷ 65536) mod 1
    let num : Int := signedOf 48 (axPos s a) * pp * 65536 - ofs * rev
    f32OfRat (num % Int.ofNat (65536 * rev)) (65536 * rev)

/-- Voltage limits, and whether the limit acts: vd, vq. -/
def voltLimit (vmax vd vq : F32) : F32 × F32 × Bool :=
  let m2 := f32Mul vmax vmax
  if f32Lt m2 (f32Add (f32Mul vd vd) (f32Mul vq vq)) then
    let q := f32Clamp vq (f32Neg vmax) vmax
    let r := f32Sqrt (f32Sub m2 (f32Mul q q))
    (f32Clamp vd (f32Neg r) r, q, true)
  else (vd, vq, false)

/-- CONF from the residuals of 16 current samples (R323). -/
def confOf (s : State) (a : Nat) (rs : List F32) : F32 :=
  let r := f32Div (rs.foldl f32Add f32Zero) (f32OfNat 16)
  f32Max f32Zero (f32Sub f32One (f32Div r (uget s (R.MOT_AX_I_RESID a))))

/-- The carrier's period in CK_MOT cycles (R309). -/
def carrierPeriod (s : State) (a : Nat) : Nat := 10000 / 2 ^ ufld s (R.MOT_AX_CFG a) 11 10

/-- The pulses of one phase's high and low side in a carrier period: the turn-on of each comes DEADTIME after the other's turn-off, and a
pulse shorter than MIN_PULSE is dropped (R310). -/
def phasePulses (period dead least on : Nat) : Nat × Nat :=
  let keep := fun (n : Nat) => if n < least then 0 else n
  (keep (min on period - dead), keep (period - on - dead))

/-- What the six outputs of an axis do in a carrier period: of a DC motor phase W is held off. -/
def pwmPulses (s : State) (a : Nat) (va vb vbus : F32) : List (Nat × Nat) :=
  let type := ufld s (R.MOT_AX_CFG a) 1 0
  let t := carrierPeriod s a
  (upto 3).map fun k =>
    if type = 1 ∧ k = 2 then (0, 0)
    else phasePulses t (ufld s (R.MOT_AX_PWM a) 7 0) (ufld s (R.MOT_AX_PWM a) 15 8) (Config.motOnTime type va vb vbus t k)

/-- PI: the proportional term and the integral term; and the integrator's next value. -/
def motPi (kp ki e int : F32) : F32 × F32 :=
  let (term, next) := Config.motIntegral ki e int
  (f32Add (f32Mul kp e) term, next)

/-- A condition with its beginning. -/
def sinceWhen (s : State) (was : Option Nat) (now : Bool) : Option Nat := if now then was <|> some s.now else none

/-- The observer at a current sample (R323): CONF of the last 16 differences, its angle, the counts by which POS moves. -/
def motObserved (a : Nat) (ia ib : F32) (s : State) : State :=
  let x := motAx s a
  let (pa, pb, angle, counts) := Config.motObserve s.drawn
  let da := f32Sub ia pa
  let db := f32Sub ib pb
  let rs := (f32Sqrt (f32Add (f32Mul da da) (f32Mul db db)) :: x.resid).take 16
  let conf := confOf s a rs
  let low := f32Lt (f32Mul conf (f32OfNat 256)) (f32OfNat (ufld s (R.MOT_AX_OBS a) 7 0))
  let s1 := rset (R.MOT_AX_CONF a) conf
    (draw (putAx a { x with resid := rs, obsAngle := angle, doubtAt := sinceWhen s x.doubtAt low } s))
  if axSource s a = 5 then movePos a counts s1 else s1

/-- CURRENT_LOOP_TICK: with the filter outputs of U and V whose windows end at the carrier centre (R311 to R313, R323). -/
def currentTick (a : Nat) (s1 : State) : State :=
  let x := motAx s1 a
  let iu := phaseAmps s1 a 0 x.su
  let iv := phaseAmps s1 a 1 x.sv
  let dc := decide (ufld s1 (R.MOT_AX_CFG a) 1 0 = 1)
  if !x.pwmOn || !motRuns s1 then s1
  else
    let aligning := decide (axState s1 a = 2)
    let th := if aligning then (if x.phase = 2 then f32Pow2 (-2) else f32Zero) else axAngle s1 a
    let ia := iu
    let ib := f32Mul (f32Add iu (f32Mul (f32OfNat 2) iv)) (f32OfRat 57735027 100000000)
    let c := Config.motCos th
    let sn := Config.motSin th
    let id := if dc then f32Zero else f32Add (f32Mul ia c) (f32Mul ib sn)
    let iq := if dc then iu else f32Add (f32Mul (f32Neg ia) sn) (f32Mul ib c)
    let idRef := if aligning && decide (0 < x.phase) then limI s1 a 2 else f32Zero
    let iqRef := if aligning then f32Zero else x.iqCmd
    let (vd, nd) := if dc then (f32Zero, x.intD) else motPi (gain s1 a 0) (gain s1 a 1) (f32Sub idRef id) x.intD
    let (vq, nq) := motPi (gain s1 a 0) (gain s1 a 1) (f32Sub iqRef iq) x.intQ
    let vbus := rget s1 (R.MOT_BUS_V (axBus s1 a))
    let vmax := f32Div (f32Mul (uget s1 (R.MOT_AX_MOD_MAX a)) vbus) (f32Sqrt (f32OfNat 3))
    let (vd2, vq2, limited) := voltLimit vmax vd vq
    let x1 := { x with
      limitedAt := sinceWhen s1 x.limitedAt limited, intD := if limited then x.intD else nd, intQ := if limited then x.intQ else nq }
    let va := if dc then vq2 else f32Sub (f32Mul vd2 c) (f32Mul vq2 sn)
    let vb := if dc then f32Zero else f32Add (f32Mul vd2 sn) (f32Mul vq2 c)
    let s2 := emit (.motPwm a (carrierPeriod s1 a) (pwmPulses s1 a va vb vbus))
      (rsetBit (R.MOT_AX_STATE a) 8 limited (putAx a x1 s1))
    if ufld s2 (R.MOT_AX_CFG a) 4 2 = 5 then motObserved a ia ib s2 else s2

/-- An axis at a velocity tick: VEL, direction, the velocity loop, the next serial read (R312, R317, R319). -/
def velocityAxis (a : Nat) (s : State) : State :=
  let x := motAx s a
  let d := signedOf 48 (axPos s a + 2 ^ 48 - x.posTick)
  let vel := f32Div (f32OfInt d) (f32OfRat 50 1000000)
  let s1 := rset (R.MOT_AX_VEL a) vel (putAx a { x with posTick := axPos s a } s)
  let s2 := if axSource s1 a = 0 ∨ d = 0 then s1 else senseOf a (decide (d < 0)) s1
  let y := motAx s2 a
  let s3 := if axState s2 a = 1 ∧ y.pwmOn then
      (let (out, ni) := motPi (gain s2 a 2) (gain s2 a 3) (f32Sub y.velCmd vel) y.intV
       let top := limI s2 a 0
       let held := f32Lt top out || f32Lt out (f32Neg top) || rbit s2 (R.MOT_AX_STATE a) 8
       putAx a { y with iqCmd := f32Clamp out (f32Neg top) top, intV := if held then y.intV else ni } s2)
    else s2
  if (serialKind s3 a).isSome then emit (.motSerialRead a) s3 else s3

def velocityTick (s : State) : State := if motRuns s then (upto 8).foldl (fun s a => velocityAxis a s) s else s

/-! ### Setpoints and the position loop (R314, R321, R322) -/

def showQueue (a : Nat) (s : State) : State := rset (R.MOT_AX_SP_STATE a) (w32 (motAx s a).queue.length) s

/-- pos_cmd of an entry at a tick. -/
def entryPos (e : MotSp) (tick : Nat) : Int :=
  let dt := f32OfRat ((tick : Int) - e.at16) 65536000000000
  signedOf 48 e.pos + f32ToIntRNE (f32Mul e.vel dt)

/-- Where the position command stands at a tick, before the limits; none under a velocity entry. -/
def posWanted (x : MotAxis) (tick : Nat) : Option Int :=
  match x.entry with
  | none => some x.posCmd
  | some e => if e.velMode then none else some (entryPos e tick)

/-- The travel limits: the clamped command, and E_SOFT_LIMIT on each entry into the clamp (R314). -/
def softLimit (a : Nat) (p : Int) (s : State) : Int × State :=
  let lo := signedOf 48 (unat2 s (R.MOT_AX_POS_MIN a))
  let hi := signedOf 48 (unat2 s (R.MOT_AX_POS_MAX a))
  let side : Option Bool := if p < lo then some false else if hi < p then some true else none
  let x := motAx s a
  let s1 := putAx a { x with soft := side } s
  let s2 := match side with
    | some top => if x.soft = some top then s1 else raiseErr (axPage a) 0x1E (w32 (b2n top)) s1
    | none => s1
  (if p < lo then lo else if hi < p then hi else p, s2)

/-- Following error: |pos_cmd − POS| beyond FOLLOW_MAX. -/
def followError (s : State) (a : Nat) (p : Int) : Int := signedOf 48 (unsignedOf 48 (p - axPos s a))

/-- The entries due at a tick: in RUN the last applies and the others are superseded; else all are discarded. -/
def setpointsDue (a tick : Nat) (s : State) : State :=
  let x := motAx s a
  let due := x.queue.filter fun e => decide (e.at16 ≤ tick)
  if due.isEmpty then s
  else
    let rest := x.queue.filter fun e => decide (tick < e.at16)
    if axState s a = 1 then
      (let s1 := showQueue a (putAx a { x with queue := rest, entry := due.getLast? } s)
       if due.length = 1 then s1 else raiseInt (axPage a) 4 (rinc (R.MOT_AX_CNT_SP_SUPERSEDED a) (due.length - 1) s1))
    else raiseInt (axPage a) 4 (rinc (R.MOT_AX_CNT_SP_DISCARD a) due.length (showQueue a (putAx a { x with queue := rest } s)))

/-- An axis at a position tick: the commit, the following error, the entries due, then the loop and the latch. -/
def positionAxis (a tick : Nat) (s : State) : State :=
  let s0 := if commitPending s (axPage a) then commitApply (axPage a) s else s
  let s1 := putAx a { motAx s0 a with illegal := 0, badQuad := false } s0
  let s2 := if axState s1 a = 1 then
      (match posWanted (motAx s1 a) tick with
       | none => s1
       | some p =>
         let (q, t) := softLimit a p s1
         let e := followError t a q
         if unat t (R.MOT_AX_FOLLOW_MAX a) < e.natAbs then axFaults a 6 0x19 (w32 (unsignedOf 32 e)) true t else t)
    else s1
  let s3 := setpointsDue a tick s2
  let s4 := if axState s3 a ≠ 1 then s3
    else
      (let x := motAx s3 a
       let top := uget s3 (R.MOT_AX_VEL_MAX a)
       match posWanted x tick, x.entry with
       | none, some e => putAx a { x with velCmd := f32Clamp e.vel (f32Neg top) top } s3
       | some p, e =>
         let (q, t) := softLimit a p s3
         let y := motAx t a
         match e with
         | none => putAx a { y with posCmd := q } t
         | some e =>
           let v := f32Add e.vel (f32Mul (gain t a 4) (f32OfInt (followError t a q)))
           putAx a { y with posCmd := q, velCmd := f32Clamp v (f32Neg top) top } t
       | none, none => s3)
  if rfld s4 (R.MOT_AX_LATCH_CTRL a) 1 0 = 0 then takeLatch a tick s4 else s4

/-- The tick's instant: t mod 200,000 ns = 0 (R309). -/
def tickInstant (s : State) : Nat := merNow s - merNow s % (200000 * 65536)

def positionTick (s : State) : State :=
  if motRuns s then (upto 8).foldl (fun s a => positionAxis a (tickInstant s) s) s else s

/-- SETPOINT_PUSH (R321). -/
def setpointPush (a : Nat) (s : State) : State :=
  let x := motAx s a
  let t := rlong s (R.MOT_AX_SP_TIME a)
  let early := match x.lastPush with | some l => decide (t < l) | none => false
  if early then raiseErr (axPage a) 0x1C (rget s (R.MOT_AX_SP_TIME a)) s
  else if 16 ≤ x.queue.length then raiseErr (axPage a) 0x1D (w32 16) s
  else
    let e : MotSp := { at16 := t, pos := rnat2 s (R.MOT_AX_SP_POS a) % 2 ^ 48, vel := rget s (R.MOT_AX_SP_VEL a), velMode := rbit s (R.MOT_AX_SP_PUSH a) 1 }
    let s1 := showQueue a (putAx a { x with queue := x.queue ++ [e], lastPush := some t } s)
    if t < merNow s then raiseInt (axPage a) 4 (rinc (R.MOT_AX_CNT_SP_LATE a) 1 s1) else s1

/-! ### Rotor loss, re-acquisition, alignment (R323 to R325) -/

/-- A condition has lasted `ms`. -/
def lasted (s : State) (since : Option Nat) (ms : Nat) : Bool :=
  match since with
  | some t => decide (t + ms * 1000000 ≤ s.now)
  | none => false

/-- BRK_DELAY in ms. -/
def brakeDelay (s : State) (a : Nat) : Nat := ufld s (R.MOT_AX_TIMES a) 31 16

/-- OBS_LOST: confidence has stayed low; the alternate takes over where it is good, else the rotor is lost. -/
def obsLost (a : Nat) (s : State) : State :=
  let conf := f32Mul (rget s (R.MOT_AX_CONF a)) (f32OfNat 256)
  if axState s a ≠ 1 ∨ axSource s a ≠ 5 ∨ !lasted s (motAx s a).doubtAt (ufld s (R.MOT_AX_OBS a) 15 8) then s
  else
    let s1 := axFaults a 4 0x17 (w32 (f32Floor conf).toNat) false s
    let alt := ufld s (R.MOT_AX_CFG a) 7 5
    if kindGood (motAx s1 a) alt then rsetBit (R.MOT_AX_STATE a) 12 true s1
    else
      let s2 := setAx a 3 (inverterOpen a s1)
      putAx a { motAx s2 a with angles := [], reacq := true, openedAt := s.now } s2

/-- Signed electrical angle between two pulses, in 2^-16 turns. -/
def angleStep (new old : Nat) : Int := signedOf 16 (new + 65536 - old)

/-- REACQ_PULSE: a pulse gave an angle; with three that agree, a flying start or an alignment. -/
def reacqPulse (a angle : Nat) (s : State) : State :=
  if axState s a ≠ 3 ∨ !ubit s (R.MOT_AX_OBS a) 23 then s
  else
    let s1 := emit (.motZeroPulse a (ufld s (R.MOT_AX_OBS a) 20 16)) s
    let x := { motAx s1 a with angles := (angle :: (motAx s1 a).angles).take 3 }
    let s2 := putAx a x s1
    match x.angles with
    | [c, b, d] =>
      let d1 := angleStep b d
      let d2 := angleStep c b
      let agree := decide (20 * (d2 - d1).natAbs ≤ max d1.natAbs d2.natAbs)
      let near := decide (360 * (d2 - d1).natAbs ≤ 10 * 65536)
      if !agree || !near then s2
      else
        let rev : Nat := unat2 s2 (R.MOT_AX_COUNTS_REV a) % 2 ^ 48
        let pp := max 1 (ufld s2 (R.MOT_AX_CFG a) 23 16)
        let speed := f32OfRat (d2 * 4000 * rev) (65536 * pp)
        let s3 := rinc (R.MOT_AX_CNT_REACQ a) 1 s2
        if f32Le (uget s3 (R.MOT_AX_ALIGN_SPEED a)) (f32Abs speed) then
          (let s4 := rsetBit (R.MOT_AX_STATE a) 11 true (setAx a 1 s3)
           putAx a { motAx s4 a with
             reacq := false, pwmOn := true, entry := none, velCmd := speed, posCmd := signedOf 48 (axPos s4 a), soft := none
             obsAngle := f32OfRat c 65536 } s4)
        else
          (let s4 := setAx a 2 s3
           putAx a { motAx s4 a with phase := 0, phaseAt := s.now, pwmOn := true } s4)
    | _ => s2

/-- REACQ_FAIL (R324). -/
def reacqFail (a : Nat) (s : State) : State :=
  if !(motAx s a).reacq || !lasted s (some (motAx s a).openedAt) (brakeDelay s a) then s
  else brakeApply a (axFaults a 8 0x1F (w32 (motAx s a).angles.length) true s)

/-- An alignment ends in HOLD, with the new offset or with E_CAL_PRECOND. -/
def alignEnd (a : Nat) (s : State) : State :=
  let x := motAx s a
  let rev : Nat := max 1 (unat2 s (R.MOT_AX_COUNTS_REV a) % 2 ^ 48)
  let pp := ufld s (R.MOT_AX_CFG a) 23 16
  let p1 := axPos s a
  -- rotation in electrical degrees, times rev
  let rot : Int := signedOf 48 (p1 + 2 ^ 48 - x.p0) * pp * 360
  let tol : Int := ufld s (R.MOT_AX_OBS a) 31 24
  let stall := decide (rot < 45 * rev)
  let load := decide (tol * rev < (rot - 90 * rev).natAbs) || f32Lt (uget s (R.MOT_AX_ALIGN_SPEED a)) (f32Abs (rget s (R.MOT_AX_VEL a)))
  if stall then enterHold a (raiseErr (axPage a) 0x1B 1#32 s)
  else if load then enterHold a (raiseErr (axPage a) 0x1B 2#32 s)
  else
    let ofs := (signedOf 48 p1 * pp * 65536 - Int.ofNat (16384 * rev)) / rev
    enterHold a (rset (R.MOT_AX_ALIGN_OFS a) (w32 (unsignedOf 16 ofs)) (putAx a { x with obsAngle := f32Pow2 (-2) } s))

/-- ALIGN_PHASE_END: 20 ms for the brake, then 100 ms at each angle (R325). -/
def alignPhase (a : Nat) (s : State) : State :=
  let x := motAx s a
  if axState s a ≠ 2 ∨ !lasted s (some x.phaseAt) (if x.phase = 0 then 20 else 100) then s
  else
    if x.phase = 0 then putAx a { x with phase := 1, phaseAt := s.now } s
    else if x.phase = 1 then putAx a { x with phase := 2, phaseAt := s.now, p0 := axPos s a } s
    else alignEnd a s

/-! ### Commands (R326) -/

def cmdRun (a : Nat) (s : State) : State :=
  if axFault s a ≠ 0#32 then raiseErr (axPage a) 0x20 (axFault s a) s
  else if motRuns s ∧ (axState s a = 0 ∨ axState s a = 4) then enterRun a s else s

def cmdHold (a : Nat) (s : State) : State := if axState s a = 0 ∨ axState s a = 4 then s else enterHold a s

def cmdOff (a : Nat) (s : State) : State := enterOff a s

def cmdAlign (a : Nat) (s : State) : State :=
  if axFault s a ≠ 0#32 ∨ !motRuns s ∨ (axState s a ≠ 0 ∧ axState s a ≠ 4) then s
  else
    let s1 := enterDriven a 2 s
    putAx a { motAx s1 a with phase := 0, phaseAt := s.now } s1

/-- A write of MOT_AX_CMD. -/
def cmdWrite (who : Requester) (a v : Nat) (f : State → State) (s : State) : State :=
  let addr := R.MOT_AX_CMD a
  let s1 := writeReg who addr (w32 v) 0#32 s
  if pageTakes addr s then f s1 else s1

/-- An encoder source that is bad. -/
def badSource (s : State) (a src : Nat) : Bool := decide (src < 5) && !kindGood (motAx s a) src

/-- The fault bits whose condition still holds (R326). -/
def faultsHeld (s : State) (a : Nat) : Nat :=
  let x := motAx s a
  let trip := f32Lt (limI s a 1) (f32Abs x.iu) || f32Lt (limI s a 1) (f32Abs x.iv)
  let conf := f32Lt (f32Mul (rget s (R.MOT_AX_CONF a)) (f32OfNat 256)) (f32OfNat (ufld s (R.MOT_AX_OBS a) 7 0))
  let following := match posWanted x (merNow s) with
    | some p => decide (unat s (R.MOT_AX_FOLLOW_MAX a) < (followError s a p).natAbs)
    | none => false
  b2n x.gateLow + 2 * b2n trip + 4 * b2n (!busGood s (axBus s a)) + 8 * b2n (badSource s a (axSource s a) || badSource s a (ufld s (R.MOT_AX_CFG a) 4 2)) +
    16 * b2n (decide (axState s a = 1 ∧ axSource s a = 5) && conf) + 32 * b2n (rbit s (R.MOT_AX_STATE a) 8) +
    64 * b2n (decide (axState s a = 1) && following) + 128 * b2n (!x.dsmLost.isEmpty) + 256 * b2n x.reacq

/-- FAULT_CLEAR: a bit clears once its condition has gone. -/
def faultClear (who : Requester) (a : Nat) (value : Word) (s : State) : State :=
  writeReg who (R.MOT_AX_FAULT a) (value &&& ~~~(w32 (faultsHeld s a))) 0#32 s

/-! ### The block as other blocks see it -/

/-- Every axis goes OFF (cold start, dead reckoning), or to HOLD with its brake at once. -/
def motAllOff (s : State) : State := if motThere s then (upto 8).foldl (fun s a => enterOff a s) s else s
def motAllHold (s : State) : State :=
  if motThere s then (upto 8).foldl (fun s a => if axState s a = 0 ∨ axState s a = 4 then s else enterHold a s) s else s

/-- A warm start: queues empty; axes with RESUME and no fault run again, the others hold; OFF stays OFF (R327, R328). -/
def motWarmStart (s : State) : State :=
  if !motThere s then s
  else
    (upto 8).foldl (fun s a =>
      let s1 := showQueue a (putAx a { motAx s a with queue := [], lastPush := none, entry := none } s)
      if axState s1 a = 0 then s1
      else if rbit s1 R.MOT_SAFE (8 + a) ∧ axFault s1 a = 0#32 then enterRun a s1
      else enterHold a s1) s

end Sys2Proof.Machine
end

