-- ==== Sys2Proof/Machine/RecCmds.lean ====
section
/-! DEFINITION. The commands of the recorder's media, draining and clips (R295, R298, R303, R305). -/

namespace Sys2Proof.Machine

/-- MEDIA_COMMAND_COMPLETION: an SSD ends a command REC issued. One that reports an error counts as the member's failure (R303). -/
def execMediaCommandCompletion (port : Fin 5) (tag : Nat) (ok : Bool) (data : List Byte) (s : State) : Host.Outcome State Fault Refusal :=
  .next <|
    match s.recorder.ops.find? fun o => o.wants.any fun w => w.1 == tag && w.2.1 == port.val with
    | none => s
    | some o =>
      if !ok then mediaLost port.val s
      else
        let member := match o.wants.find? fun w => w.1 == tag with | some w => w.2.2 | none => 0
        let o1 := { o with
          wants := o.wants.filter fun w => w.1 != tag
          got := if o.phase = 0 then o.got ++ [(member, padTo sectorBytes (data.take sectorBytes))] else o.got }
        pumpRec (opAdvance 5 o1 (setRec { s.recorder with ops := s.recorder.ops.erase o } s))

/-- MEDIA_FAIL: the link is down, or a command exceeded MEDIA_TIMEOUT (R303). -/
def execMediaFail (port : Fin 5) (s : State) : Host.Outcome State Fault Refusal := .next (mediaLost port.val s)

/-- A member is to be copied: it is, when the array is OPTIMAL and a spare stands by; else it waits, with E_NO_SPARE_MEDIA. -/
def copyWanted (m : Nat) (s : State) : State :=
  if arrayState s = 0 ∧ spareReady s then copyStart m s
  else noSpareMedia m (setMediaPort (memberPort s m) 5 s)

/-- COPY_TRIGGER: what a member's SMART log reports, and the triggers of COPYING (R303). -/
def execCopyTrigger (port : Fin 5) (used : Byte) (errs : BitVec 16) (critical : Bool) (s : State) : Host.Outcome State Fault Refusal :=
  .next <|
    let p := port.val
    let s1 := rsetFld (R.REC_PORT_STATE p) 31 16 errs.toNat (rsetFld (R.REC_PORT_STATE p) 15 8 used.toNat s)
    let trigger := decide (rfld s R.REC_WEAR_THR 7 0 ≤ used.toNat) || decide (rfld s R.REC_MERR_THR 15 0 < errs.toNat) || critical
    match lowest 4 fun m => memberPort s m == p with
    | none => s1
    | some m =>
      if trigger && decide (portState_ s p = 1) && !(arrayState s == 1 && m == movingMember s) then copyWanted m s1 else s1

/-- MEDIA_FORCE: GO starts COPYING for the member (R307). -/
def execMediaForce (who : Requester) (value : Word) (s : State) : Host.Outcome State Fault Refusal :=
  let addr := R.REC_MEDIA_FORCE
  let s1 := writeReg who addr value 0#32 s
  .next (if !pageTakes addr s || !bitAt value 8 then s1
    else
      let m := rfld s1 addr 2 0
      if 3 < m then s1
      else if arrayState s1 = 0 ∧ spareReady s1 then copyStart m s1
      else noSpareMedia m s1)

/-- MEDIA_MIGRATION_STEP: the pointer moves on by one stripe, copied or rebuilt onto the spare, once its leave is granted (R303). A stripe with an operation under way holds it. -/
def execMediaMigrationStep (s : State) : Host.Outcome State Fault Refusal :=
  .next <|
    let st := arrayState s
    let k := s.recorder.pointer
    if st ≠ 1 ∧ st ≠ 3 then s
    else if !granted s 24 then leaveRequest 24 s
    else if s.recorder.ops.any (fun o => o.stripe == k && o.phase != 3) then s
    else
      let m := movingMember s
      let src := match readPort s m k with | some p => p | none => 7
      let s1 := if k < arrayStripes s then setPointer (k + 1) (emit (.mediaCopy src (sparePort s) k) s) else s
      pumpRec (if arrayStripes s ≤ k + 1 then moveEnd s1 else s1)

/-- MEDIA_RETIRED_CLEAR: the cleared port is empty until an SSD comes up there (R303). -/
def execMediaRetiredClear (who : Requester) (value : Word) (s : State) : Host.Outcome State Fault Refusal :=
  let addr := R.REC_MEDIA_RETIRED
  let s1 := writeReg who addr value 0#32 s
  .next ((upto 5).foldl (fun s p => if portState_ s p = 4 ∧ !rbit s addr p then setMediaPort p 0 (markDrop 6 p s) else s) s1)

/-- What a port that has come up holds: four lanes up, its capacity, what its medium reports of itself. -/
def mediaPortFacts (p sectors used errs : Nat) (s : State) : State :=
  let s1 := (upto 4).foldl (fun s i => setLane 4 (4 * p + i) 4 s) s
  rsetFld (R.REC_PORT_STATE p) 31 16 errs (rsetFld (R.REC_PORT_STATE p) 15 8 used
    (setRec { s1.recorder with caps := setNth s1.recorder.caps p sectors } s1))

/-- A port that holds no member comes up: it is the spare where there is none. -/
def mediaSpareUp (p : Nat) (s : State) : State :=
  let s1 := if 4 < sparePort s then rsetFld R.REC_MEDIA_MAP 18 16 p s else s
  if sparePort s1 = p then pumpRec (spareCame (smartCheck (setMediaPort p 2 s1))) else s1

/-- The state a port comes up in. -/
def mediaPortJoin (p : Nat) (s : State) : State :=
  if rbit s R.REC_MEDIA_RETIRED p then setMediaPort p 4 s
  else
    match lowest 4 fun m => memberPort s m == p with
    | some m => if portState_ s p = 0 ∧ !s.recorder.lost.contains m then setMediaPort p 1 s else s
    | none => mediaSpareUp p s

/-- MEDIA_PORT_UP: an SSD is there. A member serves again from a start; a spare stands by; a port that serves nothing becomes the spare when there is none (R301, R303). -/
def execMediaPortUp (port : Fin 5) (sectors : Nat) (used : Byte) (errs : BitVec 16) (s : State) : Host.Outcome State Fault Refusal :=
  .next (mediaPortJoin port.val (mediaPortFacts port.val sectors used.toNat errs.toNat s))

/-- DRAIN: REC writes the oldest dirty data (R298). -/
def execDrain (s : State) : Host.Outcome State Fault Refusal := .next (drainOnce s)

/-- A write of REC_CLIP_CTRL: ARM applies START_TIME and STOP applies STOP_TIME for the port named (R305). -/
def clipControl (who : Requester) (value : Word) (s : State) : State :=
  let addr := R.REC_CLIP_CTRL
  let s1 := writeReg who addr value 0#32 s
  if !pageTakes addr s then s1
  else
    let p := rfld s1 addr 0 0
    let s2 := if bitAt value 1 then setRec { s1.recorder with starts := setNth s1.recorder.starts p (some (rlong s1 R.REC_CLIP_START)) } s1 else s1
    if bitAt value 2 then setRec { s2.recorder with stops := setNth s2.recorder.stops p (some (rlong s2 R.REC_CLIP_STOP)) } s2 else s2

/-- CLIP_ARM (R305). -/
def execClipArm (who : Requester) (value : Word) (s : State) : Host.Outcome State Fault Refusal := .next (clipControl who value s)

/-- CLIP_STOP (R305). -/
def execClipStop (who : Requester) (value : Word) (s : State) : Host.Outcome State Fault Refusal := .next (clipControl who value s)

end Sys2Proof.Machine
end

