-- ==== Sys2Proof/Machine/Reset.lean ====
section
/-! DEFINITION. Reset sources, the warm reset, the cold reset and what each keeps (R346 to R352, R354, R356, R386, R387, R410). -/

namespace Sys2Proof.Machine

/-! ### Sources (R346) -/

def coldSource (b : Nat) : Bool := [0, 1, 2, 4, 9, 11, 14].contains b
def failingSource (b : Nat) : Bool := [5, 6, 7, 11, 12, 13].contains b
/-- Power-on and brown-out reset without a flush (R348). -/
def flushless (b : Nat) : Bool := decide (b ≤ 2)

/-- The cause register at t0 of a reset: its first source. -/
def causeFirst (b : Nat) (s : State) : State := rset R.PLT_RESET_CAUSE (w32 (2 ^ b + b * 65536 + b2n (coldSource b) * 2 ^ 24)) s

/-- A further source (R349). -/
def causeAdd (b : Nat) (s : State) : State :=
  let s1 := rsetBit R.PLT_RESET_CAUSE b true s
  if coldSource b then rsetBit R.PLT_RESET_CAUSE 24 true s1 else s1

/-- A start fails (R354): the count, held at 3; E_START_FAILED; the start state has changed. -/
def startFails (s : State) : State :=
  if !s.plt.inStart then s
  else
    let s1 := rset R.PLT_START_COUNT (w32 (satTo 3 (rnat s R.PLT_START_COUNT + 1))) s
    raiseInt (pg 1 0) 1 (raiseErr (pg 1 0) 0x12 (rget s1 R.PLT_RESET_CAUSE)
      (setPlt { s1.plt with inStart := false, prevFailed := true } s1))

def failBy (b : Nat) (s : State) : State := if failingSource b then startFails s else s

/-! ### The warm column (R9) -/

def warmField (w : Nat) (f : FieldDesc) : Nat :=
  match f.warm with
  | .kept => bitsOf w f.hi f.lo
  | .zero => 0
  | .cold => f.cold
  | .value v => v

/-- What a register word holds after a warm reset. A shadowed field comes from the value in use: what was staged is discarded (R386). -/
def warmWord (s : State) (addr : Nat) : Word :=
  let off := addr % 0x1000
  if off = 0x00C then setBitAt (coldWord addr) 4 (rbit s addr 4)
  else if off < 0x040 then 0#32
  else
    match regAt addr with
    | none => coldWord addr
    | some (r, _) =>
      if r.words = 1 then
        w32 (r.fields.foldl (fun a f =>
          a + warmField (if f.acc = .rws then unat s addr else rnat s addr) f % 2 ^ (f.hi + 1 - f.lo) * 2 ^ f.lo) 0)
      else
        match r.fields with
        | f :: _ => if f.warm = .kept then (if f.acc = .rws then uget s addr else rget s addr) else coldWord addr
        | [] => coldWord addr

/-- Words whose Warm value is neither kept nor the Cold value. -/
def warmValued : List Nat := [R.CNV_SELFREF, R.CNV_LTR, R.MER_STATE]

/-- Every register takes its Warm value; staged and used values agree. -/
def warmRegs (s : State) : State :=
  let addrs := (s.inUse.map (·.1)).foldl setInsert ((s.regs.map (·.1)).foldl setInsert warmValued)
  addrs.foldl (fun t a =>
    let w := warmWord s a
    let t1 := rset a w t
    if shadowedAddr a then uset a w t1 else t1) { s with regs := [], inUse := [] }

/-! ### The warm reset (R347) -/

/-- Frames, pictures and jobs in flight are discarded without publication. -/
def discardWork (s : State) : State :=
  let s1 := s.recorder.frames.foldl (fun s f => recDrop f.port f.id s) s
  let s2 := (upto 4).foldl (fun s p => audAbandon p s) (psDiscard 2 (fun _ => true) s1)
  { s2 with
    siu := s2.siu.map fun p => { p with frame := none, echoOut := none, trigs := [], spare := none }
    clr := s2.clr.map fun c => { c with frames := [], otWait := [] }
    cnv := { s2.cnv with
      pics := [], ot0 := [], paceSof := none, scan := none
      bounds := s2.cnv.bounds.filter fun b => !s2.cnv.pics.any fun c => c.buf == b.buf
      bufs := s2.cnv.pics.foldl (fun bs c => setNth bs c.buf {}) s2.cnv.bufs
      layers := s2.cnv.layers.map fun l => { l with writing := [] } }
    cod := {}
    cmp := { next := s2.cmp.next }
    cas := {}
    audGood := 0 }

/-- t0: the source is latched, CNV's RESET bit is set, units stop, and what they had in flight is discarded. -/
def warmBegin (b : Nat) (s : State) : State :=
  let s1 := failBy b (causeFirst b s)
  let s2 := discardWork (selfrefUpdate (rsetBit R.CNV_SELFREF 3 true s1))
  setPlt { s2.plt with phase := .quiesce, cold := false } { s2 with fabricOpen := false, warmBegun := true, stopped := 1 }

/-- Axes at the core reset: the PWM takes SAFE_PWM, setpoint queues empty, MOT_EN and MOT_BRK hold (R327, R387). -/
def motReset (s : State) : State :=
  if !motThere s then s
  else
    (upto 8).foldl (fun s a => emit (.motSafe a (rbit s R.MOT_SAFE a))
      (putAx a { motAx s a with
        queue := [], lastPush := none, entry := none, pwmOn := false, cal := none, armed := false, reacq := false,
        limitedAt := none, doubtAt := none, intD := 0#32, intQ := 0#32, intV := 0#32, iqCmd := 0#32, resid := [], angles := [] } s)) s

/-- A pipeline keeps its LUT banks; a load cut short leaves its bank INVALID; custom tables go (R94, R106, R122). -/
def clrReset (s : State) : State :=
  let s1 := (upto 2).foldl (fun s p =>
    let c := clrAt s p
    let s1 := match c.loading with
      | some b => rsetFld (R.CLR_LUT_CTRL p) (9 + 2 * b) (8 + 2 * b) 2 s
      | none => s
    setClr p { lut0 := c.lut0, lut1 := c.lut1 } s1) s
  let sp := rfld s1 R.CLR_SPARE 2 0
  { rsetFld R.CLR_SPARE 2 0 (if sp = 1 then 0 else sp) s1 with clrSpare := spareKept s1.clrSpare }

/-- Substitutions that had not completed are abandoned, a tile's selector goes back to the original lane, and FOM_MIN starts again (R226, R235). -/
def lanReset (s : State) : State :=
  let s1 := (upto 3).foldl (fun s p => (upto 2).foldl (fun s k =>
    if spareStateOf s p k = 1 then (let s' := setSpareOf p k 0 0 s; if p = 1 then emit (.tspSel k false) s' else s') else s) s) s
  { s1 with lanRelease := [], lan := s1.lan.map fun ls => ls.map fun l => { l with minHeld := false } }

/-- Tile ports keep what the tiles hold: the last launch IDs and, of a chain that was known, its length. -/
def tlkReset (s : State) : State :=
  let s1 := (upto 16).foldl (fun s p => if tlkState s p = 2 then setTlkCount p 0 s else s) s
  { s1 with tlk := s1.tlk.map fun t => { statusId := t.statusId, refCount := t.refCount, refAt := t.refAt, fecNext := t.fecNext } }

/-- CORE_RESET (R347): MEM completes its requests and sleeps; everything else goes to its Warm values; RST_N low. -/
def coreReset (s : State) : State :=
  let s0 := if selfrefState s = 1 then setSelfref 2 (selfrefFrames s) else s
  let s1 := memSleep (memDrain s0)
  let s2 := controllerClear (tlkReset (lanReset (clrReset (motReset s1))))
  let s3 := rsetBit R.MEM_STATE 0 true (warmRegs s2)
  let rc := s3.recorder
  emit (.rstN true)
    { s3 with
      held := []
      latch := []
      resetting := []
      leaveQueue := []
      leaveGrants := []
      siu := [{}, {}]
      cnv := { s3.cnv with bounds := [], notBefore := none }
      pho := {}
      memCtl := { s3.memCtl with retrain := [], saved := [] }
      recorder := { rc with frames := [], ops := [], torn := tornRows rc, reserved := 0, starts := [none, none], stops := [none, none] }
      twi := s3.twi.map fun _ => { clearFirst := true }
      cnt := {}
      taiPending := false
      stopped := 0
      plt := { s3.plt with phase := .held, cold := false, flashOp := none, bootQueue := [], test := .none, peakHeld := false } }

/-! ### The cold reset (R348) -/

/-- Registers that a cold reset leaves to the retention registers, the always-on domain, the media or the flash. -/
def coldKept : List Nat :=
  [R.PLT_RESET_CAUSE, R.PLT_START_COUNT, R.PLT_HOLD_STATE, R.PLT_LOGBOOK_HEAD, R.PLT_LOGBOOK_SEQ, R.PLT_LOGBOOK_QUEUE,
   R.REC_AON_DIRTY, R.REC_FLUSH_STATE, R.REC_NEXT_LBA, R.REC_NEXT_LBA + 4, R.REC_CNT_CLIPS]

/-- What REC finds on its media again (R301). -/
def recDurable (r : RecState) : RecState :=
  { ns := r.ns, clips := r.clips.map (fun c => { c with opened := false }), nextClip := r.nextClip, journal := r.journal,
    erase := r.erase, lostExtents := r.lostExtents, torn := tornRows r }

/-- What the platform block keeps: fuses, flash, retention and always-on state. -/
def pltDurable (p : PltState) : PltState :=
  { phase := .held, cold := true, inStart := false, prevFailed := p.prevFailed, lastSlot := p.lastSlot, deadReckoning := p.deadReckoning,
    revoked := p.revoked, floor := p.floor, flash := p.flash, trip := p.trip, lossActive := p.lossActive, lossLogged := p.lossLogged, cutReported := p.cutReported,
    lossAt := p.lossAt, lastEnergy := p.lastEnergy, marks := p.marks, srcSeq := p.srcSeq }

/-- Every core register takes its Cold value, memory its power-up contents; RST_N is driven low. -/
def coldReset (s : State) : State :=
  let s0 := recFlushCut s
  let gen := rfld s0 R.CAS_ID 17 14
  let base : State :=
    { code := s0.code, now := s0.now, drawn := s0.drawn, hostMem := s0.hostMem, out := s0.out, pending := s0.pending, tLast := s0.tLast,
      plt := pltDurable s0.plt, recorder := recDurable s0.recorder, fabricOpen := false, warmBegun := true }
  let s1 := coldKept.foldl (fun t a => rset a (rget s0 a) t) base
  emit (.rstN true) (rsetFld R.CAS_ID 17 14 gen s1)

/-- A cold reset waits for REC's flush, with RST_N low (R348). -/
def flushBegin (s : State) : State :=
  let s1 := discardWork s
  recFlushBegin false
    (emit (.rstN true) (setPlt { s1.plt with phase := .flush, cold := true }
      { s1 with fabricOpen := false, warmBegun := true, stopped := 2,
                leaveQueue := [], leaveGrants := s1.leaveGrants.filter fun g => (startPage g.n).isNone }))

/-- A cold source's reset goes on: at once, or by way of the flush. -/
def coldGo (b : Nat) (s : State) : State := if flushless b then coldReset s else flushBegin s

/-! ### Recognising a source (R346, R349) -/

/-- A source is recognised. A device that has tripped stays as it is until a power cycle (R380). -/
def recognise (b : Nat) (s : State) : State :=
  match s.plt.phase with
  | .running => if coldSource b then coldGo b (failBy b (causeFirst b s)) else warmBegin b s
  | .quiesce => let s1 := failBy b (causeAdd b s)
    if coldSource b then coldGo b s1 else s1
  | .flush => let s1 := failBy b (causeAdd b s)
    if flushless b then coldReset s1 else s1
  | .held => if coldSource b then coldReset (causeAdd b s) else s
  | .tripped => s

/-- POWER_ON (R346): both supplies reach power-good, and a cold reset begins. -/
def execPowerOn (s : State) : Host.Outcome State Fault Refusal :=
  .next (if s.plt.trip then s else coldReset (causeFirst 0 s))

/-- BROWN_OUT_CORE (R346). -/
def execBrownOutCore (s : State) : Host.Outcome State Fault Refusal := .next (recognise 1 s)

/-- BROWN_OUT_AON (R346). -/
def execBrownOutAon (s : State) : Host.Outcome State Fault Refusal := .next (recognise 2 s)

/-- RAIL_POWER_FAIL (R410): a further rail fails after the start: the device is held in reset, with cause bit [1]. -/
def railFail (s : State) : State := if s.plt.phase = .held then s else recognise 1 s

def execRailPowerFail (s : State) : Host.Outcome State Fault Refusal := .next (railFail s)

/-- RST_N (R350). -/
def execRstN (s : State) : Host.Outcome State Fault Refusal := .next (recognise 3 s)

/-- RST_N_HELD (R350): still low 100 ms after its release, while the device is held in reset. -/
def execRstNHeld (s : State) : Host.Outcome State Fault Refusal := .next (if s.plt.phase = .held then recognise 4 s else s)

/-! ### Watchdogs (R346, R365) -/

/-- A watchdog runs out: EN, and no kick within PERIOD. -/
def wdogOut (s : State) (addr kicked : Nat) : Bool :=
  rbit s addr 31 && decide (kicked + rfld s addr 15 0 * 1000000 ≤ s.now) && decide (s.plt.phase = .running)

/-- BINNACLE_WATCHDOG (R346). -/
def execBinnacleWatchdog (s : State) : Host.Outcome State Fault Refusal :=
  .next (if wdogOut s R.PLT_WDOG_BIN s.plt.kickBin then recognise 5 s else s)

/-- HOST_WATCHDOG (R346). -/
def execHostWatchdog (s : State) : Host.Outcome State Fault Refusal :=
  .next (if wdogOut s R.PLT_WDOG_HOST s.plt.kickHost then recognise 6 s else s)

/-- A write of a watchdog's register: KICK, or EN rising, starts its period. -/
def wdogWrite (who : Requester) (addr : Nat) (value : Word) (s : State) : Bool × State :=
  let s1 := writeReg who addr value 0#32 s
  (pageTakes addr s && (bitAt value 30 || (rbit s1 addr 31 && !rbit s addr 31)), s1)

def kickBin (who : Requester) (value : Word) (s : State) : State :=
  let (k, s1) := wdogWrite who R.PLT_WDOG_BIN value s
  if k then setPlt { s1.plt with kickBin := s1.now } s1 else s1

def kickHost (who : Requester) (value : Word) (s : State) : State :=
  let (k, s1) := wdogWrite who R.PLT_WDOG_HOST value s
  if k then setPlt { s1.plt with kickHost := s1.now } s1 else s1

/-- WDOG_BIN_KICK (R346). -/
def execWdogBinKick (who : Requester) (value : Word) (s : State) : Host.Outcome State Fault Refusal := .next (kickBin who value s)

/-- WDOG_HOST_KICK (R346). -/
def execWdogHostKick (who : Requester) (value : Word) (s : State) : Host.Outcome State Fault Refusal := .next (kickHost who value s)

/-! ### The start's end (R354) -/

/-- START_TIMER (R354): 30 s after RST_N release without START_OK. -/
def execStartTimer (s : State) : Host.Outcome State Fault Refusal :=
  .next (if s.plt.inStart ∧ s.plt.phase = .running ∧ s.plt.releasedAt + 30000000000 ≤ s.now then recognise 7 s else s)

/-- The start succeeds: the count clears, STEP 15, a trial image is committed, and its floor is blown where it says so (R354, R359, R360). -/
def startSucceeds (s : State) : State :=
  let slot := runningSlot s
  let s1 := rsetFld R.PLT_START_STATE 3 0 15 (rset R.PLT_START_COUNT 0#32 (setPlt { s.plt with inStart := false, prevFailed := false } s))
  let s2 := if (bootLatest s1).trial then bootChange (fun r => { r with trial := false, prev := slot }) (rsetBit R.PLT_FW_SLOT 5 false s1) else s1
  let floor := match s2.plt.image with
    | some i => if i.raises then max s2.plt.floor i.secVer else s2.plt.floor
    | none => s2.plt.floor
  raiseInt (pg 1 0) 1 (setPlt { s2.plt with floor := floor } s2)

/-- A write of PLT_START_OK: START_OK, else START_FAIL, which acts as the timer does. -/
def startWrite (who : Requester) (value : Word) (s : State) : State :=
  let s1 := writeReg who R.PLT_START_OK value 0#32 s
  if !pageTakes R.PLT_START_OK s ∨ !s.plt.inStart ∨ s.plt.phase ≠ .running then s1
  else if bitAt value 0 then startSucceeds s1
  else if bitAt value 1 then recognise 7 s1
  else s1

/-- START_OK (R354). -/
def execStartOk (who : Requester) (value : Word) (s : State) : Host.Outcome State Fault Refusal := .next (startWrite who value s)

/-- START_FAIL (R354). -/
def execStartFail (who : Requester) (value : Word) (s : State) : Host.Outcome State Fault Refusal := .next (startWrite who value s)

/-! ### Requests (R346, R356, R405) -/

/-- A write of PLT_RESET_REQ: the key, then KIND. -/
def resetRequest (who : Requester) (value : Word) (s : State) : State :=
  let s1 := writeReg who R.PLT_RESET_REQ value 0#32 s
  if !pageTakes R.PLT_RESET_REQ s then s1
  else if getBits value 15 8 ≠ 0xA5 then raiseErr (pg 1 0) 0x11 value s1
  else if getBits value 1 0 = 1 then recognise 8 s1
  else if getBits value 1 0 = 2 then recognise 9 s1
  else s1

/-- SOFTWARE_WARM_RESET (R346). -/
def execSoftwareWarmReset (who : Requester) (value : Word) (s : State) : Host.Outcome State Fault Refusal := .next (resetRequest who value s)

/-- SOFTWARE_COLD_RESET (R348). -/
def execSoftwareColdReset (who : Requester) (value : Word) (s : State) : Host.Outcome State Fault Refusal := .next (resetRequest who value s)

/-- A debug request by DBG_RESET_REQ, with scope [2] open; JTAG's private instruction needs scope [0]. -/
def debugRegister (who : Requester) (value : Word) (s : State) : State :=
  let s1 := writeReg who R.DBG_RESET_REQ value 0#32 s
  if pageTakes R.DBG_RESET_REQ s && !debugClosed s R.DBG_RESET_REQ && bitAt value 0 then recognise 10 s1 else s1

/-- By the private instruction or by the register. -/
def debugRequest (who : Requester) (value : Word) (s : State) : State :=
  if who = .jtag then (if rbit s R.DBG_LOCK 0 then recognise 10 s else s) else debugRegister who value s

/-- DEBUG_REQUEST (R346). -/
def execDebugRequest (who : Requester) (value : Word) (s : State) : Host.Outcome State Fault Refusal := .next (debugRequest who value s)

/-- CLOCK_FAILURE (R348). -/
def execClockFailure (s : State) : Host.Outcome State Fault Refusal := .next (recognise 11 s)

/-- BINNACLE_LOCKUP (R346). -/
def execBinnacleLockup (s : State) : Host.Outcome State Fault Refusal := .next (recognise 12 s)

/-- FABRIC_DEADLOCK (R346). -/
def execFabricDeadlock (s : State) : Host.Outcome State Fault Refusal := .next (recognise 13 s)

/-- A write of PLT_DR_CTRL (R356): KEY is not stored, and acts only with EXIT. -/
def deadReckoningWrite (who : Requester) (value : Word) (s : State) : State :=
  let s1 := writeReg who R.PLT_DR_CTRL value (w32 (2 ^ 8)) s
  if !pageTakes R.PLT_DR_CTRL s || !bitAt value 16 then s1
  else if getBits value 15 8 ≠ 0x5A then raiseErr (pg 1 0) 0x11 value s1
  else if !deadReckoning s1 then s1
  else recognise 14 (rset R.PLT_START_COUNT 0#32 (setPlt { s1.plt with deadReckoning := false } s1))

/-- DEAD_RECKONING_EXIT (R356). -/
def execDeadReckoningExit (who : Requester) (value : Word) (s : State) : Host.Outcome State Fault Refusal :=
  .next (deadReckoningWrite who value s)

/-- CORE_RESET (R347): 20 µs into a warm reset. A hold-up flush that runs keeps request 22 (R393). -/
def execCoreReset (s : State) : Host.Outcome State Fault Refusal :=
  .next (if s.plt.phase = .quiesce then
      (let s1 := coreReset s
       if s1.recorder.flushing then leaveForce 22 s1 else s1)
    else s)

/-- RETENTION_LOSS (R356, R380, R410): VDD_AON falls below its retention level: retention registers, always-on state and the THERMTRIP latch clear. -/
def retentionLoss (s : State) : State :=
  let s1 := [R.PLT_START_COUNT, R.PLT_HOLD_STATE, R.PLT_LOGBOOK_QUEUE, R.REC_AON_DIRTY, R.REC_FLUSH_STATE].foldl (fun s a => rset a 0#32 s) s
  let p := s1.plt
  let s2 := setPlt { p with
    prevFailed := false, lastSlot := 0, deadReckoning := false, image := none, trip := false, lossActive := false, lossLogged := true
    phase := if p.phase = .tripped then .held else p.phase } s1
  rsetFld R.CAS_ID 17 14 0 s2

/-- RETENTION_LOSS. -/
def execRetentionLoss (s : State) : Host.Outcome State Fault Refusal := .next (retentionLoss s)

end Sys2Proof.Machine
end

