-- ==== Sys2Proof/Machine/Therm.lean ====
section
/-! DEFINITION. Die sensors, the thresholds, the throttle ladder and the trip (R375 to R380). Temperatures are in 1/16 °C. -/

namespace Sys2Proof.Machine

/-- A sensor's reading from its count: binary32, then the nearest 1/16 °C, ties to even (R375). -/
def sensorTemp (k count : Nat) : Int :=
  let (n25, n100) := Config.sensorFuse k
  let rise := f32Div (f32Mul (f32OfNat 75) (f32OfInt ((count : Int) - (n25 : Int)))) (f32OfInt ((n100 : Int) - (n25 : Int)))
  f32ToIntRNE (f32Mul (f32OfNat 16) (f32Add (f32OfNat 25) rise))

/-- Whole °C, toward minus infinity. -/
def wholeC (t : Int) : Int := t.fdiv 16

/-- A signed field of `w` bits; a value it has no room for is open. -/
def tempField (w : Nat) (t : Int) (d : Nat) : Nat :=
  if -(2 ^ (w - 1) : Int) ≤ t ∧ t < (2 ^ (w - 1) : Int) then unsignedOf w t else Config.thermWide d % 2 ^ w

def thermExcluded (s : State) (k : Nat) : Bool := rbit s R.PLT_THERM_EXCL k

/-- A sensor is excluded until the next cold start (R376). -/
def sensorExclude (k : Nat) (t : Int) (s : State) : State :=
  let c := tempField 16 (wholeC t) s.drawn
  raiseErr (pg 1 3) 0x1A (w32 (k + c * 65536))
    (raiseInt (pg 1 3) 3 (logEvent 1 0 0x0021 (leBytes 4 k ++ leBytes 4 c) (rsetBit R.PLT_THERM_EXCL k true s)))

/-- One sensor's reading is taken: its register, and whether it stays valid (R376). -/
def sensorTake (k count : Nat) (s : State) : State :=
  if thermExcluded s k then rsetBit (R.PLT_THERM_S k) 16 false s
  else
    let t := sensorTemp k count
    let run := if -55 * 16 ≤ t ∧ t ≤ 150 * 16 then 0 else nth 0 s.plt.outOfRange k + 1
    let s1 := setPlt { s.plt with outOfRange := setNth s.plt.outOfRange k run } s
    let gone := decide (count = 0 ∨ 3 ≤ run)
    let s2 := rset (R.PLT_THERM_S k) (w32 (tempField 16 t s.drawn + b2n (!gone) * 65536)) s1
    if gone then sensorExclude k t s2 else s2

/-- The hottest valid sensor and its reading. -/
def hottest (s : State) (counts : List Nat) : Option (Nat × Int) :=
  (upto 32).foldl (fun (b : Option (Nat × Int)) k =>
    if thermExcluded s k then b
    else
      let t := sensorTemp k (nth 0 counts k)
      match b with
      | some (_, u) => if u < t then some (k, t) else b
      | none => some (k, t)) none

def validSensors (s : State) : Nat := ((upto 32).filter fun k => !thermExcluded s k).length

def thermLevel (s : State) : Nat := rfld s R.PLT_THERM_STATE 2 0
def thermThr (s : State) (hi lo : Nat) : Int := (16 * rfld s R.PLT_THERM_THR hi lo : Nat)

/-- DETAIL of a THERMAL record (R390). -/
def thermDetail (s : State) (trip : Bool) : List Byte :=
  leBytes 4 (thermLevel s + b2n trip * 2 ^ 31) ++ leBytes 4 (rfld s R.PLT_THERM_STATE 31 24) ++ leBytes 4 (rfld s R.PLT_THERM_STATE 20 16)

/-- LEVEL changes (R378): every port counts its decimation afresh; a rise from 0 is an error of its own (R382). -/
def levelSet (v : Nat) (s : State) : State :=
  let was := thermLevel s
  if was = v then s
  else
    let s1 := rinc R.PLT_THERM_CNT_LEVEL 1 (rsetFld R.PLT_THERM_STATE 2 0 v s)
    let s2 := raiseInt (pg 1 3) 2 { s1 with plt := { s1.plt with levelAt := some s1.now }, siu := s1.siu.map fun p => { p with keep := 0 } }
    if was = 0 then raiseErr (pg 1 3) 0x1B (w32 (rfld s2 R.PLT_THERM_STATE 31 24)) s2 else s2

/-- The same, with its record. -/
def levelChange (v : Nat) (s : State) : State :=
  let s1 := levelSet v s
  if thermLevel s = v then s else logEvent 1 0 0x0020 (thermDetail s1 false) s1

/-- FORCE_EN holds LEVEL at FORCE_LEVEL (R379). -/
def levelForce (s : State) : State :=
  if rbit s R.PLT_THERM_CTRL 16 && !rbit s R.PLT_THERM_STATE 10 then levelChange (rfld s R.PLT_THERM_CTRL 19 17) s else s

/-- At least STEP_INTERVAL has passed since LEVEL last changed. -/
def levelMay (s : State) : Bool :=
  match s.plt.levelAt with
  | none => true
  | some t => decide (t + rfld s R.PLT_THERM_CTRL 7 0 * 1000000 ≤ s.now)

/-- One reading's step on the ladder (R378). -/
def ladderStep (tmax : Int) (s : State) : State :=
  let level := thermLevel s
  if rbit s R.PLT_THERM_CTRL 16 then levelForce s
  else if thermThr s 15 8 ≤ tmax then
    (if levelMay s ∧ level < rfld s R.PLT_THERM_CTRL 10 8 then levelChange (level + 1) s else s)
  else if tmax ≤ thermThr s 15 8 - thermThr s 19 16 then
    (if levelMay s ∧ 0 < level then levelChange (level - 1) s else s)
  else s

/-- WARN with its hysteresis (R377). -/
def warnStep (tmax : Int) (s : State) : State :=
  let was := rbit s R.PLT_THERM_STATE 8
  let b := if thermThr s 7 0 ≤ tmax then true else if tmax ≤ thermThr s 7 0 - thermThr s 19 16 then false else was
  if b = was then s else raiseInt (pg 1 3) 1 (rsetBit R.PLT_THERM_STATE 8 b s)

/-- Every core clock is gated (R380). -/
def thermGate (s : State) : State :=
  emit (.rstN true) (setPlt { s.plt with phase := .tripped } { s with fabricOpen := false, warmBegun := true, stopped := 2 })

/-- The trip (R380). A reading of 125 °C leaves no time for the flush. -/
def thermTrip (hot : Nat) (top : Int) (s : State) : State :=
  let s1 := rsetBit R.PLT_THERM_STATE 10 true (emit .thermTrip (setPlt { s.plt with trip := true } s))
  let s2 := motAllHold (selfrefFrames (levelSet 6 s1))
  let s3 := raiseErr (pg 1 3) 0x1C (w32 hot) (logEvent 1 0 0x0020 (thermDetail s2 true) s2)
  if 125 * 16 ≤ top then thermGate s3 else recFlushBegin false s3

/-- TMAX of a reading: with fewer than 16 valid sensors at least THROTTLE (R376). -/
def tmaxOf (s : State) (h : Option (Nat × Int)) : Int :=
  let low := match h with | some (_, t) => t | none => thermThr s 15 8
  if validSensors s < 16 then max low (thermThr s 15 8) else low

/-- TMAX, HOT_SENSOR, THROTTLING and PEAK. -/
def thermShow (h : Option (Nat × Int)) (tmax : Int) (s : State) : State :=
  let hot := match h with | some (k, _) => k | none => rfld s R.PLT_THERM_STATE 20 16
  let s1 := rsetBit R.PLT_THERM_STATE 9 (decide (thermThr s 15 8 ≤ tmax))
    (rsetFld R.PLT_THERM_STATE 20 16 hot (rsetFld R.PLT_THERM_STATE 31 24 (tempField 8 (wholeC tmax) s.drawn) s))
  if s1.plt.peakHeld && decide (tmax ≤ signedOf 16 (rfld s1 R.PLT_THERM_PEAK 15 0)) then s1
  else setPlt { s1.plt with peakHeld := true } (rset R.PLT_THERM_PEAK (w32 (tempField 16 tmax s.drawn)) s1)

/-- What one reading of all 32 sensors does. -/
def thermReading (counts : List Nat) (s : State) : State :=
  let s1 := (upto 32).foldl (fun s k => sensorTake k (nth 0 counts k) s) s
  let h := hottest s1 counts
  let tmax := tmaxOf s1 h
  let s2 := warnStep tmax (thermShow h tmax s1)
  let s3 := if rbit s2 R.PLT_THERM_STATE 10 then s2 else ladderStep tmax s2
  let s4 := match h with
    | some (k, t) => if 115 * 16 ≤ t ∧ !s3.plt.trip then thermTrip k t s3 else s3
    | none => s3
  draw (smartCheck s4)

/-- The sensors are clocked: not in a device that has tripped, nor in one held in a cold reset. -/
def thermRuns (s : State) : Bool :=
  match s.plt.phase with
  | .tripped => false
  | .held => !s.plt.cold
  | _ => true

/-- SENSOR_READING (R375 to R380): every 100 µs. -/
def execSensorReading (counts : List Nat) (s : State) : Host.Outcome State Fault Refusal :=
  .next (if thermRuns s then thermReading counts s else s)

/-- PLT_THERM_PEAK_READ (R381). -/
def execPltThermPeakRead (who : Requester) (s : State) : Host.Outcome State Fault Refusal :=
  let s1 := readOut who R.PLT_THERM_PEAK (readWord s who R.PLT_THERM_PEAK) s
  .next (if pageTakes R.PLT_THERM_PEAK s then setPlt { s1.plt with peakHeld := false } (rset R.PLT_THERM_PEAK 0#32 s1) else s1)

end Sys2Proof.Machine
end

