-- ==== Sys2Proof/Machine/Hold.lean ====
section
/-! DEFINITION. The hold-up supervisor, the end of a flush, and the measurement of the store (R299, R300, R393 to R395, R416 to R419). Voltages are in µV. -/

namespace Sys2Proof.Machine

def holdOutcome (s : State) : Nat := rfld s R.PLT_HOLD_STATE 1 0
def onHoldup (s : State) : Bool := rbit s R.PLT_HOLD_STATE 4
def mainGood (s : State) : Bool := rbit s R.PLT_HOLD_STATE 5
def setOutcome (v : Nat) (s : State) : State := rsetFld R.PLT_HOLD_STATE 1 0 v s

/-- Bit `b` at the reset that ends a flush: the first source, unless a reset runs already (R349). -/
def holdCause (b : Nat) (s : State) : State :=
  if s.plt.phase = .running then causeFirst b s else causeAdd b s

/-! ### The measurement (R417) -/

def setTest (t : HoldTest) (s : State) : State := setPlt { s.plt with test := t } s

/-- A voltage in 10 mV, toward zero. -/
def tenMv (v : Nat) : Nat := v / 10000

/-- A test is discarded (R419); C and ESR stay. -/
def testDiscard (v1 v2 : Option Nat) (s : State) : State :=
  let f := fun v => (match v with | some x => tenMv x | none => Config.holdUntaken s.drawn) % 65536
  draw (raiseErr (pg 1 4) 0x22 (w32 (f v1 + f v2 * 65536)) (setTest .none s))

/-- The charger on, the load off. -/
def testOpen (s : State) : State := emit (.holdLoad false) (emit (.holdCharge false) s)

/-- Main power is lost during a test: the load opens, and the test is discarded. -/
def testLost (s : State) : State :=
  match s.plt.test with
  | .none => s
  | .settling => testDiscard none none (testOpen s)
  | .loaded _ v1 => testDiscard (some v1) none (testOpen s)

/-- A measurement starts: main power is good, no flush runs, and none runs already. -/
def testStart (s : State) : State :=
  if s.plt.phase = .running ∧ mainGood s ∧ !s.recorder.flushing ∧ s.plt.test = .none then
    emit (.holdCharge true) (setTest .settling s)
  else s

/-- HOLD_TEST (R417): the store has settled after a cold start, or PERIOD has passed. -/
def execHoldTest (s : State) : Host.Outcome State Fault Refusal := .next (testStart s)

/-- A write of PLT_HOLD_TEST; NOW measures at once. -/
def holdTestWrite (who : Requester) (value : Word) (s : State) : State :=
  let s1 := writeReg who R.PLT_HOLD_TEST value 0#32 s
  if pageTakes R.PLT_HOLD_TEST s && bitAt value 16 then testStart s1 else s1

/-- HOLD_TEST_NOW (R417). -/
def execHoldTestNow (who : Requester) (value : Word) (s : State) : Host.Outcome State Fault Refusal := .next (holdTestWrite who value s)

/-- HOLD_TEST_DISCHARGE (R417): V_OC is the mean over 1 ms, V1 follows the load by 0.1 ms. -/
def execHoldTestDischarge (vOc v1 : Nat) (s : State) : Host.Outcome State Fault Refusal :=
  .next (if s.plt.test = .settling then emit (.holdLoad true) (setTest (.loaded vOc v1) s) else s)

/-- Fixed-point scale of the logarithm. -/
def lnScale : Nat := 2 ^ 160

/-- z + z³/3 + z⁵/5 + … in fixed point: `pow` is the next power of z, `z2` its square. -/
def lnSeries : Nat → Nat → Nat → Nat → Nat
  | 0, _, _, _ => 0
  | fuel + 1, pow, z2, k => pow / k + lnSeries fuel (pow * z2 / lnScale) z2 (k + 2)

/-- ln (a / b) for b ≤ a < 2 b. -/
def lnSmall (a b : Nat) : Nat :=
  let z := (a - b) * lnScale / (a + b)
  2 * lnSeries 60 z (z * z / lnScale) 1

/-- ln (a / b) in fixed point, for 0 < b ≤ a. -/
def lnRatio (a b : Nat) : Nat :=
  let k := Nat.log2 (a / b)
  k * lnSmall (2 ^ 60 - 1) (2 ^ 59) + k * lnSmall (2 ^ 60) (2 ^ 60 - 1) + lnSmall a (b * 2 ^ k)

/-- C to the nearest mF; none where it has no bound. ESR + LOAD is LOAD × V_OC ÷ V1. -/
def holdCap (load vOc v1 v2 : Nat) : Option Nat :=
  if v2 = 0 then some 0
  else
    let den := load * vOc * lnRatio v1 v2
    if den = 0 then none else some ((2 * 100000 * v1 * lnScale + den) / (2 * den))

/-- ESR to the nearest 0.1 mΩ. -/
def holdEsr (load vOc v1 : Nat) : Nat := rneShift10 (10 * load * (vOc - v1)) v1
where
  /-- The nearest integer to n ÷ d, ties to even. -/
  rneShift10 (n d : Nat) : Nat :=
    let q := n / d
    let r := n % d
    if 2 * r < d then q else if d < 2 * r then q + 1 else q + q % 2

/-- A test that passed. -/
def testPass (c esr : Nat) (s : State) : State :=
  let e := if esr < 65536 then esr else Config.holdEsr s.drawn % 65536
  draw (rset R.PLT_HOLD_ESR (w32 (e + 2 ^ 31)) (rset R.PLT_HOLD_CAP (w32 c) (setTest .none s)))

/-- HOLD_TEST_DONE (R417): the load is off, the charger on, and C and ESR follow. -/
def execHoldTestDone (v2 : Nat) (s : State) : Host.Outcome State Fault Refusal :=
  .next (match s.plt.test with
    | .loaded vOc v1 =>
      let s1 := testOpen s
      let load := rfld s R.PLT_HOLD_LOAD 15 0
      if v1 ≤ v2 ∨ vOc < v1 then testDiscard (some v1) (some v2) s1
      else
        match holdCap load vOc v1 v2 with
        | none => testDiscard (some v1) (some v2) s1
        | some c => if 16777000 < c then testDiscard (some v1) (some v2) s1 else testPass c (holdEsr load vOc v1) s1
    | _ => s)

/-! ### The energy (R418) -/

/-- E in 0.01 J, rounded down, from HOLD_V. -/
def energyOf (s : State) (v : Nat) : Nat :=
  let k : Int := ((rfld s R.PLT_HOLD_THR 27 16 * 10000 : Nat) : Int)
  let c : Int := ((rfld s R.PLT_HOLD_CAP 23 0 : Nat) : Int)
  let drop : Int := ((rfld s R.PLT_HOLD_ESR 15 0 * rfld s R.REC_P_FLUSH 15 0 * 100000000 : Nat) : Int)
  if !rbit s R.PLT_HOLD_ESR 31 then 0
  else if k = 0 then Config.holdEnergy s.drawn v % 65536
  else
    let e := (c * ((v : Int) * v - k * k) * (k * k - drop)).fdiv (20 * 10 ^ 12 * (k * k))
    if e < 0 then 0 else if e < 65536 then e.toNat else Config.holdEnergy s.drawn v % 65536

/-- E moved by 0.10 J or more: PLT_HOLD_ENERGY takes it, and DIRTY_LIMIT follows (R299). -/
def energySet (e : Nat) (s : State) : State :=
  let was := rfld s R.PLT_HOLD_ENERGY 15 0
  if was + 10 ≤ e ∨ e + 10 ≤ was then
    holdLimit e (raiseInt (pg 1 4) 3 (setPlt { s.plt with lastEnergy := e } (rset R.PLT_HOLD_ENERGY (w32 e) s)))
  else s

/-- HOLD_ENERGY_UPDATE (R418): every 10 ms. -/
def execHoldEnergyUpdate (v : Nat) (s : State) : Host.Outcome State Fault Refusal :=
  .next (if s.plt.phase = .running then draw (energySet (energyOf s v) s) else s)

/-! ### Loss and return of main power (R393) -/

/-- Every axis holds with its brake applied at once. -/
def motBrakeNow (s : State) : State :=
  if motThere s then (upto 8).foldl (fun s a => if axState s a = 4 then brakeApply a s else s) (motAllHold s) else s

/-- Every unit R300 does not name stops; its start grants go as it reaches IDLE (R373). -/
def lossStops (s : State) : State :=
  { (upto 32).foldl (fun s n => if (startPage n).isSome ∨ (12 ≤ n ∧ n ≤ 21) then leaveWithdraw n (leaveRelease n s) else s) s with stopped := 2 }

/-- Main power is lost. In a device that has tripped and gated its clocks nothing runs that could act. -/
def mainLoss (s : State) : State :=
  if s.plt.lossActive ∨ (onHoldup s ∧ !mainGood s) then s
  else
    let s1 := raiseInt (pg 1 4) 4 (rsetBit R.PLT_HOLD_STATE 4 true (rsetBit R.PLT_HOLD_STATE 5 false (setOutcome 0 (testLost s))))
    if s1.plt.phase = .tripped then s1
    else
      let s2 := setPlt { s1.plt with lossActive := true, lossLogged := false, lossAt := merNow s1 } s1
      motBrakeNow (lossStops (selfrefFrames (recFlushBegin true s2)))

/-- MAIN_POWER_LOSS (R393). -/
def execMainPowerLoss (s : State) : Host.Outcome State Fault Refusal := .next (mainLoss s)

/-- Main power is good again: a flush that runs goes on, with outcome 2. -/
def mainReturns (s : State) : State :=
  if mainGood s then s
  else
    let s1 := raiseInt (pg 1 4) 4 (rsetBit R.PLT_HOLD_STATE 4 false (rsetBit R.PLT_HOLD_STATE 5 true s))
    if s1.plt.lossActive then setOutcome 2 s1 else s1

/-- MAIN_POWER_GOOD (R393). -/
def execMainPowerGood (s : State) : Host.Outcome State Fault Refusal := .next (mainReturns s)

/-- The store is exhausted while main power is not good: outcome 3, and a brown-out reset. -/
def storeOut (s : State) : State :=
  if s.plt.lossActive ∧ !mainGood s then
    let s1 := rsetBit R.PLT_HOLD_STATE 6 true (setOutcome 3 (recFlushCut s))
    coldReset (holdCause 1 (setPlt { s1.plt with lossActive := false } s1))
  else s

/-- STORE_EXHAUSTED (R393). -/
def execStoreExhausted (s : State) : Host.Outcome State Fault Refusal := .next (storeOut s)

/-! ### The end of a flush -/

/-- Nothing is left to drain. -/
def flushOver (s : State) : Bool := s.recorder.flushing && s.recorder.dirty.isEmpty && s.recorder.ops.isEmpty

/-- What follows a flush: the outcome of a loss and the cold reset it brings; a trip's gating; the reset that waited; the sleep of Dead-reckoning mode. -/
def flushEnds (s : State) : State :=
  let s1 := recFlushEnd s
  if s1.plt.lossActive then
    (let s2 := setPlt { s1.plt with lossActive := false } (setOutcome (if holdOutcome s1 = 2 then 2 else 1) s1)
     if s2.plt.trip then thermGate s2 else coldReset (holdCause 0 s2))
  else if s1.plt.trip then thermGate s1
  else if s1.plt.phase = .flush then coldReset s1
  else if deadReckoning s1 then memSleep s1
  else s1

/-- FLUSH_DONE (R300, R348, R380, R393). -/
def execFlushDone (s : State) : Host.Outcome State Fault Refusal := .next (if flushOver s then flushEnds s else s)

end Sys2Proof.Machine
end

