-- ==== Sys2Proof/Machine/LeaveCmds.lean ====
section
/-! DEFINITION. The commands of power leave, and what a unit does when its grant lets it start (R32, R368 to R374). -/

namespace Sys2Proof.Machine

/-- A page's unit begins to run: it enables its lanes, and what its chapter has at a start happens. A start of CNV ends the self-refresh of a warm reset (R142). -/
def unitStarted (n : Nat) (s : State) : State :=
  if n = pg 2 0 ∨ n = pg 2 1 then siuStartPort (n - pg 2 0) (lanEnablePort 0 (n - pg 2 0) s)
  else if blockOfPage n = 6 then
    (let p := n - pg 6 0
     tlkLinkUp p (tlkTraining p (lanEnablePort 1 p s)))
  else if n = pg 4 0 then selfrefUpdate (rsetBit R.CNV_SELFREF 3 false s)
  else if n = pg 7 4 then casStart s
  else if blockOfPage n = 7 then casPortStart (n - pg 7 0) s
  else if blockOfPage n = 12 ∧ n ≠ pg 12 0 then codCtxStart (n - pg 12 1) s
  else s

/-- Pages whose unit did not run before and runs now start. -/
def startUnits (before s : State) : State :=
  (upto 288).foldl (fun s n => if !unitRuns before n && unitRuns s n && pageThere s n then unitStarted n s else s) s

/-- Operations whose leave has just been granted begin. -/
def startOps (before s : State) : State :=
  let new := fun n (s : State) => !granted before n && granted s n
  let s1 := if new 23 s then eraseStart s else s
  let s2 := if new 25 s1 then retrainGranted s1 else s1
  let s3 := if new 26 s2 then migStart s2 else s2
  if new 27 s3 then sweepRun s3 else s3

/-- LEAVE_EVALUATE (R370): every request that passes both tests is granted, and what waited for it begins. -/
def leaveStep (s : State) : State := startOps s (startUnits s (leaveEvaluate s))

def execLeaveEvaluate (s : State) : Host.Outcome State Fault Refusal := .next (leaveStep s)

/-- A request that has waited LEAVE_WAIT_MAX; 22 and 25 never do. -/
def leaveOverdue (s : State) (w : LeaveWait) : Bool :=
  decide (w.n ≠ 22 ∧ w.n ≠ 25) && decide (w.at_ + rfld s R.PLT_LEAVE_WAIT_MAX 15 0 * 1000000 ≤ s.now)

/-- LEAVE_TIMEOUT (R372). -/
def execLeaveTimeout (s : State) : Host.Outcome State Fault Refusal :=
  .next ((s.leaveQueue.filter (leaveOverdue s)).foldl (fun s w => leaveExpire w.n s) s)

/-- LEAVE_BUDGET_WRITE (R374). -/
def execLeaveBudgetWrite (who : Requester) (value : Word) (s : State) : Host.Outcome State Fault Refusal :=
  let s1 := writeReg who R.PLT_LEAVE_BUDGET value 0#32 s
  .next (if pageTakes R.PLT_LEAVE_BUDGET s && rbit s1 R.PLT_LEAVE_BUDGET 31 then withdrawTo (rfld s1 R.PLT_LEAVE_BUDGET 8 0) 32 s1 else s1)

end Sys2Proof.Machine
end

