-- ==== Sys2Proof/Machine/MotCmds.lean ====
section
/-! DEFINITION. The commands and events of the motion block (R309 to R329). On a part without the block an event does nothing. -/

namespace Sys2Proof.Machine

/-- An event of the motion block happens where the block is there. -/
def motEvent (f : State → State) (s : State) : Host.Outcome State Fault Refusal := .next (if motThere s then f s else s)

def execCurrentLoopTick (axis : Fin 8) (u v : List Bool) (s : State) : Host.Outcome State Fault Refusal :=
  motEvent (fun s => currentTick axis.val (currentBits axis.val u v s)) s
def execVelocityTick (s : State) : Host.Outcome State Fault Refusal := motEvent velocityTick s
def execPositionTick (s : State) : Host.Outcome State Fault Refusal := motEvent positionTick s
def execSerialReadDone (axis : Fin 8) (started : Bool) (raw : BitVec 48) (alarm stale : Bool) (crc : Byte) (stamp : Nat) (s : State) :
    Host.Outcome State Fault Refusal := motEvent (serialRead axis.val started raw.toNat alarm stale crc.toNat stamp) s
def execQeiEdge (axis : Fin 8) (a b : Bool) (s : State) : Host.Outcome State Fault Refusal := motEvent (qeiSample axis.val a b) s
def execIndexEdge (axis : Fin 8) (s : State) : Host.Outcome State Fault Refusal := motEvent (indexEdge axis.val) s

/-- GATE_FAULT: MOT_FLT_N goes low, or high again, which ends the condition (R326). -/
def execGateFault (axis : Fin 8) (low : Bool) (s : State) : Host.Outcome State Fault Refusal :=
  motEvent (fun s =>
    let a := axis.val
    let s1 := putAx a { motAx s a with gateLow := low } s
    if low then axFaults a 0 0x10 0#32 true s1 else s1) s

/-- DSM_LOST: an input without transitions (R311); a bus input concerns every axis on that bus. -/
def execDsmLost (channel : Fin 36) (s : State) : Host.Outcome State Fault Refusal := motEvent (dsmStill channel.val) s

def execOffsetCalDone (axis : Fin 8) (s : State) : Host.Outcome State Fault Refusal := motEvent (offsetDone axis.val) s

/-- VOLT_LIMIT: VOLT_LIMITED has stayed 1 for VLIM_TIME in RUN (R313). -/
def execVoltLimit (axis : Fin 8) (s : State) : Host.Outcome State Fault Refusal :=
  motEvent (fun s =>
    let a := axis.val
    if axState s a = 1 ∧ rbit s (R.MOT_AX_STATE a) 8 ∧ lasted s (motAx s a).limitedAt (ufld s (R.MOT_AX_TIMES a) 15 0) then
      axFaults a 5 0x18 (w32 (f32ToIntRNE (f32Mul (rget s (R.MOT_BUS_V (axBus s a))) (f32OfNat 100))).toNat) true s
    else s) s

def execObsLost (axis : Fin 8) (s : State) : Host.Outcome State Fault Refusal := motEvent (obsLost axis.val) s
def execReacqPulse (axis : Fin 8) (angle : BitVec 16) (s : State) : Host.Outcome State Fault Refusal := motEvent (reacqPulse axis.val angle.toNat) s
def execReacqFail (axis : Fin 8) (s : State) : Host.Outcome State Fault Refusal := motEvent (reacqFail axis.val) s

/-- BRAKE_DELAY: BRK_DELAY after HOLD was entered (R326). -/
def execBrakeDelay (axis : Fin 8) (s : State) : Host.Outcome State Fault Refusal :=
  motEvent (fun s =>
    let x := motAx s axis.val
    if axState s axis.val = 4 ∧ x.brakeDue ∧ lasted s (some x.heldAt) (brakeDelay s axis.val) then brakeApply axis.val s else s) s

def execCmdRun (who : Requester) (axis : Fin 8) (s : State) : Host.Outcome State Fault Refusal := .next (cmdWrite who axis.val 1 (cmdRun axis.val) s)
def execCmdHold (who : Requester) (axis : Fin 8) (s : State) : Host.Outcome State Fault Refusal := .next (cmdWrite who axis.val 2 (cmdHold axis.val) s)
def execCmdOff (who : Requester) (axis : Fin 8) (s : State) : Host.Outcome State Fault Refusal := .next (cmdWrite who axis.val 3 (cmdOff axis.val) s)
def execCmdAlign (who : Requester) (axis : Fin 8) (s : State) : Host.Outcome State Fault Refusal := .next (cmdWrite who axis.val 4 (cmdAlign axis.val) s)
def execAlignPhaseEnd (axis : Fin 8) (s : State) : Host.Outcome State Fault Refusal := motEvent (alignPhase axis.val) s

/-- SETPOINT_PUSH: a write of MOT_AX_SP_PUSH with PUSH set (R321). -/
def execSetpointPush (who : Requester) (axis : Fin 8) (value : Word) (s : State) : Host.Outcome State Fault Refusal :=
  let addr := R.MOT_AX_SP_PUSH axis.val
  let s1 := writeReg who addr value 0#32 s
  .next (if pageTakes addr s && bitAt value 0 then setpointPush axis.val s1 else s1)

/-- LATCH_ARM: a write of MOT_AX_LATCH_CTRL with ARM set (R320). -/
def execLatchArm (who : Requester) (axis : Fin 8) (value : Word) (s : State) : Host.Outcome State Fault Refusal :=
  let a := axis.val
  let addr := R.MOT_AX_LATCH_CTRL a
  let s1 := writeReg who addr value 0#32 s
  .next (if pageTakes addr s && bitAt value 2 then putAx a { motAx s1 a with armed := true } s1 else s1)

/-- LATCH_AT: the instant has come (R320). -/
def execLatchAt (axis : Fin 8) (s : State) : Host.Outcome State Fault Refusal :=
  motEvent (fun s =>
    let a := axis.val
    if motRuns s ∧ (motAx s a).armed ∧ rfld s (R.MOT_AX_LATCH_CTRL a) 1 0 = 1 ∧ rlong s (R.MOT_AX_LATCH_AT a) ≤ merNow s then
      takeLatch a (rlong s (R.MOT_AX_LATCH_AT a)) (putAx a { motAx s a with armed := false } s)
    else s) s

/-- FAULT_CLEAR (R326). -/
def execFaultClear (who : Requester) (axis : Fin 8) (value : Word) (s : State) : Host.Outcome State Fault Refusal := .next (faultClear who axis.val value s)

/-- FILTER_OUTPUT: the bits of a ΔΣ input since its filter's last output (R311). -/
def execFilterOutput (channel : Fin 36) (bits : List Bool) (s : State) : Host.Outcome State Fault Refusal :=
  motEvent (fun s => bits.foldl (dsmBit channel.val) s) s

end Sys2Proof.Machine
end

