-- ==== Sys2Proof/Machine/PageOps.lean ====
section
/-! DEFINITION. What a write of a page header does: ENABLE, IDLE_REQ, block resets, commits, interrupt registers (R31 to R37, R40). -/

namespace Sys2Proof.Machine

/-! ### Commits (R36) -/

/-- PHO's commit outside a pass: a new bank ends a reference capture, and the next pass takes the state parts from the old one (R151,
R157, R158). -/
def phoIdleCommit (n : Nat) (s : State) : State :=
  let s1 := commitApply n s
  let sel := ubit s R.PHO_CTRL 0
  if sel = ubit s1 R.PHO_CTRL 0 then s1
  else refAbort (setPho { s1.pho with oldBank := s1.pho.oldBank <|> some (bankBase s sel) } s1)

/-- A pending commit on an idle page goes into use at once, by its block's own check. -/
def commitNow (n : Nat) (s : State) : State :=
  let p := n % 16
  match blockOfPage n with
  | 2 => siuCommit p s
  | 3 =>
    let k := if p = 1 ∨ p = 4 ∨ p = 6 then 1 else 0
    clrCommit n (ufld s (R.SIU_LINECFG k) 15 0 + 1) (ufld s (R.SIU_LINECFG k) 29 16 + 1) s
  | 4 => cnvCommit p s
  | 5 => phoIdleCommit n s
  | 12 => codCommit (p - 1) s
  | _ => commitApply n s

/-- A write of PG_SHADOW. -/
def shadowWrite (who : Requester) (n : Nat) (value : Word) (s : State) : State :=
  let s1 := writeReg who (hdrShadow n) value 0#32 s
  if pageTakes (hdrShadow n) s && bitAt value 0 && hasShadow n && !commitPending s n then
    (let s2 := rsetBit (hdrShadow n) 1 true s1
     if idleRead s n then commitNow n s2 else s2)
  else s1

/-! ### Interrupt registers (R33, R34, R40) -/

/-- A write of PG_INT_STAT: bits written 1 clear; a cascade port's CRC error may be raised again. -/
def intStatWrite (who : Requester) (n : Nat) (value : Word) (s : State) : State :=
  let addr := hdrIntStat n
  let s1 := writeWord who addr value 0#32 s
  if pageTakes addr s then
    (let s2 := clearStat n value s1
     let s3 := if blockOfPage n = 7 ∧ n % 16 < 4 ∧ bitAt value 0 then
         setCasPort (n % 16) { casAt s2 (n % 16) with crcSeen := false } s2 else s2
     psRegister who true addr (resignal n s3))
  else s1

/-- A write of PG_INT_SET: assigned bits written 1 are set, for test. -/
def intSetWrite (who : Requester) (n : Nat) (value : Word) (s : State) : State :=
  let s1 := writeReg who (pageBase n + 0x01C) value 0#32 s
  if pageTakes (hdrIntStat n) s then latchStat n (value &&& intMask n) s1 else s1

/-- A write of PG_INT_EN: reserved bits stay 0. -/
def intEnWrite (who : Requester) (n : Nat) (value : Word) (s : State) : State :=
  let addr := hdrIntEn n
  let s1 := writeWord who addr value 0#32 s
  if pageTakes addr s then psRegister who true addr (resignal n (rset addr (value &&& intMask n) s1)) else s1

/-! ### ENABLE and IDLE_REQ (R32, R369) -/

/-- COD_LOAD shows the sum over the enabled contexts (R275). -/
def codLoadShow (s : State) : State := rset R.COD_LOAD (w32 (satTo 65535 (loadWord (loadSum s (enabledCtxs s))))) s

/-- ENABLE rises: what refuses it (R79, R275), else its leave request, and the start of a unit that needs no new grant (R32). -/
def enableRises (n : Nat) (before s : State) : State :=
  if (n = pg 3 0 ∨ n = pg 3 1) ∧ !cfaValid (uget s) (n - pg 3 0) then
    raiseErr n 0x13 (uget s (R.CLR_CH_MAP (n - pg 3 0))) (rsetBit (hdrCtrl n) 0 false s)
  else
    let load := loadSum s (enabledCtxs s)
    if blockOfPage n = 12 ∧ n ≠ pg 12 0 ∧ load.2 < load.1 then
      codLoadShow (raiseErr n 0x10 (w32 (loadWord load)) (rsetBit (hdrCtrl n) 0 false s))
    else
      let s1 := startUnits before ((startRequests n).foldl (fun s k => leaveRequest k s) s)
      let s2 := if blockOfPage n = 12 then codLoadShow s1 else s1
      if n = pg 11 1 then (upto 4).foldl (fun s q => queueRun q s) s2 else s2

/-- Another page of the same start request is still enabled, or not yet idle (the tile ports share one). -/
def requestShared (s : State) (n k : Nat) : Bool :=
  (upto 288).any fun m => decide (m ≠ n) && (startRequests m).contains k && (enabled s m || !isIdle s m)

/-- ENABLE falls: a start request that waits is withdrawn (R369). -/
def enableFalls (n : Nat) (s : State) : State :=
  let s1 := (startRequests n).foldl (fun s k => if requestShared s n k then s else leaveWithdraw k s) s
  if blockOfPage n = 12 then codLoadShow s1 else s1

/-- A unit that runs after ENABLE was set or IDLE_REQ cleared is not idle (R32). -/
def idleFalls (n : Nat) (s : State) : State :=
  if blockOfPage n = 1 ∨ !enabled s n ∨ idleReq s n then s else rsetBit (hdrStatus n) 0 false s

/-- The ENABLE and IDLE_REQ of a write take effect. -/
def ctrlApply (n : Nat) (value : Word) (s : State) : State :=
  let s1 := idleFalls n (rsetFld (hdrCtrl n) 1 0 (getBits value 1 0) s)
  if blockOfPage n = 1 then s1
  else if !enabled s n && enabled s1 n then
    (let s2 := enableRises n s s1
     if enabled s2 n then s2 else rset (hdrStatus n) (rget s (hdrStatus n)) s2)
  else if enabled s n && !enabled s1 n then enableFalls n s1
  else s1

/-! ### Block reset (R35) -/

/-- What ends at once as a block reset begins: a calibration, a reference capture, motion, capture of audio (R83, R158, R337). -/
def resetBegins (b : Nat) (s : State) : State :=
  match b with
  | 3 => calAbort 1 (calAbort 0 s)
  | 5 => refAbort s
  | 14 => motAllOff s
  | 15 => (upto 4).foldl (fun s p => audAbandon p s) s
  | _ => s

/-- BLK_RST: refused while IDLE = 0, whatever else the write carries. -/
def blockResetAsk (n : Nat) (s : State) : State :=
  if idleRead s n then
    (let s1 := resetBegins (blockOfPage n) s
     { s1 with resetting := setInsert s1.resetting (blockOfPage n) })
  else raiseErr n causeNotIdle (statusWord s n) s

/-- A write of PG_CTRL. -/
def ctrlWrite (who : Requester) (n : Nat) (value : Word) (s : State) : State :=
  let s1 := writeReg who (hdrCtrl n) value 0#32 s
  if !pageTakes (hdrCtrl n) s then s1
  else if bitAt value 2 then blockResetAsk n s1
  else ctrlApply n value s1

/-- Words, or bits of them, that a block reset keeps (R35, R71, R94, R196, R208, R232, R406), and those whose Cold value comes
from the Chart, the media or the always-on domain (R425, R300). -/
def keptWords (s : State) (b : Nat) : List (Nat × Word) :=
  let all := 0xFFFFFFFF#32
  match b with
  | 2 => (upto 2).map fun p => (R.SIU_PORT p, 0xFF00#32)
  | 3 => if spareState s = 2 ∨ spareState s = 3 then [(R.CLR_SPARE, 0xF107#32)] else []
  | 7 => [(R.CAS_ID, 0x3C000#32)]
  | 8 => [(R.MER_FREQ, all), (R.MER_TAI_OFS, all), (R.MER_TAI_OFS + 4, all), (R.MER_STATE, 0x100#32)]
  | 9 => ((upto 5).flatMap fun p => [(R.LAN_SPARE_STATE p, all), (R.LAN_RETIRED p, all)]) ++
      (upto 5).flatMap fun p => (upto (lanCount p)).map fun i => (R.LAN_L_STATE p i, 7#32)
  | 10 => (R.MEM_CFG, all) :: (upto 12).map fun c => (R.MEM_RANK_MAP c, all)
  | 13 => [R.REC_AON_DIRTY, R.REC_FLUSH_STATE, R.REC_MEDIA_MAP, R.REC_MEDIA_RETIRED, R.REC_NEXT_LBA, R.REC_NEXT_LBA + 4, R.REC_CNT_CLIPS].map
      fun a => (a, all)
  | 18 => [(R.DBG_LOCK, 0x307#32), (R.DBG_CHALLENGE, all), (R.DBG_CHALLENGE + 4, all)]
  | _ => []

/-- The registers of a block take their Cold values but for what is kept. -/
def blockErase (b : Nat) (s : State) : State :=
  let mine := fun (a : Nat) => blockOfPage (pageOf a) == b
  let keep := keptWords s b ++ (upto 16).map fun p => (hdrStatus (pg b p), 0x10#32)
  let s1 := { s with
    regs := s.regs.filter fun e => !mine e.1
    inUse := s.inUse.filter fun e => !mine e.1
    held := s.held.filter fun e => !mine e.1
    latch := s.latch.filter fun e => !mine (e.1 % 0x2000000) }
  keep.foldl (fun t (a, m) => rset a ((rget s a &&& m) ||| (coldWord a &&& ~~~m)) t) s1

/-- A pipeline of CLR after a block reset: LUT banks and tables are +0.0; a bank that was loading is INVALID (R106, R122). -/
def clrBlockReset (before s : State) : State :=
  let s1 := (upto 2).foldl (fun s p =>
    match (clrAt before p).loading with
    | some b => setLutState p b 2 s
    | none => s) s
  { s1 with clr := [{}, {}], clrSpare := spareKept s1.clrSpare }

/-- What a block holds beside its registers after its block reset. -/
def blockForget (b : Nat) (before s : State) : State :=
  match b with
  | 2 => { s with siu := [{}, {}] }
  | 3 => clrBlockReset before s
  | 4 => { s with cnv := {} }
  | 5 => { s with pho := {} }
  | 6 => { s with tlk := List.replicate 16 {} }
  | 7 => rsetFld R.CAS_ID 17 14 (rfld s R.CAS_ID 17 14 + 1) { s with cas := {} }
  | 8 => { s with taiPending := false }
  | 9 => { s with lan := s.lan.map fun ls => ls.map fun _ => {}, lanRelease := [] }
  | 10 => { s with memCtl := { trefi := s.memCtl.trefi, chans := s.memCtl.chans.map fun c => { seed := c.seed, acts := c.acts, nextRefresh := c.nextRefresh } } }
  | 11 => { s with cmp := {} }
  | 12 => { s with cod := {} }
  | 13 => setRec { s.recorder with frames := [], reserved := 0, starts := [none, none], stops := [none, none], caps := [0, 0, 0, 0, 0] } s
  | 14 => { s with mot := List.replicate 8 {}, sinc := List.replicate 36 {} }
  | 15 => { s with aud := [{}, {}, {}, {}], audGood := 0 }
  | 16 => { s with twi := [{}, {}, {}, {}] }
  | 17 => { s with cnt := {} }
  | 18 => { s with dbg := { s.dbg with token := none } }
  | _ => s

/-- The block's start requests wait no longer, and its grants are released (R369). -/
def blockLeave (b : Nat) (s : State) : State :=
  (upto 32).foldl (fun s k =>
    match startPage k with
    | some p => if blockOfPage p = b then leaveRelease k (leaveWithdraw k s) else s
    | none => s) s

/-- The reset of block `b` completes. -/
def blockResetEnds (b : Nat) (s : State) : State :=
  if s.resetting.contains b then blockForget b s (blockErase b (blockLeave b { s with resetting := setErase s.resetting b })) else s

/-! ### A unit reaches IDLE (R32, R369) -/

/-- A unit told to stop has no work in flight: IDLE, and with ENABLE = 0 its leave is released. A commit that is pending by then
stays pending and waits for its boundary (DESIGN CHOICE: R36 gives the 1 µs only to a COMMIT written while IDLE is 1). -/
def unitIdles (n : Nat) (s : State) : State :=
  if blockOfPage n = 1 ∨ !pageThere s n ∨ blockResetting s n ∨ (enabled s n ∧ !idleReq s n) ∨ pageBusy s n then s
  else
    let s1 := rsetBit (hdrStatus n) 0 true s
    let s2 := if enabled s n then s1
      else (startRequests n).foldl (fun s k => if requestShared s n k then s else leaveRelease k s) s1
    if blockOfPage n = 12 then codLoadShow s2 else s2

end Sys2Proof.Machine
end

