-- ==== Sys2Proof/Machine/TlkCmds.lean ====
section
/-! DEFINITION. The meanings of the tile ports' commands and events. -/

namespace Sys2Proof.Machine

/-- QUERY_SEND (R175): the next waiting query leaves once none is outstanding. -/
def execQuerySend (port : Fin 16) (s : State) : Host.Outcome State Fault Refusal := .next (querySend port.val s)

/-- REPLY (R170, R175): `rtt` is the measured round trip of R172, in 2^-8 UI. -/
def execReply (port : Fin 16) (packet : Packet) (rtt : Nat) (s : State) : Host.Outcome State Fault Refusal :=
  .next (if tlkState s port.val < 2 then s else replyFrame port.val (rxPacket false packet.first packet.pos packet.codewords) rtt s)

/-- REPLY_TIMEOUT (R175): the outstanding query's timeout has passed. -/
def execReplyTimeout (port : Fin 16) (s : State) : Host.Outcome State Fault Refusal :=
  let p := port.val
  let t := tlkAt s p
  .next (match t.asked with
    | none => s
    | some q => if s.now < q.due then s else queryTimedOut p q (setTlk p { t with asked := none, tempLeft := [] } s))

/-- TEMP_QUERY (R176): a broadcast TEMP every TEMP_PERIOD. -/
def execTempQuery (port : Fin 16) (s : State) : Host.Outcome State Fault Refusal :=
  let p := port.val
  .next (if rfld s (R.TLK_TEMP_CTRL p) 15 0 ≠ 0 ∧ tlkState s p = 3 then
      askLater p { kind := 0x03, dst := 0x1FFF, bcast := true, why := .temp } s
    else s)

/-- ECHO_REMEASURE (R172): one tile every ECHO_PERIOD, in position order. -/
def execEchoRemeasure (port : Fin 16) (s : State) : Host.Outcome State Fault Refusal :=
  let p := port.val
  let n := tlkCount s p
  .next (if rbit s (R.TLK_PORT_CTRL p) 3 && decide (tlkState s p = 3 ∧ 0 < n) then
      (let c := (tlkAt s p).echoNext % n
       ask p 0x02 c .echo (setTlk p { tlkAt s p with echoNext := c + 1 } s))
    else s)

/-- STATUS_PROBE (R180): STATUS to the last position every PROBE_PERIOD. -/
def execStatusProbe (port : Fin 16) (s : State) : Host.Outcome State Fault Refusal :=
  let p := port.val
  let n := tlkCount s p
  .next (if rbit s (R.TLK_PORT_CTRL p) 2 && decide (tlkState s p = 3 ∧ 0 < n) then ask p 0x04 (n - 1) .probe s else s)

/-- ENUM (R177): a write of TLK_PORT_CTRL with ENUM = 1. -/
def execEnum (who : Requester) (port : Fin 16) (value : Word) (s : State) : Host.Outcome State Fault Refusal :=
  let p := port.val
  let taken := pageTakes (R.TLK_PORT_CTRL p) s
  let s1 := writeReg who (R.TLK_PORT_CTRL p) value 0#32 s
  .next (if taken && bitAt value 0 && tlkRuns s1 p && tlkLaneUp s1 p then tlkEnumerate p s1 else s1)

/-- RESUME (R180): a write of TLK_PORT_CTRL with RESUME = 1: ASSIGN for position REACH, then position by position. -/
def execResume (who : Requester) (port : Fin 16) (value : Word) (s : State) : Host.Outcome State Fault Refusal :=
  let p := port.val
  let taken := pageTakes (R.TLK_PORT_CTRL p) s
  let s1 := writeReg who (R.TLK_PORT_CTRL p) value 0#32 s
  let c := rfld s1 (R.TLK_REACH p) 13 0
  .next (if taken && bitAt value 1 && decide (tlkState s1 p = 3) then
      (if c < 8192 then askAssign p c .resumeAssign s1 else resumeEnd p c s1)
    else s1)

/-- The host window's earlier request is not DONE. -/
def hostWaiting (s : State) (p : Nat) : Bool :=
  let t := tlkAt s p
  (t.waiting.any fun q => q.why == .host) || (match t.asked with | some q => q.why == .host | none => false)

/-- The host window takes a request, a QUERY or a CONFIG (R184). -/
def hostAsk (p : Nat) (config : Bool) (value : Word) (s : State) : State :=
  askLater p { kind := getBits value 23 16, dst := getBits value 12 0, bcast := bitAt value 15, why := .host, config := config }
    (rsetBit (R.TLK_HQ_CTRL p) 30 false (rsetBit (R.TLK_HQ_CTRL p) 29 false s))

/-- HOST_QUERY (R184): a write of TLK_HQ_CTRL with GO = 1 and TYPE = 0. -/
def execHostQuery (who : Requester) (port : Fin 16) (value : Word) (s : State) : Host.Outcome State Fault Refusal :=
  let p := port.val
  let taken := pageTakes (R.TLK_HQ_CTRL p) s
  let s1 := writeReg who (R.TLK_HQ_CTRL p) value 0#32 s
  .next (if !taken || !bitAt value 31 || bitAt value 24 then s1
    else if hostWaiting s1 p then raiseErr (pg 6 p) 0x17 (w32 (getBits value 23 16)) s1
    else if bitAt value 15 ∧ getBits value 23 16 ≠ 0x03 then raiseErr (pg 6 p) causeRange 0x068#32 s1
    else hostAsk p false value s1)

/-- HOST_CONFIG (R184): a write of TLK_HQ_CTRL with GO = 1 and TYPE = 1: a maker CONFIG of kind 0x80 to 0xFF. -/
def execHostConfig (who : Requester) (port : Fin 16) (value : Word) (s : State) : Host.Outcome State Fault Refusal :=
  let p := port.val
  let taken := pageTakes (R.TLK_HQ_CTRL p) s
  let s1 := writeReg who (R.TLK_HQ_CTRL p) value 0#32 s
  .next (if !taken || !bitAt value 31 || !bitAt value 24 then s1
    else if hostWaiting s1 p then raiseErr (pg 6 p) 0x17 (w32 (getBits value 23 16)) s1
    else if getBits value 23 16 < 0x80 then raiseErr (pg 6 p) causeRange 0x068#32 s1
    else hostAsk p true value s1)

/-- SCHEDULE_RESEND (R169): the ratio is measured again, and a SCHEDULE goes out where a converted edge has moved by 1 ns or more since the last. -/
def execScheduleResend (port : Fin 16) (s : State) : Host.Outcome State Fault Refusal :=
  let p := port.val
  .next (if tlkRuns s p && decide (tlkState s p = 3) && !(tlkAt s p).slots.isEmpty then
      (if edgeMoved (tlkAt s p).edges (scheduleEdges s s.drawn (uget s)) then sendSchedule p (uget s) s else draw s)
    else s)

end Sys2Proof.Machine
end

