-- ==== Sys2Proof/Machine/Pages.lean ====
section
/-! DEFINITION. Register accesses of any address: a write acts as the command its register has, a read as its side effects say;
and the commands of the register pages (R29 to R43, R366, R381, R405). -/

namespace Sys2Proof.Machine

/-- The state an outcome goes on with. -/
def outState (s : State) : Host.Outcome State Fault Refusal → State
  | .next t => t
  | _ => s

/-- The index of `addr` in an array of `n` registers. -/
def indexOf (base stride n addr : Nat) : Option (Fin n) :=
  if h : base ≤ addr ∧ (addr - base) % stride = 0 ∧ (addr - base) / stride < n then some ⟨(addr - base) / stride, h.2.2⟩ else none

/-- A command of an indexed register, where the address is one of them. -/
def onIndex {n : Nat} (i : Option (Fin n)) (f : Fin n → State) (rest : State) : State :=
  match i with
  | some k => f k
  | none => rest

/-! ### Writes without a command of their own that do more than store -/

/-- WARN above THROTTLE refuses the whole write (R377). -/
def thermThrWrite (who : Requester) (value : Word) (s : State) : State :=
  let addr := R.PLT_THERM_THR
  let t := getBits value 15 8
  let throttle := if 60 ≤ t ∧ t ≤ 105 then t else rfld s addr 15 8
  let warn := if 60 ≤ getBits value 7 0 then getBits value 7 0 else rfld s addr 7 0
  if pageTakes addr s && decide (throttle < warn) then
    raiseErr (pg 1 3) causeRange (w32 (addr % 0x1000)) (countSeq (pg 1 3) s)
  else writeReg who addr value 0#32 s

/-- A queue of CMP whose EN rises starts anew (R269). -/
def queueWrite (who : Requester) (q : Nat) (value : Word) (s : State) : State :=
  let addr := R.CMP_Q_CTRL q
  let s1 := writeReg who addr value 0#32 s
  if !rbit s addr 0 && rbit s1 addr 0 then queueRun q (setCmp { s1.cmp with stopped := setErase s1.cmp.stopped q } s1) else s1

/-- A group's spares are wired or not (R230): one that no longer is goes to electrical idle, one that is comes up with its port; a failed
spare stays failed (R231). -/
def wireWrite (who : Requester) (p : Nat) (value : Word) (before : State) : State :=
  let addr := R.LAN_SPARE_WIRE p
  let s1 := writeReg who addr value 0#32 before
  if !pageTakes addr before then s1
  else (upto 2).foldl (fun s k =>
    let i := spareLane p k
    let moved := decide (lanePort before p i ≠ lanePort s p i)
    if !spareWired s p k then
      (if spareStateOf s p k = 3 ∨ spareStateOf s p k = 4 then s else setSpareOf p k 4 (spareLaneFor s p k) (laneDown p i s))
    else if spareStateOf s p k = 4 then laneWake p i (setSpareOf p k 0 0 s)
    else if moved then laneWake p i (laneDown p i s) else s) s1

/-- The registers of PLT, SIU and CLR whose write acts. DESIGN CHOICE (log 123): triggers still outstanding stay so when SIU_TRIG_CTRL.EN falls and
rises; k starts again at 0. -/
def writeLow (who : Requester) (addr : Nat) (v : Word) (s : State) (rest : State) : State :=
  if addr = R.PLT_RESET_REQ then resetRequest who v s
  else if addr = R.PLT_START_OK then startWrite who v s
  else if addr = R.PLT_WDOG_BIN then kickBin who v s
  else if addr = R.PLT_WDOG_HOST then kickHost who v s
  else if addr = R.PLT_DR_CTRL then deadReckoningWrite who v s
  else if addr = R.PLT_LOCK then
    (let s1 := writeReg who addr v 0#32 s
     if pageTakes addr s && bitAt v 0 then rsetBit addr 0 true s1 else s1)
  else if addr = R.PLT_FW_SLOT then outState s (execFwSlotWrite who v s)
  else if addr = R.PLT_SETTINGS_SLOT then outState s (execSettingsSlotWrite who v s)
  else if addr = R.PLT_FLASH_CMD then flashCommand who v s
  else if addr = R.PLT_LEAVE_BUDGET then outState s (execLeaveBudgetWrite who v s)
  else if addr = R.PLT_THERM_THR then thermThrWrite who v s
  else if addr = R.PLT_THERM_CTRL then levelForce (writeReg who addr v 0#32 s)
  else if addr = R.PLT_HOLD_TEST then holdTestWrite who v s
  else if addr = R.CLR_SPARE then
    (if bitAt v 24 then outState s (execClrForce who v s) else outState s (execClrRelease who v s))
  else if addr = R.CLR_TW_DATA + 4 then outState s (execTableWrite who v s)
  else
    onIndex (indexOf (R.CLR_DARK_CTRL 0) 0x1000 2 addr)
      (fun p => if bitAt v 8 then outState s (execDarkCalStart who p v s) else outState s (execDarkCalCancel who p v s)) <|
    onIndex (indexOf (R.CLR_LUT_LOAD 0) 0x1000 2 addr) (fun p => outState s (execLutLoad who p v s)) <|
    onIndex (indexOf (R.CLR_TAP_CTRL 0) 0x1000 2 addr)
      (fun p =>
        let s1 := writeReg who addr v 0#32 s
        let c := clrAt s1 p.val
        if pageTakes addr s then setClr p.val { c with ring := { c.ring with due := 0 } } s1 else s1) <|
    onIndex (indexOf (R.SIU_T0_CTRL 0) 0x1000 2 addr)
      (fun p =>
        let s1 := writeReg who addr v 0#32 s
        let q := siuAt s1 p.val
        if pageTakes addr s then setSiu p.val { q with ring := { q.ring with due := 0 } } s1 else s1) <|
    onIndex (indexOf (R.SIU_TRIG_CTRL 0) 0x1000 2 addr)
      (fun p =>
        let s1 := writeReg who addr v 0#32 s
        if !rbit s addr 0 && rbit s1 addr 0 then setSiu p.val { siuAt s1 p.val with nextTrig := 0 } s1 else s1) rest

/-- The registers of CNV, PHO, TLK, CAS, MER, LAN and CMP whose write acts. -/
def writeMid (who : Requester) (addr : Nat) (v : Word) (s : State) (rest : State) : State :=
  if addr = R.CNV_MAP_CTRL then outState s (execMapValidate who v s)
  else if addr = R.CNV_SELFREF then selfrefUpdate (writeReg who addr v 0#32 s)
  else if addr = R.PHO_REF_CTRL then
    (if bitAt v 0 then outState s (execRefCaptureStart who v s) else outState s (execRefCaptureCancel who v s))
  else if addr = R.CAS_ID ∨ addr = R.CAS_ELECT then
    (let s1 := writeReg who addr v 0#32 s
     if pageTakes addr s then electWritten (casId s) s1 else s1)
  else if addr = R.CAS_MSG_TX_WR then outState s (execMsgSend who v s)
  else if addr = R.MER_TAI_SET + 8 then outState s (execTaiSet who v s)
  else
    onIndex (indexOf (R.TLK_PORT_CTRL 0) 0x1000 16 addr)
      (fun p => if bitAt v 0 then outState s (execEnum who p v s) else outState s (execResume who p v s)) <|
    onIndex (indexOf (R.TLK_HQ_CTRL 0) 0x1000 16 addr)
      (fun p => if bitAt v 24 then outState s (execHostConfig who p v s) else outState s (execHostQuery who p v s)) <|
    onIndex (indexOf (R.CAS_PORT_CTRL 0) 0x1000 4 addr) (fun p => outState s (execRetrain who p v s)) <|
    onIndex (indexOf (R.LAN_SPARE_CTRL 0) 0x1000 3 addr)
      (fun p => if bitAt v 1 then outState s (execLanForce who p v s) else outState s (execLanRelease who p v s)) <|
    onIndex (indexOf (R.LAN_SPARE_WIRE 1) 0x1000 2 addr) (fun p => wireWrite who (p.val + 1) v s) <|
    onIndex (indexOf (R.LAN_RETIRED 0) 0x1000 5 addr) (fun p => outState s (execRetiredClear who p v s)) <|
    onIndex (indexOf (R.MEM_CE_THR 0) 0x1000 12 addr)
      (fun ch =>
        let s1 := writeReg who addr v 0#32 s
        if pageTakes addr s then (upto 3).foldl (fun s r => ceCheck ch.val r s) s1 else s1) <|
    onIndex (indexOf (R.CMP_SEND_CTRL 0) 32 8 addr) (fun k => outState s (execSendBind who k v s)) <|
    onIndex (indexOf (R.CMP_Q_CTRL 0) 64 4 addr) (fun q => queueWrite who q.val v s) <|
    onIndex (indexOf (R.CMP_Q_WR 0) 64 4 addr) (fun q => outState s (execJobSubmit who q v s)) rest

/-- A command of an axis, by its number. -/
def axisCommand (who : Requester) (a : Fin 8) (v : Word) (s : State) : State :=
  let k := getBits v 2 0
  if k = 1 then outState s (execCmdRun who a s)
  else if k = 2 then outState s (execCmdHold who a s)
  else if k = 3 then outState s (execCmdOff who a s)
  else if k = 4 then outState s (execCmdAlign who a s)
  else writeReg who (R.MOT_AX_CMD a.val) v 0#32 s

/-- The registers of REC, MOT, AUD, TWI, CNT and DBG whose write acts. -/
def writeHigh (who : Requester) (addr : Nat) (v : Word) (s : State) (rest : State) : State :=
  if addr = R.REC_MEDIA_FORCE then outState s (execMediaForce who v s)
  else if addr = R.REC_MEDIA_RETIRED then outState s (execMediaRetiredClear who v s)
  else if addr = R.REC_CLIP_CTRL then clipControl who v s
  else if addr = R.CNT_CTRL then
    (let s1 := writeReg who addr v 0#32 s
     if !rbit s addr 0 && rbit s1 addr 0 then snapshotEnable s1 else s1)
  else if addr = R.CNT_PS_CTRL then psControl s (writeReg who addr v 0#32 s)
  else if addr = R.CNT_PS_RD then
    (let s1 := writeReg who addr v 0#32 s
     if pageTakes addr s then setCnt { s1.cnt with psFull := false } s1 else s1)
  else if addr = R.DBG_LOCK then tokenVerify who v s
  else if addr = R.DBG_RESET_REQ then debugRegister who v s
  else
    onIndex (indexOf (R.MOT_AX_CMD 0) 0x1000 8 addr) (fun a => axisCommand who a v s) <|
    onIndex (indexOf (R.MOT_AX_SP_PUSH 0) 0x1000 8 addr) (fun a => outState s (execSetpointPush who a v s)) <|
    onIndex (indexOf (R.MOT_AX_LATCH_CTRL 0) 0x1000 8 addr) (fun a => outState s (execLatchArm who a v s)) <|
    onIndex (indexOf (R.MOT_AX_FAULT 0) 0x1000 8 addr) (fun a => outState s (execFaultClear who a v s)) <|
    onIndex (indexOf (R.AUD_CMD 0) 0x1000 4 addr) (fun p => audCommand who p.val v s) <|
    onIndex (indexOf (R.TWI_XFER 0) 0x1000 4 addr) (fun p => outState s (execTwiGo who p v false true s)) <|
    onIndex (indexOf (R.TWI_TGT_TX 0) 0x1000 4 addr) (fun p => outState s (execTgtTxPush who p v s)) <|
    onIndex ((upto 144).find? fun k => selAddr (k / 8) (k % 8) == addr) (fun k => counterSelect who (k / 8) (k % 8) v s) <|
    onIndex ((upto 18).find? fun b => R.CNT_CLEAR (b / 2) (b % 2) == addr) (fun b => counterClear who b v s) rest
where
  /-- The same, for an index found by search. -/
  onIndex {α : Type} (i : Option α) (f : α → State) (rest : State) : State :=
    match i with
    | some k => f k
    | none => rest

/-- A write of a page header. -/
def writeHeader (who : Requester) (addr : Nat) (v : Word) (s : State) : State :=
  let n := pageOf addr
  let off := addr % 0x1000
  if off = 0x008 then ctrlWrite who n v s
  else if off = 0x014 then intEnWrite who n v s
  else if off = 0x018 then intStatWrite who n v s
  else if off = 0x01C then intSetWrite who n v s
  else if off = 0x028 then shadowWrite who n v s
  else writeReg who addr v 0#32 s

/-- A bad access (R29): E_BAD_ACCESS on PLT page 0. -/
def badAccess (addr : Nat) (s : State) : State := raiseErr (pg 1 0) 0x10 (w32 addr) s

/-- A write of any address by any requester: the effect of the command its register has, else of a plain write (R7, R42). -/
def writeAny (who : Requester) (addr : Nat) (v : Word) (s : State) : State :=
  if addr % 4 ≠ 0 then badAccess addr s
  else if addr % 0x1000 < 0x040 then writeHeader who addr v s
  else
    let plain := writeReg who addr v 0#32 s
    let b := blockOfPage (pageOf addr)
    if b ≤ 3 then writeLow who addr v s plain
    else if b ≤ 12 then writeMid who addr v s plain
    else writeHigh who addr v s plain

/-- A read of any address (R38): what it returns, and what it changes. -/
def readAny (who : Requester) (addr : Nat) (s : State) : State :=
  if addr % 4 ≠ 0 then emit (.readData who 0#32) (badAccess addr s)
  else if addr = R.CNV_LTR then outState s (execCnvLtrRead who s)
  else if addr = R.PHO_PWR_PEAK then outState s (execPhoPwrPeakRead who s)
  else if addr = R.PLT_THERM_PEAK then outState s (execPltThermPeakRead who s)
  else
    onIndex (indexOf (R.TWI_TGT_RX 0) 0x1000 4 addr) (fun p => outState s (execTgtRxPop who p s)) <|
      let v := readWord s who addr
      let serves := pageTakes addr s
      let s1 := readOut who addr v (if serves then latchRead who addr s else s)
      if !serves then s1
      else if addr = R.CLR_TW_DATA + 4 then tableIndexOn s1
      else if addr = R.PLT_LOGBOOK_QUEUE then rsetFld addr 24 16 (rfld s1 addr 8 0) s1
      else if blockOfPage (pageOf addr) = 9 then
        (let p := pageOf addr - pg 9 0
         onIndex (indexOf (R.LAN_L_FOM p 0) 16 20 addr)
           (fun i => if i.val < lanCount p then
             setLanLane p i.val { lanLane s1 p i.val with minHeld := false } (rsetFld addr 25 16 (rfld s1 addr 9 0) s1) else s1) s1)
      else s1

/-! ### The commands -/

/-- REG_WRITE (R42). -/
def execRegWrite (who : Requester) (addr : Nat) (value : Word) (s : State) : Host.Outcome State Fault Refusal :=
  .next (writeAny who addr value s)

/-- An access the device accepts: naturally aligned, 32 or 64 bits (R29). -/
def accessGood (addr bytes : Nat) : Bool := (bytes == 4 && addr % 4 == 0) || (bytes == 8 && addr % 8 == 0)

/-- An access of any width and alignment, a read or a write of a value (R29): an accepted one acts as its 32-bit accesses, lower address
first; another is discarded, or reads 0, and is reported. -/
def execBadAccess (who : Requester) (addr bytes : Nat) (write : Option (BitVec 64)) (s : State) : Host.Outcome State Fault Refusal :=
  let isWrite := write.isSome
  let value := write.getD 0
  .next (if accessGood addr bytes then
      (let words := if bytes = 8 then [(addr, value.setWidth 32), (addr + 4, (value >>> 32).setWidth 32)] else [(addr, value.setWidth 32)]
       words.foldl (fun s x => if isWrite then writeAny who x.1 x.2 s else readAny who x.1 s) s)
    else if isWrite then badAccess addr s
    else emit (.readData who 0#32) (badAccess addr s))

/-- LO_WORD_READ (R38). -/
def execLoWordRead (who : Requester) (addr : Nat) (s : State) : Host.Outcome State Fault Refusal := .next (readAny who addr s)

/-- HI_WORD_WRITE (R38). -/
def execHiWordWrite (who : Requester) (addr : Nat) (value : Word) (s : State) : Host.Outcome State Fault Refusal :=
  .next (writeAny who addr value s)

/-- ENABLE (R32). -/
def execEnable (who : Requester) (page : Fin 288) (value : Word) (s : State) : Host.Outcome State Fault Refusal :=
  .next (ctrlWrite who page.val value s)

/-- IDLE_REQ (R32). -/
def execIdleReq (who : Requester) (page : Fin 288) (value : Word) (s : State) : Host.Outcome State Fault Refusal :=
  .next (ctrlWrite who page.val value s)

/-- UNIT_IDLE (R32). -/
def execUnitIdle (page : Fin 288) (s : State) : Host.Outcome State Fault Refusal := .next (unitIdles page.val s)

/-- BLK_RST (R35). -/
def execBlkRst (who : Requester) (page : Fin 288) (value : Word) (s : State) : Host.Outcome State Fault Refusal :=
  .next (ctrlWrite who page.val value s)

/-- BLOCK_RESET_DONE (R35): at most 10 µs after the write. -/
def execBlockResetDone (block : Fin 18) (s : State) : Host.Outcome State Fault Refusal := .next (blockResetEnds (block.val + 1) s)

/-- COMMIT (R36). -/
def execCommit (who : Requester) (page : Fin 288) (value : Word) (s : State) : Host.Outcome State Fault Refusal :=
  .next (shadowWrite who page.val value s)

/-- PG_INT_STAT_CLEAR (R33, R34). -/
def execPgIntStatClear (who : Requester) (page : Fin 288) (value : Word) (s : State) : Host.Outcome State Fault Refusal :=
  .next (intStatWrite who page.val value s)

/-- PG_INT_SET (R33). -/
def execPgIntSet (who : Requester) (page : Fin 288) (value : Word) (s : State) : Host.Outcome State Fault Refusal :=
  .next (intSetWrite who page.val value s)

/-- PG_INT_EN_WRITE (R40). -/
def execPgIntEnWrite (who : Requester) (page : Fin 288) (value : Word) (s : State) : Host.Outcome State Fault Refusal :=
  .next (intEnWrite who page.val value s)

/-- MSIX_UNMASK (R40): a message held as pending is sent. -/
def execMsixUnmask (vector : Fin 2048) (s : State) : Host.Outcome State Fault Refusal :=
  let v := vector.val
  let s1 := { s with msixOn := setInsert s.msixOn v, msixPending := setErase s.msixPending v }
  .next (if s.msixPending.contains v then emit (.msix v) s1 else s1)

/-- LOCK (R366). -/
def execLock (who : Requester) (value : Word) (s : State) : Host.Outcome State Fault Refusal := .next (writeAny who R.PLT_LOCK value s)

/-- JTAG_REGISTER_ACCESS (R405): served while scope [0] is open. -/
def execJtagRegisterAccess (addr : Nat) (isWrite : Bool) (value : Word) (s : State) : Host.Outcome State Fault Refusal :=
  .next (if !jtagServed s then s else if isWrite then writeAny .jtag addr value s else readAny .jtag addr s)

end Sys2Proof.Machine
end

