-- ==== Sys2Proof/Machine/Start.lean ====
section
/-! DEFINITION. The start: boot ROM and firmware, cold, warm and in Dead-reckoning mode (R353 to R366, R388, R389, R392, R394, R425). -/

namespace Sys2Proof.Machine

/-- STEP moves on: the start state has changed (R365). -/
def setStep (k : Nat) (s : State) : State := raiseInt (pg 1 0) 1 (rsetFld R.PLT_START_STATE 3 0 k s)

/-- RST_N may be released: the reset is over, no flush runs, and the core does not wait for main power (R350, R380, R393). -/
def releasable (s : State) : Bool :=
  decide (s.plt.phase = .held) && !s.plt.trip && !s.plt.lossActive && !(onHoldup s && !mainGood s)

/-! ### What the ROM and firmware note first -/

/-- LOST for the events queued at the reset, POWER_LOSS for a loss not yet recorded, before any new event (R392). -/
def startLosses (s : State) : State :=
  let depth := rfld s R.PLT_LOGBOOK_QUEUE 8 0
  let s1 := if depth = 0 then s
    else draw (logEvent 1 0 0x00FF (leBytes 4 depth ++ leBytes 4 (Config.lostTime s.drawn) ++ leBytes 4 (Config.lostTime (s.drawn + 1))) (draw s))
  if s1.plt.lossLogged then s1
  else
    setPlt { s1.plt with lossLogged := true }
      (logEvent 1 0 0x0040 (leBytes 4 (holdOutcome s1) ++ leBytes 4 (rnat s1 R.REC_AON_DIRTY) ++ longBytes s1.plt.lossAt) s1)

/-- One failing row or column takes a spare of its macro (R389). -/
def bistRepair (x : Nat × Bool × Nat) (s : State) : State :=
  let (m, column, k) := x
  let note := logEvent 1 0 0x0031 (leBytes 4 m ++ leBytes 4 (k + b2n column * 2 ^ 31) ++ leBytes 4 1)
  if column then
    (if s.plt.columnUsed.contains m then sramNoSpare m s
     else note (setPlt { s.plt with columnUsed := setInsert s.plt.columnUsed m } s))
  else if 2 ≤ sramRowsUsed s m then sramNoSpare m s
  else note (setPlt { s.plt with rowsUsed := smSet 0 s.plt.rowsUsed m (sramRowsUsed s m + 1) } s)

/-- Soft repairs of the newest snapshot, then what BIST finds. -/
def sramStart (bist : List (Nat × Bool × Nat)) (s : State) : State :=
  let soft := s.plt.marks.filter fun m => m.kind == 5
  let rows := soft.foldl (fun (r : List (Nat × Nat)) m => if m.unit < 2 ^ 31 then smSet 0 r m.page (smGet 0 r m.page + 1) else r) []
  let columns := soft.foldl (fun (c : List Nat) m => if m.unit < 2 ^ 31 then c else setInsert c m.page) []
  bist.foldl (fun s x => bistRepair x s) (setPlt { s.plt with rowsUsed := rows, columnUsed := columns } s)

/-- A device draws its debug challenge at a cold start (R406). -/
def drawChallenge (s : State) : State := draw (rset2 R.DBG_CHALLENGE (Config.challenge s.drawn % 2 ^ 64) s)

/-- RST_N goes high, and the start timer runs. -/
def startOpens (facts : StartFacts) (s : State) : State :=
  let s1 := emit (.rstN false) (setPlt { s.plt with releasedAt := s.now, inStart := true } s)
  let s2 := if s1.plt.cold then startLosses s1 else s1
  let s3 := logEvent 1 0 0x0001 (leBytes 4 (rnat s2 R.PLT_RESET_CAUSE) ++ leBytes 4 (rnat s2 R.PLT_START_COUNT)) s2
  if s3.plt.cold then drawChallenge (sramStart facts.bist s3) else s3

/-- The register fabric opens, and the core runs. -/
def fabricOpens (s : State) : State :=
  setPlt { s.plt with phase := .running } { s with fabricOpen := true, warmBegun := false, stopped := 0, warmStart := !s.plt.cold }

/-! ### Dead-reckoning mode (R355) -/

def drEnter (fallback : Nat) (s : State) : State :=
  let s1 := fabricOpens s
  let s2 := setPlt { s1.plt with deadReckoning := true, inStart := false, image := none } { s1 with stopped := 2 }
  let s3 := rsetFld R.PLT_START_STATE 10 9 fallback (rsetBit R.PLT_START_STATE 8 true (controllerClear (motAllOff s2)))
  let s4 := if s3.recorder.dirty.isEmpty then memSleep s3 else recFlushBegin false (memWake s3)
  let s5 := logEvent 0 0 0x0004 (leBytes 4 (rnat s4 R.PLT_START_COUNT)) (rsetBit R.PLT_DR_CTRL 0 true s4)
  raiseErr (pg 1 0) 0x19 (rget s5 R.PLT_START_COUNT) (raiseInt (pg 1 0) 1 s5)

/-! ### The slot starts (R359, R360, R365) -/

/-- The version that ran before. -/
def oldVersion (s : State) : Nat :=
  match s.plt.image with
  | some i => i.version
  | none => (imageOf s s.plt.lastSlot).version

/-- The image runs: its slot, version and settings show, and a fallback or a change of firmware is recorded. -/
def slotStarts (slot : Nat) (kept : Bool) (r : BootRec) (s : State) : State :=
  let image := match kept, s.plt.image with
    | true, some i => i
    | _, _ => imageOf s slot
  let changed := decide (r.fallback ≠ 0 ∨ slot ≠ s.plt.lastSlot ∨ image.version ≠ oldVersion s)
  let s1 := if changed then
      logEvent 1 0 0x0002 (leBytes 4 (oldVersion s) ++ leBytes 4 image.version ++ leBytes 4 slot ++ leBytes 4 r.fallback) s
    else s
  let s2 := fabricOpens (setPlt { s1.plt with image := some image, lastSlot := slot, prevFailed := false } s1)
  let set := settingsOf r slot
  let schema := match settingsHeader s2 set with | some (k, _, _) => k | none => 0
  let s3 := rset R.PLT_FW_VERSION (w32 image.version)
    (rset R.PLT_SETTINGS_SLOT (w32 (set + set * 16 + schema * 65536))
      (rset R.PLT_FW_SLOT (w32 (slot + r.next * 16 + b2n r.trial * 32 + b2n r.incompA * 2 ^ 16 + b2n r.incompB * 2 ^ 17 + r.fallback * 2 ^ 24)) s2))
  let s4 := setStep 5 (rsetFld R.PLT_START_STATE 10 9 r.fallback s3)
  if r.fallback ≠ 0 then raiseErr (pg 1 1) 0x14 (w32 r.fallback) s4 else s4

/-! ### Settings (R363) -/

/-- Firmware marks its own slot INCOMPAT, and requests a warm reset. -/
def markIncompat (slot : Nat) (r : BootRec) (s : State) : State :=
  let r' := if slot = 0 then { r with incompA := true } else { r with incompB := true }
  recognise 8 (bootWrite { r' with seq := (r.seq + 1) % 2 ^ 32 } s)

/-- The settings slot to use, or none where firmware gives up; and what the flash holds then. -/
def settingsReady (slot : Nat) (r : BootRec) (s : State) : Option Nat × State :=
  let set := settingsOf r slot
  match settingsHeader s set, s.plt.image with
  | some (schema, seq, mask), some image =>
    if schema = image.schema then (some set, s)
    else if image.schemaMin ≤ schema ∧ schema < image.schema then
      (match migrateSlot set schema image.schema seq mask s with
       | some t =>
         let r' := { r with seq := (r.seq + 1) % 2 ^ 32, settings := withBits r.settings slot slot (1 - set) }
         (some (1 - set), rset R.PLT_SETTINGS_SLOT (w32 ((1 - set) * 17 + image.schema * 65536)) (bootWrite r' t))
       | none => (none, flashErase (settingsBase (1 - set)) 0x100000 s))
    else (none, s)
  | _, _ => (some set, s)

/-! ### The Chart (R361, R362) -/

/-- The Chart's number and SOURCE; a warm start's CHART_SEL is used up. -/
def chartChoice (balls : Nat) (s : State) : Nat × Nat × State :=
  if s.plt.cold then (balls, 0, s)
  else if rbit s R.PLT_CHART_SEL 31 then (rfld s R.PLT_CHART_SEL 1 0, 1, rset R.PLT_CHART_SEL 0#32 s)
  else if s.plt.chartKnown then (s.plt.chart, 2, s)
  else (balls, 0, s)

/-- The Chart is active. -/
def chartActive (n source balls role schema : Nat) (s : State) : State :=
  let s1 := rset R.PLT_CHART_ACTIVE (w32 (n + source * 16 + balls * 256 + role * 4096 + schema * 65536)) s
  let s2 := if s.plt.chartKnown ∧ s.plt.chart = n then s1
    else logEvent 1 0 0x0003 (leBytes 4 n ++ leBytes 4 source ++ leBytes 4 schema) s1
  setPlt { s2.plt with chart := n, chartKnown := true } s2

/-- A record for PG_CTRL waits for step 13. -/
def isCtrl (a : Nat) : Bool := a % 0x1000 == 0x008

/-- The two fields that firmware writes first, at a cold start only (R425). -/
def isEarly (a : Nat) : Bool := a == R.MEM_CFG || a == R.REC_MEDIA_MAP

/-- A register with a lockable field: a warm start skips its record (R366). -/
def isLockable (a : Nat) : Bool :=
  match regAt a with
  | some (r, _) => r.fields.any fun f => f.acc == .rwl
  | none => false

/-- One record: whether its write raised an error on its page. -/
def recordApply (a : Nat) (v : Word) (s : State) : Bool × State :=
  let t := writeAny .binnacle a v s
  (decide (rget t (hdrErrCode (pageOf a)) ≠ rget s (hdrErrCode (pageOf a))), t)

/-- Records in order, until one raises an error: its index. -/
def recordsApply (warm : Bool) : Nat → List (Nat × Word) → State → Option Nat × State
  | _, [], s => (none, s)
  | i, (a, v) :: rs, s =>
    if isCtrl a ∨ isEarly a ∨ (warm ∧ isLockable a) then recordsApply warm (i + 1) rs s
    else
      let (bad, t) := recordApply a v s
      if bad then (some i, t) else recordsApply warm (i + 1) rs t

/-- COMMIT on every page that a record wrote. -/
def pagesCommit (rs : List (Nat × Word)) (s : State) : State :=
  (rs.foldl (fun m e => if isCtrl e.1 then m else setInsert m (pageOf e.1)) []).foldl (fun s n => shadowWrite .binnacle n 1#32 s) s

/-- Step 13: the PG_CTRL records of the units that the role names; a record for another unit starts nothing (R15, log 99). -/
def unitsStart (role : Nat) (rs : List (Nat × Word)) (s : State) : State :=
  (rs.filter fun e => isCtrl e.1 && (roleBlocks role).contains (blockOfPage (pageOf e.1))).foldl
    (fun s e => ctrlWrite .binnacle (pageOf e.1) e.2 s) s

/-! ### Spares, lanes, memory (R226, R243, R245, R388) -/

/-- A mark of the spare state takes effect at a cold start. -/
def markRestore (m : SpareMark) (s : State) : State :=
  if m.kind ≤ 2 then
    (let s1 := rsetFld (R.LAN_L_STATE m.kind m.unit) 2 0 6 (rsetBit (R.LAN_RETIRED m.kind) m.unit true (setSpareOf m.kind m.spare 2 m.unit s))
     let s2 := rsetBit (hdrStatus m.page) 4 true s1
     if m.kind = 1 then emit (.tspSel m.spare true) s2 else s2)
  else if m.kind = 3 then rsetBit (hdrStatus (pg 3 (m.unit / 256))) 4 true (setSpareState 2 (setSpareFor (m.unit / 256) (m.unit % 256) s))
  else if m.kind = 4 then
    (let ch := m.page - chanPage 0
     let slot := if slotRank s ch 0 = m.unit then 0 else 1
     rsetBit (hdrStatus m.page) 4 true (rsetBit (R.MEM_RANK_MAP ch) (4 + m.unit) true (rsetFld (R.MEM_RANK_MAP ch) (2 * slot + 1) (2 * slot) m.spare s)))
  else if m.kind = 6 then
    (let s1 := match lowest 4 fun k => memberPort s k == m.unit with
       | some k => rsetFld R.REC_MEDIA_MAP 18 16 7 (rsetFld R.REC_MEDIA_MAP (4 * k + 2) (4 * k) m.spare s)
       | none => s
     rsetFld (R.REC_PORT_STATE m.unit) 2 0 4 (rsetBit R.REC_MEDIA_RETIRED m.unit true s1))
  else s

/-- At a warm start each lane that was UP or STANDBY enters CHECK. -/
def lanesRecheck (s : State) : State :=
  (upto 3).foldl (fun s p => (upto (lanCount p)).foldl (fun s i =>
    if laneState s p i = 4 ∨ laneState s p i = 5 then setLane p i 3 s else s) s) s

/-- Step 9 at a cold start: what the journal's replay reports; an interrupted flush is reported (R300, R301, R394). -/
def recReplay (bad : List Nat) (s : State) : State :=
  let s0 := bad.foldl (fun s j => raiseErr (pg 13 0) 0x17 (w32 j) s) s
  if s0.plt.cutReported then s0
  else
    let s1 := setPlt { s0.plt with cutReported := true } s0
    let s2 := if rnat s1 R.REC_FLUSH_STATE = 3 then raiseErr (pg 13 0) 0x16 (rget s1 R.REC_AON_DIRTY) s1 else s1
    if holdOutcome s2 = 3 then
      (let e := s2.plt.lastEnergy
       raiseErr (pg 1 4) 0x1E (w32 e) (logEvent 1 0 0x0041 (leBytes 4 e ++ leBytes 4 (limitFor s2 e) ++ leBytes 4 1) s2))
    else s2

  /-! ### Firmware (steps 5 to 13) -/

/-- Firmware writes START_FAIL with the error's cause (R354). -/
def startGivesUp (cause info : Nat) (s : State) : State := recognise 7 (raiseErr (pg 1 1) cause (w32 info) s)

/-- Steps 9 to 13. -/
def startServices (facts : StartFacts) (role : Nat) (rs : List (Nat × Word)) (s : State) : State :=
  let warm := !s.plt.cold
  let s1 := tornReplay (if warm then s else recReplay facts.badJournal s)
  let s2 := rsetFld R.CAS_ID 17 14 (rfld s1 R.CAS_ID 17 14 + 1) s1
  let s3 := if warm then motWarmStart s2 else motAllOff s2
  setStep 14 (eraseResume (unitsStart role rs s3))

/-- Step 8, with the lock after the records (R361, R366). -/
def startRecords (facts : StartFacts) (role : Nat) (rs : List (Nat × Word)) (s : State) : State :=
  let warm := !s.plt.cold
  match recordsApply warm 0 rs (setStep 8 s) with
  | (some i, t) => startGivesUp 0x16 i t
  | (none, t) => startServices facts role rs (rsetBit R.PLT_LOCK 0 true (pagesCommit rs t))

/-- Steps 6 and 7. A channel that fails its training stops the start there. -/
def startLinks (facts : StartFacts) (role : Nat) (rs : List (Nat × Word)) (s : State) : State :=
  if s.plt.cold then
    (let s1 := s.plt.marks.foldl (fun s m => markRestore m s) s
     let (good, s2) := memTrain facts.margins facts.spareBad (setStep 7 s1)
     if good then startRecords facts role rs s2 else s2)
  else startRecords facts role rs (memWake (setStep 7 (lanesRecheck s)))

/-- Step 5: settings, Chart, and the two fields that come first. -/
def firmwareStarts (facts : StartFacts) (slot : Nat) (r : BootRec) (s : State) : State :=
  let (n, source, s1) := chartChoice facts.balls.val s
  match settingsReady slot r s1 with
  | (none, t) => markIncompat slot r t
  | (some set, t) =>
    match chartAt t set n, settingsHeader t set with
    | some (role, rs), some (schema, _, _) =>
      if chartComplete t role rs then
        (let t1 := chartActive n source facts.balls.val role schema t
         let t2 := if t1.plt.cold then (rs.filter fun e => isEarly e.1).foldl (fun t e => writeAny .binnacle e.1 e.2 t) t1 else t1
         startLinks facts role rs t2)
      else startGivesUp 0x15 n t
    | _, _ => startGivesUp 0x15 n t

/-! ### The boot ROM (steps 1 to 4) -/

/-- Images looked at and rejected before one runs. -/
def rejectLooked (warm intact : Bool) (r : BootRec) (s : State) : State :=
  ((lookedAt s r).takeWhile fun k => !slotRuns s warm intact k).foldl (fun t k => rejectImage k t) s

/-- The start that follows a release of RST_N. -/
def startRun (facts : StartFacts) (s : State) : State :=
  let warm := !s.plt.cold
  let s1 := startOpens facts s
  if s1.plt.deadReckoning ∨ 3 ≤ rnat s1 R.PLT_START_COUNT then drEnter 0 s1
  else
    match bootCurrent s1 with
    | none => drEnter 3 s1
    | some (_, r) =>
      let (choice, r1) := chooseSlot s1 warm facts.bodyIntact r
      let r2 := if r1 = r then r else { r1 with seq := (r.seq + 1) % 2 ^ 32 }
      let s2 := rejectLooked warm facts.bodyIntact r s1
      let s3 := if r1 = r then s2 else bootWrite r2 s2
      match choice with
      | none => drEnter 3 s3
      | some slot => firmwareStarts facts slot r2 (slotStarts slot (retained s3 warm facts.bodyIntact slot) r2 s3)

/-- RST_N_RELEASE (R353). -/
def execRstNRelease (facts : StartFacts) (s : State) : Host.Outcome State Fault Refusal :=
  .next (if releasable s then startRun facts s else s)

end Sys2Proof.Machine
end

