-- ==== Sys2Proof/Machine/Dispatch.lean ====
section
/-! DEFINITION. The one dispatch: each command to its meaning. -/

namespace Sys2Proof.Machine

def exec (i : Instr) (s : State) : Host.Outcome State Fault Refusal :=
  match i with
  | .regWrite who addr value => Sys2Proof.Machine.execRegWrite who addr value s
  | .badAccess who addr bytes write => Sys2Proof.Machine.execBadAccess who addr bytes write s
  | .loWordRead who addr => Sys2Proof.Machine.execLoWordRead who addr s
  | .hiWordWrite who addr value => Sys2Proof.Machine.execHiWordWrite who addr value s
  | .enable who page value => Sys2Proof.Machine.execEnable who page value s
  | .idleReq who page value => Sys2Proof.Machine.execIdleReq who page value s
  | .unitIdle page => Sys2Proof.Machine.execUnitIdle page s
  | .blkRst who page value => Sys2Proof.Machine.execBlkRst who page value s
  | .blockResetDone block => Sys2Proof.Machine.execBlockResetDone block s
  | .commit who page value => Sys2Proof.Machine.execCommit who page value s
  | .pgIntStatClear who page value => Sys2Proof.Machine.execPgIntStatClear who page value s
  | .pgIntSet who page value => Sys2Proof.Machine.execPgIntSet who page value s
  | .pgIntEnWrite who page value => Sys2Proof.Machine.execPgIntEnWrite who page value s
  | .msixUnmask vector => Sys2Proof.Machine.execMsixUnmask vector s
  | .sof port packet => Sys2Proof.Machine.execSof port packet s
  | .line port packet fifoFull stagingFull => Sys2Proof.Machine.execLine port packet fifoFull stagingFull s
  | .eof port packet => Sys2Proof.Machine.execEof port packet s
  | .metaPacket port packet => Sys2Proof.Machine.execMetaPacket port packet s
  | .echo port => Sys2Proof.Machine.execEcho port s
  | .echoReply port packet => Sys2Proof.Machine.execEchoReply port packet s
  | .echoTimeout port => Sys2Proof.Machine.execEchoTimeout port s
  | .trigger port => Sys2Proof.Machine.execTrigger port s
  | .lateLine port => Sys2Proof.Machine.execLateLine port s
  | .lateFrame port => Sys2Proof.Machine.execLateFrame port s
  | .padLinesDone port => Sys2Proof.Machine.execPadLinesDone port s
  | .alignmentCodeword port lane codeword skew clean => Sys2Proof.Machine.execAlignmentCodeword port lane codeword skew clean s
  | .alignmentLost port lanes => Sys2Proof.Machine.execAlignmentLost port lanes s
  | .t0Publish port => Sys2Proof.Machine.execT0Publish port s
  | .pipelineLine pipe mismatch overrun => Sys2Proof.Machine.execPipelineLine pipe mismatch overrun s
  | .knownAnswerTestDone slicePass sparePass => Sys2Proof.Machine.execKnownAnswerTestDone slicePass sparePass s
  | .clrForce who value => Sys2Proof.Machine.execClrForce who value s
  | .clrRelease who value => Sys2Proof.Machine.execClrRelease who value s
  | .darkCalStart who pipe value => Sys2Proof.Machine.execDarkCalStart who pipe value s
  | .calDone pipe => Sys2Proof.Machine.execCalDone pipe s
  | .darkCalCancel who pipe value => Sys2Proof.Machine.execDarkCalCancel who pipe value s
  | .tapPublish pipe => Sys2Proof.Machine.execTapPublish pipe s
  | .lutLoad who pipe value => Sys2Proof.Machine.execLutLoad who pipe value s
  | .lutLoadDone pipe => Sys2Proof.Machine.execLutLoadDone pipe s
  | .otPublish pipe output => Sys2Proof.Machine.execOtPublish pipe output s
  | .tableWrite who value => Sys2Proof.Machine.execTableWrite who value s
  | .pictureStart => Sys2Proof.Machine.execPictureStart s
  | .rowCompose => Sys2Proof.Machine.execRowCompose s
  | .mapValidate who value => Sys2Proof.Machine.execMapValidate who value s
  | .mapValidateDone bank => Sys2Proof.Machine.execMapValidateDone bank s
  | .tileScan => Sys2Proof.Machine.execTileScan s
  | .dispatchDeadline => Sys2Proof.Machine.execDispatchDeadline s
  | .launch => Sys2Proof.Machine.execLaunch s
  | .hostReq value => Sys2Proof.Machine.execHostReq value s
  | .fwReq value => Sys2Proof.Machine.execFwReq value s
  | .selfref => Sys2Proof.Machine.execSelfref s
  | .ltrReport => Sys2Proof.Machine.execLtrReport s
  | .cnvLtrRead who => Sys2Proof.Machine.execCnvLtrRead who s
  | .passBegin => Sys2Proof.Machine.execPassBegin s
  | .passClose => Sys2Proof.Machine.execPassClose s
  | .refCaptureStart who value => Sys2Proof.Machine.execRefCaptureStart who value s
  | .refCaptureCancel who value => Sys2Proof.Machine.execRefCaptureCancel who value s
  | .refCaptureTimeout => Sys2Proof.Machine.execRefCaptureTimeout s
  | .refCaptureWriteDone => Sys2Proof.Machine.execRefCaptureWriteDone s
  | .phoPwrPeakRead who => Sys2Proof.Machine.execPhoPwrPeakRead who s
  | .querySend port => Sys2Proof.Machine.execQuerySend port s
  | .reply port packet rtt => Sys2Proof.Machine.execReply port packet rtt s
  | .replyTimeout port => Sys2Proof.Machine.execReplyTimeout port s
  | .tempQuery port => Sys2Proof.Machine.execTempQuery port s
  | .echoRemeasure port => Sys2Proof.Machine.execEchoRemeasure port s
  | .statusProbe port => Sys2Proof.Machine.execStatusProbe port s
  | .enum who port value => Sys2Proof.Machine.execEnum who port value s
  | .resume who port value => Sys2Proof.Machine.execResume who port value s
  | .hostQuery who port value => Sys2Proof.Machine.execHostQuery who port value s
  | .hostConfig who port value => Sys2Proof.Machine.execHostConfig who port value s
  | .signalDetect page lane => Sys2Proof.Machine.execSignalDetect page lane s
  | .trainingBlock page lane before levels => Sys2Proof.Machine.execTrainingBlock page lane before levels s
  | .trainTimeout page lane => Sys2Proof.Machine.execTrainTimeout page lane s
  | .fomWindow page lane sums => Sys2Proof.Machine.execFomWindow page lane sums s
  | .linkLoss page lane => Sys2Proof.Machine.execLinkLoss page lane s
  | .tileSpareCheckTimeout spare => Sys2Proof.Machine.execTileSpareCheckTimeout spare s
  | .lanForce who page value => Sys2Proof.Machine.execLanForce who page value s
  | .lanRelease who page value => Sys2Proof.Machine.execLanRelease who page value s
  | .retiredClear who page value => Sys2Proof.Machine.execRetiredClear who page value s
  | .retrain who port value => Sys2Proof.Machine.execRetrain who port value s
  | .align port flit skew spareClean => Sys2Proof.Machine.execAlign port flit skew spareClean s
  | .idle port flit => Sys2Proof.Machine.execIdle port flit s
  | .discover port flit => Sys2Proof.Machine.execDiscover port flit s
  | .discoverSend port => Sys2Proof.Machine.execDiscoverSend port s
  | .isolated => Sys2Proof.Machine.execIsolated s
  | .announce port flit => Sys2Proof.Machine.execAnnounce port flit s
  | .announceSend port => Sys2Proof.Machine.execAnnounceSend port s
  | .lodestarDrop => Sys2Proof.Machine.execLodestarDrop s
  | .topo port flit change => Sys2Proof.Machine.execTopo port flit change s
  | .topoSend => Sys2Proof.Machine.execTopoSend s
  | .sync port flit => Sys2Proof.Machine.execSync port flit s
  | .syncSend => Sys2Proof.Machine.execSyncSend s
  | .pdelayReq port flit tag => Sys2Proof.Machine.execPdelayReq port flit tag s
  | .pdelayReqSend port => Sys2Proof.Machine.execPdelayReqSend port s
  | .pdelayResp port flit tag turn => Sys2Proof.Machine.execPdelayResp port flit tag turn s
  | .lanemap port flit action lane start => Sys2Proof.Machine.execLanemap port flit action lane start s
  | .pic port flit => Sys2Proof.Machine.execPic port flit s
  | .msg port flit => Sys2Proof.Machine.execMsg port flit s
  | .picSend stream => Sys2Proof.Machine.execPicSend stream s
  | .msgSend who value => Sys2Proof.Machine.execMsgSend who value s
  | .retryTimeout port => Sys2Proof.Machine.execRetryTimeout port s
  | .holdover => Sys2Proof.Machine.execHoldover s
  | .taiSet who value => Sys2Proof.Machine.execTaiSet who value s
  | .ppsIn => Sys2Proof.Machine.execPpsIn s
  | .ppsMissing => Sys2Proof.Machine.execPpsMissing s
  | .ref10mLoss => Sys2Proof.Machine.execRef10mLoss s
  | .memAccess client addr write mask errors => Sys2Proof.Machine.execMemAccess client addr write mask errors s
  | .patrolScrub addr errors => Sys2Proof.Machine.execPatrolScrub addr errors s
  | .refresh channel rank => Sys2Proof.Machine.execRefresh channel rank s
  | .mr4Poll hot => Sys2Proof.Machine.execMr4Poll hot s
  | .memSelfrefEntry => Sys2Proof.Machine.execMemSelfrefEntry s
  | .marginCheck channel t0 v0 t1 v1 => Sys2Proof.Machine.execMarginCheck channel t0 v0 t1 v1 s
  | .channelRetrain channel => Sys2Proof.Machine.execChannelRetrain channel s
  | .retrainDone channel t0 v0 t1 v1 => Sys2Proof.Machine.execRetrainDone channel t0 v0 t1 v1 s
  | .migrationRegion channel copied => Sys2Proof.Machine.execMigrationRegion channel copied s
  | .jobSubmit who queue value => Sys2Proof.Machine.execJobSubmit who queue value s
  | .jobStart deflate => Sys2Proof.Machine.execJobStart deflate s
  | .jobDone lane => Sys2Proof.Machine.execJobDone lane s
  | .jobResume lane => Sys2Proof.Machine.execJobResume lane s
  | .pauseTimeout lane => Sys2Proof.Machine.execPauseTimeout lane s
  | .sendBind who stream value => Sys2Proof.Machine.execSendBind who stream value s
  | .codPictureStart => Sys2Proof.Machine.execCodPictureStart s
  | .codRow refPoison => Sys2Proof.Machine.execCodRow refPoison s
  | .codPictureDone => Sys2Proof.Machine.execCodPictureDone s
  | .stallTimeout => Sys2Proof.Machine.execStallTimeout s
  | .sqTailDoorbell queue tail => Sys2Proof.Machine.execSqTailDoorbell queue tail s
  | .cqHeadDoorbell queue head => Sys2Proof.Machine.execCqHeadDoorbell queue head s
  | .deleteIoSq => Sys2Proof.Machine.execDeleteIoSq s
  | .createIoSq => Sys2Proof.Machine.execCreateIoSq s
  | .getLogPage => Sys2Proof.Machine.execGetLogPage s
  | .deleteIoCq => Sys2Proof.Machine.execDeleteIoCq s
  | .createIoCq => Sys2Proof.Machine.execCreateIoCq s
  | .identify => Sys2Proof.Machine.execIdentify s
  | .abort => Sys2Proof.Machine.execAbort s
  | .setFeatures => Sys2Proof.Machine.execSetFeatures s
  | .getFeatures => Sys2Proof.Machine.execGetFeatures s
  | .asynchronousEventRequest => Sys2Proof.Machine.execAsynchronousEventRequest s
  | .namespaceManagement => Sys2Proof.Machine.execNamespaceManagement s
  | .namespaceAttachment => Sys2Proof.Machine.execNamespaceAttachment s
  | .formatNvm => Sys2Proof.Machine.execFormatNvm s
  | .sanitize => Sys2Proof.Machine.execSanitize s
  | .sanitizeDone => Sys2Proof.Machine.execSanitizeDone s
  | .flush => Sys2Proof.Machine.execFlush s
  | .write => Sys2Proof.Machine.execWrite s
  | .writeAdmit => Sys2Proof.Machine.execWriteAdmit s
  | .read => Sys2Proof.Machine.execRead s
  | .compare => Sys2Proof.Machine.execCompare s
  | .compareAndWrite => Sys2Proof.Machine.execCompareAndWrite s
  | .writeZeroes => Sys2Proof.Machine.execWriteZeroes s
  | .datasetManagement => Sys2Proof.Machine.execDatasetManagement s
  | .drain => Sys2Proof.Machine.execDrain s
  | .flushDone => Sys2Proof.Machine.execFlushDone s
  | .clipArm who value => Sys2Proof.Machine.execClipArm who value s
  | .clipStop who value => Sys2Proof.Machine.execClipStop who value s
  | .mediaFail port => Sys2Proof.Machine.execMediaFail port s
  | .copyTrigger port used errs critical => Sys2Proof.Machine.execCopyTrigger port used errs critical s
  | .mediaForce who value => Sys2Proof.Machine.execMediaForce who value s
  | .mediaMigrationStep => Sys2Proof.Machine.execMediaMigrationStep s
  | .mediaRetiredClear who value => Sys2Proof.Machine.execMediaRetiredClear who value s
  | .currentLoopTick axis u v => Sys2Proof.Machine.execCurrentLoopTick axis u v s
  | .velocityTick => Sys2Proof.Machine.execVelocityTick s
  | .positionTick => Sys2Proof.Machine.execPositionTick s
  | .serialReadDone axis started raw alarm stale crc stamp => Sys2Proof.Machine.execSerialReadDone axis started raw alarm stale crc stamp s
  | .qeiEdge axis a b => Sys2Proof.Machine.execQeiEdge axis a b s
  | .indexEdge axis => Sys2Proof.Machine.execIndexEdge axis s
  | .gateFault axis low => Sys2Proof.Machine.execGateFault axis low s
  | .dsmLost channel => Sys2Proof.Machine.execDsmLost channel s
  | .offsetCalDone axis => Sys2Proof.Machine.execOffsetCalDone axis s
  | .voltLimit axis => Sys2Proof.Machine.execVoltLimit axis s
  | .obsLost axis => Sys2Proof.Machine.execObsLost axis s
  | .reacqPulse axis angle => Sys2Proof.Machine.execReacqPulse axis angle s
  | .reacqFail axis => Sys2Proof.Machine.execReacqFail axis s
  | .brakeDelay axis => Sys2Proof.Machine.execBrakeDelay axis s
  | .cmdRun who axis => Sys2Proof.Machine.execCmdRun who axis s
  | .cmdHold who axis => Sys2Proof.Machine.execCmdHold who axis s
  | .cmdOff who axis => Sys2Proof.Machine.execCmdOff who axis s
  | .cmdAlign who axis => Sys2Proof.Machine.execCmdAlign who axis s
  | .alignPhaseEnd axis => Sys2Proof.Machine.execAlignPhaseEnd axis s
  | .setpointPush who axis value => Sys2Proof.Machine.execSetpointPush who axis value s
  | .latchArm who axis value => Sys2Proof.Machine.execLatchArm who axis value s
  | .latchAt axis => Sys2Proof.Machine.execLatchAt axis s
  | .faultClear who axis value => Sys2Proof.Machine.execFaultClear who axis value s
  | .audArm who port value => Sys2Proof.Machine.execAudArm who port value s
  | .audStop who port value => Sys2Proof.Machine.execAudStop who port value s
  | .audFrame port stamp bclks bits => Sys2Proof.Machine.execAudFrame port stamp bclks bits s
  | .audClockLoss port => Sys2Proof.Machine.execAudClockLoss port s
  | .dcoUpdate => Sys2Proof.Machine.execDcoUpdate s
  | .twiGo who bus value sdaLow freed => Sys2Proof.Machine.execTwiGo who bus value sdaLow freed s
  | .twiTransferDone bus result => Sys2Proof.Machine.execTwiTransferDone bus result s
  | .twiRetry bus => Sys2Proof.Machine.execTwiRetry bus s
  | .stretchTimeout bus => Sys2Proof.Machine.execStretchTimeout bus s
  | .busStuck bus scl sda => Sys2Proof.Machine.execBusStuck bus scl sda s
  | .targetAddressed bus bytes count => Sys2Proof.Machine.execTargetAddressed bus bytes count s
  | .tgtStretchExpiry bus => Sys2Proof.Machine.execTgtStretchExpiry bus s
  | .tgtTxPush who bus value => Sys2Proof.Machine.execTgtTxPush who bus value s
  | .tgtRxPop who bus => Sys2Proof.Machine.execTgtRxPop who bus s
  | .powerOn => Sys2Proof.Machine.execPowerOn s
  | .brownOutCore => Sys2Proof.Machine.execBrownOutCore s
  | .brownOutAon => Sys2Proof.Machine.execBrownOutAon s
  | .rstN => Sys2Proof.Machine.execRstN s
  | .rstNHeld => Sys2Proof.Machine.execRstNHeld s
  | .binnacleWatchdog => Sys2Proof.Machine.execBinnacleWatchdog s
  | .hostWatchdog => Sys2Proof.Machine.execHostWatchdog s
  | .wdogBinKick who value => Sys2Proof.Machine.execWdogBinKick who value s
  | .wdogHostKick who value => Sys2Proof.Machine.execWdogHostKick who value s
  | .startTimer => Sys2Proof.Machine.execStartTimer s
  | .softwareWarmReset who value => Sys2Proof.Machine.execSoftwareWarmReset who value s
  | .softwareColdReset who value => Sys2Proof.Machine.execSoftwareColdReset who value s
  | .debugRequest who value => Sys2Proof.Machine.execDebugRequest who value s
  | .clockFailure => Sys2Proof.Machine.execClockFailure s
  | .binnacleLockup => Sys2Proof.Machine.execBinnacleLockup s
  | .fabricDeadlock => Sys2Proof.Machine.execFabricDeadlock s
  | .deadReckoningExit who value => Sys2Proof.Machine.execDeadReckoningExit who value s
  | .coreReset => Sys2Proof.Machine.execCoreReset s
  | .rstNRelease facts => Sys2Proof.Machine.execRstNRelease facts s
  | .startOk who value => Sys2Proof.Machine.execStartOk who value s
  | .startFail who value => Sys2Proof.Machine.execStartFail who value s
  | .fwSlotWrite who value => Sys2Proof.Machine.execFwSlotWrite who value s
  | .settingsSlotWrite who value => Sys2Proof.Machine.execSettingsSlotWrite who value s
  | .bootRecordWritten => Sys2Proof.Machine.execBootRecordWritten s
  | .flashRead who value => Sys2Proof.Machine.execFlashRead who value s
  | .flashProgram who value => Sys2Proof.Machine.execFlashProgram who value s
  | .flashErase who value => Sys2Proof.Machine.execFlashErase who value s
  | .flashDone ok => Sys2Proof.Machine.execFlashDone ok s
  | .lock who value => Sys2Proof.Machine.execLock who value s
  | .leaveEvaluate => Sys2Proof.Machine.execLeaveEvaluate s
  | .leaveTimeout => Sys2Proof.Machine.execLeaveTimeout s
  | .leaveBudgetWrite who value => Sys2Proof.Machine.execLeaveBudgetWrite who value s
  | .sensorReading counts => Sys2Proof.Machine.execSensorReading counts s
  | .pltThermPeakRead who => Sys2Proof.Machine.execPltThermPeakRead who s
  | .mainPowerLoss => Sys2Proof.Machine.execMainPowerLoss s
  | .mainPowerGood => Sys2Proof.Machine.execMainPowerGood s
  | .storeExhausted => Sys2Proof.Machine.execStoreExhausted s
  | .logRecordWrite ok => Sys2Proof.Machine.execLogRecordWrite ok s
  | .sramCorrectedError sram row => Sys2Proof.Machine.execSramCorrectedError sram row s
  | .holdTestNow who value => Sys2Proof.Machine.execHoldTestNow who value s
  | .holdTest => Sys2Proof.Machine.execHoldTest s
  | .holdTestDischarge vOc v1 => Sys2Proof.Machine.execHoldTestDischarge vOc v1 s
  | .holdTestDone v2 => Sys2Proof.Machine.execHoldTestDone v2 s
  | .holdEnergyUpdate v => Sys2Proof.Machine.execHoldEnergyUpdate v s
  | .counterSelect who block counter value => Sys2Proof.Machine.execCounterSelect who block counter value s
  | .counterClear who block value => Sys2Proof.Machine.execCounterClear who block value s
  | .snapshot => Sys2Proof.Machine.execSnapshot s
  | .snapshotRecordDone => Sys2Proof.Machine.execSnapshotRecordDone s
  | .tokenVerify who value => Sys2Proof.Machine.execTokenVerify who value s
  | .tokenVerifyDone => Sys2Proof.Machine.execTokenVerifyDone s
  | .bypass tdi => Sys2Proof.Machine.execBypass tdi s
  | .idcode => Sys2Proof.Machine.execIdcode s
  | .samplePreload pins load => Sys2Proof.Machine.execSamplePreload pins load s
  | .extest pins load => Sys2Proof.Machine.execExtest pins load s
  | .jtagRegisterAccess addr isWrite value => Sys2Proof.Machine.execJtagRegisterAccess addr isWrite value s
  | .binnacleHalt => Sys2Proof.Machine.execBinnacleHalt s
  | .binnacleStep => Sys2Proof.Machine.execBinnacleStep s
  | .scheduleResend port => Sys2Proof.Machine.execScheduleResend port s
  | .quarantineExpiry => Sys2Proof.Machine.execQuarantineExpiry s
  | .controllerReset cc aqa asq acq => Sys2Proof.Machine.execControllerReset cc aqa asq acq s
  | .interruptCoalescingExpiry vector => Sys2Proof.Machine.execInterruptCoalescingExpiry vector s
  | .mediaCommandCompletion port tag ok data => Sys2Proof.Machine.execMediaCommandCompletion port tag ok data s
  | .mediaPortUp port sectors used errs => Sys2Proof.Machine.execMediaPortUp port sectors used errs s
  | .filterOutput channel bits => Sys2Proof.Machine.execFilterOutput channel bits s
  | .busFree bus sdaLow freed => Sys2Proof.Machine.execBusFree bus sdaLow freed s
  | .railPowerFail => Sys2Proof.Machine.execRailPowerFail s
  | .retentionLoss => Sys2Proof.Machine.execRetentionLoss s
  | .ref10mRestored => Sys2Proof.Machine.execRef10mRestored s

end Sys2Proof.Machine
end

