-- ==== Sys2Proof/Machine/Streams.lean ====
section
/-! DEFINITION. The codeword streams of the sensor ports and the tile ports as time passes: in each slot of 51.2 ns an idle codeword, in every
1,024th an alignment codeword (R48, R49, R164); and the flits of the cascade ports: in each slot of 1.2047 ns an IDLE flit, in every 4,096th an
ALIGN flit (R187).  Packets and frames leave when they are handed over; the slots they take are not modelled
(DESIGN CHOICE, log 122), and the slots' phase is that of the model's clock. -/

namespace Sys2Proof.Machine

/-- The codeword slot of an instant in ns. -/
def slotOf (now : Nat) : Nat := now * 10 / 512

/-- A sensor port's slot: on lanes 0 to 3 an idle codeword each, and on the spare a copy of the lane it mirrors, or an idle one. -/
def siuSlot (align : Bool) (p : Nat) (s : State) : State :=
  if portState s p < 2 then s
  else if align then siuAlignSend p s
  else
    let s1 := [0, 1, 2, 3].foldl (fun s _ => sendCodeword p idleCodeword s) s
    if siuMirror s p = none then emit (.bridge p 4 idleCodeword) s1 else s1

/-- A tile port's slot. -/
def tileSlot (align : Bool) (p : Nat) (s : State) : State :=
  if !tileStreams s p then s
  else if align then tileAlignSend p s
  else tileSend p [idleCodeword] s

/-- The flit slot of an instant in ns: 64 UI at 53.125 GBd (R187). -/
def flitSlot (now : Nat) : Nat := now * 53125 / 64000

/-- The cascade ports' slot: an ALIGN flit in every 4,096th, else IDLE as fill (R187, R189). -/
def casSlot (slot p : Nat) (s : State) : State :=
  if casState s p < 2 ∨ !casPortRuns s p then s
  else if slot % 4096 = 0 then alignSend p s
  else sendAck p none s

/-- A nanosecond has passed: where a codeword or flit slot begins, every port that streams sends its codeword or flit. -/
def streamsTick (s : State) : State :=
  let f := flitSlot s.now
  let s1 := if f = flitSlot (s.now - 1) then s else (upto 4).foldl (fun s p => casSlot f p s) s
  let slot := slotOf s.now
  if slot = slotOf (s.now - 1) then s1
  else
    let align := decide (slot % 1024 = 0)
    (upto 16).foldl (fun s p => tileSlot align p s) ((upto 2).foldl (fun s p => siuSlot align p s) s1)

end Sys2Proof.Machine
end

