-- ==== Sys2Proof/Machine/Step.lean ====
section
/-! DEFINITION. One step: the command at the front of the queue, or a nanosecond of the device's own clock when none waits. -/

namespace Sys2Proof.Machine

/-- One step. A waiting command runs with the rest of the queue behind it; with none, 1 ns passes: Meridian, the
codeword streams, MEM's requests and the counters advance (DESIGN CHOICE). -/
def step (s : State) : Host.Outcome State Fault Refusal :=
  match s.pending with
  | c :: rest => exec c { s with pending := rest }
  | [] => .next (countersTick (memTick (streamsTick (merTick s))))

/-- The state with the command a table word spells at the front of its queue; no word spells one, so it never changes. -/
def State.withFetchWord (s : State) (nbits w : Nat) : State :=
  match decodeTableWord nbits w with
  | some c => { s with pending := c :: s.pending }
  | none => s

end Sys2Proof.Machine
end

