-- ==== Sys2Proof/Safety.lean ====
section
/-! DEFINITION. What a sound state and a safe step are, in the terms that claims use. -/

namespace Sys2Proof.Safety

open Sys2Proof.Machine

/-- Both memories are in canonical form. -/
def memoriesWf (s : State) : Bool := Memory.wf s.mem && Memory.wf s.hostMem

/-- The register words, staged and in use, are in canonical form: no entry equal to its Cold value. -/
def registersWf (s : State) : Bool := smCanon coldWord s.regs && smCanon coldWord s.inUse

/-- A sound state: every keyed store is canonical. -/
def Sound (s : State) : Prop := memoriesWf s = true ∧ registersWf s = true

/-- Precise sampling takes no sample: no class is enabled, and no operation is open (R403). -/
def SamplingOff (s : State) : Prop := (∀ k : Fin 3, rbit s R.CNT_PS_CTRL k = false) ∧ s.cnt.open_ = []

/-- Every register, staged and in use, of the pages that `pages` does not name reads as before, but for the count of
discarded writes (R43). -/
def RegsKept (pages : Nat → Bool) (s t : State) : Prop :=
  ∀ a, pages (pageOf a) = false → a ≠ R.PLT_DROPPED_WRITES → rget t a = rget s a ∧ uget t a = uget s a

/-- Every byte of device memory and of host memory reads as before. -/
def MemoryKept (s t : State) : Prop := ∀ host a, memByte t host a = memByte s host a

/-- A step is safe when the machine goes on: it neither faults nor refuses. -/
def StepSafe (s : State) : Prop := ∃ t, step s = .next t

end Sys2Proof.Safety
end

