-- ==== Sys2Proof/Certificates/Slice0/Obligations.lean ====
section
/-! DEFINITION. The statements for the provers. -/

open Sys2Proof Sys2Proof.Machine Sys2Proof.Safety

/-- With command c at the front of the queue and others behind it, a step is exec of c on the state whose queue is the rest:
the outcome is the same, whatever it is. (spec: 02_register_pages_and_ordering.md) -/
def Obligations.StepRunsFrontCommand : Prop :=
  ∀ (c : Instr) (rest : List Instr) (s : State), s.pending = c :: rest → step s = exec c { s with pending := rest }

/-- With no command waiting, a step answers a next state in which 1 ns has passed: Meridian has advanced by 1 ns x (1 +
FREQ) as R208 gives the rate, no command waits, and no memory byte has changed unless MEM holds requests. That an empty
queue lets a nanosecond pass is the model's choice (DESIGN CHOICE, log entry 1). (spec: 09_cascade_and_meridian_time.md) -/
def Obligations.IdleStep : Prop :=
  ∀ s : State, s.pending = [] →
    ∃ t, step s = .next t ∧ t.now = s.now + 1 ∧ t.meridian = s.meridian + ((2 ^ 48 : Int) + merFreq s * 2 ^ 16).toNat ∧
      t.pending = [] ∧ t.code = s.code ∧ (s.memCtl.queue = [] → MemoryKept s t)

/-- Right after reset the state is sound, nothing waits and nothing has been sent, precise sampling is off, both memories
read 0 everywhere, and every register, staged and in use, holds its Cold value, but for PLT_RESET_CAUSE and CAS_ID,
which hold their values after a first power-on. Memory reading 0, and the values of registers whose Cold column gives
none, are the model's choices (log entries 4, 5 and 120). (spec: 17_startup_reset_charts_firmware.md,
09_cascade_and_meridian_time.md, 00_scope.md) -/
def Obligations.ResetState : Prop :=
  Sound State.reset ∧ SamplingOff State.reset ∧ State.reset.pending = [] ∧ State.reset.out = [] ∧
    State.reset.now = 0 ∧ State.reset.meridian = 0 ∧
    (∀ a, a ≠ R.PLT_RESET_CAUSE → a ≠ R.CAS_ID → rget State.reset a = coldWord a) ∧
    (∀ a, uget State.reset a = coldWord a) ∧ (∀ host a, memByte State.reset host a = 0#8) ∧
    rget State.reset R.PLT_RESET_CAUSE = 0x01000001#32 ∧ rget State.reset R.CAS_ID = 0x4000#32

/-- For every command and every state, exec answers a next state: no command faults or is refused. The command leaves the
time, the waiting commands and the ordering code as they were. (spec: 00_scope.md, 02_register_pages_and_ordering.md) -/
def Obligations.EveryCommandGoesOn : Prop :=
  ∀ (c : Instr) (s : State), ∃ t, exec c s = .next t ∧ t.now = s.now ∧ t.pending = s.pending ∧ t.code = s.code

/-- From every sound state, whatever its queue holds, a step answers a sound state: both memories keep their canonical form
(addresses strictly rising, no entry equal to what an unlisted byte reads as), and so do the registers, staged and in
use. (spec: 02_register_pages_and_ordering.md, 11_external_memory.md) -/
def Obligations.SoundStep : Prop :=
  ∀ s t : State, Sound s → step s = .next t → Sound t

/-- A write that its page takes, of a one-word register on which no commit is pending and no debug scope is closed, leaves
in each field what the field's access code says: RO fields keep their value (but for the RO fields the manual opens to
the Binnacle), W1S bits written 1 are set, W1C bits written 1 clear, and RW, RW-S, WO and unlocked RW-L fields take a
value in their range and keep their old one otherwise; a locked RW-L field keeps its value. (writeWord is the write
itself, before any precise sample of it.) (spec: 00_scope.md, 02_register_pages_and_ordering.md) -/
def Obligations.WriteTakesFieldsByAccess : Prop :=
  ∀ (who : Requester) (addr : Nat) (v : Word) (s : State) (r : RegDesc) (f : FieldDesc),
    pageTakes addr s = true → debugClosed s addr = false → commitPending s (pageOf addr) = false →
    regAt addr = some (r, 0) → r.words = 1 → f ∈ r.fields →
    rfld (writeWord who addr v 0#32 s) addr f.hi f.lo =
      (match f.acc with
       | .ro => if binnacleMayWrite s who addr f then getBits v f.hi f.lo else rfld s addr f.hi f.lo
       | .w1s => getBits (rget s addr ||| v) f.hi f.lo
       | .w1c => getBits (rget s addr &&& ~~~v) f.hi f.lo
       | .rwl => if !locked s && inRange f.check (getBits v f.hi f.lo) then getBits v f.hi f.lo else rfld s addr f.hi f.lo
       | .rw | .rws | .wo => if inRange f.check (getBits v f.hi f.lo) then getBits v f.hi f.lo else rfld s addr f.hi f.lo)

/-- Two written values that agree on every field of a one-word register have the same effect; and every bit of it outside
the fields that can be read reads 0, where the register shows a stored value. (spec: 00_scope.md) -/
def Obligations.ReservedBitsIgnored : Prop :=
  ∀ (who : Requester) (addr : Nat) (s : State) (r : RegDesc), regAt addr = some (r, 0) → r.words = 1 →
    (∀ v w : Word, (∀ f ∈ r.fields, getBits v f.hi f.lo = getBits w f.hi f.lo) →
      writeReg who addr v 0#32 s = writeReg who addr w 0#32 s) ∧
    (∀ busy : Bool, 0x040 ≤ addr % 0x1000 → liveWord s addr = none →
      readWord s who addr &&& ~~~(BitVec.ofNat 32 (readMask r.fields)) = 0#32)

/-- Every aligned read on a page that its block does not use, and at every address from 0x0012_0000 to 0x01FF_FFFF, returns
0 and changes nothing else. A write there is discarded without error: it changes nothing, but for the count of discarded
writes while a warm reset runs (R43). (spec: R28) -/
def Obligations.AbsentPagesReadZero : Prop :=
  ∀ (who : Requester) (addr : Nat) (v : Word) (s : State), addr % 4 = 0 → addr < 0x2000000 →
    (0x120000 ≤ addr ∨ blockPagesM1 (blockOfPage (pageOf addr)) < pageOf addr % 16 ∨ pageThere s (pageOf addr) = false) →
    exec (.loWordRead who addr) s = .next { s with out := .readData who 0#32 :: s.out } ∧
    exec (.regWrite who addr v) s = .next (if s.warmBegun then dropWrite s else s)

/-- When events make a page's request rise, one message of its vector is sent, or its pending bit is set while the vector is
masked. After a write of PG_INT_STAT or PG_INT_EN that the page takes, one more is sent, or set pending, if the request
is then 1, and none otherwise. Unmasking a vector sends its pending message and clears the bit. (spec: R40) -/
def Obligations.MessagesSignalRequests : Prop :=
  (∀ (n : Nat) (mask : Word) (s : State), pageThere s n = true → pageRequest s n = false →
    (pageRequest (latchStat n mask s) n = true →
      (n ∈ s.msixOn → (latchStat n mask s).out = .msix n :: s.out ∧ (latchStat n mask s).msixPending = s.msixPending) ∧
      (n ∉ s.msixOn → (latchStat n mask s).out = s.out ∧ n ∈ (latchStat n mask s).msixPending)) ∧
    (pageRequest (latchStat n mask s) n = false → (latchStat n mask s).out = s.out)) ∧
  (∀ (who : Requester) (page : Fin 288) (v : Word) (s t : State), SamplingOff s →
    (exec (.pgIntStatClear who page v) s = .next t ∧ pageTakes (hdrIntStat page.val) s = true ∨
      exec (.pgIntEnWrite who page v) s = .next t ∧ pageTakes (hdrIntEn page.val) s = true) →
    (pageRequest t page.val = true → page.val ∈ s.msixOn → t.out = .msix page.val :: s.out) ∧
    (pageRequest t page.val = true → page.val ∉ s.msixOn → t.out = s.out ∧ page.val ∈ t.msixPending) ∧
    (pageRequest t page.val = false → t.out = s.out)) ∧
  (∀ (v : Fin 2048) (s : State), ∃ t, exec (.msixUnmask v) s = .next t ∧ v.val ∈ t.msixOn ∧
    (v.val ∈ s.msixPending → t.out = .msix v.val :: s.out ∧ t.msixPending = setErase s.msixPending v.val) ∧
    (v.val ∉ s.msixPending → t.out = s.out))

/-- A page that finds its error bit clear loads the error's code and detail, starts no count, and sets the bit; one that
finds it set adds 1 to MORE up to 0xFFFF and changes no other register of the page but PG_SEQ's own count. Writing 1 to
the bit clears code, detail and count. A plain write that its page takes while no commit is pending and no debug scope
is closed adds 1 to PG_SEQ. (spec: 02_register_pages_and_ordering.md) -/
def Obligations.ErrorAndCountRegisters : Prop :=
  (∀ (n cause : Nat) (info : Word) (s : State), n < 288 → cause < 256 → pageThere s n = true →
    (rbit s (hdrIntStat n) 0 = false →
      rget (raiseErr n cause info s) (hdrErrCode n) = w32 (blockOfPage n * 256 + cause) ∧
      rget (raiseErr n cause info s) (hdrErrInfo n) = info ∧ rbit (raiseErr n cause info s) (hdrIntStat n) 0 = true) ∧
    (rbit s (hdrIntStat n) 0 = true →
      rfld (raiseErr n cause info s) (hdrErrCode n) 31 16 = min 0xFFFF (rfld s (hdrErrCode n) 31 16 + 1) ∧
      rfld (raiseErr n cause info s) (hdrErrCode n) 15 0 = rfld s (hdrErrCode n) 15 0 ∧
      ∀ a, a ≠ hdrErrCode n → rget (raiseErr n cause info s) a = rget s a)) ∧
  (∀ (n : Nat) (mask : Word) (s : State), n < 288 → bitAt mask 0 = true →
    rget (clearStat n mask s) (hdrErrCode n) = 0#32 ∧ rget (clearStat n mask s) (hdrErrInfo n) = 0#32 ∧
    rbit (clearStat n mask s) (hdrIntStat n) 0 = false) ∧
  (∀ (who : Requester) (addr : Nat) (v skip : Word) (s : State), 0x040 ≤ addr % 0x1000 → pageTakes addr s = true →
    debugClosed s addr = false → commitPending s (pageOf addr) = false →
    rget (writeWord who addr v skip s) (hdrSeq (pageOf addr)) = rget s (hdrSeq (pageOf addr)) + 1#32)

/-- When a commit of a page applies, every register of the page that holds shadowed fields is in use as it was staged, no
register of another page changes in use, no staged register changes but PENDING, which clears. A commit that fails its
check puts nothing into use. (spec: 02_register_pages_and_ordering.md) -/
def Obligations.CommitIsAllOrNothing : Prop :=
  ∀ (n : Nat) (s : State), Sound s →
    (∀ a, pageOf a = n → shadowedAddr a = true → uget (commitApply n s) a = rget s a) ∧
    (∀ a, pageOf a ≠ n → uget (commitApply n s) a = uget s a) ∧
    (∀ a, a ≠ hdrShadow n → rget (commitApply n s) a = rget s a) ∧
    commitPending (commitApply n s) n = false ∧
    (∀ (cause : Nat) (info : Word) (a : Nat), uget (commitFail n cause info s) a = uget s a)

/-- After the core reset of a warm reset no commit is pending on any page, and every register that holds shadowed fields
holds, staged and in use, its Warm value, which comes from the value in use and from no staged one. (spec: R386) -/
def Obligations.WarmResetDiscardsStaged : Prop :=
  ∀ s : State, s.plt.phase = .quiesce →
    ∃ t, exec .coreReset s = .next t ∧ (∀ n : Fin 288, commitPending t n.val = false) ∧
      (∀ a, shadowedAddr a = true → rget t a = warmWord s a ∧ uget t a = warmWord s a) ∧
      (∀ (a : Nat) (r : RegDesc) (s' : State), regAt a = some (r, 0) → r.words = 1 → allShadowed r = true → uget s' a = uget s a →
        warmWord s' a = warmWord s a)

/-- When the amounts of the grants held sum to no more than TOTAL, the evaluation of the queue leaves them at no more than
TOTAL. Every request it takes from the queue it grants, it takes no grant away, and TOTAL stays as it was. (spec:
18_power_leave_and_die_temperature.md) -/
def Obligations.LeaveStaysInBudget : Prop :=
  ∀ s : State, (∀ w ∈ s.leaveQueue, w.n < 32) → grantedSum s ≤ rfld s R.PLT_LEAVE_BUDGET 8 0 →
    grantedSum (leaveEvaluate s) ≤ rfld s R.PLT_LEAVE_BUDGET 8 0 ∧
    rget (leaveEvaluate s) R.PLT_LEAVE_BUDGET = rget s R.PLT_LEAVE_BUDGET ∧
    (∀ n, granted s n = true → granted (leaveEvaluate s) n = true) ∧
    (∀ n, waiting s n = true → waiting (leaveEvaluate s) n = true ∨ granted (leaveEvaluate s) n = true)

/-- With FORCE_EN = 1 a reading of the temperature sensors, whatever it reads, leaves LEVEL at FORCE_LEVEL, unless the
device has tripped; and whether the reading trips the device is the same as with FORCE_EN = 0. (spec: R379) -/
def Obligations.ForceHoldsLevel : Prop :=
  ∀ (counts : List Nat) (s : State), thermRuns s = true → rbit s R.PLT_THERM_CTRL 16 = true →
    ∃ t t', exec (.sensorReading counts) s = .next t ∧
      exec (.sensorReading counts) (rsetBit R.PLT_THERM_CTRL 16 false s) = .next t' ∧
      (rbit t R.PLT_THERM_STATE 10 = false → thermLevel t = rfld s R.PLT_THERM_CTRL 19 17) ∧
      t.plt.trip = t'.plt.trip ∧ rbit t R.PLT_THERM_STATE 10 = rbit t' R.PLT_THERM_STATE 10

/-- White balance of a P48 value computes, for each channel c of R, G and B, v_c x WB[c] in binary32, rounded once, and
passes the three products through the stage boundary. CLR_WB takes a write exactly when it is a finite binary32 from
2^-8 to 2^8. (spec: R100) -/
def Obligations.WhiteBalance : Prop :=
  (∀ (u : Nat → Word) (p v : Nat),
    whiteBalance u p v = boundary3 (f32Mul (p48Ch v 0) (u (R.CLR_WB p 0))) (f32Mul (p48Ch v 1) (u (R.CLR_WB p 1)))
      (f32Mul (p48Ch v 2) (u (R.CLR_WB p 2)))) ∧
  (∀ (p : Fin 2) (k : Fin 3), ∃ r, regAt (R.CLR_WB p.val k.val) = some (r, 0) ∧ r.fields.length = 1 ∧ ∀ f ∈ r.fields,
    f.acc = .rws ∧ f.hi = 31 ∧ f.lo = 0 ∧ ∀ v : Word,
      inRange f.check v.toNat = (f32IsFinite v && f32Le 0x3B800000#32 v && f32Le v 0x43800000#32))

/-- A SYNC, an announcement, a setting of TAI, a PPS edge and the entry into holdover each leave Meridian time where it was
or later; where they move it, the step is counted in MER_CNT_STEPS. A nanosecond that passes moves it forward. (spec:
09_cascade_and_meridian_time.md) -/
def Obligations.MeridianNeverGoesBack : Prop :=
  (∀ (c : Instr) (s t : State), SamplingOff s → exec c s = .next t →
    ((∃ p f, c = .sync p f) ∨ (∃ p f, c = .announce p f) ∨ (∃ who v, c = .taiSet who v) ∨ c = .ppsIn ∨ c = .holdover) →
    s.meridian ≤ t.meridian ∧
      (t.meridian ≠ s.meridian → rget t R.MER_CNT_STEPS = rget s R.MER_CNT_STEPS + 1#32)) ∧
  (∀ s t : State, s.pending = [] → step s = .next t → s.meridian < t.meridian)

/-- A register write stores its fields; a bad access is reported and reads 0, and an aligned 64-bit access acts as two
32-bit ones, lower address first; a read of a lowest word latches the rest and a write of a top word applies the
quantity; ENABLE and IDLE_REQ are kept; a unit reaches IDLE; a block reset begins and ends; a commit is pending or
applied; assigned interrupt bits are cleared, set and enabled; an unmasked vector sends its pending message; LOCK stays
set. (spec: 02_register_pages_and_ordering.md, 17_startup_reset_charts_firmware.md) -/
def Obligations.PageCommandsAct : Prop :=
  ∀ (s : State),
    (∀ who addr v r f, rbit s R.CNT_PS_CTRL 1 = false → addr % 4 = 0 → 64 ≤ addr % 0x1000 → pageTakes addr s = true →
      (blockOfPage (pageOf addr) = 5 ∨ blockOfPage (pageOf addr) = 10 ∨ blockOfPage (pageOf addr) = 12) →
      addr ≠ R.PHO_REF_CTRL → regAt addr = some (r, 0) → r.words = 1 → f ∈ r.fields →
      (f.acc = .rw ∨ (f.acc = .rws ∧ commitPending s (pageOf addr) = false) ∨ (f.acc = .rwl ∧ locked s = false)) →
      (commitPending s (pageOf addr) = true → allShadowed r = false) → inRange f.check (getBits v f.hi f.lo) = true →
      ∃ t, exec (.regWrite who addr v) s = .next t ∧ rfld t addr f.hi f.lo = getBits v f.hi f.lo) ∧
    (∀ who addr n w, accessGood addr n = false → (rbit s (hdrIntStat (pg 1 0)) 0 = false) →
      ∃ t, exec (.badAccess who addr n w) s = .next t ∧ rget t (hdrErrCode (pg 1 0)) = 0x110#32 ∧
        rget t (hdrErrInfo (pg 1 0)) = w32 addr ∧ (w = none → t.out.head? = some (Emit.readData who 0#32))) ∧
    (∀ who addr w, accessGood addr 8 = true →
      ∃ t, exec (.badAccess who addr 8 w) s = .next t ∧
        t = (match w with | some x => writeAny who (addr + 4) ((x >>> 32).setWidth 32) (writeAny who addr (x.setWidth 32) s) | none => readAny who (addr + 4) (readAny who addr s))) ∧
    (∀ who addr m, rbit s R.CNT_PS_CTRL 1 = false → addr % 4 = 0 → 64 ≤ addr % 0x1000 → pageTakes addr s = true →
      latchPlace addr = some (0, m) → 0 < m →
      ∃ t, exec (.loWordRead who addr) s = .next t ∧ t.out = Emit.readData who (readWord s who addr) :: s.out ∧
        (∀ k ≤ m, 1 ≤ k → latched t who (pageOf addr) k = wordNow s (addr + 4 * k))) ∧
    (∀ who addr v r f, rbit s R.CNT_PS_CTRL 1 = false → addr % 4 = 0 → 64 ≤ addr % 0x1000 → pageTakes addr s = true →
      (blockOfPage (pageOf addr) = 5 ∨ blockOfPage (pageOf addr) = 10 ∨ blockOfPage (pageOf addr) = 12) →
      regAt addr = some (r, 1) → r.words = 2 → r.fields = [f] → f.acc ≠ .ro → (f.acc = .rwl → locked s = false) →
      commitPending s (pageOf addr) = false →
      inRange f.check ((heldWord s (addr - 4)).toNat + getBits v f.hi 0 * 2 ^ 32) = true →
      ∃ t, exec (.hiWordWrite who addr v) s = .next t ∧
        rnat2 t (addr - 4) = (heldWord s (addr - 4)).toNat + getBits v f.hi 0 * 2 ^ 32) ∧
    (∀ who (page : Fin 288) v, rbit s R.CNT_PS_CTRL 1 = false → pageTakes (hdrCtrl page) s = true → bitAt v 2 = false →
      bitAt v 0 = true → blockOfPage page ≠ 1 → blockOfPage page ≠ 3 → blockOfPage page ≠ 12 →
      ∃ t, exec (.enable who page v) s = .next t ∧ enabled t page = true) ∧
    (∀ who (page : Fin 288) v, rbit s R.CNT_PS_CTRL 1 = false → pageTakes (hdrCtrl page) s = true → bitAt v 2 = false →
      bitAt v 1 = true → bitAt v 0 = enabled s page →
      ∃ t, exec (.idleReq who page v) s = .next t ∧ idleReq t page = true ∧ enabled t page = enabled s page) ∧
    (∀ (page : Fin 288), blockOfPage page ≠ 1 → pageThere s page = true → blockResetting s page = false →
      (enabled s page = false ∨ idleReq s page = true) → pageBusy s page = false →
      ∃ t, exec (.unitIdle page) s = .next t ∧ rbit t (hdrStatus page) 0 = true) ∧
    (∀ who (page : Fin 288) v, rbit s R.CNT_PS_CTRL 1 = false → pageTakes (hdrCtrl page) s = true → bitAt v 2 = true →
      idleRead s page = true →
      ∃ t, exec (.blkRst who page v) s = .next t ∧ t.resetting.contains (blockOfPage page) = true ∧
        bitAt (readHeader t page 0x008) 2 = true) ∧
    (∀ (b : Fin 18), s.resetting.contains (b.val + 1) = true →
      ∃ t, exec (.blockResetDone b) s = .next t ∧ t.resetting.contains (b.val + 1) = false ∧
        (∀ p : Fin 16, rget t (hdrIntEn (pg (b.val + 1) p)) = 0#32 ∧ rget t (hdrErrCode (pg (b.val + 1) p)) = 0#32)) ∧
    (∀ who (page : Fin 288) v, rbit s R.CNT_PS_CTRL 1 = false → pageTakes (hdrShadow page) s = true → bitAt v 0 = true →
      hasShadow page = true → commitPending s page = false → idleRead s page = false →
      ∃ t, exec (.commit who page v) s = .next t ∧ commitPending t page = true ∧ t.inUse = s.inUse) ∧
    (∀ who (page : Fin 288) v, rbit s R.CNT_PS_CTRL 1 = false → pageTakes (hdrShadow page) s = true → bitAt v 0 = true →
      hasShadow page = true → commitPending s page = false → idleRead s page = true → blockOfPage page = 14 →
      registersWf s = true →
      ∃ t, exec (.commit who page v) s = .next t ∧ commitPending t page = false ∧
        (∀ e ∈ s.regs, onPage page e.1 = true → shadowedAddr e.1 = true → uget t e.1 = e.2)) ∧
    (∀ who (page : Fin 288) v, rbit s R.CNT_PS_CTRL 1 = false → pageTakes (hdrIntStat page) s = true →
      ∃ t, exec (.pgIntStatClear who page v) s = .next t ∧ rget t (hdrIntStat page) = rget s (hdrIntStat page) &&& ~~~v ∧
        (bitAt v 0 = true → rget t (hdrErrCode page) = 0#32 ∧ rget t (hdrErrInfo page) = 0#32)) ∧
    (∀ who (page : Fin 288) v, rbit s R.CNT_PS_CTRL 1 = false → pageTakes (hdrIntStat page) s = true →
      ∃ t, exec (.pgIntSet who page v) s = .next t ∧
        rget t (hdrIntStat page) = rget s (hdrIntStat page) ||| (v &&& intMask page)) ∧
    (∀ who (page : Fin 288) v, rbit s R.CNT_PS_CTRL 1 = false → pageTakes (hdrIntEn page) s = true →
      ∃ t, exec (.pgIntEnWrite who page v) s = .next t ∧ rget t (hdrIntEn page) = v &&& intMask page) ∧
    (∀ (v : Fin 2048),
      ∃ t, exec (.msixUnmask v) s = .next t ∧ t.msixOn.contains v.val = true ∧
        t.out = (if s.msixPending.contains v.val then [Emit.msix v.val] else []) ++ s.out) ∧
    (∀ who v, rbit s R.CNT_PS_CTRL 1 = false → pageTakes R.PLT_LOCK s = true → bitAt v 0 = true →
      ∃ t, exec (.lock who v) s = .next t ∧ locked t = true)

/-- On a port that is up: a SOF of the committed geometry opens its frame; a good line in order joins it; EOF of a complete
frame closes it and shows its number and flags; META stays with it; an echo leaves with its tag, its reply gives OWD,
its timeout ends it; a trigger leaves on time; a late line closes the frame for padding, a silence is noted, pad lines
complete the frame; alignment codewords and their loss move the port; a finished T0 record is published. (spec:
03_sensor_ingest.md) -/
def Obligations.SensorPortActs : Prop :=
  ∀ (p : Fin 2) (s : State), s.siu.length = 2 →
    (∀ k r, portUp s p = true → siuPacket s p k = r → headerHolds r = true → pktType r = 1 → pktLength r = 0 →
      siuTakes s p = true → (siuAt s p).frame = none → commitPending s (pg 2 p) = false → clrUnable s p = false →
      decimates s p = false → getBits (hword 2 r) 15 0 = ufld s (R.SIU_LINECFG p) 15 0 →
      getBits (hword 2 r) 31 16 = ufld s (R.SIU_LINECFG p) 29 16 → getBits (hword 3 r) 1 0 = ufld s (R.SIU_LINECFG p) 31 30 →
      ∃ t, exec (.sof p k) s = .next t ∧
        ((siuAt t p).frame.map fun (f : SiuFrame) => (f.id, f.sof)) = some (pktFrame r, merNow s) ∧
        (siuAt t p).lastId = pktFrame r ∧ (siuAt t p).dead = none) ∧
    (∀ k r f, portUp s p = true → siuPacket s p k = r → headerHolds r = true → pktType r = 2 →
      pktLength r = (f.width * depthBits f.depth + 255) / 256 → r.payload.length = 32 * pktLength r →
      memberFrame s p r = some f → (siuAt s p).frame = some f → lineIsLate s p f = false → f.lines.length < f.height →
      f.next = f.lines.length → getBits (hword 2 r) 15 0 = f.lines.length → getBits (hword 2 r) 31 16 + 1 = f.width →
      r.payloadLost = false → crc32 r.payload = (hword 6 r).toNat →
      ∃ t, exec (.line p k false false) s = .next t ∧
        ((siuAt t p).frame.map fun (g : SiuFrame) => (g.lines, g.passed)) = some (f.lines ++ [samplesOf f.depth f.width r.payload], f.passed + 1)) ∧
    (∀ k r f, portUp s p = true → siuPacket s p k = r → headerHolds r = true → pktType r = 3 → pktLength r = 0 →
      memberFrame s p r = some f → f.height ≤ f.lines.length → getBits (hword 3 r) 7 0 = 0 →
      getBits (hword 2 r) 15 0 = f.passed % 65536 →
      ∃ t, exec (.eof p k) s = .next t ∧ (siuAt t p).frame = none ∧
        rget t (R.SIU_LAST_FRAME p) = w32 (f.id + f.flags * 65536) ∧
        rnat t (R.SIU_CNT_FRAMES_OK p) = (rnat s (R.SIU_CNT_FRAMES_OK p) + 1) % 2 ^ 32) ∧
    (∀ k r, portUp s p = true → siuPacket s p k = r → headerHolds r = true → pktType r = 4 → 1 ≤ pktLength r →
      pktLength r ≤ 128 → r.payload.length = 32 * pktLength r → (memberFrame s p r).isSome = true → r.payloadLost = false →
      ∃ t, exec (.metaPacket p k) s = .next t ∧ ((siuAt t p).frame.map fun (g : SiuFrame) => g.metaBytes) = some r.payload) ∧
    (portUp s p = true →
      ∃ t, exec (.echo p) s = .next t ∧ (siuAt t p).echoOut = some ((siuAt s p).echoTag % 65536, merNow s) ∧
        t.out = (sendBridge p (bridgePacket 0x83 ((siuAt s p).echoTag % 65536) 0 0) s).out) ∧
    (∀ k r a, portUp s p = true → siuPacket s p k = r → headerHolds r = true → pktType r = 5 → pktLength r = 0 →
      siuQuiet s p = false → (siuAt s p).echoOut = some (pktFrame r, a) → merNow s - a ≤ 6553600000 →
      ∃ t, exec (.echoReply p k) s = .next t ∧ (siuAt t p).echoOut = none ∧
        rget t (R.SIU_OWD p) = w32 ((merNow s - a - (hword 2 r).toNat) / 2)) ∧
    (∃ t, exec (.echoTimeout p) s = .next t ∧ (siuAt t p).echoOut = none ∧ rget t (R.SIU_OWD p) = rget s (R.SIU_OWD p)) ∧
    (portUp s p = true → rbit s (R.SIU_TRIG_CTRL p) 0 = true →
      merNow s + rfld s (R.SIU_TRIG_CTRL p) 16 1 * 65536000 ≤ trigInstant s p (siuAt s p).nextTrig →
      ∃ t, exec (.trigger p) s = .next t ∧ (siuAt t p).nextTrig = (siuAt s p).nextTrig + 1 ∧
        (siuAt t p).trigs = (siuAt s p).trigs ++ [({ id := (siuAt s p).nextTrig % 65536, at16 := trigInstant s p (siuAt s p).nextTrig } : Trigger)]) ∧
    (∀ f, (siuAt s p).frame = some f → f.closing = false → f.lines.length < f.height → ubit s (R.SIU_POLICY p) 2 = false →
      ∃ t, exec (.lateLine p) s = .next t ∧ ((siuAt t p).frame.map fun (g : SiuFrame) => g.closing) = some true ∧
        (siuAt t p).dead = some f.id) ∧
    (portUp s p = true → siuQuiet s p = false → (siuAt s p).sofSeen = true → (siuAt s p).lateRaised = false →
      pageThere s (pg 2 p) = true → rbit s (hdrIntStat (pg 2 p)) 0 = false →
      ∃ t, exec (.lateFrame p) s = .next t ∧ (siuAt t p).lateRaised = true ∧ rget t (hdrErrCode (pg 2 p)) = 0x21B#32) ∧
    (∀ f, (siuAt s p).frame = some f → f.closing = true →
      ∃ t, exec (.padLinesDone p) s = .next t ∧ (siuAt t p).frame = none ∧
        rget t (R.SIU_LAST_FRAME p) = w32 (f.id + f.flags * 65536)) ∧
    (∀ (i : Fin 5) c skew clean l n, portState s p = 2 → i.val < 4 → (siuAt s p).lanes.length = 4 → (siuAt s p).back = none →
      alignRead c = some (l, n) → l = logicalLane s 0 (5 * p + i) → rfld s (R.SIU_PORT p) 15 8 ≠ l →
      ∃ t, exec (.alignmentCodeword p i c skew clean) s = .next t ∧ rfld t (R.SIU_PORT p) 23 16 = satTo 255 skew ∧
        (nth (0, 0, 0) (siuAt t p).lanes l).2.1 = n) ∧
    (∀ c skew clean l n, portState s p = 2 → l < 4 → (siuAt s p).lanes.length = 4 → (siuAt s p).back = none →
      alignRead c = some (l + 128, n) → rfld s (R.SIU_PORT p) 15 8 = l →
      ∃ t, exec (.alignmentCodeword p (4 : Fin 5) c skew clean) s = .next t ∧ rfld t (R.SIU_PORT p) 23 16 = satTo 255 skew ∧
        (nth (0, 0, 0) (siuAt t p).lanes l).2.1 = n) ∧
    (∀ l, portUp s p = true → l ≠ 0#4 →
      ∃ t, exec (.alignmentLost p l) s = .next t ∧ portState t p = 2 ∧ (siuAt t p).spare = none ∧
        (nth (0, 0, 0) (siuAt t p).lanes 0).1 = 0) ∧
    (∀ e es, ringNext (siuAt s p).ring.held = some (e, es) →
      ∃ t, exec (.t0Publish p) s = .next t ∧ (siuAt t p).ring.held = es ∧
        rget t (R.SIU_T0_WR p) = w32 ((e.start + e.len) % (siuAt s p).ring.size))

/-- A line that is ready leaves its frame; a slice test that both slices pass frees the spare, one that the slice alone
fails asks for the spare; FORCE and RELEASE note what the next SOF does; a dark calibration starts, ends and is
cancelled; a tap record and an output buffer are published; a LUT load starts and ends; a table entry is written and
INDEX moves on. (spec: 04_raw_stages.md, 05_colour_transforms_and_outputs.md) -/
def Obligations.ColourCommandsAct : Prop :=
  ∀ (p : Fin 2) (s : State), s.clr.length = 2 →
    (∀ f, (clrAt s p).frames = [f] → lineReady f p = true → f.dev.length + 1 < f.height → nth false f.live 0 = false →
      s.poison = [] →
      ∃ t, exec (.pipelineLine p false 0#4) s = .next t ∧
        ((clrAt t p).frames.map fun (g : ClrFrame) => g.dev.length) = [f.dev.length + 1]) ∧
    (∀ x, s.clrSpare.testing = some x →
      ∃ t, exec (.knownAnswerTestDone true true) s = .next t ∧ t.clrSpare.testing = none ∧ spareState t = 0 ∧
        rnat t R.CLR_CNT_TRANSIENT = (rnat s R.CLR_CNT_TRANSIENT + 1) % 2 ^ 32) ∧
    (∀ x, s.clrSpare.testing = some x →
      ∃ t, exec (.knownAnswerTestDone false true) s = .next t ∧ t.clrSpare.testing = none ∧ t.clrSpare.take = some x ∧
        spareState t = 2) ∧
    (∀ who v, rbit s R.CNT_PS_CTRL 1 = false → pageTakes R.CLR_SPARE s = true → bitAt v 24 = true →
      (spareState s = 0 ∨ spareState s = 4) → s.clrSpare.take = none →
      ∃ t, exec (.clrForce who v) s = .next t ∧ t.clrSpare.take = some (getBits v 19 19, getBits v 23 20)) ∧
    (∀ who v, rbit s R.CNT_PS_CTRL 1 = false → pageTakes R.CLR_SPARE s = true → bitAt v 25 = true → spareState s = 2 →
      ∃ t, exec (.clrRelease who v) s = .next t ∧ t.clrSpare.giveBack = true) ∧
    (∀ who v, rbit s R.CNT_PS_CTRL 1 = false → pageTakes (R.CLR_DARK_CTRL p) s = true → bitAt v 8 = true → calState s p = 0 →
      ∃ t, exec (.darkCalStart who p v) s = .next t ∧ ((clrAt t p).cal.map fun (c : ClrCal) => c.taken) = some 0 ∧
        calState t p = 1 ∧ rget t (R.CLR_CAL_RESULT p) = 0#32) ∧
    (∀ c, (clrAt s p).cal = some c → c.target ≤ c.taken →
      memPoisoned s false (4 * (ufld s (R.SIU_LINECFG p) 15 0 + 1) * (ufld s (R.SIU_LINECFG p) 29 16 + 1)) (rnat2 s (R.CLR_CAL_SCRATCH p)) = false →
      ∃ t, exec (.calDone p) s = .next t ∧ (clrAt t p).cal = none ∧ (calState t p = 0 ∨ calState t p = 3)) ∧
    (∀ who v, rbit s R.CNT_PS_CTRL 1 = false → pageTakes (R.CLR_DARK_CTRL p) s = true → bitAt v 9 = true → calState s p ≠ 0 →
      ∃ t, exec (.darkCalCancel who p v) s = .next t ∧ calState t p = 0 ∧ (clrAt t p).cal = none ∧
        rget t (R.CLR_CAL_RESULT p) = 3#32) ∧
    (∀ e es, ringNext (clrAt s p).ring.held = some (e, es) →
      ∃ t, exec (.tapPublish p) s = .next t ∧ (clrAt t p).ring.held = es ∧
        rget t (R.CLR_TAP_WR p) = w32 ((e.start + e.len) % (clrAt s p).ring.size)) ∧
    (∀ who v, rbit s R.CNT_PS_CTRL 1 = false → pageTakes (R.CLR_LUT_LOAD p) s = true → bitAt v 0 = true →
      ufld s (R.CLR_LUT_CTRL p) 1 1 ≠ getBits v 1 1 → commitPending s (pg 3 (3 + p)) = false → (clrAt s p).loading = none →
      ∃ t, exec (.lutLoad who p v) s = .next t ∧ (clrAt t p).loading = some (getBits v 1 1)) ∧
    ((clrAt s p).loading ≠ none →
      ∃ t, exec (.lutLoadDone p) s = .next t ∧ (clrAt t p).loading = none) ∧
    (∀ (n : Fin 4) b, (clrAt s p).otWait.find? (·.output == n.val) = some b →
      ∃ t, exec (.otPublish p n) s = .next t ∧ (clrAt t p).otWait = (clrAt s p).otWait.erase b ∧
        rfld t (R.CLR_OT_WR_IDX p n) 5 0 = (rfld s (R.CLR_OT_WR_IDX p n) 5 0 + 1) % b.count % 64) ∧
    (∀ who v, rbit s R.CNT_PS_CTRL 1 = false → pageTakes (R.CLR_TW_DATA + 4) s = true → rfld s R.CLR_TW_SEL 3 1 = 1 →
      ufld s (R.CLR_LUT_CTRL (rfld s R.CLR_TW_SEL 0 0)) 1 1 = 0 →
      commitPending s (pg 3 (3 + rfld s R.CLR_TW_SEL 0 0)) = false → (clrAt s (rfld s R.CLR_TW_SEL 0 0)).loading = none →
      rfld s R.CLR_TW_INDEX 18 0 < 274625 →
      f16IsFinite (p48R (((heldWord s R.CLR_TW_DATA).toNat + v.toNat * 2 ^ 32) % 2 ^ 48)) = true →
      f16IsFinite (p48G (((heldWord s R.CLR_TW_DATA).toNat + v.toNat * 2 ^ 32) % 2 ^ 48)) = true →
      f16IsFinite (p48B (((heldWord s R.CLR_TW_DATA).toNat + v.toNat * 2 ^ 32) % 2 ^ 48)) = true →
      ∃ t, exec (.tableWrite who v) s = .next t ∧ rfld t R.CLR_TW_INDEX 18 0 = (rfld s R.CLR_TW_INDEX 18 0 + 1) % 2 ^ 19 ∧
        smGet 0 (clrAt t (rfld s R.CLR_TW_SEL 0 0)).lut1 (rfld s R.CLR_TW_INDEX 18 0) = ((heldWord s R.CLR_TW_DATA).toNat + v.toNat * 2 ^ 32) % 2 ^ 48)

/-- A picture starts and takes the next number; a row that is ready is composed; a map check is asked for and ends VALID or
INVALID; the scan of the next launch begins; a deadline with no picture is a skipped hold-over; a scanned launch is sent
with its ID; self-refresh is asked for and entered; the latency tolerance is reported, and a read starts its minimum
anew. (spec: 06_canvas_and_timed_launch.md) -/
def Obligations.CanvasCommandsAct : Prop :=
  ∀ (s : State),
    (∀ a, cnvRuns s = true → ufld s R.CNV_SCHED 1 0 = 0 → composeDue s = some a → composeNews s = true →
      ∃ t, exec (.pictureStart) s = .next t ∧ rnat t R.CNV_PIC_SEQ = (rnat s R.CNV_PIC_SEQ + 1) % 2 ^ 32 ∧
        t.cnv.paceSof = none ∧ t.cnv.composed = some a) ∧
    (∀ a, cnvRuns s = true → ufld s R.CNV_SCHED 1 0 ≠ 0 → s.cnv.paceSof = some a →
      ∃ t, exec (.pictureStart) s = .next t ∧ rnat t R.CNV_PIC_SEQ = (rnat s R.CNV_PIC_SEQ + 1) % 2 ^ 32 ∧ t.cnv.paceSof = none) ∧
    (∀ c, s.cnv.bufs.length = 2 → c.buf < 2 → s.cnv.pics = [c] → rowReady s (useOf c.use) c c.next = true →
      rowPoisoned s (useOf c.use) c c.next = false → c.next + 1 < canvasH (useOf c.use) →
      ∃ t, exec (.rowCompose) s = .next t ∧ (canvasBuf t c.buf).ready = c.next + 1 ∧
        ((t.cnv.pics.find? fun (d : CnvPic) => d.seq == c.seq).map fun (d : CnvPic) => d.next) = some (c.next + 1)) ∧
    (∀ who v, rbit s R.CNT_PS_CTRL 1 = false → pageTakes R.CNV_MAP_CTRL s = true → bitAt v 4 = true →
      enabled s (pg 4 0) = false → commitPending s (pg 4 2) = false → mapState s (getBits v 5 5) ≠ 1 →
      ∃ t, exec (.mapValidate who v) s = .next t ∧ mapState t (getBits v 5 5) = 1) ∧
    (∀ (b : Fin 2), s.cnv.atCheck.length = 2 → mapState s b = 1 →
      ∃ t, exec (.mapValidateDone b) s = .next t ∧
        mapState t b = (if (mapCheck s (useOf (nth [] s.cnv.atCheck b)) b).isNone then 2 else 3) ∧ nth [] t.cnv.atCheck b = []) ∧
    (∀ a b k, nextLaunch s = some (a, b) → launchBuf s b = some k → s.cnv.scan = none → scanMayStart s a b = true →
      ∃ t, exec (.tileScan) s = .next t ∧ (t.cnv.scan.map fun (c : CnvScan) => (c.at16, c.buf)) = some (a, k)) ∧
    (∀ a b, nextLaunch s = some (a, b) → launchBuf s b = none → deadline (launchUse s b) a ≤ merNow s →
      scanAllowed s a = true →
      ∃ t, exec (.dispatchDeadline) s = .next t ∧
        rnat t R.CNV_CNT_HOLD_SKIPPED = (rnat s R.CNV_CNT_HOLD_SKIPPED + 1) % 2 ^ 32 ∧ t.cnv.lastAt = some a) ∧
    (∀ a b k c, nextLaunch s = some (a, b) → launchBuf s b = some k → scanAllowed s a = true →
      merNow s + leadTime (launchUse s b) ≤ a → s.cnv.scan = some c → c.at16 = a → c.buf = k → c.bound = b.isSome →
      c.done = true →
      ∃ t, exec (.launch) s = .next t ∧ rnat t R.CNV_CNT_LAUNCHES = (rnat s R.CNV_CNT_LAUNCHES + 1) % 2 ^ 32 ∧
        rget t R.CNV_LAUNCH_ID = w32 c.id ∧ t.cnv.lastAt = some a ∧ t.cnv.scan = none ∧ t.cnv.lastId = some c.id) ∧
    (∀ v, rbit s R.CNT_PS_CTRL 1 = false → pageTakes R.CNV_SELFREF s = true → bitAt v 0 = true → selfrefState s = 0 →
      ∃ t, exec (.hostReq v) s = .next t ∧ selfrefState t = 1) ∧
    (∀ v, rbit s R.CNT_PS_CTRL 1 = false → pageTakes R.CNV_SELFREF s = true → bitAt v 1 = true → selfrefState s = 0 →
      ∃ t, exec (.fwReq v) s = .next t ∧ selfrefState t = 1) ∧
    (selfrefState s = 1 → s.cnv.scan = none → selfrefAsked s = true →
      ∃ t, exec (.selfref) s = .next t ∧ selfrefState t = 2) ∧
    (∃ t, exec (.ltrReport) s = .next t ∧ rfld t R.CNV_LTR 15 0 = latencyTol s ∧
        rfld t R.CNV_LTR 31 16 = min (latencyTol s) (rfld s R.CNV_LTR 31 16)) ∧
    (∀ who, rbit s R.CNT_PS_CTRL 1 = false → pageTakes R.CNV_LTR s = true →
      ∃ t, exec (.cnvLtrRead who) s = .next t ∧ t.out = Emit.readData who (rget s R.CNV_LTR) :: s.out ∧
        rfld t R.CNV_LTR 31 16 = rfld s R.CNV_LTR 15 0)

/-- The pass of the next launch begins and closes; a reference capture starts, is cancelled, times out, and ends once
written, each with its RESULT; a read of the power peak returns it and starts it anew. (spec: 07_tile_photometry.md) -/
def Obligations.PhotometryActs : Prop :=
  ∀ (s : State),
    (∀ a b, s.pho.pass = none → phoRuns s = true → s.pho.owed = [] → nextLaunch s = some (a, b) → passDue s a b = true →
      ∃ t, exec (.passBegin) s = .next t ∧ (t.pho.pass.map fun (p : PhoPass) => p.at16) = some a ∧ rbit t R.PHO_STATUS 2 = true) ∧
    (∀ a u os, s.pho.pass = none → phoRuns s = true → s.pho.owed = (a, u) :: os →
      ∃ t, exec (.passBegin) s = .next t ∧ (t.pho.pass.map fun (p : PhoPass) => p.at16) = some a ∧ t.pho.owed = os) ∧
    (∀ p, s.pho.pass = some p → passGone s p = false → (passSums s p).isSome = true →
      ∃ t, exec (.passClose) s = .next t ∧ t.pho.pass = none ∧ t.pho.lastAt = some p.at16 ∧
        rnat t R.PHO_PASS_SEQ = (rnat s R.PHO_PASS_SEQ + 1) % 2 ^ 32 ∧ rbit t R.PHO_STATUS 2 = false) ∧
    (∀ who v, rbit s R.CNT_PS_CTRL 1 = false → pageTakes R.PHO_REF_CTRL s = true → bitAt v 0 = true → refState s = 0 →
      ∃ t, exec (.refCaptureStart who v) s = .next t ∧ refState t = 1 ∧ t.pho.steadyRun = 0 ∧ rfld t R.PHO_REF_CTRL 5 4 = 0) ∧
    (∀ who v, rbit s R.CNT_PS_CTRL 1 = false → pageTakes R.PHO_REF_CTRL s = true → bitAt v 1 = true → refState s ≠ 0 →
      ∃ t, exec (.refCaptureCancel who v) s = .next t ∧ refState t = 0 ∧ rfld t R.PHO_REF_CTRL 5 4 = 3) ∧
    (refState s = 1 →
      ∃ t, exec (.refCaptureTimeout) s = .next t ∧ refState t = 0 ∧ rfld t R.PHO_REF_CTRL 5 4 = 2) ∧
    (refState s = 2 →
      ∃ t, exec (.refCaptureWriteDone) s = .next t ∧ refState t = 0 ∧ rfld t R.PHO_REF_CTRL 5 4 = 1 ∧ t.pho.refOut = []) ∧
    (∀ who, rbit s R.CNT_PS_CTRL 1 = false → pageTakes R.PHO_PWR_PEAK s = true →
      ∃ t, exec (.phoPwrPeakRead who) s = .next t ∧ t.out = Emit.readData who (rget s R.PHO_PWR_PEAK) :: s.out ∧
        rget t R.PHO_PWR_PEAK = 0#32)

/-- The next waiting query leaves with its tag; a matching reply and a timeout end the query outstanding, the latter
counted; the periodic TEMP, ECHO and STATUS queries are asked; ENUM starts enumeration; RESUME asks at REACH; the host
window takes a query or a maker CONFIG; a moved schedule is sent again. (spec: 08_emorn_tile_link.md) -/
def Obligations.TilePortActs : Prop :=
  ∀ (p : Fin 16) (s : State), s.tlk.length = 16 →
    (∀ q qs, (tlkAt s p).asked = none → (tlkAt s p).waiting = q :: qs → q.bcast = false → q.config = false → 2 ≤ tlkState s p →
      (tlkAt s p).readyAt ≤ s.now → tlkLaneUp s p = true →
      ∃ t, exec (.querySend p) s = .next t ∧
        (tlkAt t p).asked = some { q with tag := (tlkAt s p).nextTag % 65536, due := s.now + queryTimeout s p q } ∧
        (tlkAt t p).waiting = qs ∧ (tlkAt t p).nextTag = (tlkAt s p).nextTag % 65536 + 1) ∧
    (∀ q qs, (tlkAt s p).asked = none → (tlkAt s p).waiting = q :: qs → q.bcast = true → q.config = false → q.assign = false →
      ((upto (tlkCount s p)).filter (chainSensor s p)) ≠ [] → 2 ≤ tlkState s p → (tlkAt s p).readyAt ≤ s.now →
      tlkLaneUp s p = true → s.poison = [] →
      ∃ t, exec (.querySend p) s = .next t ∧
        (tlkAt t p).asked = some { q with tag := (tlkAt s p).nextTag % 65536, due := s.now + queryTimeout s p q } ∧
        (tlkAt t p).waiting = qs ∧ (tlkAt t p).tempLeft = (upto (tlkCount s p)).filter (chainSensor s p)) ∧
    (∀ q qs, (tlkAt s p).asked = none → (tlkAt s p).waiting = q :: qs → q.bcast = false → q.config = true → 2 ≤ tlkState s p →
      (tlkAt s p).readyAt ≤ s.now → tlkLaneUp s p = true →
      ∃ t, exec (.querySend p) s = .next t ∧ (tlkAt t p).waiting = qs ∧ rbit t (R.TLK_HQ_CTRL p) 30 = true) ∧
    (∀ k rtt r q, 2 ≤ tlkState s p → rxPacket false k.first k.pos k.codewords = r → headerHolds r = true → pktType r = 0x20 →
      pktLength r = 0 → (tlkAt s p).asked = some q → q.bcast = false → q.why = .probe → s.now ≤ q.due →
      getBits (hword 3 r) 15 0 = q.tag → getBits (hword 2 r) 7 0 = q.kind → getBits (hword 1 r) 12 0 = q.dst →
      ∃ t, exec (.reply p k rtt) s = .next t ∧ (tlkAt t p).asked = none ∧
        rget t (R.TLK_CNT_REPLY_DISCARD p) = rget s (R.TLK_CNT_REPLY_DISCARD p)) ∧
    (∀ q, (tlkAt s p).asked = some q → q.why = .echo → q.due ≤ s.now →
      ∃ t, exec (.replyTimeout p) s = .next t ∧ (tlkAt t p).asked = none ∧
        rnat t (R.TLK_CNT_TIMEOUT p) = (rnat s (R.TLK_CNT_TIMEOUT p) + 1) % 2 ^ 32) ∧
    (rfld s (R.TLK_TEMP_CTRL p) 15 0 ≠ 0 → tlkState s p = 3 →
      ∃ t, exec (.tempQuery p) s = .next t ∧
        (tlkAt t p).waiting = (tlkAt s p).waiting ++ [({ kind := 3, dst := 0x1FFF, bcast := true, why := .temp } : TlkQuery)]) ∧
    (rbit s (R.TLK_PORT_CTRL p) 3 = true → tlkState s p = 3 → 0 < tlkCount s p →
      ∃ t, exec (.echoRemeasure p) s = .next t ∧
        (tlkAt t p).waiting = (tlkAt s p).waiting ++ [({ kind := 2, dst := (tlkAt s p).echoNext % tlkCount s p, bcast := false, why := .echo } : TlkQuery)] ∧
        (tlkAt t p).echoNext = (tlkAt s p).echoNext % tlkCount s p + 1) ∧
    (rbit s (R.TLK_PORT_CTRL p) 2 = true → tlkState s p = 3 → 0 < tlkCount s p →
      ∃ t, exec (.statusProbe p) s = .next t ∧
        (tlkAt t p).waiting = (tlkAt s p).waiting ++ [({ kind := 4, dst := tlkCount s p - 1, bcast := false, why := .probe } : TlkQuery)]) ∧
    (∀ who v, rbit s R.CNT_PS_CTRL 1 = false → pageTakes (R.TLK_PORT_CTRL p) s = true → bitAt v 0 = true → tlkRuns s p = true →
      tlkLaneUp s p = true →
      ∃ t, exec (.enum who p v) s = .next t ∧ tlkState t p = 2 ∧ tlkCount t p = 0 ∧ (tlkAt t p).readyAt = s.now + 10000) ∧
    (∀ who v, rbit s R.CNT_PS_CTRL 1 = false → pageTakes (R.TLK_PORT_CTRL p) s = true → bitAt v 1 = true → tlkState s p = 3 →
      rfld s (R.TLK_REACH p) 13 0 < 8192 →
      ∃ t, exec (.resume who p v) s = .next t ∧ (tlkAt t p).waiting.length = (tlkAt s p).waiting.length + 1) ∧
    (∀ who v, rbit s R.CNT_PS_CTRL 1 = false → pageTakes (R.TLK_HQ_CTRL p) s = true → bitAt v 31 = true → bitAt v 24 = false →
      bitAt v 15 = false → hostWaiting s p = false →
      ∃ t, exec (.hostQuery who p v) s = .next t ∧
        (tlkAt t p).waiting = (tlkAt s p).waiting ++ [({ kind := getBits v 23 16, dst := getBits v 12 0, bcast := false, why := .host } : TlkQuery)] ∧
        rbit t (R.TLK_HQ_CTRL p) 30 = false) ∧
    (∀ who v, rbit s R.CNT_PS_CTRL 1 = false → pageTakes (R.TLK_HQ_CTRL p) s = true → bitAt v 31 = true → bitAt v 24 = true →
      0x80 ≤ getBits v 23 16 → hostWaiting s p = false →
      ∃ t, exec (.hostConfig who p v) s = .next t ∧
        (tlkAt t p).waiting = (tlkAt s p).waiting ++ [({ kind := getBits v 23 16, dst := getBits v 12 0, bcast := bitAt v 15, why := .host, config := true } : TlkQuery)] ∧
        rbit t (R.TLK_HQ_CTRL p) 30 = false) ∧
    (tlkRuns s p = true → tlkState s p = 3 → (tlkAt s p).slots ≠ [] →
      ∃ t, exec (.scheduleResend p) s = .next t ∧
        (if edgeMoved (tlkAt s p).edges (scheduleEdges s s.drawn (uget s)) = true then (tlkAt t p).slots = scheduleOf (uget s) ∧ (tlkAt t p).edges = scheduleEdges s s.drawn (uget s) else t = draw s))

/-- A flit that holds brings back credits, makes the neighbour known, gives what it has heard, a route or a mirrored lane;
the events of a port send their flits; a lost Lodestar is forgotten; an isolated device elects itself or free-runs; a
retry timeout resends what is not acknowledged. (spec: 09_cascade_and_meridian_time.md) -/
def Obligations.CascadeLinkActs : Prop :=
  ∀ (s : State),
    (∀ (port : Fin 4) flit skew clean, alignHolds flit = true → casPortRuns (flitIn port 1 flit s).1 port = true →
      2 ≤ casState (flitIn port 1 flit s).1 port → (casAt (flitIn port 1 flit s).1 port).spare = none →
      (casAt (flitIn port 1 flit s).1 port).back = none → ((flitIn port 1 flit s).1).cas.ports.length = 4 →
      ∃ t, exec (.align port flit skew clean) s = .next t ∧ (casAt t port).alignCount = leNat ((flit.payload.drop 4).take 4) ∧
        ((casAt t port).deskewed = true ↔ skew ≤ 4000)) ∧
    (∀ (port : Fin 4) flit, (flitIn port 0 flit s).2 = true → bitAt flit.h2 29 = false → (casAt s port).queue0 = [] →
      (casAt s port).queue1 = [] → (casAt s port).queue2 = [] → s.cas.ports.length = 4 →
      ∃ t, exec (.idle port flit) s = .next t ∧
        (casAt t port).credits = (upto 3).map fun k => credit (casAt s port) k + getBits flit.h3 11 8 / 2 ^ k % 2) ∧
    (∀ (port : Fin 4) flit, (flitIn port 2 flit s).2 = true →
      ∃ t, exec (.discover port flit) s = .next t ∧ nbrId t port = leNat ((flBytes flit).take 2) % 2 ^ 14 ∧
        hasPartner t port = true) ∧
    (∀ (port : Fin 4), casPortRuns s port = true → 2 ≤ casState s port → hasPartner s port = false →
      ∃ t, exec (.discoverSend port) s = .next t ∧
        t.out = (let b := flitBody (w32 2) (w32 (casId s + casGen s * 2 ^ 14)) (ackWord (casAt s port) 0 false) (w32 3) (leBytes 2 (casId s) ++ leBytes 1 (casGen s)); Emit.flit port (b ++ leBytes 2 (flitCrc b)) :: s.out)) ∧
    (casRuns s = true → (∀ p : Fin 4, hasPartner s p = false) → casDevState s ≠ 1 →
      ∃ t, exec (.isolated) s = .next t ∧ t.cas.lodestar = (if rbit s R.CAS_ELECT 16 then some (casId s) else none) ∧
        t.cas.rootPort = none) ∧
    (∀ (port : Fin 4) flit, (flitIn port 6 flit s).2 = true → hasPartner (flitIn port 6 flit s).1 port = true →
      s.cas.ports.length = 4 →
      ∃ t, exec (.announce port flit) s = .next t ∧
        (casAt t port).heard = some (parseAnnounce (flBytes flit ++ List.replicate 46 0#8))) ∧
    (∀ (port : Fin 4), casHears s port = true → hasPartner s port = true →
      ∃ t, exec (.announceSend port) s = .next t ∧ t.out.length = s.out.length + 1 ∧
        t.cas.annSeq = (if s.cas.lodestar = some (casId s) then (s.cas.annSeq + 1) % 65536 else s.cas.annSeq)) ∧
    (∀ l, s.cas.lodestar = some l → l ≠ casId s →
      ∃ t, exec (.lodestarDrop) s = .next t ∧ (∀ p : Fin 4, (casAt t p).heard.map CasHeard.lodestar ≠ some l)) ∧
    (∀ (port : Fin 4) flit change, (flitIn port 8 flit s).2 = true → (acceptFlit port flit (flitIn port 8 flit s).1).2 = true →
      ∃ t, exec (.topo port flit change) s = .next t ∧ smGet 0 t.cas.routes (flSrc flit) = port.val + 1 ∧
        smGet 0 t.cas.gens (flSrc flit) = flGen flit + 1) ∧
    (∀ p, casRuns s = true → p < 4 → forwardPorts s = [p] → (casAt s p).queue0 = [] → (casAt s p).queue1 = [] →
      (casAt s p).queue2 = [] → 0 < credit (casAt s p) 0 → (casAt s p).unacked.length < 2048 → s.cas.ports.length = 4 →
      s.cas.leaving = [] →
      ∃ t, exec (.topoSend) s = .next t ∧ (casAt t p).unacked.length = (casAt s p).unacked.length + 1 ∧
        rnat t (R.CAS_CNT_TX p) = (rnat s (R.CAS_CNT_TX p) + 1) % 2 ^ 32) ∧
    (∀ (port : Fin 4) flit (lane : Fin 4) start k, (flitIn port 5 flit s).2 = true →
      casSpare (flitIn port 5 flit s).1 port (fun j => decide (spareStateOf (flitIn port 5 flit s).1 2 j = 0)) = some k →
      (casAt (flitIn port 5 flit s).1 port).spare = none → (flitIn port 5 flit s).1.cas.ports.length = 4 →
      ∃ t, exec (.lanemap port flit true lane start) s = .next t ∧ spareStateOf t 2 k = 1 ∧
        (casAt t port).mirror = some lane.val) ∧
    (∀ (port : Fin 4), casPortRuns s port = true → 2 ≤ casState s port → (casAt s port).unacked ≠ [] →
      (casAt s port).resends < 16 → s.cas.ports.length = 4 →
      ∃ t, exec (.retryTimeout port) s = .next t ∧
        rnat t (R.CAS_CNT_RESEND port) = (rnat s (R.CAS_CNT_RESEND port) + (casAt s port).unacked.length) % 2 ^ 32 ∧
        (casAt t port).resends = (casAt s port).resends + 1)

/-- Loss of SYNC on a follower enters HOLDOVER with FREQ kept; a TAI write on the Lodestar waits for PPS_IN or sets the
epoch at once; a PPS edge is stamped and counted; a missing PPS edge and the loss of the 10 MHz reference are reported
with their causes; its return is shown. (spec: 09_cascade_and_meridian_time.md) -/
def Obligations.MeridianEventsAct : Prop :=
  ∀ (s : State),
    (isLodestar s = false → (merState s = 1 ∨ merState s = 2) →
      ∃ t, exec (.holdover) s = .next t ∧ merState t = 3 ∧ rget t R.MER_FREQ = rget s R.MER_FREQ) ∧
    (∀ who v, rbit s R.CNT_PS_CTRL 1 = false → pageTakes (R.MER_TAI_SET + 8) s = true → isLodestar s = true →
      rbit s R.MER_PPS_CTRL 0 = true →
      ∃ t, exec (.taiSet who v) s = .next t ∧ t.taiPending = true) ∧
    (∀ who v, rbit s R.CNT_PS_CTRL 1 = false → pageTakes (R.MER_TAI_SET + 8) s = true → isLodestar s = true →
      rbit s R.MER_PPS_CTRL 0 = false → epochValid s = false →
      ∃ t, exec (.taiSet who v) s = .next t ∧ epochValid t = true) ∧
    (rbit s R.MER_PPS_CTRL 0 = true → s.taiPending = false →
      ∃ t, exec (.ppsIn) s = .next t ∧ rget t R.MER_PPS_STAMP = (longWords (merNow s)).1 ∧
        rnat t R.MER_CNT_PPS = (rnat s R.MER_CNT_PPS + 1) % 2 ^ 32 ∧ rbit t R.MER_REF_STATE 1 = true) ∧
    (rbit s R.MER_PPS_CTRL 0 = true → rbit s R.MER_REF_STATE 1 = true → pageThere s (pg 8 1) = true →
      rbit s (hdrIntStat (pg 8 1)) 0 = false →
      ∃ t, exec (.ppsMissing) s = .next t ∧ rbit t R.MER_REF_STATE 1 = false ∧ rget t (hdrErrCode (pg 8 1)) = 0x811#32) ∧
    (rbit s R.MER_REF_STATE 0 = true → pageThere s (pg 8 1) = true → rbit s (hdrIntStat (pg 8 1)) 0 = false →
      ∃ t, exec (.ref10mLoss) s = .next t ∧ rbit t R.MER_REF_STATE 0 = false ∧ rget t (hdrErrCode (pg 8 1)) = 0x812#32) ∧
    (∃ t, exec (.ref10mRestored) s = .next t ∧ rbit t R.MER_REF_STATE 0 = true ∧
        rbit t R.MER_REF_STATE 1 = rbit s R.MER_REF_STATE 1)

/-- A SYNC on the root port sets THETA; a delay request is answered and a response updates the delay; PIC and MSG flits join
their messages; a picture and a message entry are sent with the next SEQ, or wait out its quarantine. (spec:
09_cascade_and_meridian_time.md) -/
def Obligations.CascadeTimeAndMessagesAct : Prop :=
  ∀ (s : State),
    (∀ (port : Fin 4) flit, (flitIn port 7 flit s).2 = true → (acceptFlit port flit (flitIn port 7 flit s).1).2 = true →
      (acceptFlit port flit (flitIn port 7 flit s).1).1.cas.rootPort = some port.val →
      (acceptFlit port flit (flitIn port 7 flit s).1).1.cas.lodestar = some (leNat (((flBytes flit ++ List.replicate 46 0#8).drop 22).take 2) % 2 ^ 14) →
      ∃ t, exec (.sync port flit) s = .next t ∧
        rget t R.MER_THETA = (let b := flBytes flit ++ List.replicate 46 0#8; w32 (unsignedOf 32 (clampSigned 32 (((merNow ((acceptFlit port flit (flitIn port 7 flit s).1).1) : Int) - (rnat ((acceptFlit port flit (flitIn port 7 flit s).1).1) (R.CAS_IN_LAT port) : Int)) - ((ofLongWords (w32 (leNat (b.take 4))) (w32 (leNat ((b.drop 4).take 4))) (w32 (leNat ((b.drop 8).take 4))) : Int) + signedOf 64 (leNat ((b.drop 12).take 8)) + inDelay ((acceptFlit port flit (flitIn port 7 flit s).1).1) port)))))) ∧
    (casRuns s = true → isLodestar s = true →
      ∃ t, exec (.syncSend) s = .next t ∧ t.cas.syncSeq = (s.cas.syncSeq + 1) % 65536) ∧
    (∀ (port : Fin 4) flit tag, (flitIn port 3 flit s).2 = true →
      ∃ t, exec (.pdelayReq port flit tag) s = .next t ∧
        (t.out.head?.map fun (e : Emit) => match e with | .flitFields p ty _ v => (p, ty, v) | _ => (0, 0, [])) = some (port.val, 4, [tag.toNat, Config.pdelayTurn (flitIn port 3 flit s).1.drawn])) ∧
    (∀ (port : Fin 4), casHears s port = true → hasPartner s port = true → s.cas.ports.length = 4 →
      ∃ t, exec (.pdelayReqSend port) s = .next t ∧
        (casAt t port).pdOut = some (((casAt s port).pdTag + 1) % 65536, merNow s + rnat s (R.CAS_OUT_LAT port)) ∧
        t.out.length = s.out.length + 1) ∧
    (∀ (port : Fin 4) flit tag turn sent, (flitIn port 4 flit s).2 = true →
      (casAt (flitIn port 4 flit s).1 port).pdOut = some (tag.toNat, sent) → (flitIn port 4 flit s).1.cas.ports.length = 4 →
      ∃ t, exec (.pdelayResp port flit tag turn) s = .next t ∧ (casAt t port).pdOut = none ∧
        rnat2 t (R.CAS_LINK_DELAY port) = ((casAt t port).delays.foldl (· + ·) 0 / (2 * (casAt t port).delays.length)) % 2 ^ 48 ∧
        (casAt t port).delays = ((merNow (flitIn port 4 flit s).1 - rnat (flitIn port 4 flit s).1 (R.CAS_IN_LAT port) - sent - turn.toNat) :: (casAt (flitIn port 4 flit s).1 port).delays).take 16) ∧
    (∀ (port : Fin 4) flit, (flitIn port 9 flit s).2 = true → (acceptFlit port flit (flitIn port 9 flit s).1).2 = true →
      (flBcast flit = true ∨ flDst flit = casId s) → flClass flit = 1 → flLast flit = false →
      ∃ t, exec (.pic port flit) s = .next t ∧
        (t.cas.open_.any fun (o : CasOpen) => o.src == flSrc flit && o.cls == 1 && o.seq == flSeq flit) = true) ∧
    (∀ (port : Fin 4) flit, (flitIn port 10 flit s).2 = true → (acceptFlit port flit (flitIn port 10 flit s).1).2 = true →
      (flBcast flit = true ∨ flDst flit = casId s) → flClass flit = 2 → flLast flit = false →
      ∃ t, exec (.msg port flit) s = .next t ∧
        (t.cas.open_.any fun (o : CasOpen) => o.src == flSrc flit && o.cls == 2 && o.seq == flSeq flit) = true) ∧
    (∀ (port : Fin 4) flit, (flitIn port 10 flit s).2 = true → (acceptFlit port flit (flitIn port 10 flit s).1).2 = true →
      (flBcast flit = true ∨ flDst flit = casId s) → flClass flit = 2 → flLast flit = true →
      rfld s R.CAS_MSG_RX_COUNT 11 0 ≠ 0 →
      (rfld s R.CAS_MSG_RX_WR 11 0 + 1) % rfld s R.CAS_MSG_RX_COUNT 11 0 ≠ rfld s R.CAS_MSG_RX_RD 11 0 →
      ∃ t, exec (.msg port flit) s = .next t ∧
        rfld t R.CAS_MSG_RX_WR 11 0 = (rfld s R.CAS_MSG_RX_WR 11 0 + 1) % rfld s R.CAS_MSG_RX_COUNT 11 0) ∧
    (∀ (k : Fin 8), casRuns s = true → rbit s (R.CAS_TXS_CTRL k) 0 = true → rnat s (R.CMP_SEND_SIZE k) ≠ 0 →
      rnat s (sendRd k) ≠ rnat s (sendWr k) → onItsWay s (.stream k) = false → s.poison = [] →
      ∃ t, exec (.picSend k) s = .next t ∧ t.cas.nextSeq = (s.cas.nextSeq + 1) % 65536) ∧
    (∀ who v n, rbit s R.CNT_PS_CTRL 1 = false → pageTakes R.CAS_MSG_TX_WR s = true → casRuns s = true →
      rfld s R.CAS_MSG_TX_COUNT 11 0 = n → s.cas.taken < n → (s.cas.taken + 1) % n = getBits v 11 0 →
      s.cas.taken ≠ getBits v 11 0 →
      ∃ t, exec (.msgSend who v) s = .next t ∧ t.cas.nextSeq = (s.cas.nextSeq + 1) % 65536 ∧ t.cas.taken = getBits v 11 0) ∧
    (∀ m, casRuns s = true → s.cas.waiting = [m] → quarantined s m.seq = false → routePorts s m.bcast m.dst none ≠ [] →
      ∃ t, exec (.quarantineExpiry) s = .next t ∧ t.cas.waiting = [])

/-- A signal takes a lane from DETECT to TRAIN, a valid training block to CHECK, a timeout back to DETECT; a window puts its
figure and the least seen into LAN_L_FOM; a lost lane goes down and is brought up again; a tile spare that does not pass
its check has failed; a forced substitution starts with a free spare; a release, a cleared RETIRED bit and a retrain
bring their lanes up again. (spec: 10_serial_lanes.md) -/
def Obligations.LaneCommandsAct : Prop :=
  ∀ (s : State),
    (∀ (p : Fin 5) (i : Fin 20), p.val < 3 → laneThere s p i = true → laneState s p i = 1 →
      ∃ t, exec (.signalDetect p i) s = .next t ∧ laneState t p i = 2) ∧
    (∀ (p : Fin 3) (i : Fin 18) l0 levels b n, laneThere s p i = true → n = !hasMarker (decodeLevels (l0 :: levels)) →
      b = (if n then decodeLevels ((l0 :: levels).map fun l => -l) else decodeLevels (l0 :: levels)) → blockHolds b = true →
      laneState s p i = 2 →
      ∃ t, exec (.trainingBlock p i l0 levels) s = .next t ∧ rfld t (R.LAN_L_STATE p i) 11 8 = (nth 0#8 b 4).toNat % 16 ∧
        rbit t (R.LAN_L_STATE p i) 3 = n ∧ ((nth 0#8 b 6).toNat ≤ 10 → rfld t (R.LAN_L_EQ p i) 3 0 = (nth 0#8 b 6).toNat) ∧
        (p.val = 1 → laneState t p i = 3)) ∧
    (∀ (p : Fin 3) (i : Fin 18) l0 levels b n, laneThere s p i = true → n = rbit s (R.LAN_L_STATE p i) 3 →
      b = (if n then decodeLevels ((l0 :: levels).map fun l => -l) else decodeLevels (l0 :: levels)) → blockHolds b = true →
      laneState s p i = 3 →
      ∃ t, exec (.trainingBlock p i l0 levels) s = .next t ∧
        ((nth 0#8 b 6).toNat ≤ 10 → rfld t (R.LAN_L_EQ p i) 3 0 = (nth 0#8 b 6).toNat) ∧ rbit t (R.LAN_L_STATE p i) 3 = n) ∧
    (∀ (p : Fin 3) (i : Fin 18), laneThere s p i = true → 1 ≤ laneState s p i → laneState s p i ≤ 3 →
      ∃ t, exec (.trainTimeout p i) s = .next t ∧ laneState t p i = 1) ∧
    (∀ (p : Fin 5) (i : Fin 20) sums, laneThere s p i = true →
      ∃ t, exec (.fomWindow p i sums) s = .next t ∧
        rget t (R.LAN_L_FOM p i) = w32 (windowFom sums + (if (lanLane s p i).minHeld then min (rfld s (R.LAN_L_FOM p i) 25 16) (windowFom sums) else windowFom sums) * 65536)) ∧
    (∀ (p : Fin 5) (i : Fin 20), laneThere s p i = true → laneState s p i ≠ 4 → laneState s p i ≠ 6 →
      ∃ t, exec (.linkLoss p i) s = .next t ∧ laneState t p i ≤ 1) ∧
    (∀ (p : Fin 5) (i : Fin 20), laneThere s p i = true → laneState s p i = 4 → 3 ≤ p.val →
      ∃ t, exec (.linkLoss p i) s = .next t ∧ laneState t p i = 0) ∧
    (∀ (k : Fin 2), spareStateOf s 1 k = 1 → spareLaneFor s 1 k < 16 →
      ∃ t, exec (.tileSpareCheckTimeout k) s = .next t ∧ spareStateOf t 1 k = 3 ∧ laneState t 1 (spareLane 1 k) = 0) ∧
    (∀ who (p : Fin 3) v k i, rbit s R.CNT_PS_CTRL 1 = false → pageTakes (R.LAN_SPARE_CTRL p) s = true → bitAt v 1 = true →
      spareNamed (writeReg who (R.LAN_SPARE_CTRL p) v 0#32 s) p v = some (k, i) → substRuns s p i = false →
      spareFree s p k i = true → (p.val = 0 → portState s (lanePort s p i) = 3 ∧ (siuAt s (lanePort s p i)).spare = none) →
      (p.val = 2 → 2 ≤ casState s (lanePort s p i) ∧ (casAt s (lanePort s p i)).spare = none) →
      ∃ t, exec (.lanForce who p v) s = .next t ∧ spareStateOf t p k = 1 ∧ spareLaneFor t p k = i) ∧
    (∀ who (p : Fin 3) v k i, rbit s R.CNT_PS_CTRL 1 = false → pageTakes (R.LAN_SPARE_CTRL p) s = true → bitAt v 2 = true →
      spareNamed (writeReg who (R.LAN_SPARE_CTRL p) v 0#32 s) p v = some (k, i) → spareStateOf s p k = 2 →
      ∃ t, exec (.lanRelease who p v) s = .next t ∧ t.lanRelease.contains (p.val, k) = true) ∧
    (∀ who (p : Fin 5) v i, rbit s R.CNT_PS_CTRL 1 = false → pageTakes (R.LAN_RETIRED p) s = true → i < lanCount p →
      laneRetired s p i = true → laneState s p i = 6 → bitAt v i = true →
      ∃ t, exec (.retiredClear who p v) s = .next t ∧ laneState t p i ≤ 1) ∧
    (∀ who (port : Fin 4) v, rbit s R.CNT_PS_CTRL 1 = false → pageTakes (R.CAS_PORT_CTRL port) s = true → bitAt v 1 = true →
      ∃ t, exec (.retrain who port v) s = .next t ∧
        (∀ i : Fin 4, laneState s 2 (4 * port.val + i) ≠ 6 → laneState t 2 (4 * port.val + i) ≤ 1))

/-- A whole write puts its 64 bytes at its burst and a read returns them; a corrected burst is counted; a refresh sends what
was postponed with it; the temperature poll sets the refresh interval; margins are kept and a low one waits to retrain;
a channel is held to retrain and ends with its new margins; idle memory enters self-refresh; a migration copies on and
ends with the spare in place. (spec: 11_external_memory.md) -/
def Obligations.MemoryCommandsAct : Prop :=
  ∀ (s : State),
    (∀ g c a d m e, a.toNat < memBytes s → s.memCtl.queue = [] → chanHeld s (memPlace s (a.toNat / 64)).1 = false →
      nth 0 (memChan s (memPlace s (a.toNat / 64)).1).busy ((a.toNat / 64) % 2) ≤ s.now * 1000 →
      (symbolsHit e ≤ 12 ∨ m = BitVec.allOnes 64) →
      ∃ t, exec (.memAccess (g, c) a (some d) m e) s = .next t ∧
        memRead t false 64 (64 * (a.toNat / 64)) = maskBytes m.toNat d (memRead s false 64 (64 * (a.toNat / 64)))) ∧
    (∀ g c a m e, a.toNat < memBytes s → s.memCtl.queue = [] → chanHeld s (memPlace s (a.toNat / 64)).1 = false →
      nth 0 (memChan s (memPlace s (a.toNat / 64)).1).busy ((a.toNat / 64) % 2) ≤ s.now * 1000 →
      s.poison.contains (a.toNat / 64) = false → symbolsHit e ≤ 4 →
      ∃ t, exec (.memAccess (g, c) a none m e) s = .next t ∧
        t.out.head? = some (Emit.memData (a.toNat / 64) (memRead s false 64 (64 * (a.toNat / 64))) false)) ∧
    (∀ g c a m e, a.toNat < memBytes s → s.memCtl.queue = [] → chanHeld s (memPlace s (a.toNat / 64)).1 = false →
      nth 0 (memChan s (memPlace s (a.toNat / 64)).1).busy ((a.toNat / 64) % 2) ≤ s.now * 1000 →
      s.poison.contains (a.toNat / 64) = true →
      ∃ t, exec (.memAccess (g, c) a none m e) s = .next t ∧
        (t.out.head?.map fun (e : Emit) => match e with | .memData b _ p => (b, p) | _ => (0, false)) = some ((a.toNat / 64), true)) ∧
    (∀ a e, memBytes s ≠ 0 → rbit s R.MEM_STATE 0 = false → s.memCtl.queue = [] →
      chanHeld s (memPlace s (s.memCtl.scrubAt % (memBytes s / 64))).1 = false →
      nth 0 (memChan s (memPlace s (s.memCtl.scrubAt % (memBytes s / 64))).1).busy ((s.memCtl.scrubAt % (memBytes s / 64)) % 2) ≤ s.now * 1000 →
      s.poison.contains (s.memCtl.scrubAt % (memBytes s / 64)) = false → 0 < symbolsHit e → symbolsHit e ≤ 4 →
      a.toNat / 64 = (s.memCtl.scrubAt % (memBytes s / 64)) →
      ∃ t, exec (.patrolScrub a e) s = .next t ∧ t.memCtl.scrubAt = (s.memCtl.scrubAt + 1) % (memBytes s / 64) ∧
        rnat t (R.MEM_CNT_CE (memPlace s (s.memCtl.scrubAt % (memBytes s / 64))).1) = (rnat s (R.MEM_CNT_CE (memPlace s (s.memCtl.scrubAt % (memBytes s / 64))).1) + 1) % 2 ^ 32) ∧
    (∀ a e, memBytes s ≠ 0 → rbit s R.MEM_STATE 0 = false → s.memCtl.queue = [] →
      chanHeld s (memPlace s (s.memCtl.scrubAt % (memBytes s / 64))).1 = false →
      nth 0 (memChan s (memPlace s (s.memCtl.scrubAt % (memBytes s / 64))).1).busy ((s.memCtl.scrubAt % (memBytes s / 64)) % 2) ≤ s.now * 1000 →
      s.poison.contains (s.memCtl.scrubAt % (memBytes s / 64)) = false →
      a.toNat / 64 ≠ (s.memCtl.scrubAt % (memBytes s / 64)) →
      ∃ t, exec (.patrolScrub a e) s = .next t ∧ t.memCtl.scrubAt = (s.memCtl.scrubAt + 1) % (memBytes s / 64) ∧
        rnat t (R.MEM_CNT_CE (memPlace s (s.memCtl.scrubAt % (memBytes s / 64))).1) = rnat s (R.MEM_CNT_CE (memPlace s (s.memCtl.scrubAt % (memBytes s / 64))).1)) ∧
    (∀ (c : Fin 12) (r : Fin 3), s.memCtl.chans.length = 12 → c.val < memChannels s →
      (r.val < 2 ∨ rbit s R.MEM_CFG 10 = true) → rbit s R.MEM_STATE 0 = false → rfld s R.CNV_LTR 15 0 ≠ 0 →
      nth 0 (memChan s c).nextRefresh r ≤ s.now → (memChan s c).postponed.length = 3 → (memChan s c).nextRefresh.length = 3 →
      ∃ t, exec (.refresh c r) s = .next t ∧
        t.out = List.replicate (nth 0 (memChan s c).postponed r + 1) (Emit.refresh c r) ++ s.out ∧
        nth 0 (memChan t c).postponed r = 0 ∧ nth 0 (memChan t c).nextRefresh r = s.now + s.memCtl.trefi) ∧
    (∀ (c : Fin 12) (r : Fin 3), s.memCtl.chans.length = 12 → c.val < memChannels s →
      (r.val < 2 ∨ rbit s R.MEM_CFG 10 = true) → rbit s R.MEM_STATE 0 = false → rfld s R.CNV_LTR 15 0 = 0 →
      nth 0 (memChan s c).nextRefresh r ≤ s.now → nth 0 (memChan s c).postponed r < 4 → (memChan s c).postponed.length = 3 →
      ∃ t, exec (.refresh c r) s = .next t ∧ nth 0 (memChan t c).postponed r = nth 0 (memChan s c).postponed r + 1 ∧
        rnat t (R.MEM_CNT_POSTPONED c) = (rnat s (R.MEM_CNT_POSTPONED c) + 1) % 2 ^ 32 ∧ t.out = s.out) ∧
    (∀ h,
      ∃ t, exec (.mr4Poll h) s = .next t ∧ t.memCtl.trefi = (if h then 1950 else 3900) ∧ t.memCtl.chans = s.memCtl.chans) ∧
    (∀ (c : Fin 12) a b d e, c.val < memChannels s → s.memCtl.retrain.contains c.val = false → chanHeld s c = false →
      ∃ t, exec (.marginCheck c a b d e) s = .next t ∧ rget t (R.MEM_MARGIN_NOW c) = marginWord a b d e ∧
        ((marginLow (rget s (R.MEM_MARGIN_TRAIN c)) (marginWord a b d e)).isSome = true → t.memCtl.retrain.contains c.val = true)) ∧
    (∀ (c : Fin 12), granted s 25 = true → selfrefState s = 2 → s.memCtl.retrain.head? = some c.val →
      rfld s R.MEM_STATE 27 16 = 0 →
      ∃ t, exec (.channelRetrain c) s = .next t ∧ chanHeld t c = true ∧ rbit t R.MEM_STATE 0 = false) ∧
    (∀ (c : Fin 12) a b d e, chanHeld s c = true → s.memCtl.queue = [] →
      ∃ t, exec (.retrainDone c a b d e) s = .next t ∧ rget t (R.MEM_MARGIN_TRAIN c) = marginWord a b d e ∧
        rget t (R.MEM_MARGIN_NOW c) = marginWord a b d e ∧ chanHeld t c = false ∧
        rnat t (R.MEM_CNT_RETRAIN c) = (rnat s (R.MEM_CNT_RETRAIN c) + 1) % 2 ^ 32) ∧
    (2 < rfld s R.CNV_LTR 15 0 → s.memCtl.queue = [] → rfld s R.MEM_STATE 27 16 = 0 →
      (∀ c : Fin 12, rbit s (R.MEM_MIG c) 24 = false) → 0 < memChannels s →
      ∃ t, exec (.memSelfrefEntry) s = .next t ∧ rbit t R.MEM_STATE 0 = true) ∧
    (∀ (c : Fin 12) e, rbit s (R.MEM_MIG c) 24 = true → granted s 26 = true → chanHeld s c = false → s.memCtl.migNext ≤ s.now →
      rfld s (R.MEM_MIG c) 21 0 + 1 < rankMapped s / 4096 →
      ∃ t, exec (.migrationRegion c (some e)) s = .next t ∧
        rfld t (R.MEM_MIG c) 21 0 = (rfld s (R.MEM_MIG c) 21 0 + 1) % 2 ^ 22) ∧
    (∀ (c : Fin 12) e, rbit s (R.MEM_MIG c) 24 = true → granted s 26 = true → chanHeld s c = false → s.memCtl.migNext ≤ s.now →
      rankMapped s / 4096 ≤ rfld s (R.MEM_MIG c) 21 0 + 1 →
      ∃ t, exec (.migrationRegion c (some e)) s = .next t ∧ slotRank t c (rfld s (R.MEM_MIG c) 25 25) = 2 ∧
        rbit t (R.MEM_RANK_MAP c) (4 + slotRank s c (rfld s (R.MEM_MIG c) 25 25)) = true)

/-- A submitted descriptor becomes a waiting job and RD passes it; the next job starts on a free lane; a host job that has
its output ends, leaves its lane and is counted; a paused lane goes on once its ring has room, and a pause that runs out
ends the job; a send stream is bound to its layer. (spec: 12_compression.md) -/
def Obligations.CompressionActs : Prop :=
  ∀ (s : State), s.cmp.lanes.length = 10 →
    (∀ who (q : Fin 4) v, rbit s R.CNT_PS_CTRL 1 = false → pageTakes (R.CMP_Q_WR q) s = true →
      rbit s (R.CMP_Q_CTRL q) 0 = true → enabled s (pg 11 1) = true → idleReq s (pg 11 1) = false →
      rfld s (R.CMP_Q_COUNT q) 12 0 ≠ 0 → (rfld s (R.CMP_Q_RD q) 11 0 + 1) % rfld s (R.CMP_Q_COUNT q) 12 0 = getBits v 11 0 →
      rfld s (R.CMP_Q_RD q) 11 0 ≠ getBits v 11 0 → s.cmp.stopped.contains q.val = false →
      descOk (memRead s true 64 (rnat2 s (R.CMP_Q_BASE q) + 64 * rfld s (R.CMP_Q_RD q) 11 0)) = true →
      ∃ t, exec (.jobSubmit who q v) s = .next t ∧ t.cmp.waiting.length = s.cmp.waiting.length + 1 ∧
        rfld t (R.CMP_Q_RD q) 11 0 = getBits v 11 0) ∧
    (∀ k j q i, freeLane s true = some k → nextJob s true = some j → j.user = .host q i → descOp j.bytes ≠ 0 →
      ∃ t, exec (.jobStart true) s = .next t ∧ laneRun t k = some ({ job := j } : CmpRun) ∧
        t.cmp.waiting = s.cmp.waiting.filter fun (x : CmpJob) => x.order != j.order ∧ t.cmp.turn = (q + 1) % 4) ∧
    (∀ (l : Fin 10) r q i o c, laneRun s l = some r → lanePaused s l = false → r.job.user = .host q i →
      descRing r.job.bytes = false → jobOutput l r s = .ok o c → o.length ≤ jobSpace s r.job →
      ∃ t, exec (.jobDone l) s = .next t ∧ laneRun t l = none ∧ rnat t R.CMP_CNT_JOBS = (rnat s R.CMP_CNT_JOBS + 1) % 2 ^ 32 ∧
        rget t R.CMP_CNT_FAILED = rget s R.CMP_CNT_FAILED) ∧
    (∀ (l : Fin 10), lanePaused s l = true → pausedRoom s l = true →
      ∃ t, exec (.jobResume l) s = .next t ∧ lanePaused t l = false) ∧
    (∀ (l : Fin 10) r q i, laneRun s l = some r → lanePaused s l = true → pausedRoom s l = false → r.job.user = .host q i →
      ∃ t, exec (.pauseTimeout l) s = .next t ∧ laneRun t l = none ∧ lanePaused t l = false ∧
        rnat t R.CMP_CNT_FAILED = (rnat s R.CMP_CNT_FAILED + 1) % 2 ^ 32) ∧
    (∀ who (k : Fin 8) v, rbit s R.CNT_PS_CTRL 1 = false → pageTakes (R.CMP_SEND_CTRL k) s = true →
      (bitAt v 0 = false ∨ layerOn s (getBits v 3 1) = true) →
      ∃ t, exec (.sendBind who k v) s = .next t ∧ rfld t (R.CMP_SEND_CTRL k) 3 1 = getBits v 3 1 ∧
        rbit t (R.CMP_SEND_CTRL k) 0 = bitAt v 0)

/-- Where one context runs and has a picture waiting, the engine takes it up; a row that has room is coded or skipped and
the next follows; a finished picture is counted and frees the engine, and so does the end of a stall. (spec:
13_coder.md) -/
def Obligations.CoderActs : Prop :=
  ∀ (s : State),
    (∀ (c : Fin 4) x, s.cod.cur = none → blockResetting s (pg 12 0) = false → codWaiting s c = some x →
      (∀ k : Fin 4, k ≠ c → codRuns s k = false) →
      ∃ t, exec (.codPictureStart) s = .next t ∧ (t.cod.cur.map fun (p : CodPic) => (p.ctx, p.item)) = some (c, x) ∧
        rget t R.COD_ENG_STATE = w32 (1 + c.val * 16)) ∧
    (∀ b p, s.cod.cur = some p → p.row < hCtu (uget s) p.ctx.val → rowBound (uget s) p.ctx.val ≤ outFree s p.ctx.val p →
      ∃ t, exec (.codRow b) s = .next t ∧ (t.cod.cur.map fun (x : CodPic) => x.row) = some (p.row + 1) ∧
        rget t R.COD_ENG_STATE = w32 (1 + p.ctx.val * 16)) ∧
    (∀ p, s.cod.cur = some p → hCtu (uget s) p.ctx.val ≤ p.row → ctxMode (uget s) p.ctx.val ≠ 0 →
      ∃ t, exec (.codPictureDone) s = .next t ∧ t.cod.cur = none ∧ rget t R.COD_ENG_STATE = w32 (p.ctx.val * 16) ∧
        rnat t R.COD_CNT_PICS = (rnat s R.COD_CNT_PICS + 1) % 2 ^ 32) ∧
    (∀ p, s.cod.cur = some p → p.stalled = true →
      ∃ t, exec (.stallTimeout) s = .next t ∧ t.cod.cur = none ∧ rget t R.COD_ENG_STATE = w32 (p.ctx.val * 16))

/-- Doorbells move the tail and the head; EN raises RDY with the admin queues and its fall clears the controller; queues are
created and deleted; feature 06h is kept; a request for an event waits; an Abort removes a waiting Write; namespaces are
attached, a namespace under Format takes no command, and Sanitize runs until SANITIZE_DONE, which leaves no namespace
and no clip. (spec: 14_recorder_and_host_queues.md) -/
def Obligations.NvmeAdminCommandsAct : Prop :=
  ∀ (s : State),
    (∀ (q : Fin 65) tail x, sqOf s q = some x → tail.toNat < x.size →
      ∃ t, exec (.sqTailDoorbell q tail) s = .next t ∧ (sqOf t q).map NvmeSq.tail = some tail.toNat) ∧
    (∀ (q : Fin 65) head x, cqOf s q = some x → head.toNat < x.size →
      ∃ t, exec (.cqHeadDoorbell q head) s = .next t ∧ (cqOf t q).map NvmeCq.head = some head.toNat) ∧
    (∀ cc aqa asq acq, bitAt cc 0 = true → bitAt (nv s).cc 0 = false →
      ∃ t, exec (.controllerReset cc aqa asq acq) s = .next t ∧ (nv t).ready = true ∧ (nv t).cc = cc ∧
        (nv t).sqs = [({ id := 0, base := asq.toNat, size := getBits aqa 11 0 + 1, cq := 0, prio := 0 } : NvmeSq)] ∧
        (nv t).cqs = [({ id := 0, base := acq.toNat, size := getBits aqa 27 16 + 1, vector := 0, ien := true } : NvmeCq)]) ∧
    (∀ cc aqa asq acq, bitAt cc 0 = false → bitAt (nv s).cc 0 = true →
      ∃ t, exec (.controllerReset cc aqa asq acq) s = .next t ∧ (nv t).ready = false ∧ (nv t).sqs = [] ∧ (nv t).cqs = [] ∧
        (nv t).cmds = [] ∧ (nv t).writeWait = []) ∧
    (∀ (v : Fin 65), smGet 0 (nv s).heldInts v.val ≠ 0 →
      ∃ t, exec (.interruptCoalescingExpiry v) s = .next t ∧ t.out = Emit.msix1 v.val :: s.out ∧
        smGet 0 (nv t).heldInts v.val = 0) ∧
    (∀ q k e, nvmeNext s = some (q, k, e) → q.id = 0 → e.fuse = 0 → e.op = 5 → 1 ≤ e.d10 % 65536 → e.d10 % 65536 ≤ 64 →
      cqOf s (e.d10 % 65536) = none → 1 ≤ e.d10 / 65536 → e.d10 / 65536 ≤ 4095 → e.d11 % 2 = 1 → e.prp1 % 4096 = 0 →
      e.d11 / 65536 ≤ 64 →
      ∃ t, exec (.createIoCq) s = .next t ∧
        ((cqOf t (e.d10 % 65536)).map fun (c : NvmeCq) => (c.base, c.size, c.vector)) = some (e.prp1, e.d10 / 65536 + 1, e.d11 / 65536)) ∧
    (∀ q k e, nvmeNext s = some (q, k, e) → q.id = 0 → e.fuse = 0 → e.op = 1 → 1 ≤ e.d10 % 65536 → e.d10 % 65536 ≤ 64 →
      sqOf s (e.d10 % 65536) = none → 1 ≤ e.d10 / 65536 → e.d10 / 65536 ≤ 4095 → e.d11 % 2 = 1 → e.prp1 % 4096 = 0 →
      1 ≤ e.d11 / 65536 → e.d11 / 65536 ≤ 64 → (cqOf s (e.d11 / 65536)).isSome = true →
      ∃ t, exec (.createIoSq) s = .next t ∧
        ((sqOf t (e.d10 % 65536)).map fun (x : NvmeSq) => (x.base, x.size, x.cq, x.prio)) = some (e.prp1, e.d10 / 65536 + 1, e.d11 / 65536, bitsOf e.d11 2 1)) ∧
    (∀ q k e, nvmeNext s = some (q, k, e) → q.id = 0 → e.fuse = 0 → e.op = 0 → e.d10 % 65536 ≠ 0 →
      (sqOf s (e.d10 % 65536)).isSome = true →
      ∃ t, exec (.deleteIoSq) s = .next t ∧ sqOf t (e.d10 % 65536) = none) ∧
    (∀ q k e, nvmeNext s = some (q, k, e) → q.id = 0 → e.fuse = 0 → e.op = 4 → e.d10 % 65536 ≠ 0 →
      (cqOf s (e.d10 % 65536)).isSome = true → (∀ x ∈ (nv s).sqs, x.cq ≠ e.d10 % 65536) →
      ∃ t, exec (.deleteIoCq) s = .next t ∧ cqOf t (e.d10 % 65536) = none) ∧
    (∀ q k e, nvmeNext s = some (q, k, e) → q.id = 0 → e.fuse = 0 → e.op = 9 → e.d10 % 256 = 6 → e.d10 < 2 ^ 31 →
      ∃ t, exec (.setFeatures) s = .next t ∧ smGet 1 (nv t).feats 0x06 = e.d11 % 2) ∧
    (∀ q k e, nvmeNext s = some (q, k, e) → q.id = 0 → e.fuse = 0 → e.op = 12 → (nv s).aers.length < 4 → (nv s).events = [] →
      ∃ t, exec (.asynchronousEventRequest) s = .next t ∧ (nv t).aers = (nv s).aers ++ [(0, e.cid)]) ∧
    (∀ q k e x, nvmeNext s = some (q, k, e) → q.id = 0 → e.fuse = 0 → e.op = 8 → e.d10 % 65536 ≠ 0 →
      sqOf s (e.d10 % 65536) = some x → (∀ i ∈ sqSlots x, (sqeAt s x i).cid ≠ e.d10 / 65536) → (nv s).aers = [] →
      (∀ c ∈ (nv s).cmds, c.op ≠ 0x108) →
      (nv s).writeWait.any (fun (c : NvmeCmd) => c.sq == e.d10 % 65536 && c.cid == e.d10 / 65536) = true →
      ∃ t, exec (.abort) s = .next t ∧
        (nv t).writeWait.any (fun (c : NvmeCmd) => c.sq == e.d10 % 65536 && c.cid == e.d10 / 65536) = false) ∧
    (∀ q k e b nid g, nvmeNext s = some (q, k, e) → q.id = 0 → e.fuse = 0 → e.op = 13 → s.recorder.erase.sanStatus ≠ 2 →
      e.d10 % 16 = 0 → b = hostGather s e.prp1 e.prp2 4096 → leNat ((b.drop 26).take 1) % 16 = 0 → leNat (b.take 8) ≠ 0 →
      leNat ((b.drop 8).take 8) = leNat (b.take 8) →
      ((upto 17).find? fun j => decide (0 < j) && (nsOf s j).isNone) = some nid → nsPlace s (leNat (b.take 8)) = some g →
      ∃ t, exec (.namespaceManagement) s = .next t ∧
        ((nsOf t nid).map fun (n : RecNs) => (n.start, n.sectors, n.attached)) = some (g * gib, leNat (b.take 8), false)) ∧
    (∀ q k e n, nvmeNext s = some (q, k, e) → q.id = 0 → e.fuse = 0 → e.op = 21 → s.recorder.erase.sanStatus ≠ 2 →
      nsOf s e.nsid = some n → e.d10 % 16 ≤ 1 → n.formatting = false → leNat ((hostGather s e.prp1 e.prp2 4096).take 2) = 1 →
      leNat (((hostGather s e.prp1 e.prp2 4096).drop 2).take 2) = 0 → n.attached = decide (e.d10 % 16 = 1) →
      ∃ t, exec (.namespaceAttachment) s = .next t ∧ (nsOf t e.nsid).map RecNs.attached = some (decide (e.d10 % 16 = 0))) ∧
    (∀ q k e n, nvmeNext s = some (q, k, e) → q.id = 0 → e.fuse = 0 → e.op = 128 → s.recorder.erase.sanStatus ≠ 2 →
      nsOf s e.nsid = some n → n.formatting = false → s.recorder.erase.format = none → e.d10 % 16 = 0 → bitsOf e.d10 11 9 ≤ 1 →
      arrayState s ≠ 4 →
      ∃ t, exec (.formatNvm) s = .next t ∧ (nsOf t e.nsid).map RecNs.formatting = some true ∧
        t.recorder.erase.format.map Prod.snd = some e.nsid) ∧
    (∀ q k e, nvmeNext s = some (q, k, e) → q.id = 0 → e.fuse = 0 → e.op = 132 → s.recorder.erase.sanStatus ≠ 2 →
      s.recorder.erase.format = none → (e.d10 % 8 = 2 ∨ e.d10 % 8 = 3) →
      ∃ t, exec (.sanitize) s = .next t ∧ t.recorder.erase.sanStatus = 2 ∧ t.recorder.erase.action = e.d10) ∧
    (granted s 23 = true → s.recorder.erase.sanStatus = 2 →
      ∃ t, exec (.sanitizeDone) s = .next t ∧ t.recorder.erase.sanStatus = 1 ∧ t.recorder.ns = [] ∧ t.recorder.clips = [])

/-- When a command is the only one there, its completion entry is in the completion queue's next place, with the phase tag;
Get Log Page and Identify leave their data in the buffer, Get Features its value in the entry; Flush of a clean
namespace completes; a Write that fits is dirty and completes with the cache on; a Read returns the dirty sector; an
equal Compare succeeds; Write Zeroes discards dirty copies; a Deallocate range hints its whole stripes; the fused pair
waits for its read, and a waiting Write is admitted. (spec: 14_recorder_and_host_queues.md) -/
def Obligations.NvmeCommandsComplete : Prop :=
  ∀ (s : State) q k e c, nvmeNext s = some (q, k, e) → (nv s).sqs = [q] → q.aborted = [] → (nv s).cmds = [] → s.recorder.ops = [] → (nv s).aers = [] → cqOf s q.cq = some c → c.waiting = [] → (c.tail + 1) % c.size ≠ c.head → rbit s R.CNT_PS_CTRL 0 = false → s.cnt.open_ = [] →
    (∀ bs n, e.fuse = 0 → (q.head + 1) % q.size = q.tail → q.id = 0 → e.op = 2 → logPage s (e.d10 % 256) = some bs →
      n = (e.d10 / 65536 + e.d11 % 65536 * 65536 + 1) * 4 → n ≤ 4096 → e.d12 + e.d13 * 2 ^ 32 ≤ bs.length → e.prp1 % 4096 = 0 →
      (c.base + 16 * c.tail + 16 ≤ e.prp1 ∨ e.prp1 + 4096 ≤ c.base + 16 * c.tail) →
      ∃ t, exec (.getLogPage) s = .next t ∧
        memRead t true ((bs.drop (e.d12 + e.d13 * 2 ^ 32)).take n).length e.prp1 = (bs.drop (e.d12 + e.d13 * 2 ^ 32)).take n ∧
        memRead t true 16 (c.base + 16 * c.tail) = leBytes 4 (0) ++ leBytes 4 0 ++ leBytes 2 q.tail ++ leBytes 2 q.id ++ leBytes 4 (e.cid + b2n c.phase * 65536)) ∧
    (∀ bs, e.fuse = 0 → (q.head + 1) % q.size = q.tail → q.id = 0 → e.op = 6 → identify s e = (0, bs) → bs.length = 4096 →
      e.prp1 % 4096 = 0 → (c.base + 16 * c.tail + 16 ≤ e.prp1 ∨ e.prp1 + 4096 ≤ c.base + 16 * c.tail) →
      ∃ t, exec (.identify) s = .next t ∧ memRead t true 4096 e.prp1 = bs ∧
        memRead t true 16 (c.base + 16 * c.tail) = leBytes 4 (0) ++ leBytes 4 0 ++ leBytes 2 q.tail ++ leBytes 2 q.id ++ leBytes 4 (e.cid + b2n c.phase * 65536)) ∧
    (e.fuse = 0 → (q.head + 1) % q.size = q.tail → q.id = 0 → e.op = 10 → e.d10 % 256 ∈ featIds → e.d10 % 256 ≠ 7 →
      e.d10 % 256 ≠ 9 → bitsOf e.d10 10 8 = 0 →
      ∃ t, exec (.getFeatures) s = .next t ∧
        memRead t true 16 (c.base + 16 * c.tail) = leBytes 4 (smGet (featDefault (featKey (e.d10 % 256) e.d11)) (nv s).feats (featKey (e.d10 % 256) e.d11)) ++ leBytes 4 0 ++ leBytes 2 q.tail ++ leBytes 2 q.id ++ leBytes 4 (e.cid + b2n c.phase * 65536)) ∧
    (e.fuse = 0 → (q.head + 1) % q.size = q.tail → q.id ≠ 0 → e.op = 0 → ioStatus s e 0 0 false = 0 → s.recorder.dirty = [] →
      ∃ t, exec (.flush) s = .next t ∧
        memRead t true 16 (c.base + 16 * c.tail) = leBytes 4 (0) ++ leBytes 4 0 ++ leBytes 2 q.tail ++ leBytes 2 q.id ++ leBytes 4 (e.cid + b2n c.phase * 65536)) ∧
    (e.fuse = 0 → (q.head + 1) % q.size = q.tail → q.id ≠ 0 → e.op = 1 → ioStatus s e (lbaOf e) (nlb e) true = 0 →
      arrayState s ≠ 4 → writeFits s (sectorBytes * nlb e) = true → cacheOn s = true →
      ∃ t, exec (.write) s = .next t ∧ (∀ i < nlb e, (dirtyOf t ((cmdFor s q e (nlb e)).v + i)).isSome = true) ∧
        memRead t true 16 (c.base + 16 * c.tail) = leBytes 4 (0) ++ leBytes 4 0 ++ leBytes 2 q.tail ++ leBytes 2 q.id ++ leBytes 4 (e.cid + b2n c.phase * 65536)) ∧
    (e.fuse = 0 → (q.head + 1) % q.size = q.tail → q.id ≠ 0 → e.op = 1 → ioStatus s e (lbaOf e) (nlb e) true = 0 →
      arrayState s ≠ 4 → writeFits s (sectorBytes * nlb e) = false →
      ∃ t, exec (.write) s = .next t ∧ (nv t).writeWait = (nv s).writeWait ++ [cmdFor s q e (nlb e)] ∧
        rnat t R.REC_CNT_WAIT = (rnat s R.REC_CNT_WAIT + 1) % 2 ^ 32) ∧
    (∀ x, (nv s).writeWait = [x] → writeFits s (sectorBytes * x.n) = true →
      ∃ t, exec (.writeAdmit) s = .next t ∧ (nv t).writeWait = []) ∧
    (∀ d, e.fuse = 0 → (q.head + 1) % q.size = q.tail → q.id ≠ 0 → e.op = 2 → ioStatus s e (lbaOf e) (nlb e) true = 0 →
      nlb e = 1 → dirtyOf s (cmdFor s q e (nlb e)).v = some d → memPoisoned s false sectorBytes (dirtyAddr s d.slot) = false →
      e.prp1 % 4096 = 0 → (c.base + 16 * c.tail + 16 ≤ e.prp1 ∨ e.prp1 + 4096 ≤ c.base + 16 * c.tail) →
      ∃ t, exec (.read) s = .next t ∧ memRead t true 4096 e.prp1 = dirtyData s d ∧
        memRead t true 16 (c.base + 16 * c.tail) = leBytes 4 (0) ++ leBytes 4 0 ++ leBytes 2 q.tail ++ leBytes 2 q.id ++ leBytes 4 (e.cid + b2n c.phase * 65536)) ∧
    (∀ d, e.fuse = 0 → (q.head + 1) % q.size = q.tail → q.id ≠ 0 → e.op = 5 → ioStatus s e (lbaOf e) (nlb e) true = 0 →
      nlb e = 1 → dirtyOf s (cmdFor s q e (nlb e)).v = some d → memPoisoned s false sectorBytes (dirtyAddr s d.slot) = false →
      hostGather s e.prp1 e.prp2 sectorBytes = dirtyData s d →
      ∃ t, exec (.compare) s = .next t ∧
        memRead t true 16 (c.base + 16 * c.tail) = leBytes 4 (0) ++ leBytes 4 0 ++ leBytes 2 q.tail ++ leBytes 2 q.id ++ leBytes 4 (e.cid + b2n c.phase * 65536)) ∧
    (∀ y, q.id ≠ 0 → e.op = 5 → e.fuse = 1 → 1 < (sqSlots q).length → y = sqeAt s q ((q.head + 1) % q.size) → y.op = 1 →
      y.fuse = 2 → e.nsid = y.nsid → lbaOf e = lbaOf y → nlb e = 1 → nlb y = 1 → ioStatus s e (lbaOf e) 1 true = 0 →
      arrayState s = 0 → s.recorder.lost = [] → (∀ m : Fin 4, memberPort s m < 5) → dirtyOf s (cmdFor s q e (nlb e)).v = none →
      ∃ t, exec (.compareAndWrite) s = .next t ∧
        ((nv t).cmds.any fun (x : NvmeCmd) => x.cid == e.cid && x.fused == some (y.cid, y.prp1, y.prp2)) = true) ∧
    (e.fuse = 0 → (q.head + 1) % q.size = q.tail → q.id ≠ 0 → e.op = 8 → ioStatus s e (lbaOf e) (nlb e) false = 0 →
      arrayState s ≠ 4 →
      ∃ t, exec (.writeZeroes) s = .next t ∧
        (∀ d ∈ t.recorder.dirty, d.v < (cmdFor s q e (nlb e)).v ∨ (cmdFor s q e (nlb e)).v + nlb e ≤ d.v)) ∧
    (∀ a, e.fuse = 0 → (q.head + 1) % q.size = q.tail → q.id ≠ 0 → e.op = 9 → e.d10 % 256 = 0 → e.d11 = 4 →
      ioStatus s e (leNat (((hostGather s e.prp1 e.prp2 16).drop 8).take 8)) (leNat (((hostGather s e.prp1 e.prp2 16).drop 4).take 4)) false = 0 →
      a = ((cmdFor s q { e with d10 := 0, d11 := 0 } 0).v + leNat (((hostGather s e.prp1 e.prp2 16).drop 8).take 8) + 191) / 192 →
      a < ((cmdFor s q { e with d10 := 0, d11 := 0 } 0).v + leNat (((hostGather s e.prp1 e.prp2 16).drop 8).take 8) + leNat (((hostGather s e.prp1 e.prp2 16).drop 4).take 4)) / 192 →
      ∃ t, exec (.datasetManagement) s = .next t ∧
        memRead t true 16 (c.base + 16 * c.tail) = leBytes 4 (0) ++ leBytes 4 0 ++ leBytes 2 q.tail ++ leBytes 2 q.id ++ leBytes 4 (e.cid + b2n c.phase * 65536) ∧
        (∀ m : Fin 4, memberPort s m < 5 → Emit.mediaHint (memberPort s m) a ∈ t.out))

/-- An SSD's answer joins the operation that waits for it; a failed member is lost and its port FAILED; a media log page is
kept; a forced copy begins, moves on by a stripe a step, and a cleared RETIRED port is empty; a port that comes up
serves again; draining begins on the oldest dirty row; clips are armed and stopped. (spec:
14_recorder_and_host_queues.md) -/
def Obligations.RecorderCommandsAct : Prop :=
  ∀ (s : State),
    (∀ (port : Fin 5) tag data o,
      (s.recorder.ops.find? fun (x : RecOp) => x.wants.any fun (w : Nat × Nat × Nat) => w.1 == tag && w.2.1 == port.val) = some o →
      o.phase ≠ 3 → (o.wants.filter fun (w : Nat × Nat × Nat) => w.1 != tag) ≠ [] →
      ∃ t, exec (.mediaCommandCompletion port tag true data) s = .next t ∧
        (t.recorder.ops.any fun (x : RecOp) => x.stripe == o.stripe && x.row == o.row && x.wants == (o.wants.filter fun (w : Nat × Nat × Nat) => w.1 != tag)) = true) ∧
    (∀ (port : Fin 5) m, arrayState s = 0 → (lowest 4 fun k => memberPort s k == port.val) = some m →
      s.recorder.lost.contains m = false →
      ∃ t, exec (.mediaFail port) s = .next t ∧ portState_ t port = 3 ∧ t.recorder.lost.contains m = true) ∧
    (∀ (port : Fin 5) u e c,
      ∃ t, exec (.copyTrigger port u e c) s = .next t ∧ rfld t (R.REC_PORT_STATE port) 15 8 = u.toNat ∧
        rfld t (R.REC_PORT_STATE port) 31 16 = e.toNat) ∧
    (∀ who v, rbit s R.CNT_PS_CTRL 1 = false → pageTakes R.REC_MEDIA_FORCE s = true → bitAt v 8 = true → getBits v 2 0 ≤ 3 →
      arrayState s = 0 → spareReady s = true →
      ∃ t, exec (.mediaForce who v) s = .next t ∧ arrayState t = 1 ∧ movingMember t = getBits v 2 0) ∧
    (granted s 24 = true → (arrayState s = 1 ∨ arrayState s = 3) → s.recorder.ops = [] →
      s.recorder.pointer + 1 < arrayStripes s →
      ∃ t, exec (.mediaMigrationStep) s = .next t ∧ t.recorder.pointer = s.recorder.pointer + 1) ∧
    (∀ who v p, rbit s R.CNT_PS_CTRL 1 = false → pageTakes R.REC_MEDIA_RETIRED s = true → p < 5 →
      rbit s R.REC_MEDIA_RETIRED p = true → bitAt v p = true → portState_ s p = 4 →
      ∃ t, exec (.mediaRetiredClear who v) s = .next t ∧ portState_ t p = 0) ∧
    (∀ (port : Fin 5) n u e m, rbit s R.REC_MEDIA_RETIRED port = false →
      (lowest 4 fun k => memberPort s k == port.val) = some m → portState_ s port = 0 → s.recorder.lost.contains m = false →
      s.recorder.caps.length = 5 →
      ∃ t, exec (.mediaPortUp port n u e) s = .next t ∧ portState_ t port = 1 ∧ nth 0 t.recorder.caps port = n ∧
        rfld t (R.REC_PORT_STATE port) 15 8 = u.toNat ∧ rfld t (R.REC_PORT_STATE port) 31 16 = e.toNat) ∧
    (∀ d, arrayState s = 0 → s.recorder.flushing = false → s.recorder.lost = [] → (∀ m : Fin 4, memberPort s m < 5) →
      oldestDirty s = some d → memPoisoned s false sectorBytes (dirtyAddr s d.slot) = false →
      (rowDirty s (stripeOf d.v) (rowOf d.v)).length ≠ 3 →
      ∃ t, exec (.drain) s = .next t ∧
        (t.recorder.ops.any fun (x : RecOp) => x.stripe == stripeOf d.v && x.row == rowOf d.v) = true) ∧
    (∀ who v, rbit s R.CNT_PS_CTRL 1 = false → pageTakes R.REC_CLIP_CTRL s = true → bitAt v 1 = true →
      s.recorder.starts.length = 2 →
      ∃ t, exec (.clipArm who v) s = .next t ∧ nth none t.recorder.starts (getBits v 0 0) = some (rlong s R.REC_CLIP_START)) ∧
    (∀ who v, rbit s R.CNT_PS_CTRL 1 = false → pageTakes R.REC_CLIP_CTRL s = true → bitAt v 2 = true →
      s.recorder.stops.length = 2 →
      ∃ t, exec (.clipStop who v) s = .next t ∧ nth none t.recorder.stops (getBits v 0 0) = some (rlong s R.REC_CLIP_STOP))

/-- On a part with the motion block, and in the condition each is for: the loop ticks send the pulses of the carrier period,
take the velocity and the commit; the bits of a delta-sigma input run through its filter, whose output is the bus
voltage or a phase current; feedback events move the position, the index register and the serial sample; a gate fault, a
lost input, a voltage limit that has lasted its time and a lost rotor latch their fault bits and open the inverter; RUN,
HOLD, OFF and ALIGN bring the axis to their states; set-points queue; latches arm and fire; a fault whose condition has
gone is cleared. (spec: 15_lens_and_head_motion.md) -/
def Obligations.AxisCommandsAct : Prop :=
  ∀ (a : Fin 8) (s : State), s.mot.length = 8 → motThere s = true →
    (∀ u v, motRuns (currentBits a u v s) = true → (motAx (currentBits a u v s) a).pwmOn = true →
      ∃ t, exec (.currentLoopTick a u v) s = .next t ∧ t.out.tail = (currentBits a u v s).out ∧
        (t.out.head?.map fun e : Emit => match e with | .motPwm b p ws => b == a.val && p == carrierPeriod s a && ws.length == 3 | _ => false) = some true) ∧
    (motRuns s = true →
      ∃ t, exec (.velocityTick) s = .next t ∧ (motAx t a).posTick = axPos s a ∧
        rget t (R.MOT_AX_VEL a) = f32Div (f32OfInt (signedOf 48 (axPos s a + 2 ^ 48 - (motAx s a).posTick))) (f32OfRat 50 1000000)) ∧
    (motRuns s = true →
      ∃ t, exec (.positionTick) s = .next t ∧ commitPending t (axPage a) = false ∧ (motAx t a).illegal = 0 ∧
        (motAx t a).badQuad = false) ∧
    (∀ raw crc stamp, serialKind s a = some 2 →
      crc8 (bitsDown (ufld s (R.MOT_AX_ENC a) 9 4) (raw.toNat % 2 ^ ufld s (R.MOT_AX_ENC a) 9 4) ++ [false, false]) = crc.toNat →
      ∃ t, exec (.serialReadDone a true raw false false crc stamp) s = .next t ∧
        (motAx t a).serPrev = some (raw.toNat % 2 ^ ufld s (R.MOT_AX_ENC a) 9 4) ∧ (motAx t a).serAt = stamp ∧
        (motAx t a).serFails = 0) ∧
    (∀ x y, axSource s a = 0 → (quadPhase x y + 4 - quadPhase (motAx s a).qa (motAx s a).qb) % 4 = 1 →
      ∃ t, exec (.qeiEdge a x y) s = .next t ∧ axPos t a = (axPos s a + 1) % 2 ^ 48 ∧ (motAx t a).qa = x ∧ (motAx t a).qb = y) ∧
    (∃ t, exec (.indexEdge a) s = .next t ∧ rnat2 t (R.MOT_AX_IDX a) = axPos s a + 2 ^ 63) ∧
    (axState s a ≠ 0 → rbit s (R.MOT_AX_FAULT a) 0 = false →
      ∃ t, exec (.gateFault a true) s = .next t ∧ rbit t (R.MOT_AX_FAULT a) 0 = true ∧ axState t a = 4 ∧
        (motAx t a).gateLow = true ∧ (motAx t a).en = false) ∧
    (∀ (c : Fin 36), c.val < 32 →
      ∃ t, exec (.dsmLost c) s = .next t ∧ rbit t (R.MOT_AX_FAULT (c.val / 4)) 7 = true ∧
        (motAx t (c.val / 4)).dsmLost.contains (c.val % 4) = true) ∧
    (∀ x y, (motAx s a).cal = some (1024, x, 1024, y) →
      ∃ t, exec (.offsetCalDone a) s = .next t ∧ (motAx t a).pwmOn = true ∧ (motAx t a).cal = none ∧
        rget t (R.MOT_AX_I_OFS a) = w32 (unsignedOf 16 (x / 1024) + unsignedOf 16 (y / 1024) * 65536)) ∧
    (axState s a = 1 → rbit s (R.MOT_AX_STATE a) 8 = true →
      lasted s (motAx s a).limitedAt (ufld s (R.MOT_AX_TIMES a) 15 0) = true → rbit s (R.MOT_AX_FAULT a) 5 = false →
      ∃ t, exec (.voltLimit a) s = .next t ∧ rbit t (R.MOT_AX_FAULT a) 5 = true ∧ axState t a = 4 ∧ (motAx t a).pwmOn = false) ∧
    (axState s a = 1 → axSource s a = 5 → lasted s (motAx s a).doubtAt (ufld s (R.MOT_AX_OBS a) 15 8) = true →
      kindGood (motAx s a) (ufld s (R.MOT_AX_CFG a) 7 5) = false →
      ∃ t, exec (.obsLost a) s = .next t ∧ rbit t (R.MOT_AX_FAULT a) 4 = true ∧ axState t a = 3 ∧ (motAx t a).reacq = true ∧
        (motAx t a).pwmOn = false) ∧
    (∀ angle, axState s a = 3 → ubit s (R.MOT_AX_OBS a) 23 = true → (motAx s a).angles = [] →
      ∃ t, exec (.reacqPulse a angle) s = .next t ∧ t.out = Emit.motZeroPulse a (ufld s (R.MOT_AX_OBS a) 20 16) :: s.out ∧
        (motAx t a).angles = [angle.toNat]) ∧
    ((motAx s a).reacq = true → lasted s (some (motAx s a).openedAt) (brakeDelay s a) = true →
      ∃ t, exec (.reacqFail a) s = .next t ∧ rbit t (R.MOT_AX_FAULT a) 8 = true ∧ axBrakeOn t a = true) ∧
    (axState s a = 4 → (motAx s a).brakeDue = true → lasted s (some (motAx s a).heldAt) (brakeDelay s a) = true →
      ∃ t, exec (.brakeDelay a) s = .next t ∧ axBrakeOn t a = true ∧ (motAx t a).brakeDue = false) ∧
    (∀ who, rbit s R.CNT_PS_CTRL 1 = false → pageTakes (R.MOT_AX_CMD a) s = true → axFault s a = 0#32 → motRuns s = true →
      (axState s a = 0 ∨ axState s a = 4) →
      ∃ t, exec (.cmdRun who a) s = .next t ∧ axState t a = 1 ∧ (motAx t a).en = true ∧ axBrakeOn t a = false ∧
        (motAx t a).posCmd = signedOf 48 (axPos s a)) ∧
    (∀ who, rbit s R.CNT_PS_CTRL 1 = false → pageTakes (R.MOT_AX_CMD a) s = true → axState s a ≠ 0 → axState s a ≠ 4 →
      ∃ t, exec (.cmdHold who a) s = .next t ∧ axState t a = 4 ∧ (motAx t a).en = false ∧ (motAx t a).pwmOn = false) ∧
    (∀ who, rbit s R.CNT_PS_CTRL 1 = false → pageTakes (R.MOT_AX_CMD a) s = true →
      ∃ t, exec (.cmdOff who a) s = .next t ∧ axState t a = 0 ∧ (motAx t a).en = false ∧ axBrakeOn t a = true ∧
        (motAx t a).pwmOn = false) ∧
    (∀ who, rbit s R.CNT_PS_CTRL 1 = false → pageTakes (R.MOT_AX_CMD a) s = true → axFault s a = 0#32 → motRuns s = true →
      (axState s a = 0 ∨ axState s a = 4) →
      ∃ t, exec (.cmdAlign who a) s = .next t ∧ axState t a = 2 ∧ (motAx t a).phase = 0 ∧ (motAx t a).en = true ∧
        axBrakeOn t a = false) ∧
    (axState s a = 2 → (motAx s a).phase = 1 → lasted s (some (motAx s a).phaseAt) 100 = true →
      ∃ t, exec (.alignPhaseEnd a) s = .next t ∧ (motAx t a).phase = 2 ∧ (motAx t a).p0 = axPos s a) ∧
    (∀ who v, rbit s R.CNT_PS_CTRL 1 = false → pageTakes (R.MOT_AX_SP_PUSH a) s = true → bitAt v 0 = true →
      (motAx s a).queue.length < 16 → ((motAx s a).lastPush.all fun l => decide (l ≤ rlong s (R.MOT_AX_SP_TIME a))) = true →
      ∃ t, exec (.setpointPush who a v) s = .next t ∧ (motAx t a).queue.length = (motAx s a).queue.length + 1 ∧
        (motAx t a).lastPush = some (rlong s (R.MOT_AX_SP_TIME a)) ∧
        rnat t (R.MOT_AX_SP_STATE a) = (motAx s a).queue.length + 1) ∧
    (∀ who v, pageTakes (R.MOT_AX_LATCH_CTRL a) s = true → bitAt v 2 = true →
      ∃ t, exec (.latchArm who a v) s = .next t ∧ (motAx t a).armed = true) ∧
    (motRuns s = true → (motAx s a).armed = true → rfld s (R.MOT_AX_LATCH_CTRL a) 1 0 = 1 →
      rlong s (R.MOT_AX_LATCH_AT a) ≤ merNow s →
      ∃ t, exec (.latchAt a) s = .next t ∧ (motAx t a).armed = false ∧ rnat2 t (R.MOT_AX_LATCH_POS a) = axPos s a ∧
        rget t (R.MOT_AX_LATCH_VEL a) = rget s (R.MOT_AX_VEL a)) ∧
    (∀ who v, rbit s R.CNT_PS_CTRL 1 = false → pageTakes (R.MOT_AX_FAULT a) s = true →
      ∃ t, exec (.faultClear who a v) s = .next t ∧
        (∀ k : Fin 9, bitAt v k = true → bitAt (w32 (faultsHeld s a)) k = false → rbit t (R.MOT_AX_FAULT a) k = false) ∧
        (∀ k : Fin 9, bitAt (w32 (faultsHeld s a)) k = true → rbit t (R.MOT_AX_FAULT a) k = rbit s (R.MOT_AX_FAULT a) k)) ∧
    (∀ (c : Fin 36) b, 32 ≤ c.val → dsmOsr s ≤ (sincClock b (nth {} s.sinc c)).count →
      ∃ t, exec (.filterOutput c [b]) s = .next t ∧
        rget t (R.MOT_BUS_V (c.val - 32)) = f32Mul (f32OfInt (sincOutput (sincClock b (nth {} s.sinc c))).1) (rget s (R.MOT_BUS_SCALE (c.val - 32)))) ∧
    (∀ (c : Fin 36) b, c.val < 32 → c.val % 4 = 0 → dsmOsr s ≤ (sincClock b (nth {} s.sinc c)).count →
      ∃ t, exec (.filterOutput c [b]) s = .next t ∧
        (motAx t (c.val / 4)).iu = phaseAmps s (c.val / 4) 0 (sincOutput (sincClock b (nth {} s.sinc c))).1) ∧
    (∀ (c : Fin 36) bits, s.sinc.length = 36 → (nth ({} : Sinc) s.sinc c).count + bits.length < dsmOsr s →
      ∃ t, exec (.filterOutput c bits) s = .next t ∧
        (nth ({} : Sinc) t.sinc c).count = (nth ({} : Sinc) s.sinc c).count + bits.length)

/-- ARM on an idle port with a supported configuration arms it at its start time; STOP ends capture; a frame that takes the
grid stores at the next index, which moves on by one; loss of the bit clock on an armed port raises cause 0x12; a DCO
update in steer mode clears the means and counts the good updates in a row. (spec: 16_audio_and_two_wire_buses.md) -/
def Obligations.AudioCommandsAct : Prop :=
  ∀ (p : Fin 4) (s : State), s.aud.length = 4 →
    (∀ who v, rbit s R.CNT_PS_CTRL 1 = false → pageTakes (R.AUD_CMD p) s = true → bitAt v 0 = true → bitAt v 1 = false →
      audArmed s p = false → audConfigOk s p = true →
      ∃ t, exec (.audArm who p v) s = .next t ∧ audArmed t p = true ∧ (audAt t p).start = rlong s (R.AUD_START p) ∧
        (audAt t p).begun = false) ∧
    (∀ who v, rbit s R.CNT_PS_CTRL 1 = false → pageTakes (R.AUD_CMD p) s = true → bitAt v 0 = false → bitAt v 1 = true →
      audArmed s p = true →
      ∃ t, exec (.audStop who p v) s = .next t ∧ audArmed t p = false ∧ (audAt t p).block = none ∧ (audAt t p).begun = false) ∧
    (∀ stamp bits, audRuns s = true → audArmed s p = true → (audAt s p).begun = false →
      audEarlyBy s p (audE s p stamp (rnat2 s (R.AUD_INDEX p))) = false →
      ∃ t, exec (.audFrame p stamp (32 * audSlots s p) bits) s = .next t ∧
        rnat2 t (R.AUD_INDEX p) = (rnat2 s (R.AUD_INDEX p) + 1) % 2 ^ 64 ∧ (audAt t p).last = audSlotWords s p bits ∧
        (audAt t p).begun = true) ∧
    (audRuns s = true → audArmed s p = true → pageThere s (audPage p) = true → rbit s (hdrIntStat (audPage p)) 0 = false →
      ∃ t, exec (.audClockLoss p) s = .next t ∧ rget t (hdrErrCode (audPage p)) = 0xF12#32 ∧
        rget t (hdrErrInfo (audPage p)) = 0#32 ∧ rbit t (hdrIntStat (audPage p)) 0 = true) ∧
    (audRuns s = true → rbit s R.AUD_DCO 1 = false → rfld s R.AUD_DCO 5 4 = p.val → (audAt s p).countE ≠ 0 →
      ∃ t, exec (.dcoUpdate) s = .next t ∧ (audAt t p).sumE = 0 ∧ (audAt t p).countE = 0 ∧
        t.audGood = if (audAt s p).sumE.natAbs ≤ 6553600 * (audAt s p).countE then min 100 (s.audGood + 1) else 0)

/-- On a bus in the state that the command is for: GO makes the transfer busy, a transfer ends with its status and byte
count, a retry goes out again and is counted, a stretch or a stuck bus ends the transfer, target bytes enter the FIFOs,
an expired stretch drops the byte and counts, pushes and pops move the target FIFOs, a free bus ends the target
transaction. (spec: 16_audio_and_two_wire_buses.md) -/
def Obligations.TwoWireCommandsAct : Prop :=
  ∀ (b : Fin 4) (s : State), s.twi.length = 4 →
    (∀ who v, rbit s R.CNT_PS_CTRL 1 = false → pageTakes (R.TWI_XFER b) s = true → bitAt v 31 = true → twiBusy s b = false →
      enabled s (twiPage b) = true → rbit s (R.TWI_CTRL b) 0 = true → (∀ i : Fin 4, rget s (R.TWI_ABSENT b i) = 0#32) →
      twiAddressed s b = false → (twiAt s b).stuck = false →
      ∃ t, exec (.twiGo who b v false true) s = .next t ∧ rget t (R.TWI_XSTAT b) = 2#32 ∧ (twiAt t b).retries = 0) ∧
    (∀ bs, twiBusy s b = true → (twiAt s b).retryDue = false → (twiAt s b).goWaits = false →
      ∃ t, exec (.twiTransferDone b (.ok bs)) s = .next t ∧
        rget t (R.TWI_XSTAT b) = w32 (1 + ((twiAt s b).write.length + (twiAt s b).read) * 256)) ∧
    (twiBusy s b = true → (twiAt s b).retryDue = true →
      ∃ t, exec (.twiRetry b) s = .next t ∧ (twiAt t b).retryDue = false ∧
        t.out = Emit.twiStart b (twiAt s b).addr (twiAt s b).write (twiAt s b).read :: s.out ∧
        rnat t (R.TWI_CNT_RETRY b) = (rnat s (R.TWI_CNT_RETRY b) + 1) % 2 ^ 32) ∧
    (twiBusy s b = true → (twiAt s b).goWaits = false →
      ∃ t, exec (.stretchTimeout b) s = .next t ∧ rget t (R.TWI_XSTAT b) = 0x11#32) ∧
    (∀ sda, twiBusy s b = true → (twiAt s b).goWaits = false →
      ∃ t, exec (.busStuck b true sda) s = .next t ∧ rget t (R.TWI_XSTAT b) = 0x15#32 ∧ (twiAt t b).stuck = true) ∧
    (∀ bs n, enabled s (twiPage b) = true → rbit s (R.TWI_CTRL b) 1 = true → (twiAt s b).rx.length < 256 →
      (twiAt s b).tx.length < 256 →
      ∃ t, exec (.targetAddressed b bs n) s = .next t ∧ twiAddressed t b = true ∧
        (twiAt t b).rx ++ (twiAt t b).rxWait = (twiAt s b).rx ++ (twiAt s b).rxWait ++ bs) ∧
    ((twiAt s b).rxWait ≠ [] →
      ∃ t, exec (.tgtStretchExpiry b) s = .next t ∧ (twiAt t b).rxWait = [] ∧ (twiAt t b).rx = (twiAt s b).rx ∧
        rnat t (R.TWI_CNT_TGT_ERR b) = (rnat s (R.TWI_CNT_TGT_ERR b) + 1) % 2 ^ 32) ∧
    (∀ who v, pageTakes (R.TWI_TGT_TX b) s = true → (twiAt s b).tx.length < 32 → (twiAt s b).txWait = 0 →
      ∃ t, exec (.tgtTxPush who b v) s = .next t ∧ (twiAt t b).tx = (twiAt s b).tx ++ [BitVec.ofNat 8 v.toNat]) ∧
    (∀ who x xs, rbit s R.CNT_PS_CTRL 1 = false → pageTakes (R.TWI_TGT_RX b) s = true → (twiAt s b).rx = x :: xs →
      (twiAt s b).rxWait = [] →
      ∃ t, exec (.tgtRxPop who b) s = .next t ∧ t.out = Emit.readData who (w32 (x.toNat + 256)) :: s.out ∧ (twiAt t b).rx = xs) ∧
    (∀ sda freed, (twiAt s b).goWaits = false → (twiAt s b).rx.length < 256 → (twiAt s b).tx.length < 256 →
      ∃ t, exec (.busFree b sda freed) s = .next t ∧ twiAddressed t b = false ∧ (twiAt t b).stuck = false ∧
        (twiAt t b).rxWait = [])

/-- Flash commands begin their operation, one at a time; a read fills the window, a program clears bits, an erase sets every
byte to FFh; writes of the slot registers put a new boot record on its way, and the record written ends BUSY. (spec:
17_startup_reset_charts_firmware.md) -/
def Obligations.FlashCommandsAct : Prop :=
  ∀ (s : State),
    (∀ who v, rbit s R.CNT_PS_CTRL 1 = false → pageTakes R.PLT_FLASH_CMD s = true → bitAt v 8 = true → getBits v 1 0 = 0 →
      s.plt.flashOp = none →
      ∃ t, exec (.flashRead who v) s = .next t ∧
        t.plt.flashOp = some ({ op := 0, addr := rnat s R.PLT_FLASH_ADDR, data := [] } : FlashOp)) ∧
    (∀ who v, rbit s R.CNT_PS_CTRL 1 = false → pageTakes R.PLT_FLASH_CMD s = true → bitAt v 8 = true → getBits v 1 0 = 1 →
      s.plt.flashOp = none → (who = .binnacle ∨ flashAllowed s (rnat s R.PLT_FLASH_ADDR) 256 = true) →
      ∃ t, exec (.flashProgram who v) s = .next t ∧
        t.plt.flashOp = some ({ op := 1, addr := rnat s R.PLT_FLASH_ADDR, data := flashBuffer s } : FlashOp)) ∧
    (∀ who v, rbit s R.CNT_PS_CTRL 1 = false → pageTakes R.PLT_FLASH_CMD s = true → bitAt v 8 = true → getBits v 1 0 = 2 →
      s.plt.flashOp = none → (who = .binnacle ∨ flashAllowed s (rnat s R.PLT_FLASH_ADDR) 65536 = true) →
      ∃ t, exec (.flashErase who v) s = .next t ∧
        t.plt.flashOp = some ({ op := 2, addr := rnat s R.PLT_FLASH_ADDR, data := [] } : FlashOp)) ∧
    (∀ o, s.plt.flashOp = some o → o.op = 0 →
      ∃ t, exec (.flashDone true) s = .next t ∧
        (∀ i : Fin 64, rget t (R.PLT_FLASH_DATA i) = w32 (leNat (((flashRead s 256 o.addr).drop (4 * i)).take 4))) ∧
        t.plt.flashOp = none ∧ rfld t R.PLT_FLASH_CMD 10 8 = 2) ∧
    (∀ o, s.plt.flashOp = some o → o.op = 1 →
      ∃ t, exec (.flashDone true) s = .next t ∧
        (∀ i : Fin 256, o.data.length = 256 → flashByte t (o.addr + i) = (flashByte s (o.addr + i) &&& nth 0#8 o.data i)) ∧
        t.plt.flashOp = none ∧ rfld t R.PLT_FLASH_CMD 10 8 = 2) ∧
    (∀ o, s.plt.flashOp = some o → o.op = 2 →
      ∃ t, exec (.flashDone true) s = .next t ∧ (∀ i < 65536, flashByte t (o.addr + i) = 0xFF#8) ∧ t.plt.flashOp = none ∧
        rfld t R.PLT_FLASH_CMD 10 8 = 2) ∧
    (∀ who v, rbit s R.CNT_PS_CTRL 1 = false → pageTakes R.PLT_FW_SLOT s = true →
      ∃ t, exec (.fwSlotWrite who v) s = .next t ∧ t.plt.bootQueue.length = s.plt.bootQueue.length + 1 ∧
        (t.plt.bootQueue.getLast?.map fun (r : BootRec) => (r.next, r.trial)) = some (getBits v 4 4, bitAt v 5) ∧
        rbit t R.PLT_FW_SLOT 8 = true) ∧
    (∀ who v, rbit s R.CNT_PS_CTRL 1 = false → pageTakes R.PLT_SETTINGS_SLOT s = true →
      ∃ t, exec (.settingsSlotWrite who v) s = .next t ∧ t.plt.bootQueue.length = s.plt.bootQueue.length + 1 ∧
        rbit t R.PLT_SETTINGS_SLOT 8 = true) ∧
    (∀ r, s.plt.bootQueue = [r] →
      ∃ t, exec (.bootRecordWritten) s = .next t ∧ t.plt.bootQueue = [] ∧ rbit t R.PLT_FW_SLOT 8 = false ∧
        rfld t R.PLT_FW_SLOT 17 16 = b2n r.incompA + 2 * b2n r.incompB)

/-- In a running device a warm source latches its cause and begins the warm reset, a cold source latches its cause with COLD
set and goes to the cold reset, at once for power-on and brown-out and by way of the flush for the others; a held device
takes RST_N_HELD as a cold source; kicks restart the watchdogs; START_OK ends the start; CORE_RESET brings the core to
its reset; a loss of retention clears the retention registers. (spec: 17_startup_reset_charts_firmware.md) -/
def Obligations.ResetSourcesAct : Prop :=
  ∀ (s : State),
    (s.plt.trip = false →
      ∃ t, exec (.powerOn) s = .next t ∧ t.plt.phase = BootPhase.held ∧ t.plt.cold = true ∧
        rget t R.PLT_RESET_CAUSE = 16777217#32) ∧
    (s.plt.phase = BootPhase.running →
      ∃ t, exec (.brownOutCore) s = .next t ∧ t.plt.phase = BootPhase.held ∧ t.plt.cold = true ∧
        rget t R.PLT_RESET_CAUSE = 16842754#32) ∧
    (s.plt.phase = BootPhase.running →
      ∃ t, exec (.brownOutAon) s = .next t ∧ t.plt.phase = BootPhase.held ∧ t.plt.cold = true ∧
        rget t R.PLT_RESET_CAUSE = 16908292#32) ∧
    (s.plt.phase = BootPhase.running →
      ∃ t, exec (.railPowerFail) s = .next t ∧ t.plt.phase = BootPhase.held ∧ t.plt.cold = true ∧
        rget t R.PLT_RESET_CAUSE = 16842754#32) ∧
    (s.plt.phase = BootPhase.running →
      ∃ t, exec (.rstN) s = .next t ∧ t.plt.phase = BootPhase.quiesce ∧ t.plt.cold = false ∧
        rget t R.PLT_RESET_CAUSE = 196616#32) ∧
    (s.plt.phase = BootPhase.held →
      ∃ t, exec (.rstNHeld) s = .next t ∧ t.plt.phase = BootPhase.held ∧ t.plt.cold = true ∧
        rbit t R.PLT_RESET_CAUSE 4 = true ∧ rbit t R.PLT_RESET_CAUSE 24 = true) ∧
    (wdogOut s R.PLT_WDOG_BIN s.plt.kickBin = true →
      ∃ t, exec (.binnacleWatchdog) s = .next t ∧ t.plt.phase = BootPhase.quiesce ∧ t.plt.cold = false ∧
        rget t R.PLT_RESET_CAUSE = 327712#32) ∧
    (wdogOut s R.PLT_WDOG_HOST s.plt.kickHost = true →
      ∃ t, exec (.hostWatchdog) s = .next t ∧ t.plt.phase = BootPhase.quiesce ∧ t.plt.cold = false ∧
        rget t R.PLT_RESET_CAUSE = 393280#32) ∧
    (∀ who v, rbit s R.CNT_PS_CTRL 1 = false → pageTakes R.PLT_WDOG_BIN s = true → bitAt v 30 = true →
      ∃ t, exec (.wdogBinKick who v) s = .next t ∧ t.plt.kickBin = s.now) ∧
    (∀ who v, rbit s R.CNT_PS_CTRL 1 = false → pageTakes R.PLT_WDOG_HOST s = true → bitAt v 30 = true →
      ∃ t, exec (.wdogHostKick who v) s = .next t ∧ t.plt.kickHost = s.now) ∧
    (s.plt.inStart = true → s.plt.phase = BootPhase.running → s.plt.releasedAt + 30000000000 ≤ s.now →
      ∃ t, exec (.startTimer) s = .next t ∧ t.plt.phase = BootPhase.quiesce ∧ t.plt.cold = false ∧
        rget t R.PLT_RESET_CAUSE = 458880#32) ∧
    (∀ who v, rbit s R.CNT_PS_CTRL 1 = false → pageTakes R.PLT_START_OK s = true → s.plt.inStart = true →
      s.plt.phase = BootPhase.running → bitAt v 0 = true →
      ∃ t, exec (.startOk who v) s = .next t ∧ rget t R.PLT_START_COUNT = 0#32 ∧ rfld t R.PLT_START_STATE 3 0 = 15 ∧
        t.plt.inStart = false) ∧
    (∀ who v, rbit s R.CNT_PS_CTRL 1 = false → pageTakes R.PLT_START_OK s = true → s.plt.inStart = true →
      s.plt.phase = BootPhase.running → bitAt v 0 = false → bitAt v 1 = true →
      ∃ t, exec (.startFail who v) s = .next t ∧ t.plt.phase = BootPhase.quiesce ∧ t.plt.cold = false ∧
        rget t R.PLT_RESET_CAUSE = 458880#32) ∧
    (∀ who v, rbit s R.CNT_PS_CTRL 1 = false → pageTakes R.PLT_RESET_REQ s = true → s.plt.phase = BootPhase.running →
      getBits v 15 8 = 0xA5 → getBits v 1 0 = 1 →
      ∃ t, exec (.softwareWarmReset who v) s = .next t ∧ t.plt.phase = BootPhase.quiesce ∧ t.plt.cold = false ∧
        rget t R.PLT_RESET_CAUSE = 524544#32) ∧
    (∀ who v, rbit s R.CNT_PS_CTRL 1 = false → pageTakes R.PLT_RESET_REQ s = true → s.plt.phase = BootPhase.running →
      getBits v 15 8 = 0xA5 → getBits v 1 0 = 2 →
      ∃ t, exec (.softwareColdReset who v) s = .next t ∧ t.plt.phase = BootPhase.flush ∧ t.plt.cold = true ∧
        rget t R.PLT_RESET_CAUSE = 17367552#32) ∧
    (∀ v, s.plt.phase = BootPhase.running → rbit s R.DBG_LOCK 0 = true →
      ∃ t, exec (.debugRequest .jtag v) s = .next t ∧ t.plt.phase = BootPhase.quiesce ∧ t.plt.cold = false ∧
        rget t R.PLT_RESET_CAUSE = 656384#32) ∧
    (s.plt.phase = BootPhase.running →
      ∃ t, exec (.clockFailure) s = .next t ∧ t.plt.phase = BootPhase.flush ∧ t.plt.cold = true ∧
        rget t R.PLT_RESET_CAUSE = 17500160#32) ∧
    (s.plt.phase = BootPhase.running →
      ∃ t, exec (.binnacleLockup) s = .next t ∧ t.plt.phase = BootPhase.quiesce ∧ t.plt.cold = false ∧
        rget t R.PLT_RESET_CAUSE = 790528#32) ∧
    (s.plt.phase = BootPhase.running →
      ∃ t, exec (.fabricDeadlock) s = .next t ∧ t.plt.phase = BootPhase.quiesce ∧ t.plt.cold = false ∧
        rget t R.PLT_RESET_CAUSE = 860160#32) ∧
    (∀ who v, rbit s R.CNT_PS_CTRL 1 = false → pageTakes R.PLT_DR_CTRL s = true → s.plt.phase = BootPhase.running →
      deadReckoning s = true → getBits v 15 8 = 0x5A → bitAt v 16 = true →
      ∃ t, exec (.deadReckoningExit who v) s = .next t ∧ t.plt.phase = BootPhase.flush ∧ t.plt.cold = true ∧
        rget t R.PLT_RESET_CAUSE = 17711104#32 ∧ t.plt.deadReckoning = false) ∧
    (s.plt.phase = BootPhase.quiesce →
      ∃ t, exec (.coreReset) s = .next t ∧ t.plt.phase = BootPhase.held ∧ t.latch = [] ∧ t.held = [] ∧
        t.siu = [({} : SiuPort), {}] ∧ t.leaveQueue = [] ∧ t.stopped = 0) ∧
    (∃ t, exec (.retentionLoss) s = .next t ∧ rget t R.PLT_START_COUNT = 0#32 ∧ rget t R.PLT_HOLD_STATE = 0#32 ∧
        t.plt.deadReckoning = false ∧ t.plt.trip = false ∧ t.plt.prevFailed = false)

/-- When the reset is over, RST_N_RELEASE starts the start timer. A warm start in which the boot record chooses its NEXT
slot, the settings and the Chart that is due hold, and every record is accepted, brings the start to its last step,
where firmware writes START_OK, with PLT_LOCK set and the units of the role started; after three failed starts, and
where no boot record holds, the device is in Dead-reckoning mode, the latter with FALLBACK 3. (spec:
17_startup_reset_charts_firmware.md) -/
def Obligations.StartReleaseActs : Prop :=
  ∀ (s : State),
    (∀ f, releasable s = true → 3 ≤ rnat s R.PLT_START_COUNT →
      ∃ t, exec (.rstNRelease f) s = .next t ∧ deadReckoning t = true ∧ rbit t R.PLT_START_STATE 8 = true ∧
        t.plt.releasedAt = s.now ∧ t.plt.phase = BootPhase.running ∧ t.plt.inStart = false) ∧
    (∀ f, releasable s = true → s.plt.deadReckoning = false → rnat s R.PLT_START_COUNT < 3 → (bootCurrent s).isNone = true →
      ∃ t, exec (.rstNRelease f) s = .next t ∧ deadReckoning t = true ∧ rfld t R.PLT_START_STATE 10 9 = 3 ∧
        t.plt.releasedAt = s.now) ∧
    (∀ f k r slot a n source b set c schema q m role rs u, releasable s = true → s.plt.cold = false →
      s.plt.deadReckoning = false → rnat s R.PLT_START_COUNT < 3 → bootCurrent (startOpens f s) = some (k, r) →
      chooseSlot (startOpens f s) true f.bodyIntact r = (some slot, r) →
      a = slotStarts slot (retained (rejectLooked true f.bodyIntact r (startOpens f s)) true f.bodyIntact slot) r (rejectLooked true f.bodyIntact r (startOpens f s)) →
      chartChoice f.balls.val a = (n, source, b) → settingsReady slot r b = (some set, c) →
      settingsHeader c set = some (schema, q, m) → chartAt c set n = some (role, rs) → chartComplete c role rs = true →
      recordsApply true 0 rs (setStep 8 (memWake (setStep 7 (lanesRecheck (chartActive n source f.balls.val role schema c))))) = (none, u) →
      ∃ t, exec (.rstNRelease f) s = .next t ∧ rfld t R.PLT_START_STATE 3 0 = 14 ∧
        t = startServices f role rs (rsetBit R.PLT_LOCK 0 true (pagesCommit rs u)))

/-- A single request of the motion or the audio block that waits with nothing granted, and fits both limits, is granted; a
request that has waited its time leaves the queue; a new budget is taken, and with WITHDRAW set grants are withdrawn
until the sum fits or only requests 22 and 25 are left. (spec: 18_power_leave_and_die_temperature.md) -/
def Obligations.PowerLeaveActs : Prop :=
  ∀ (s : State),
    (∀ w, s.leaveQueue = [w] → s.leaveGrants = [] → (w.n = 28 ∨ w.n = 29) → leaveAmount w.n ≤ rfld s R.PLT_LEAVE_BUDGET 8 0 →
      stepRate w.n (leaveRamp w.n) ≤ rfld s R.PLT_LEAVE_BUDGET 23 16 →
      ∃ t, exec (.leaveEvaluate) s = .next t ∧ granted t w.n = true ∧ waiting t w.n = false ∧
        rbit t (R.PLT_LEAVE_GNT w.n) 0 = true) ∧
    (∀ w, w ∈ s.leaveQueue → leaveOverdue s w = true →
      ∃ t, exec (.leaveTimeout) s = .next t ∧ waiting t w.n = false) ∧
    (∀ who v, rbit s R.CNT_PS_CTRL 1 = false → pageTakes R.PLT_LEAVE_BUDGET s = true → 40 ≤ getBits v 8 0 →
      getBits v 8 0 ≤ 400 → 2 ≤ getBits v 23 16 → getBits v 23 16 ≤ 200 → bitAt v 31 = true → (∀ g ∈ s.leaveGrants, g.n < 30) →
      ∃ t, exec (.leaveBudgetWrite who v) s = .next t ∧ rfld t R.PLT_LEAVE_BUDGET 8 0 = getBits v 8 0 ∧
        rfld t R.PLT_LEAVE_BUDGET 23 16 = getBits v 23 16 ∧
        (grantedSum t ≤ getBits v 8 0 ∨ ∀ g ∈ t.leaveGrants, g.n = 22 ∨ g.n = 25))

/-- A reading of count 0 excludes its sensor and shows it as not valid, and a sensor stays excluded; a read of
PLT_THERM_PEAK returns the peak and clears it. (spec: 18_power_leave_and_die_temperature.md) -/
def Obligations.ThermalActs : Prop :=
  ∀ (s : State),
    (∀ counts, thermRuns s = true →
      ∃ t, exec (.sensorReading counts) s = .next t ∧
        (∀ k : Fin 32, (nth 0 counts k = 0 ∨ thermExcluded s k = true) → thermExcluded t k = true ∧ rbit t (R.PLT_THERM_S k) 16 = false)) ∧
    (∀ who, rbit s R.CNT_PS_CTRL 1 = false → pageTakes R.PLT_THERM_PEAK s = true →
      ∃ t, exec (.pltThermPeakRead who) s = .next t ∧ rget t R.PLT_THERM_PEAK = 0#32 ∧ t.plt.peakHeld = false ∧
        t.out = Emit.readData who (readWord s who R.PLT_THERM_PEAK) :: s.out)

/-- A measurement starts, loads the store, and ends with C and ESR; the energy register follows a change of 0.10 J; loss of
main power latches the loss, stops the units and is undone in PLT_HOLD_STATE when power returns; an exhausted store
brings a cold reset with outcome 3; the end of a flush leaves nothing dirty. A successful record write takes the oldest
event off the queue and T_LAST becomes its time; the first corrected error in a row is noted, and the third within a
second repairs the row with a spare of its macro. (spec: 19_faults_spares_and_power_loss.md,
21_balls_supplies_electrical.md) -/
def Obligations.HoldUpActs : Prop :=
  ∀ (s : State),
    (s.plt.phase = BootPhase.running → mainGood s = true → s.recorder.flushing = false → s.plt.test = HoldTest.none →
      ∃ t, exec (.holdTest) s = .next t ∧ t.plt.test = HoldTest.settling ∧ t.out = Emit.holdCharge true :: s.out) ∧
    (∀ who v, rbit s R.CNT_PS_CTRL 1 = false → pageTakes R.PLT_HOLD_TEST s = true → bitAt v 16 = true →
      s.plt.phase = BootPhase.running → mainGood s = true → s.recorder.flushing = false → s.plt.test = HoldTest.none →
      ∃ t, exec (.holdTestNow who v) s = .next t ∧ t.plt.test = HoldTest.settling) ∧
    (∀ a b, s.plt.test = HoldTest.settling →
      ∃ t, exec (.holdTestDischarge a b) s = .next t ∧ t.plt.test = HoldTest.loaded a b ∧ t.out = Emit.holdLoad true :: s.out) ∧
    (∀ v2 a b c, s.plt.test = HoldTest.loaded a b → v2 < b → b ≤ a → holdCap (rfld s R.PLT_HOLD_LOAD 15 0) a b v2 = some c →
      c ≤ 16777000 →
      ∃ t, exec (.holdTestDone v2) s = .next t ∧ t.plt.test = HoldTest.none ∧ rget t R.PLT_HOLD_CAP = w32 c ∧
        rbit t R.PLT_HOLD_ESR 31 = true) ∧
    (∀ v, s.plt.phase = BootPhase.running →
      (rfld s R.PLT_HOLD_ENERGY 15 0 + 10 ≤ energyOf s v ∨ energyOf s v + 10 ≤ rfld s R.PLT_HOLD_ENERGY 15 0) →
      ∃ t, exec (.holdEnergyUpdate v) s = .next t ∧ rget t R.PLT_HOLD_ENERGY = w32 (energyOf s v) ∧
        t.plt.lastEnergy = energyOf s v) ∧
    (s.plt.phase = BootPhase.running → s.plt.lossActive = false → onHoldup s = false →
      ∃ t, exec (.mainPowerLoss) s = .next t ∧ onHoldup t = true ∧ mainGood t = false ∧ t.plt.lossActive = true ∧
        t.stopped = 2 ∧ t.plt.lossAt = merNow s) ∧
    (mainGood s = false →
      ∃ t, exec (.mainPowerGood) s = .next t ∧ mainGood t = true ∧ onHoldup t = false) ∧
    (s.plt.lossActive = true → mainGood s = false →
      ∃ t, exec (.storeExhausted) s = .next t ∧ t.plt.phase = BootPhase.held ∧ t.plt.lossActive = false ∧ holdOutcome t = 3 ∧
        rbit t R.PLT_HOLD_STATE 6 = true) ∧
    (flushOver s = true → s.plt.lossActive = false → s.plt.trip = false → s.plt.phase = BootPhase.running →
      deadReckoning s = false →
      ∃ t, exec (.flushDone) s = .next t ∧ t.recorder.flushing = false ∧ rget t R.REC_AON_DIRTY = 0#32 ∧
        rget t R.REC_FLUSH_STATE = 2#32) ∧
    (∀ e es, s.logQueue = e :: es → s.logLost = 0 →
      ∃ t, exec (.logRecordWrite true) s = .next t ∧ t.logQueue = es ∧ t.tLast = e.at16 ∧
        rfld t R.PLT_LOGBOOK_QUEUE 8 0 = es.length % 512) ∧
    (∀ m row, s.plt.rows = [] →
      ∃ t, exec (.sramCorrectedError m row) s = .next t ∧
        t.plt.rows = [({ macro_ := m, row := row, times := [s.now] } : SramRow)]) ∧
    (∀ m row a b, s.plt.rows = [({ macro_ := m, row := row, times := [a, b] } : SramRow)] → s.now ≤ a + 1000000000 →
      s.now ≤ b + 1000000000 → sramRowsUsed s m < 2 →
      ∃ t, exec (.sramCorrectedError m row) s = .next t ∧ t.plt.rows = [] ∧ sramRowsUsed t m = sramRowsUsed s m + 1)

/-- VERIFY takes the token and its key for the check; the check ends with the scopes of a valid token open or the failure
counted; each JTAG instruction stays selected and shifts its register out; halting and stepping the Binnacle are served
while scope 0 is open, and so is a read of a register by JTAG. (spec: 20_counters_sampling_test_access.md) -/
def Obligations.DebugActs : Prop :=
  ∀ (s : State),
    (∀ who v, rbit s R.CNT_PS_CTRL 1 = false → pageTakes R.DBG_LOCK s = true → bitAt v 3 = true → tokenFails s ≠ 3 →
      s.dbg.token = none →
      ∃ t, exec (.tokenVerify who v) s = .next t ∧ t.dbg.token.map Prod.fst = some (tokenBytes s) ∧ rbit t R.DBG_LOCK 4 = true) ∧
    (∀ b k, s.dbg.token = some (b, k) →
      ∃ t, exec (.tokenVerifyDone) s = .next t ∧ t.dbg.token = none ∧ rbit t R.DBG_LOCK 4 = false ∧
        (if tokenValid s b k then rfld t R.DBG_LOCK 2 0 = (rfld s R.DBG_LOCK 2 0) ||| (leNat ((b.drop 8).take 4) % 8) else rfld t R.DBG_LOCK 9 8 = (tokenFails s + 1) % 4)) ∧
    (∀ tdi,
      ∃ t, exec (.bypass tdi) s = .next t ∧ t.dbg.jtag = 0 ∧ t.out = Emit.tdo ((false :: tdi).take tdi.length) :: s.out) ∧
    (∃ t, exec (.idcode) s = .next t ∧ t.dbg.jtag = 1 ∧ t.out = Emit.tdo (shiftBits 32 0x148160BF) :: s.out) ∧
    (∀ pins load,
      ∃ t, exec (.samplePreload pins load) s = .next t ∧ t.dbg.jtag = 2 ∧ t.dbg.boundary = load ∧
        t.out = Emit.tdo pins :: s.out) ∧
    (∀ pins load,
      ∃ t, exec (.extest pins load) s = .next t ∧ t.dbg.jtag = 3 ∧ t.dbg.boundary = load ∧
        t.out = [Emit.boundary load, Emit.tdo pins, Emit.boundary s.dbg.boundary] ++ s.out) ∧
    (jtagServed s = true →
      ∃ t, exec (.binnacleHalt) s = .next t ∧ t.plt.halted = true) ∧
    (jtagServed s = true → s.plt.halted = true →
      ∃ t, exec (.binnacleStep) s = .next t ∧ t.out = Emit.binnacleStep :: s.out) ∧
    (∀ n v, jtagServed s = true → n < 288 → pageThere s n = true → s.fabricOpen = true →
      ∃ t, exec (.jtagRegisterAccess (hdrErrCode n) false v) s = .next t ∧
        t.out = Emit.readData .jtag (rget s (hdrErrCode n)) :: s.out)

/-- Selecting a signal starts its counter from 0 and marks the next record; CLEAR zeroes the eight counters of its block; a
due snapshot is taken for writing; a finished record moves WR and updates the user page. (spec:
20_counters_sampling_test_access.md) -/
def Obligations.CounterActs : Prop :=
  ∀ (s : State),
    (∀ who (b : Fin 18) (c : Fin 8) v, rbit s R.CNT_PS_CTRL 1 = false → pageTakes (selAddr b c) s = true →
      ∃ t, exec (.counterSelect who b c v) s = .next t ∧ rnat2 t (valAddr b c) = 0 ∧ t.cnt.reconfigured = true) ∧
    (∀ who (b : Fin 18) v, rbit s R.CNT_PS_CTRL 1 = false → pageTakes (R.CNT_CLEAR (b.val / 2) (b.val % 2)) s = true →
      bitAt v 0 = true →
      ∃ t, exec (.counterClear who b v) s = .next t ∧ (∀ c : Fin 8, rnat2 t (valAddr b c) = 0)) ∧
    (rbit s R.CNT_CTRL 0 = true → pageThere s (pg 17 0) = true → blockResetting s (pg 17 0) = false →
      snapshotAt s s.cnt.next ≤ merNow s → s.cnt.writing = none → (snapshotBytes s s.cnt.next).length ≤ dumpFree s →
      ∃ t, exec (.snapshot) s = .next t ∧ t.cnt.next = s.cnt.next + 1 ∧ t.cnt.writing.isSome = true ∧ t.cnt.skipped = 0) ∧
    (∀ r, s.cnt.writing = some r → rnat s R.CNT_SIZE ≠ 0 →
      ∃ t, exec (.snapshotRecordDone) s = .next t ∧ t.cnt.writing = none ∧ t.cnt.userTime = r.at16 ∧
        t.cnt.useq = (s.cnt.useq + 2) % 2 ^ 32 ∧ rget t R.CNT_WR = w32 ((rnat s R.CNT_WR + r.bytes.length) % rnat s R.CNT_SIZE))

/-- Writes of a page's interrupt registers change registers of that page only and no memory; unmasking a vector changes no
register; nothing of any block's own state changes, but for the CRC report a cascade port may make again. (spec:
02_register_pages_and_ordering.md) -/
def Obligations.InterruptCommandsFrame : Prop :=
  ∀ s t : State, SamplingOff s →
    (∀ (who : Requester) (page : Fin 288) (v : Word), exec (.pgIntSet who page v) s = .next t →
      RegsKept (fun n => n == page.val) s t ∧ MemoryKept s t ∧ { t with regs := s.regs, held := s.held, out := s.out, msixPending := s.msixPending } = s) ∧
    (∀ (who : Requester) (page : Fin 288) (v : Word), exec (.pgIntEnWrite who page v) s = .next t →
      RegsKept (fun n => n == page.val) s t ∧ MemoryKept s t ∧ { t with regs := s.regs, held := s.held, out := s.out, msixPending := s.msixPending } = s) ∧
    (∀ (who : Requester) (page : Fin 288) (v : Word), exec (.pgIntStatClear who page v) s = .next t →
      RegsKept (fun n => n == page.val) s t ∧ MemoryKept s t ∧ { t with regs := s.regs, held := s.held, out := s.out, msixPending := s.msixPending, cas := s.cas } = s ∧ (∀ p, casAt t p = { casAt s p with crcSeen := (casAt t p).crcSeen })) ∧
    (∀ (v : Fin 2048), exec (.msixUnmask v) s = .next t →
      RegsKept (fun n => false) s t ∧ MemoryKept s t ∧ { t with out := s.out, msixOn := s.msixOn, msixPending := s.msixPending } = s)

/-- Echo, trigger and metadata commands of a sensor port change registers of its own page only and not the other port. A
signal and a bring-up that takes too long change registers of the lane's own page and of its tile port only, no memory,
and nothing of any other block. (spec: 03_sensor_ingest.md, 10_serial_lanes.md) -/
def Obligations.PortAndLaneFrame : Prop :=
  ∀ s t : State, SamplingOff s →
    (∀ (p : Fin 2), exec (.echo p) s = .next t →
      RegsKept (fun n => n == pg 2 p.val) s t ∧ MemoryKept s t ∧ (∀ q, q ≠ p.val → siuAt t q = siuAt s q) ∧ { t with siu := s.siu, regs := s.regs, out := s.out, msixPending := s.msixPending } = s) ∧
    (∀ (p : Fin 2) (k : Packet), exec (.echoReply p k) s = .next t →
      RegsKept (fun n => n == pg 2 p.val) s t ∧ MemoryKept s t ∧ (∀ q, q ≠ p.val → siuAt t q = siuAt s q) ∧ { t with siu := s.siu, regs := s.regs, out := s.out, msixPending := s.msixPending } = s) ∧
    (∀ (p : Fin 2), exec (.echoTimeout p) s = .next t →
      RegsKept (fun n => n == pg 2 p.val) s t ∧ MemoryKept s t ∧ (∀ q, q ≠ p.val → siuAt t q = siuAt s q) ∧ { t with siu := s.siu, regs := s.regs, out := s.out, msixPending := s.msixPending } = s) ∧
    (∀ (p : Fin 2), exec (.trigger p) s = .next t →
      RegsKept (fun n => n == pg 2 p.val) s t ∧ MemoryKept s t ∧ (∀ q, q ≠ p.val → siuAt t q = siuAt s q) ∧ { t with siu := s.siu, regs := s.regs, out := s.out, msixPending := s.msixPending } = s) ∧
    (∀ (p : Fin 2) (k : Packet), exec (.metaPacket p k) s = .next t →
      RegsKept (fun n => n == pg 2 p.val) s t ∧ MemoryKept s t ∧ (∀ q, q ≠ p.val → siuAt t q = siuAt s q) ∧ { t with siu := s.siu, regs := s.regs, out := s.out, msixPending := s.msixPending } = s) ∧
    (∀ (p : Fin 2), exec (.lateFrame p) s = .next t →
      RegsKept (fun n => n == pg 2 p.val) s t ∧ MemoryKept s t ∧ (∀ q, q ≠ p.val → siuAt t q = siuAt s q) ∧ { t with siu := s.siu, regs := s.regs, out := s.out, msixPending := s.msixPending } = s) ∧
    (∀ (p : Fin 2), exec (.t0Publish p) s = .next t →
      RegsKept (fun n => n == pg 2 p.val) s t ∧ MemoryKept s t ∧ (∀ q, q ≠ p.val → siuAt t q = siuAt s q) ∧ { t with siu := s.siu, regs := s.regs, out := s.out, msixPending := s.msixPending } = s) ∧
    (∀ (p : Fin 5) (i : Fin 20), exec (.signalDetect p i) s = .next t →
      RegsKept (fun n => n == pg 9 p.val || (p.val == 1 && blockOfPage n == 6)) s t ∧ MemoryKept s t ∧ { t with lan := s.lan, regs := s.regs, out := s.out, msixPending := s.msixPending } = s) ∧
    (∀ (p : Fin 3) (i : Fin 18), exec (.trainTimeout p i) s = .next t →
      RegsKept (fun n => n == pg 9 p.val) s t ∧ MemoryKept s t ∧ { t with lan := s.lan, regs := s.regs, out := s.out, msixPending := s.msixPending } = s)

/-- Forcing and releasing the spare slice, calibration starts and cancels, LUT loads, table writes and publications change
registers of CLR only (a load, which reads memory, also what MEM reports of the read), no memory, and nothing of any
other block; those of one pipeline leave the other as it was. (spec: 04_raw_stages.md,
05_colour_transforms_and_outputs.md) -/
def Obligations.ColourCommandsFrame : Prop :=
  ∀ s t : State, SamplingOff s →
    (∀ (who : Requester) (v : Word), exec (.clrForce who v) s = .next t →
      RegsKept (fun n => blockOfPage n == 3) s t ∧ MemoryKept s t ∧ { t with clr := s.clr, clrSpare := s.clrSpare, regs := s.regs, held := s.held, out := s.out, msixPending := s.msixPending } = s) ∧
    (∀ (who : Requester) (v : Word), exec (.clrRelease who v) s = .next t →
      RegsKept (fun n => blockOfPage n == 3) s t ∧ MemoryKept s t ∧ { t with clr := s.clr, clrSpare := s.clrSpare, regs := s.regs, held := s.held, out := s.out, msixPending := s.msixPending } = s) ∧
    (∀ (who : Requester) (v : Word), exec (.tableWrite who v) s = .next t →
      RegsKept (fun n => blockOfPage n == 3) s t ∧ MemoryKept s t ∧ { t with clr := s.clr, clrSpare := s.clrSpare, regs := s.regs, held := s.held, out := s.out, msixPending := s.msixPending } = s) ∧
    (∀ (who : Requester) (p : Fin 2) (v : Word), exec (.darkCalStart who p v) s = .next t →
      RegsKept (fun n => blockOfPage n == 3) s t ∧ MemoryKept s t ∧ (∀ q, q ≠ p.val → clrAt t q = clrAt s q) ∧ { t with clr := s.clr, regs := s.regs, held := s.held, out := s.out, msixPending := s.msixPending } = s) ∧
    (∀ (who : Requester) (p : Fin 2) (v : Word), exec (.darkCalCancel who p v) s = .next t →
      RegsKept (fun n => blockOfPage n == 3) s t ∧ MemoryKept s t ∧ (∀ q, q ≠ p.val → clrAt t q = clrAt s q) ∧ { t with clr := s.clr, regs := s.regs, held := s.held, out := s.out, msixPending := s.msixPending } = s) ∧
    (∀ (who : Requester) (p : Fin 2) (v : Word), exec (.lutLoad who p v) s = .next t →
      RegsKept (fun n => blockOfPage n == 3) s t ∧ MemoryKept s t ∧ (∀ q, q ≠ p.val → clrAt t q = clrAt s q) ∧ { t with clr := s.clr, regs := s.regs, held := s.held, out := s.out, msixPending := s.msixPending } = s) ∧
    (∀ (p : Fin 2), exec (.tapPublish p) s = .next t →
      RegsKept (fun n => blockOfPage n == 3) s t ∧ MemoryKept s t ∧ (∀ q, q ≠ p.val → clrAt t q = clrAt s q) ∧ { t with clr := s.clr, regs := s.regs, held := s.held, out := s.out, msixPending := s.msixPending } = s) ∧
    (∀ (p : Fin 2) (o : Fin 4), exec (.otPublish p o) s = .next t →
      RegsKept (fun n => blockOfPage n == 3) s t ∧ MemoryKept s t ∧ (∀ q, q ≠ p.val → clrAt t q = clrAt s q) ∧ { t with clr := s.clr, regs := s.regs, held := s.held, out := s.out, msixPending := s.msixPending } = s) ∧
    (∀ (p : Fin 2), exec (.lutLoadDone p) s = .next t →
      RegsKept (fun n => blockOfPage n == 3 || blockOfPage n == 10 || n == pg 1 2) s t ∧ MemoryKept s t ∧ (∀ q, q ≠ p.val → clrAt t q = clrAt s q) ∧ { t with clr := s.clr, regs := s.regs, out := s.out, msixPending := s.msixPending, poison := s.poison, memCtl := s.memCtl, leaveQueue := s.leaveQueue } = s)

/-- They change registers of their own block only, no memory, and nothing of any other block; those that read device memory,
and the latency report, also what MEM holds and reports. A picture given up while both canvas buffers have a monitor
clone moves the later clone down, and only then is memory written. (spec: 06_canvas_and_timed_launch.md,
07_tile_photometry.md) -/
def Obligations.CanvasPhotometryFrame : Prop :=
  ∀ s t : State, SamplingOff s →
    (exec (.selfref) s = .next t →
      RegsKept (fun n => blockOfPage n == 4 || blockOfPage n == 10 || n == pg 1 2) s t ∧ ((canvasBuf s 0).mon = none ∨ (canvasBuf s 1).mon = none → MemoryKept s t) ∧ { t with cnv := s.cnv, regs := s.regs, held := s.held, out := s.out, msixPending := s.msixPending, drawn := s.drawn, mem := s.mem, hostMem := s.hostMem, poison := s.poison, memCtl := s.memCtl, leaveQueue := s.leaveQueue } = s) ∧
    (∀ (v : Word), exec (.hostReq v) s = .next t →
      RegsKept (fun n => blockOfPage n == 4 || blockOfPage n == 10 || n == pg 1 2) s t ∧ ((canvasBuf s 0).mon = none ∨ (canvasBuf s 1).mon = none → MemoryKept s t) ∧ { t with cnv := s.cnv, regs := s.regs, held := s.held, out := s.out, msixPending := s.msixPending, drawn := s.drawn, mem := s.mem, hostMem := s.hostMem, poison := s.poison, memCtl := s.memCtl, leaveQueue := s.leaveQueue } = s) ∧
    (∀ (v : Word), exec (.fwReq v) s = .next t →
      RegsKept (fun n => blockOfPage n == 4 || blockOfPage n == 10 || n == pg 1 2) s t ∧ ((canvasBuf s 0).mon = none ∨ (canvasBuf s 1).mon = none → MemoryKept s t) ∧ { t with cnv := s.cnv, regs := s.regs, held := s.held, out := s.out, msixPending := s.msixPending, drawn := s.drawn, mem := s.mem, hostMem := s.hostMem, poison := s.poison, memCtl := s.memCtl, leaveQueue := s.leaveQueue } = s) ∧
    (∀ (who : Requester) (v : Word), exec (.mapValidate who v) s = .next t →
      RegsKept (fun n => blockOfPage n == 4) s t ∧ MemoryKept s t ∧ { t with cnv := s.cnv, regs := s.regs, held := s.held, out := s.out, msixPending := s.msixPending } = s) ∧
    (exec (.ltrReport) s = .next t →
      RegsKept (fun n => blockOfPage n == 4 || blockOfPage n == 10) s t ∧ MemoryKept s t ∧ { t with memCtl := s.memCtl, regs := s.regs, out := s.out, msixPending := s.msixPending } = s) ∧
    (exec (.dispatchDeadline) s = .next t →
      RegsKept (fun n => blockOfPage n == 4 || blockOfPage n == 10 || n == pg 1 2) s t ∧ ((canvasBuf s 0).mon = none ∨ (canvasBuf s 1).mon = none → MemoryKept s t) ∧ { t with cnv := s.cnv, pho := s.pho, regs := s.regs, out := s.out, msixPending := s.msixPending, mem := s.mem, hostMem := s.hostMem, poison := s.poison, memCtl := s.memCtl, leaveQueue := s.leaveQueue } = s) ∧
    (∀ (b : Fin 2), exec (.mapValidateDone b) s = .next t →
      RegsKept (fun n => blockOfPage n == 4 || blockOfPage n == 10 || n == pg 1 2) s t ∧ MemoryKept s t ∧ { t with cnv := s.cnv, regs := s.regs, out := s.out, msixPending := s.msixPending, poison := s.poison, memCtl := s.memCtl, leaveQueue := s.leaveQueue } = s) ∧
    (exec (.passBegin) s = .next t →
      RegsKept (fun n => blockOfPage n == 5 || blockOfPage n == 10 || n == pg 1 2) s t ∧ MemoryKept s t ∧ { t with pho := s.pho, regs := s.regs, inUse := s.inUse, out := s.out, msixPending := s.msixPending, poison := s.poison, memCtl := s.memCtl, leaveQueue := s.leaveQueue } = s) ∧
    (exec (.refCaptureTimeout) s = .next t →
      RegsKept (fun n => blockOfPage n == 5) s t ∧ MemoryKept s t ∧ { t with pho := s.pho, regs := s.regs, inUse := s.inUse, held := s.held, out := s.out, msixPending := s.msixPending } = s) ∧
    (∀ (who : Requester) (v : Word), exec (.refCaptureStart who v) s = .next t →
      RegsKept (fun n => blockOfPage n == 5) s t ∧ MemoryKept s t ∧ { t with pho := s.pho, regs := s.regs, inUse := s.inUse, held := s.held, out := s.out, msixPending := s.msixPending } = s) ∧
    (∀ (who : Requester) (v : Word), exec (.refCaptureCancel who v) s = .next t →
      RegsKept (fun n => blockOfPage n == 5) s t ∧ MemoryKept s t ∧ { t with pho := s.pho, regs := s.regs, inUse := s.inUse, held := s.held, out := s.out, msixPending := s.msixPending } = s)

/-- Periodic queries change no register; host commands change registers of the port's own page only; none changes a byte of
memory, another port, or anything of another block. (spec: 08_emorn_tile_link.md) -/
def Obligations.TilePortFrame : Prop :=
  ∀ s t : State, SamplingOff s →
    (∀ (p : Fin 16), exec (.tempQuery p) s = .next t →
      RegsKept (fun n => false) s t ∧ MemoryKept s t ∧ (∀ q, q ≠ p.val → tlkAt t q = tlkAt s q) ∧ { t with tlk := s.tlk, out := s.out, drawn := s.drawn } = s) ∧
    (∀ (p : Fin 16), exec (.echoRemeasure p) s = .next t →
      RegsKept (fun n => false) s t ∧ MemoryKept s t ∧ (∀ q, q ≠ p.val → tlkAt t q = tlkAt s q) ∧ { t with tlk := s.tlk, out := s.out, drawn := s.drawn } = s) ∧
    (∀ (p : Fin 16), exec (.statusProbe p) s = .next t →
      RegsKept (fun n => false) s t ∧ MemoryKept s t ∧ (∀ q, q ≠ p.val → tlkAt t q = tlkAt s q) ∧ { t with tlk := s.tlk, out := s.out, drawn := s.drawn } = s) ∧
    (∀ (p : Fin 16), exec (.scheduleResend p) s = .next t →
      RegsKept (fun n => false) s t ∧ MemoryKept s t ∧ (∀ q, q ≠ p.val → tlkAt t q = tlkAt s q) ∧ { t with tlk := s.tlk, out := s.out, drawn := s.drawn } = s) ∧
    (∀ (who : Requester) (p : Fin 16) (v : Word), exec (.enum who p v) s = .next t →
      RegsKept (fun n => n == pg 6 p.val) s t ∧ MemoryKept s t ∧ (∀ q, q ≠ p.val → tlkAt t q = tlkAt s q) ∧ { t with tlk := s.tlk, regs := s.regs, held := s.held, out := s.out, msixPending := s.msixPending, mem := s.mem, hostMem := s.hostMem, poison := s.poison, drawn := s.drawn } = s) ∧
    (∀ (who : Requester) (p : Fin 16) (v : Word), exec (.resume who p v) s = .next t →
      RegsKept (fun n => n == pg 6 p.val) s t ∧ MemoryKept s t ∧ (∀ q, q ≠ p.val → tlkAt t q = tlkAt s q) ∧ { t with tlk := s.tlk, regs := s.regs, held := s.held, out := s.out, msixPending := s.msixPending, mem := s.mem, hostMem := s.hostMem, poison := s.poison, drawn := s.drawn } = s) ∧
    (∀ (who : Requester) (p : Fin 16) (v : Word), exec (.hostQuery who p v) s = .next t →
      RegsKept (fun n => n == pg 6 p.val) s t ∧ MemoryKept s t ∧ (∀ q, q ≠ p.val → tlkAt t q = tlkAt s q) ∧ { t with tlk := s.tlk, regs := s.regs, held := s.held, out := s.out, msixPending := s.msixPending, mem := s.mem, hostMem := s.hostMem, poison := s.poison, drawn := s.drawn } = s) ∧
    (∀ (who : Requester) (p : Fin 16) (v : Word), exec (.hostConfig who p v) s = .next t →
      RegsKept (fun n => n == pg 6 p.val) s t ∧ MemoryKept s t ∧ (∀ q, q ≠ p.val → tlkAt t q = tlkAt s q) ∧ { t with tlk := s.tlk, regs := s.regs, held := s.held, out := s.out, msixPending := s.msixPending, mem := s.mem, hostMem := s.hostMem, poison := s.poison, drawn := s.drawn } = s)

/-- A missing PPS, a lost and a restored 10 MHz reference change registers of MER only, no memory, not the Meridian counter,
and nothing of any other block. DISCOVER, ANNOUNCE and PDELAY_REQ go out without any change of a register, of memory, or
of anything but the cascade's own counts. (spec: 09_cascade_and_meridian_time.md) -/
def Obligations.TimeAndSenderFrame : Prop :=
  ∀ s t : State, SamplingOff s →
    (exec (.ppsMissing) s = .next t →
      RegsKept (fun n => blockOfPage n == 8) s t ∧ MemoryKept s t ∧ { t with regs := s.regs, out := s.out, msixPending := s.msixPending } = s) ∧
    (exec (.ref10mLoss) s = .next t →
      RegsKept (fun n => blockOfPage n == 8) s t ∧ MemoryKept s t ∧ { t with regs := s.regs, out := s.out, msixPending := s.msixPending } = s) ∧
    (exec (.ref10mRestored) s = .next t →
      RegsKept (fun n => blockOfPage n == 8) s t ∧ MemoryKept s t ∧ { t with regs := s.regs, out := s.out, msixPending := s.msixPending } = s) ∧
    (exec (.holdover) s = .next t →
      RegsKept (fun n => blockOfPage n == 8) s t ∧ MemoryKept s t ∧ { t with regs := s.regs, out := s.out, msixPending := s.msixPending } = s) ∧
    (∀ (p : Fin 4), exec (.discoverSend p) s = .next t →
      RegsKept (fun n => false) s t ∧ MemoryKept s t ∧ { t with cas := s.cas, out := s.out } = s) ∧
    (∀ (p : Fin 4), exec (.announceSend p) s = .next t →
      RegsKept (fun n => false) s t ∧ MemoryKept s t ∧ { t with cas := s.cas, out := s.out } = s) ∧
    (∀ (p : Fin 4), exec (.pdelayReqSend p) s = .next t →
      RegsKept (fun n => false) s t ∧ MemoryKept s t ∧ { t with cas := s.cas, out := s.out } = s)

/-- A write changes no byte of device memory outside its 64-byte burst and none that its mask leaves out, a read no byte at
all, and neither a byte of host memory. (A burst with more than 12 symbols in error may be read as other data, R240.)
(spec: 11_external_memory.md) -/
def Obligations.MemoryAccessFrame : Prop :=
  ∀ s t : State, s.memCtl.queue = [] →
    (∀ (c : Fin 8 × Nat) (x : BitVec 48) (w : Option (List Byte)) (m : BitVec 64) (e : List DqError), exec (.memAccess c x w m e) s = .next t →
      (∀ y, (y < x.toNat / 64 * 64 ∨ x.toNat / 64 * 64 + 64 ≤ y ∨ (symbolsHit e ≤ 12 ∧ (w = none ∨ m.getLsbD (y % 64) = false))) → memByte t false y = memByte s false y) ∧ (∀ y, memByte t true y = memByte s true y) ∧ RegsKept (fun n => blockOfPage n == 10 || n == pg 1 2) s t)

/-- Binding a send stream and resuming a lane change registers of CMP only, stalls and rows of the coder those of COD (a
row, which reads its picture, also what MEM reports of the read), selections and clears of counters those of CNT; none
of these changes a byte of memory or anything of another block. (spec: 12_compression.md, 13_coder.md,
20_counters_sampling_test_access.md) -/
def Obligations.EngineCommandsFrame : Prop :=
  ∀ s t : State, SamplingOff s →
    (∀ (who : Requester) (k : Fin 8) (v : Word), exec (.sendBind who k v) s = .next t →
      RegsKept (fun n => blockOfPage n == 11) s t ∧ MemoryKept s t ∧ { t with regs := s.regs, held := s.held, out := s.out, msixPending := s.msixPending } = s) ∧
    (∀ (l : Fin 10), exec (.jobResume l) s = .next t →
      RegsKept (fun n => blockOfPage n == 11) s t ∧ MemoryKept s t ∧ { t with regs := s.regs, held := s.held, out := s.out, msixPending := s.msixPending } = s) ∧
    (exec (.stallTimeout) s = .next t →
      RegsKept (fun n => blockOfPage n == 12) s t ∧ MemoryKept s t ∧ { t with cod := s.cod, regs := s.regs, out := s.out, msixPending := s.msixPending, drawn := s.drawn } = s) ∧
    (∀ (x : Bool), exec (.codRow x) s = .next t →
      RegsKept (fun n => blockOfPage n == 12 || blockOfPage n == 10 || n == pg 1 2) s t ∧ MemoryKept s t ∧ { t with cod := s.cod, regs := s.regs, out := s.out, msixPending := s.msixPending, drawn := s.drawn, poison := s.poison, memCtl := s.memCtl, leaveQueue := s.leaveQueue } = s) ∧
    (∀ (who : Requester) (b : Fin 18) (c : Fin 8) (v : Word), exec (.counterSelect who b c v) s = .next t →
      RegsKept (fun n => blockOfPage n == 17) s t ∧ MemoryKept s t ∧ { t with cnt := s.cnt, regs := s.regs, held := s.held, out := s.out, msixPending := s.msixPending } = s) ∧
    (∀ (who : Requester) (b : Fin 18) (v : Word), exec (.counterClear who b v) s = .next t →
      RegsKept (fun n => blockOfPage n == 17) s t ∧ MemoryKept s t ∧ { t with cnt := s.cnt, regs := s.regs, held := s.held, out := s.out, msixPending := s.msixPending } = s)

/-- They change registers of REC only, no byte of device memory, and nothing of any other block; clips leave host memory
too. (spec: 14_recorder_and_host_queues.md) -/
def Obligations.RecorderCommandsFrame : Prop :=
  ∀ s t : State, SamplingOff s →
    (∀ (who : Requester) (v : Word), exec (.clipArm who v) s = .next t →
      RegsKept (fun n => blockOfPage n == 13) s t ∧ MemoryKept s t ∧ { t with recorder := s.recorder, regs := s.regs, held := s.held, out := s.out, msixPending := s.msixPending } = s) ∧
    (∀ (who : Requester) (v : Word), exec (.clipStop who v) s = .next t →
      RegsKept (fun n => blockOfPage n == 13) s t ∧ MemoryKept s t ∧ { t with recorder := s.recorder, regs := s.regs, held := s.held, out := s.out, msixPending := s.msixPending } = s) ∧
    (∀ (v : Fin 65), exec (.interruptCoalescingExpiry v) s = .next t →
      RegsKept (fun n => false) s t ∧ MemoryKept s t ∧ { t with recorder := s.recorder, out := s.out } = s) ∧
    (∀ (c q : Word) (x y : BitVec 64), exec (.controllerReset c q x y) s = .next t →
      RegsKept (fun n => false) s t ∧ MemoryKept s t ∧ { t with recorder := s.recorder, out := s.out } = s) ∧
    (∀ (q : Fin 65) (x : BitVec 16), exec (.cqHeadDoorbell q x) s = .next t →
      RegsKept (fun n => false) s t ∧ (∀ y, memByte t false y = memByte s false y) ∧ { t with recorder := s.recorder, out := s.out, hostMem := s.hostMem } = s)

/-- A submitted or admitted NVMe command changes registers of REC only and nothing of any other block, but for the leave
that Sanitize and Format ask for and what MEM reports. Their data may go to memory: to host buffers and to the dirty
data that REC holds. (spec: 14_recorder_and_host_queues.md) -/
def Obligations.NvmeCommandsFrame : Prop :=
  ∀ s t : State, SamplingOff s →
    (exec (.deleteIoSq) s = .next t →
      RegsKept (fun n => blockOfPage n == 13 || blockOfPage n == 10 || n == pg 1 2) s t ∧ { t with recorder := s.recorder, regs := s.regs, out := s.out, msixPending := s.msixPending, hostMem := s.hostMem, mem := s.mem, drawn := s.drawn, poison := s.poison, memCtl := s.memCtl, leaveQueue := s.leaveQueue } = s) ∧
    (exec (.createIoSq) s = .next t →
      RegsKept (fun n => blockOfPage n == 13 || blockOfPage n == 10 || n == pg 1 2) s t ∧ { t with recorder := s.recorder, regs := s.regs, out := s.out, msixPending := s.msixPending, hostMem := s.hostMem, mem := s.mem, drawn := s.drawn, poison := s.poison, memCtl := s.memCtl, leaveQueue := s.leaveQueue } = s) ∧
    (exec (.deleteIoCq) s = .next t →
      RegsKept (fun n => blockOfPage n == 13 || blockOfPage n == 10 || n == pg 1 2) s t ∧ { t with recorder := s.recorder, regs := s.regs, out := s.out, msixPending := s.msixPending, hostMem := s.hostMem, mem := s.mem, drawn := s.drawn, poison := s.poison, memCtl := s.memCtl, leaveQueue := s.leaveQueue } = s) ∧
    (exec (.createIoCq) s = .next t →
      RegsKept (fun n => blockOfPage n == 13 || blockOfPage n == 10 || n == pg 1 2) s t ∧ { t with recorder := s.recorder, regs := s.regs, out := s.out, msixPending := s.msixPending, hostMem := s.hostMem, mem := s.mem, drawn := s.drawn, poison := s.poison, memCtl := s.memCtl, leaveQueue := s.leaveQueue } = s) ∧
    (exec (.identify) s = .next t →
      RegsKept (fun n => blockOfPage n == 13 || blockOfPage n == 10 || n == pg 1 2) s t ∧ { t with recorder := s.recorder, regs := s.regs, out := s.out, msixPending := s.msixPending, hostMem := s.hostMem, mem := s.mem, drawn := s.drawn, poison := s.poison, memCtl := s.memCtl, leaveQueue := s.leaveQueue } = s) ∧
    (exec (.abort) s = .next t →
      RegsKept (fun n => blockOfPage n == 13 || blockOfPage n == 10 || n == pg 1 2) s t ∧ { t with recorder := s.recorder, regs := s.regs, out := s.out, msixPending := s.msixPending, hostMem := s.hostMem, mem := s.mem, drawn := s.drawn, poison := s.poison, memCtl := s.memCtl, leaveQueue := s.leaveQueue } = s) ∧
    (exec (.setFeatures) s = .next t →
      RegsKept (fun n => blockOfPage n == 13 || blockOfPage n == 10 || n == pg 1 2) s t ∧ { t with recorder := s.recorder, regs := s.regs, out := s.out, msixPending := s.msixPending, hostMem := s.hostMem, mem := s.mem, drawn := s.drawn, poison := s.poison, memCtl := s.memCtl, leaveQueue := s.leaveQueue } = s) ∧
    (exec (.getFeatures) s = .next t →
      RegsKept (fun n => blockOfPage n == 13 || blockOfPage n == 10 || n == pg 1 2) s t ∧ { t with recorder := s.recorder, regs := s.regs, out := s.out, msixPending := s.msixPending, hostMem := s.hostMem, mem := s.mem, drawn := s.drawn, poison := s.poison, memCtl := s.memCtl, leaveQueue := s.leaveQueue } = s) ∧
    (exec (.asynchronousEventRequest) s = .next t →
      RegsKept (fun n => blockOfPage n == 13 || blockOfPage n == 10 || n == pg 1 2) s t ∧ { t with recorder := s.recorder, regs := s.regs, out := s.out, msixPending := s.msixPending, hostMem := s.hostMem, mem := s.mem, drawn := s.drawn, poison := s.poison, memCtl := s.memCtl, leaveQueue := s.leaveQueue } = s) ∧
    (exec (.namespaceManagement) s = .next t →
      RegsKept (fun n => blockOfPage n == 13 || blockOfPage n == 10 || n == pg 1 2) s t ∧ { t with recorder := s.recorder, regs := s.regs, out := s.out, msixPending := s.msixPending, hostMem := s.hostMem, mem := s.mem, drawn := s.drawn, poison := s.poison, memCtl := s.memCtl, leaveQueue := s.leaveQueue } = s) ∧
    (exec (.namespaceAttachment) s = .next t →
      RegsKept (fun n => blockOfPage n == 13 || blockOfPage n == 10 || n == pg 1 2) s t ∧ { t with recorder := s.recorder, regs := s.regs, out := s.out, msixPending := s.msixPending, hostMem := s.hostMem, mem := s.mem, drawn := s.drawn, poison := s.poison, memCtl := s.memCtl, leaveQueue := s.leaveQueue } = s) ∧
    (exec (.flush) s = .next t →
      RegsKept (fun n => blockOfPage n == 13 || blockOfPage n == 10 || n == pg 1 2) s t ∧ { t with recorder := s.recorder, regs := s.regs, out := s.out, msixPending := s.msixPending, hostMem := s.hostMem, mem := s.mem, drawn := s.drawn, poison := s.poison, memCtl := s.memCtl, leaveQueue := s.leaveQueue } = s) ∧
    (exec (.write) s = .next t →
      RegsKept (fun n => blockOfPage n == 13 || blockOfPage n == 10 || n == pg 1 2) s t ∧ { t with recorder := s.recorder, regs := s.regs, out := s.out, msixPending := s.msixPending, hostMem := s.hostMem, mem := s.mem, drawn := s.drawn, poison := s.poison, memCtl := s.memCtl, leaveQueue := s.leaveQueue } = s) ∧
    (exec (.writeAdmit) s = .next t →
      RegsKept (fun n => blockOfPage n == 13 || blockOfPage n == 10 || n == pg 1 2) s t ∧ { t with recorder := s.recorder, regs := s.regs, out := s.out, msixPending := s.msixPending, hostMem := s.hostMem, mem := s.mem, drawn := s.drawn, poison := s.poison, memCtl := s.memCtl, leaveQueue := s.leaveQueue } = s) ∧
    (exec (.read) s = .next t →
      RegsKept (fun n => blockOfPage n == 13 || blockOfPage n == 10 || n == pg 1 2) s t ∧ { t with recorder := s.recorder, regs := s.regs, out := s.out, msixPending := s.msixPending, hostMem := s.hostMem, mem := s.mem, drawn := s.drawn, poison := s.poison, memCtl := s.memCtl, leaveQueue := s.leaveQueue } = s) ∧
    (exec (.compare) s = .next t →
      RegsKept (fun n => blockOfPage n == 13 || blockOfPage n == 10 || n == pg 1 2) s t ∧ { t with recorder := s.recorder, regs := s.regs, out := s.out, msixPending := s.msixPending, hostMem := s.hostMem, mem := s.mem, drawn := s.drawn, poison := s.poison, memCtl := s.memCtl, leaveQueue := s.leaveQueue } = s) ∧
    (exec (.compareAndWrite) s = .next t →
      RegsKept (fun n => blockOfPage n == 13 || blockOfPage n == 10 || n == pg 1 2) s t ∧ { t with recorder := s.recorder, regs := s.regs, out := s.out, msixPending := s.msixPending, hostMem := s.hostMem, mem := s.mem, drawn := s.drawn, poison := s.poison, memCtl := s.memCtl, leaveQueue := s.leaveQueue } = s) ∧
    (exec (.writeZeroes) s = .next t →
      RegsKept (fun n => blockOfPage n == 13 || blockOfPage n == 10 || n == pg 1 2) s t ∧ { t with recorder := s.recorder, regs := s.regs, out := s.out, msixPending := s.msixPending, hostMem := s.hostMem, mem := s.mem, drawn := s.drawn, poison := s.poison, memCtl := s.memCtl, leaveQueue := s.leaveQueue } = s) ∧
    (exec (.datasetManagement) s = .next t →
      RegsKept (fun n => blockOfPage n == 13 || blockOfPage n == 10 || n == pg 1 2) s t ∧ { t with recorder := s.recorder, regs := s.regs, out := s.out, msixPending := s.msixPending, hostMem := s.hostMem, mem := s.mem, drawn := s.drawn, poison := s.poison, memCtl := s.memCtl, leaveQueue := s.leaveQueue } = s) ∧
    (exec (.drain) s = .next t →
      RegsKept (fun n => blockOfPage n == 13 || blockOfPage n == 10 || n == pg 1 2) s t ∧ { t with recorder := s.recorder, regs := s.regs, out := s.out, msixPending := s.msixPending, hostMem := s.hostMem, mem := s.mem, drawn := s.drawn, poison := s.poison, memCtl := s.memCtl, leaveQueue := s.leaveQueue } = s) ∧
    (exec (.getLogPage) s = .next t →
      RegsKept (fun n => blockOfPage n == 13 || blockOfPage n == 10 || n == pg 1 2) s t ∧ { t with recorder := s.recorder, regs := s.regs, out := s.out, msixPending := s.msixPending, hostMem := s.hostMem, mem := s.mem, drawn := s.drawn, poison := s.poison, memCtl := s.memCtl, leaveQueue := s.leaveQueue } = s) ∧
    (∀ (q : Fin 65) (x : BitVec 16), exec (.sqTailDoorbell q x) s = .next t →
      RegsKept (fun n => blockOfPage n == 13 || blockOfPage n == 10 || n == pg 1 2) s t ∧ { t with recorder := s.recorder, regs := s.regs, out := s.out, msixPending := s.msixPending, hostMem := s.hostMem, mem := s.mem, drawn := s.drawn, poison := s.poison, memCtl := s.memCtl, leaveQueue := s.leaveQueue } = s) ∧
    (exec (.formatNvm) s = .next t →
      RegsKept (fun n => blockOfPage n == 13 || blockOfPage n == 10 || n == pg 1 2) s t ∧ { t with recorder := s.recorder, regs := s.regs, out := s.out, msixPending := s.msixPending, hostMem := s.hostMem, mem := s.mem, poison := s.poison, memCtl := s.memCtl, leaveQueue := s.leaveQueue } = s) ∧
    (exec (.sanitize) s = .next t →
      RegsKept (fun n => blockOfPage n == 13 || blockOfPage n == 10 || n == pg 1 2) s t ∧ { t with recorder := s.recorder, regs := s.regs, out := s.out, msixPending := s.msixPending, hostMem := s.hostMem, mem := s.mem, poison := s.poison, memCtl := s.memCtl, leaveQueue := s.leaveQueue } = s)

/-- It changes registers of MOT page 0 and of the axis' own page only, no byte of memory, no other axis, and nothing of any
other block. (spec: 15_lens_and_head_motion.md) -/
def Obligations.AxisCommandsFrame : Prop :=
  ∀ s t : State, SamplingOff s →
    (∀ (a : Fin 8), exec (.offsetCalDone a) s = .next t →
      RegsKept (fun n => n == pg 14 0 || n == pg 14 (a.val + 1)) s t ∧ MemoryKept s t ∧ (∀ q, q ≠ a.val → motAx t q = motAx s q) ∧ { t with mot := s.mot, regs := s.regs, inUse := s.inUse, held := s.held, out := s.out, msixPending := s.msixPending, drawn := s.drawn } = s) ∧
    (∀ (a : Fin 8), exec (.voltLimit a) s = .next t →
      RegsKept (fun n => n == pg 14 0 || n == pg 14 (a.val + 1)) s t ∧ MemoryKept s t ∧ (∀ q, q ≠ a.val → motAx t q = motAx s q) ∧ { t with mot := s.mot, regs := s.regs, inUse := s.inUse, held := s.held, out := s.out, msixPending := s.msixPending, drawn := s.drawn } = s) ∧
    (∀ (a : Fin 8), exec (.obsLost a) s = .next t →
      RegsKept (fun n => n == pg 14 0 || n == pg 14 (a.val + 1)) s t ∧ MemoryKept s t ∧ (∀ q, q ≠ a.val → motAx t q = motAx s q) ∧ { t with mot := s.mot, regs := s.regs, inUse := s.inUse, held := s.held, out := s.out, msixPending := s.msixPending, drawn := s.drawn } = s) ∧
    (∀ (a : Fin 8) (x : BitVec 16), exec (.reacqPulse a x) s = .next t →
      RegsKept (fun n => n == pg 14 0 || n == pg 14 (a.val + 1)) s t ∧ MemoryKept s t ∧ (∀ q, q ≠ a.val → motAx t q = motAx s q) ∧ { t with mot := s.mot, regs := s.regs, inUse := s.inUse, held := s.held, out := s.out, msixPending := s.msixPending, drawn := s.drawn } = s) ∧
    (∀ (a : Fin 8), exec (.reacqFail a) s = .next t →
      RegsKept (fun n => n == pg 14 0 || n == pg 14 (a.val + 1)) s t ∧ MemoryKept s t ∧ (∀ q, q ≠ a.val → motAx t q = motAx s q) ∧ { t with mot := s.mot, regs := s.regs, inUse := s.inUse, held := s.held, out := s.out, msixPending := s.msixPending, drawn := s.drawn } = s) ∧
    (∀ (a : Fin 8), exec (.brakeDelay a) s = .next t →
      RegsKept (fun n => n == pg 14 0 || n == pg 14 (a.val + 1)) s t ∧ MemoryKept s t ∧ (∀ q, q ≠ a.val → motAx t q = motAx s q) ∧ { t with mot := s.mot, regs := s.regs, inUse := s.inUse, held := s.held, out := s.out, msixPending := s.msixPending, drawn := s.drawn } = s) ∧
    (∀ (a : Fin 8), exec (.alignPhaseEnd a) s = .next t →
      RegsKept (fun n => n == pg 14 0 || n == pg 14 (a.val + 1)) s t ∧ MemoryKept s t ∧ (∀ q, q ≠ a.val → motAx t q = motAx s q) ∧ { t with mot := s.mot, regs := s.regs, inUse := s.inUse, held := s.held, out := s.out, msixPending := s.msixPending, drawn := s.drawn } = s) ∧
    (∀ (a : Fin 8) (l : Bool), exec (.gateFault a l) s = .next t →
      RegsKept (fun n => n == pg 14 0 || n == pg 14 (a.val + 1)) s t ∧ MemoryKept s t ∧ (∀ q, q ≠ a.val → motAx t q = motAx s q) ∧ { t with mot := s.mot, regs := s.regs, inUse := s.inUse, held := s.held, out := s.out, msixPending := s.msixPending, drawn := s.drawn } = s) ∧
    (∀ (a : Fin 8) (x y : Bool), exec (.qeiEdge a x y) s = .next t →
      RegsKept (fun n => n == pg 14 0 || n == pg 14 (a.val + 1)) s t ∧ MemoryKept s t ∧ (∀ q, q ≠ a.val → motAx t q = motAx s q) ∧ { t with mot := s.mot, regs := s.regs, inUse := s.inUse, held := s.held, out := s.out, msixPending := s.msixPending, drawn := s.drawn } = s) ∧
    (∀ (a : Fin 8), exec (.indexEdge a) s = .next t →
      RegsKept (fun n => n == pg 14 0 || n == pg 14 (a.val + 1)) s t ∧ MemoryKept s t ∧ (∀ q, q ≠ a.val → motAx t q = motAx s q) ∧ { t with mot := s.mot, regs := s.regs, inUse := s.inUse, held := s.held, out := s.out, msixPending := s.msixPending, drawn := s.drawn } = s) ∧
    (∀ (a : Fin 8), exec (.latchAt a) s = .next t →
      RegsKept (fun n => n == pg 14 0 || n == pg 14 (a.val + 1)) s t ∧ MemoryKept s t ∧ (∀ q, q ≠ a.val → motAx t q = motAx s q) ∧ { t with mot := s.mot, regs := s.regs, inUse := s.inUse, held := s.held, out := s.out, msixPending := s.msixPending, drawn := s.drawn } = s) ∧
    (∀ (a : Fin 8) (x : Bool) (r : BitVec 48) (y z : Bool) (c : Byte) (k : Nat), exec (.serialReadDone a x r y z c k) s = .next t →
      RegsKept (fun n => n == pg 14 0 || n == pg 14 (a.val + 1)) s t ∧ MemoryKept s t ∧ (∀ q, q ≠ a.val → motAx t q = motAx s q) ∧ { t with mot := s.mot, regs := s.regs, inUse := s.inUse, held := s.held, out := s.out, msixPending := s.msixPending, drawn := s.drawn } = s) ∧
    (∀ (who : Requester) (a : Fin 8), exec (.cmdRun who a) s = .next t →
      RegsKept (fun n => n == pg 14 0 || n == pg 14 (a.val + 1)) s t ∧ MemoryKept s t ∧ (∀ q, q ≠ a.val → motAx t q = motAx s q) ∧ { t with mot := s.mot, regs := s.regs, inUse := s.inUse, held := s.held, out := s.out, msixPending := s.msixPending, drawn := s.drawn } = s) ∧
    (∀ (who : Requester) (a : Fin 8), exec (.cmdHold who a) s = .next t →
      RegsKept (fun n => n == pg 14 0 || n == pg 14 (a.val + 1)) s t ∧ MemoryKept s t ∧ (∀ q, q ≠ a.val → motAx t q = motAx s q) ∧ { t with mot := s.mot, regs := s.regs, inUse := s.inUse, held := s.held, out := s.out, msixPending := s.msixPending, drawn := s.drawn } = s) ∧
    (∀ (who : Requester) (a : Fin 8), exec (.cmdOff who a) s = .next t →
      RegsKept (fun n => n == pg 14 0 || n == pg 14 (a.val + 1)) s t ∧ MemoryKept s t ∧ (∀ q, q ≠ a.val → motAx t q = motAx s q) ∧ { t with mot := s.mot, regs := s.regs, inUse := s.inUse, held := s.held, out := s.out, msixPending := s.msixPending, drawn := s.drawn } = s) ∧
    (∀ (who : Requester) (a : Fin 8), exec (.cmdAlign who a) s = .next t →
      RegsKept (fun n => n == pg 14 0 || n == pg 14 (a.val + 1)) s t ∧ MemoryKept s t ∧ (∀ q, q ≠ a.val → motAx t q = motAx s q) ∧ { t with mot := s.mot, regs := s.regs, inUse := s.inUse, held := s.held, out := s.out, msixPending := s.msixPending, drawn := s.drawn } = s) ∧
    (∀ (who : Requester) (a : Fin 8) (v : Word), exec (.setpointPush who a v) s = .next t →
      RegsKept (fun n => n == pg 14 0 || n == pg 14 (a.val + 1)) s t ∧ MemoryKept s t ∧ (∀ q, q ≠ a.val → motAx t q = motAx s q) ∧ { t with mot := s.mot, regs := s.regs, inUse := s.inUse, held := s.held, out := s.out, msixPending := s.msixPending, drawn := s.drawn } = s) ∧
    (∀ (who : Requester) (a : Fin 8) (v : Word), exec (.latchArm who a v) s = .next t →
      RegsKept (fun n => n == pg 14 0 || n == pg 14 (a.val + 1)) s t ∧ MemoryKept s t ∧ (∀ q, q ≠ a.val → motAx t q = motAx s q) ∧ { t with mot := s.mot, regs := s.regs, inUse := s.inUse, held := s.held, out := s.out, msixPending := s.msixPending, drawn := s.drawn } = s) ∧
    (∀ (who : Requester) (a : Fin 8) (v : Word), exec (.faultClear who a v) s = .next t →
      RegsKept (fun n => n == pg 14 0 || n == pg 14 (a.val + 1)) s t ∧ MemoryKept s t ∧ (∀ q, q ≠ a.val → motAx t q = motAx s q) ∧ { t with mot := s.mot, regs := s.regs, inUse := s.inUse, held := s.held, out := s.out, msixPending := s.msixPending, drawn := s.drawn } = s) ∧
    (∀ (a : Fin 8) (u v : List Bool), exec (.currentLoopTick a u v) s = .next t →
      RegsKept (fun n => n == pg 14 0 || n == pg 14 (a.val + 1)) s t ∧ MemoryKept s t ∧ (∀ q, q ≠ a.val → motAx t q = motAx s q) ∧ { t with mot := s.mot, sinc := s.sinc, regs := s.regs, inUse := s.inUse, out := s.out, msixPending := s.msixPending, drawn := s.drawn } = s)

/-- The ticks of motion, the upkeep of external memory, the queries and replies of tile ports, calibration ends, counter
snapshots, the token check and the repair of SRAM rows change registers of their own block only (and those that report
their leave, their record, or what MEM finds in what they read and write), no byte of memory that is not theirs to
write, and nothing of any other block. (spec: 15_lens_and_head_motion.md, 11_external_memory.md, 08_emorn_tile_link.md,
04_raw_stages.md, 20_counters_sampling_test_access.md, 19_faults_spares_and_power_loss.md) -/
def Obligations.BackgroundEventsFrame : Prop :=
  ∀ s t : State, SamplingOff s →
    (exec (.velocityTick) s = .next t →
      RegsKept (fun n => blockOfPage n == 14) s t ∧ MemoryKept s t ∧ { t with mot := s.mot, inUse := s.inUse, sinc := s.sinc, regs := s.regs, out := s.out, msixPending := s.msixPending } = s) ∧
    (exec (.positionTick) s = .next t →
      RegsKept (fun n => blockOfPage n == 14) s t ∧ MemoryKept s t ∧ { t with mot := s.mot, inUse := s.inUse, sinc := s.sinc, regs := s.regs, out := s.out, msixPending := s.msixPending } = s) ∧
    (∀ (k : Fin 36) (v : List Bool), exec (.filterOutput k v) s = .next t →
      RegsKept (fun n => blockOfPage n == 14) s t ∧ MemoryKept s t ∧ { t with mot := s.mot, inUse := s.inUse, sinc := s.sinc, regs := s.regs, out := s.out, msixPending := s.msixPending } = s) ∧
    (∀ (k : Fin 36), exec (.dsmLost k) s = .next t →
      RegsKept (fun n => blockOfPage n == 14) s t ∧ MemoryKept s t ∧ { t with mot := s.mot, inUse := s.inUse, sinc := s.sinc, regs := s.regs, out := s.out, msixPending := s.msixPending } = s) ∧
    (∀ (x : Bool), exec (.mr4Poll x) s = .next t →
      RegsKept (fun n => blockOfPage n == 10) s t ∧ MemoryKept s t ∧ { t with memCtl := s.memCtl, regs := s.regs, out := s.out, msixPending := s.msixPending } = s) ∧
    (∀ (c : Fin 12) (r : Fin 3), exec (.refresh c r) s = .next t →
      RegsKept (fun n => blockOfPage n == 10) s t ∧ MemoryKept s t ∧ { t with memCtl := s.memCtl, regs := s.regs, out := s.out, msixPending := s.msixPending } = s) ∧
    (exec (.memSelfrefEntry) s = .next t →
      RegsKept (fun n => blockOfPage n == 10) s t ∧ MemoryKept s t ∧ { t with memCtl := s.memCtl, regs := s.regs, out := s.out, msixPending := s.msixPending } = s) ∧
    (∀ (c : Fin 12), exec (.channelRetrain c) s = .next t →
      RegsKept (fun n => blockOfPage n == 10 || n == pg 1 2) s t ∧ MemoryKept s t ∧ { t with memCtl := s.memCtl, leaveQueue := s.leaveQueue, regs := s.regs, out := s.out, msixPending := s.msixPending } = s) ∧
    (∀ (c : Fin 12) (x y z w : Byte), exec (.marginCheck c x y z w) s = .next t →
      RegsKept (fun n => blockOfPage n == 10 || n == pg 1 2) s t ∧ MemoryKept s t ∧ { t with memCtl := s.memCtl, leaveQueue := s.leaveQueue, regs := s.regs, out := s.out, msixPending := s.msixPending } = s) ∧
    (∀ (x : BitVec 48) (e : List DqError), exec (.patrolScrub x e) s = .next t →
      RegsKept (fun n => blockOfPage n == 10 || n == pg 1 2) s t ∧ (s.memCtl.queue = [] → symbolsHit e ≤ 12 → MemoryKept s t) ∧ { t with memCtl := s.memCtl, leaveQueue := s.leaveQueue, regs := s.regs, out := s.out, msixPending := s.msixPending, poison := s.poison, drawn := s.drawn, mem := s.mem } = s) ∧
    (∀ (p : Fin 16), exec (.querySend p) s = .next t →
      RegsKept (fun n => n == pg 6 p.val || blockOfPage n == 10 || n == pg 1 2) s t ∧ (∀ q, q ≠ p.val → tlkAt t q = tlkAt s q) ∧ { t with tlk := s.tlk, regs := s.regs, out := s.out, msixPending := s.msixPending, mem := s.mem, hostMem := s.hostMem, drawn := s.drawn, poison := s.poison, memCtl := s.memCtl, leaveQueue := s.leaveQueue } = s) ∧
    (∀ (p : Fin 16), exec (.replyTimeout p) s = .next t →
      RegsKept (fun n => n == pg 6 p.val || blockOfPage n == 10 || n == pg 1 2) s t ∧ (∀ q, q ≠ p.val → tlkAt t q = tlkAt s q) ∧ { t with tlk := s.tlk, regs := s.regs, out := s.out, msixPending := s.msixPending, mem := s.mem, hostMem := s.hostMem, drawn := s.drawn, poison := s.poison, memCtl := s.memCtl, leaveQueue := s.leaveQueue } = s) ∧
    (∀ (p : Fin 16) (k : Packet) (x : Nat), exec (.reply p k x) s = .next t →
      RegsKept (fun n => n == pg 6 p.val || blockOfPage n == 5 || blockOfPage n == 10 || n == pg 1 2) s t ∧ (∀ q, q ≠ p.val → tlkAt t q = tlkAt s q) ∧ { t with tlk := s.tlk, pho := s.pho, regs := s.regs, out := s.out, msixPending := s.msixPending, mem := s.mem, hostMem := s.hostMem, drawn := s.drawn, poison := s.poison, memCtl := s.memCtl, leaveQueue := s.leaveQueue } = s) ∧
    (∀ (p : Fin 2), exec (.calDone p) s = .next t →
      RegsKept (fun n => blockOfPage n == 3 || blockOfPage n == 10 || n == pg 1 2) s t ∧ (∀ y, memByte t true y = memByte s true y) ∧ (∀ q, q ≠ p.val → clrAt t q = clrAt s q) ∧ { t with clr := s.clr, regs := s.regs, out := s.out, msixPending := s.msixPending, mem := s.mem, hostMem := s.hostMem, poison := s.poison, memCtl := s.memCtl, leaveQueue := s.leaveQueue } = s) ∧
    (∀ (x y : Bool), exec (.knownAnswerTestDone x y) s = .next t →
      RegsKept (fun n => blockOfPage n == 3) s t ∧ MemoryKept s t ∧ { t with clrSpare := s.clrSpare, regs := s.regs, out := s.out, msixPending := s.msixPending } = s) ∧
    (exec (.snapshot) s = .next t →
      RegsKept (fun n => blockOfPage n == 17) s t ∧ MemoryKept s t ∧ { t with cnt := s.cnt, regs := s.regs, out := s.out, msixPending := s.msixPending } = s) ∧
    (exec (.snapshotRecordDone) s = .next t →
      RegsKept (fun n => blockOfPage n == 17 || blockOfPage n == 10 || n == pg 1 2) s t ∧ { t with cnt := s.cnt, regs := s.regs, out := s.out, msixPending := s.msixPending, mem := s.mem, hostMem := s.hostMem, poison := s.poison, memCtl := s.memCtl, leaveQueue := s.leaveQueue } = s) ∧
    (exec (.tokenVerifyDone) s = .next t →
      RegsKept (fun n => blockOfPage n == 18) s t ∧ MemoryKept s t ∧ { t with dbg := s.dbg, regs := s.regs, out := s.out, msixPending := s.msixPending } = s) ∧
    (∀ (m r : Nat), exec (.sramCorrectedError m r) s = .next t →
      RegsKept (fun n => n == pg 1 4) s t ∧ MemoryKept s t ∧ { t with plt := s.plt, logLost := s.logLost, logLostFirst := s.logLostFirst, logLostLast := s.logLostLast, logQueue := s.logQueue, regs := s.regs, out := s.out, msixPending := s.msixPending } = s)

/-- A command of bus b changes registers of its own page only, no byte of memory, no other bus, and nothing of any other
block. (spec: 16_audio_and_two_wire_buses.md) -/
def Obligations.TwoWireCommandsFrame : Prop :=
  ∀ s t : State, SamplingOff s →
    (∀ (b : Fin 4), exec (.twiRetry b) s = .next t →
      RegsKept (fun n => n == pg 16 b) s t ∧ MemoryKept s t ∧ (∀ q, q ≠ b.val → twiAt t q = twiAt s q) ∧ { t with twi := s.twi, regs := s.regs, held := s.held, out := s.out, msixPending := s.msixPending } = s) ∧
    (∀ (b : Fin 4), exec (.stretchTimeout b) s = .next t →
      RegsKept (fun n => n == pg 16 b) s t ∧ MemoryKept s t ∧ (∀ q, q ≠ b.val → twiAt t q = twiAt s q) ∧ { t with twi := s.twi, regs := s.regs, held := s.held, out := s.out, msixPending := s.msixPending } = s) ∧
    (∀ (b : Fin 4) (x y : Bool), exec (.busStuck b x y) s = .next t →
      RegsKept (fun n => n == pg 16 b) s t ∧ MemoryKept s t ∧ (∀ q, q ≠ b.val → twiAt t q = twiAt s q) ∧ { t with twi := s.twi, regs := s.regs, held := s.held, out := s.out, msixPending := s.msixPending } = s) ∧
    (∀ (b : Fin 4) (x y : Bool), exec (.busFree b x y) s = .next t →
      RegsKept (fun n => n == pg 16 b) s t ∧ MemoryKept s t ∧ (∀ q, q ≠ b.val → twiAt t q = twiAt s q) ∧ { t with twi := s.twi, regs := s.regs, held := s.held, out := s.out, msixPending := s.msixPending } = s) ∧
    (∀ (b : Fin 4) (r : TwiEnd), exec (.twiTransferDone b r) s = .next t →
      RegsKept (fun n => n == pg 16 b) s t ∧ MemoryKept s t ∧ (∀ q, q ≠ b.val → twiAt t q = twiAt s q) ∧ { t with twi := s.twi, regs := s.regs, held := s.held, out := s.out, msixPending := s.msixPending } = s) ∧
    (∀ (b : Fin 4) (d : List Byte) (k : Nat), exec (.targetAddressed b d k) s = .next t →
      RegsKept (fun n => n == pg 16 b) s t ∧ MemoryKept s t ∧ (∀ q, q ≠ b.val → twiAt t q = twiAt s q) ∧ { t with twi := s.twi, regs := s.regs, held := s.held, out := s.out, msixPending := s.msixPending } = s) ∧
    (∀ (b : Fin 4), exec (.tgtStretchExpiry b) s = .next t →
      RegsKept (fun n => n == pg 16 b) s t ∧ MemoryKept s t ∧ (∀ q, q ≠ b.val → twiAt t q = twiAt s q) ∧ { t with twi := s.twi, regs := s.regs, held := s.held, out := s.out, msixPending := s.msixPending } = s) ∧
    (∀ (who : Requester) (b : Fin 4) (v : Word) (x y : Bool), exec (.twiGo who b v x y) s = .next t →
      RegsKept (fun n => n == pg 16 b) s t ∧ MemoryKept s t ∧ (∀ q, q ≠ b.val → twiAt t q = twiAt s q) ∧ { t with twi := s.twi, regs := s.regs, held := s.held, out := s.out, msixPending := s.msixPending } = s) ∧
    (∀ (who : Requester) (b : Fin 4) (v : Word), exec (.tgtTxPush who b v) s = .next t →
      RegsKept (fun n => n == pg 16 b) s t ∧ MemoryKept s t ∧ (∀ q, q ≠ b.val → twiAt t q = twiAt s q) ∧ { t with twi := s.twi, regs := s.regs, held := s.held, out := s.out, msixPending := s.msixPending } = s) ∧
    (∀ (who : Requester) (b : Fin 4), exec (.tgtRxPop who b) s = .next t →
      RegsKept (fun n => n == pg 16 b) s t ∧ MemoryKept s t ∧ (∀ q, q ≠ b.val → twiAt t q = twiAt s q) ∧ { t with twi := s.twi, regs := s.regs, held := s.held, out := s.out, msixPending := s.msixPending } = s)

/-- ARM, STOP and the loss of the clock change registers of their own port page only and no other port; a DCO update changes
no port, and registers of page 0 only; nothing of any other block changes. (spec: 16_audio_and_two_wire_buses.md) -/
def Obligations.AudioCommandsFrame : Prop :=
  ∀ s t : State, SamplingOff s →
    (∀ (who : Requester) (p : Fin 4) (v : Word), exec (.audArm who p v) s = .next t →
      RegsKept (fun n => n == pg 15 (p.val + 1)) s t ∧ (∀ q, q ≠ p.val → audAt t q = audAt s q) ∧ { t with aud := s.aud, regs := s.regs, held := s.held, out := s.out, msixPending := s.msixPending, mem := s.mem, hostMem := s.hostMem, poison := s.poison } = s) ∧
    (∀ (who : Requester) (p : Fin 4) (v : Word), exec (.audStop who p v) s = .next t →
      RegsKept (fun n => n == pg 15 (p.val + 1)) s t ∧ (∀ q, q ≠ p.val → audAt t q = audAt s q) ∧ { t with aud := s.aud, regs := s.regs, held := s.held, out := s.out, msixPending := s.msixPending, mem := s.mem, hostMem := s.hostMem, poison := s.poison } = s) ∧
    (∀ (p : Fin 4), exec (.audClockLoss p) s = .next t →
      RegsKept (fun n => n == pg 15 (p.val + 1)) s t ∧ (∀ q, q ≠ p.val → audAt t q = audAt s q) ∧ { t with aud := s.aud, regs := s.regs, held := s.held, out := s.out, msixPending := s.msixPending, mem := s.mem, hostMem := s.hostMem, poison := s.poison } = s) ∧
    (exec (.dcoUpdate) s = .next t →
      RegsKept (fun n => n == pg 15 0) s t ∧ MemoryKept s t ∧ { t with aud := s.aud, audGood := s.audGood, regs := s.regs, out := s.out, msixPending := s.msixPending } = s) ∧
    (∀ (p : Fin 4) (x y : Nat) (d : List Bool), exec (.audFrame p x y d) s = .next t →
      RegsKept (fun n => n == pg 15 (p.val + 1) || blockOfPage n == 10 || n == pg 1 2) s t ∧ (∀ q, q ≠ p.val → audAt t q = audAt s q) ∧ { t with aud := s.aud, regs := s.regs, out := s.out, msixPending := s.msixPending, mem := s.mem, hostMem := s.hostMem, poison := s.poison, memCtl := s.memCtl, leaveQueue := s.leaveQueue } = s)

/-- They change registers of PLT page 1 only and no memory; a command changes no byte of flash, the end of an operation none
outside the bytes it programs or erases, and a boot record none outside the two 64 KiB copies. (spec:
17_startup_reset_charts_firmware.md) -/
def Obligations.FlashCommandsFrame : Prop :=
  ∀ s t : State, SamplingOff s →
    (∀ (who : Requester) (v : Word), exec (.flashRead who v) s = .next t →
      RegsKept (fun n => n == pg 1 1) s t ∧ MemoryKept s t ∧ t.plt.flash = s.plt.flash ∧ { t with regs := s.regs, held := s.held, out := s.out, msixPending := s.msixPending, plt := s.plt } = s) ∧
    (∀ (who : Requester) (v : Word), exec (.flashProgram who v) s = .next t →
      RegsKept (fun n => n == pg 1 1) s t ∧ MemoryKept s t ∧ t.plt.flash = s.plt.flash ∧ { t with regs := s.regs, held := s.held, out := s.out, msixPending := s.msixPending, plt := s.plt } = s) ∧
    (∀ (who : Requester) (v : Word), exec (.flashErase who v) s = .next t →
      RegsKept (fun n => n == pg 1 1) s t ∧ MemoryKept s t ∧ t.plt.flash = s.plt.flash ∧ { t with regs := s.regs, held := s.held, out := s.out, msixPending := s.msixPending, plt := s.plt } = s) ∧
    (∀ (who : Requester) (v : Word), exec (.fwSlotWrite who v) s = .next t →
      RegsKept (fun n => n == pg 1 1) s t ∧ MemoryKept s t ∧ t.plt.flash = s.plt.flash ∧ { t with regs := s.regs, held := s.held, out := s.out, msixPending := s.msixPending, plt := s.plt } = s) ∧
    (∀ (who : Requester) (v : Word), exec (.settingsSlotWrite who v) s = .next t →
      RegsKept (fun n => n == pg 1 1) s t ∧ MemoryKept s t ∧ t.plt.flash = s.plt.flash ∧ { t with regs := s.regs, held := s.held, out := s.out, msixPending := s.msixPending, plt := s.plt } = s) ∧
    (∀ (ok : Bool) (o : FlashOp), exec (.flashDone ok) s = .next t →
      RegsKept (fun n => n == pg 1 1) s t ∧ MemoryKept s t ∧ { t with regs := s.regs, out := s.out, msixPending := s.msixPending, plt := s.plt, drawn := s.drawn } = s ∧ (s.plt.flashOp = some o → ∀ x, (x < o.addr ∨ o.addr + (if o.op < 2 then 256 else 65536) ≤ x) → o.data.length ≤ 256 → flashByte t x = flashByte s x) ∧ (s.plt.flashOp = none → t = s)) ∧
    (exec (.bootRecordWritten) s = .next t →
      RegsKept (fun n => n == pg 1 1) s t ∧ MemoryKept s t ∧ { t with regs := s.regs, out := s.out, msixPending := s.msixPending, plt := s.plt } = s ∧ (∀ x, 0x20000 ≤ x → flashByte t x = flashByte s x))

/-- A hold-up measurement and the return of main power change registers of PLT page 4 only and no memory; watchdog kicks
those of page 0; a reading of the peak those of page 3. (spec: 19_faults_spares_and_power_loss.md,
17_startup_reset_charts_firmware.md, 18_power_leave_and_die_temperature.md) -/
def Obligations.HoldUpFrame : Prop :=
  ∀ s t : State, SamplingOff s →
    (exec (.holdTest) s = .next t →
      RegsKept (fun n => n == pg 1 4) s t ∧ MemoryKept s t ∧ { t with plt := s.plt, regs := s.regs, held := s.held, out := s.out, msixPending := s.msixPending, drawn := s.drawn } = s) ∧
    (∀ (x y : Nat), exec (.holdTestDischarge x y) s = .next t →
      RegsKept (fun n => n == pg 1 4) s t ∧ MemoryKept s t ∧ { t with plt := s.plt, regs := s.regs, held := s.held, out := s.out, msixPending := s.msixPending, drawn := s.drawn } = s) ∧
    (∀ (x : Nat), exec (.holdTestDone x) s = .next t →
      RegsKept (fun n => n == pg 1 4) s t ∧ MemoryKept s t ∧ { t with plt := s.plt, regs := s.regs, held := s.held, out := s.out, msixPending := s.msixPending, drawn := s.drawn } = s) ∧
    (exec (.mainPowerGood) s = .next t →
      RegsKept (fun n => n == pg 1 4) s t ∧ MemoryKept s t ∧ { t with plt := s.plt, regs := s.regs, held := s.held, out := s.out, msixPending := s.msixPending, drawn := s.drawn } = s) ∧
    (∀ (who : Requester) (v : Word), exec (.holdTestNow who v) s = .next t →
      RegsKept (fun n => n == pg 1 4) s t ∧ MemoryKept s t ∧ { t with plt := s.plt, regs := s.regs, held := s.held, out := s.out, msixPending := s.msixPending, drawn := s.drawn } = s) ∧
    (∀ (who : Requester) (v : Word), exec (.wdogBinKick who v) s = .next t →
      RegsKept (fun n => n == pg 1 0) s t ∧ MemoryKept s t ∧ { t with plt := s.plt, regs := s.regs, held := s.held, out := s.out, msixPending := s.msixPending } = s) ∧
    (∀ (who : Requester) (v : Word), exec (.wdogHostKick who v) s = .next t →
      RegsKept (fun n => n == pg 1 0) s t ∧ MemoryKept s t ∧ { t with plt := s.plt, regs := s.regs, held := s.held, out := s.out, msixPending := s.msixPending } = s) ∧
    (∀ (who : Requester), exec (.pltThermPeakRead who) s = .next t →
      RegsKept (fun n => n == pg 1 3) s t ∧ MemoryKept s t ∧ { t with plt := s.plt, regs := s.regs, out := s.out } = s) ∧
    (exec (.leaveTimeout) s = .next t →
      MemoryKept s t ∧ { t with leaveQueue := s.leaveQueue, regs := s.regs, out := s.out, msixPending := s.msixPending } = s)

/-- The public instructions and the halting and stepping of the Binnacle change no register, no memory, and nothing but the
scan state and the halt. (spec: 20_counters_sampling_test_access.md) -/
def Obligations.JtagInstructionsFrame : Prop :=
  ∀ s t : State, SamplingOff s →
    (∀ (d : List Bool), exec (.bypass d) s = .next t →
      RegsKept (fun n => false) s t ∧ MemoryKept s t ∧ { t with dbg := s.dbg, out := s.out, plt := { t.plt with halted := s.plt.halted } } = s ∧ { t.dbg with jtag := s.dbg.jtag, boundary := s.dbg.boundary } = s.dbg) ∧
    (exec (.idcode) s = .next t →
      RegsKept (fun n => false) s t ∧ MemoryKept s t ∧ { t with dbg := s.dbg, out := s.out, plt := { t.plt with halted := s.plt.halted } } = s ∧ { t.dbg with jtag := s.dbg.jtag, boundary := s.dbg.boundary } = s.dbg) ∧
    (∀ (x y : List Bool), exec (.samplePreload x y) s = .next t →
      RegsKept (fun n => false) s t ∧ MemoryKept s t ∧ { t with dbg := s.dbg, out := s.out, plt := { t.plt with halted := s.plt.halted } } = s ∧ { t.dbg with jtag := s.dbg.jtag, boundary := s.dbg.boundary } = s.dbg) ∧
    (∀ (x y : List Bool), exec (.extest x y) s = .next t →
      RegsKept (fun n => false) s t ∧ MemoryKept s t ∧ { t with dbg := s.dbg, out := s.out, plt := { t.plt with halted := s.plt.halted } } = s ∧ { t.dbg with jtag := s.dbg.jtag, boundary := s.dbg.boundary } = s.dbg) ∧
    (exec (.binnacleHalt) s = .next t →
      RegsKept (fun n => false) s t ∧ MemoryKept s t ∧ { t with dbg := s.dbg, out := s.out, plt := { t.plt with halted := s.plt.halted } } = s ∧ { t.dbg with jtag := s.dbg.jtag, boundary := s.dbg.boundary } = s.dbg) ∧
    (exec (.binnacleStep) s = .next t →
      RegsKept (fun n => false) s t ∧ MemoryKept s t ∧ { t with dbg := s.dbg, out := s.out, plt := { t.plt with halted := s.plt.halted } } = s ∧ { t.dbg with jtag := s.dbg.jtag, boundary := s.dbg.boundary } = s.dbg)
end

