-- ==== Sys2Proof/Laws/Sparse.lean ====
section
/-! SUPPORT. Laws of the sparse map: reading after writing, and that every write keeps the canonical form. -/

namespace Sys2Proof.Laws

open Sys2Proof.Machine

variable {α : Type}

theorem smGet_smDel_same (d : α) (m : List (Nat × α)) (k : Nat) : smGet d (smDel m k) k = d := by
  induction m with
  | nil => rfl
  | cons e m ih =>
    obtain ⟨k', v⟩ := e
    by_cases h : k' = k
    · simp [smDel, h, ih]
    · simp [smDel, smGet, h, ih]

theorem smGet_smDel_other (d : α) (m : List (Nat × α)) {k j : Nat} (h : j ≠ k) : smGet d (smDel m k) j = smGet d m j := by
  induction m with
  | nil => rfl
  | cons e m ih =>
    obtain ⟨k', v⟩ := e
    unfold smDel
    split
    · rename_i hk
      have : k' ≠ j := fun e => h (e.symm.trans hk)
      simp [smGet, this, ih]
    · by_cases hj : k' = j <;> simp [smGet, hj, ih]

theorem smGet_smPut_same (d : α) (m : List (Nat × α)) (k : Nat) (v : α) : smGet d (smPut m k v) k = v := by
  induction m with
  | nil => simp [smPut, smGet]
  | cons e m ih =>
    obtain ⟨k', v'⟩ := e
    unfold smPut
    split
    · simp [smGet]
    · split
      · simp [smGet]
      · rename_i h
        have : k' ≠ k := fun e => h e.symm
        simp [smGet, this, ih]

theorem smGet_smPut_other (d : α) (m : List (Nat × α)) {k j : Nat} (v : α) (h : j ≠ k) :
    smGet d (smPut m k v) j = smGet d m j := by
  have hk : k ≠ j := fun e => h e.symm
  induction m with
  | nil => simp [smPut, smGet, hk]
  | cons e m ih =>
    obtain ⟨k', v'⟩ := e
    unfold smPut
    split
    · simp [smGet, hk]
    · split
      · rename_i h'
        subst h'
        simp [smGet, hk]
      · by_cases hj : k' = j <;> simp [smGet, hj, ih]

/-- A key reads what was last written to it. -/
@[simp] theorem smGet_smSet_same [DecidableEq α] (d : α) (m : List (Nat × α)) (k : Nat) (v : α) :
    smGet d (smSet d m k v) k = v := by
  unfold smSet
  split
  · rename_i h
    rw [smGet_smDel_same, h]
  · exact smGet_smPut_same d m k v

/-- A write leaves every other key as it was, whatever unlisted keys read as. -/
theorem smGet_smSet_other [DecidableEq α] (c d : α) (m : List (Nat × α)) {k j : Nat} (v : α) (h : j ≠ k) :
    smGet c (smSet d m k v) j = smGet c m j := by
  unfold smSet
  split
  · exact smGet_smDel_other c m h
  · exact smGet_smPut_other c m v h

/-! ### The canonical form -/

/-- Every key of the map lies above `k`. -/
def Above (k : Nat) (m : List (Nat × α)) : Prop := ∀ e ∈ m, k < e.1

theorem smSorted_cons (k : Nat) (v : α) (m : List (Nat × α)) : smSorted ((k, v) :: m) = true ↔ Above k m ∧ smSorted m = true := by
  induction m generalizing k v with
  | nil => simp [smSorted, Above]
  | cons e m ih =>
    obtain ⟨k', v'⟩ := e
    constructor
    · intro h
      simp only [smSorted, Bool.and_eq_true, decide_eq_true_eq] at h
      refine ⟨?_, h.2⟩
      intro x hx
      rcases List.mem_cons.1 hx with rfl | hx
      · exact h.1
      · exact Nat.lt_trans h.1 (((ih k' v').1 h.2).1 x hx)
    · intro h
      simp only [smSorted, Bool.and_eq_true, decide_eq_true_eq]
      exact ⟨h.1 (k', v') (List.mem_cons_self ..), h.2⟩

theorem above_smDel {j k : Nat} {m : List (Nat × α)} (h : Above j m) : Above j (smDel m k) := by
  induction m with
  | nil => exact h
  | cons e m ih =>
    obtain ⟨k', v⟩ := e
    have ht : Above j m := fun x hx => h x (List.mem_cons_of_mem _ hx)
    unfold smDel
    split
    · exact ih ht
    · intro x hx
      rcases List.mem_cons.1 hx with rfl | hx
      · exact h _ (List.mem_cons_self ..)
      · exact ih ht x hx

theorem above_smPut {j k : Nat} {v : α} {m : List (Nat × α)} (hj : j < k) (h : Above j m) : Above j (smPut m k v) := by
  induction m with
  | nil =>
    intro x hx
    simp only [smPut, List.mem_singleton] at hx
    subst hx
    exact hj
  | cons e m ih =>
    obtain ⟨k', v'⟩ := e
    have ht : Above j m := fun x hx => h x (List.mem_cons_of_mem _ hx)
    unfold smPut
    split
    · intro x hx
      rcases List.mem_cons.1 hx with rfl | hx
      · exact hj
      · exact h x hx
    · split
      · intro x hx
        rcases List.mem_cons.1 hx with rfl | hx
        · exact hj
        · exact ht x hx
      · intro x hx
        rcases List.mem_cons.1 hx with rfl | hx
        · exact h _ (List.mem_cons_self ..)
        · exact ih ht x hx

theorem smSorted_smDel {k : Nat} {m : List (Nat × α)} (h : smSorted m = true) : smSorted (smDel m k) = true := by
  induction m with
  | nil => rfl
  | cons e m ih =>
    obtain ⟨k', v⟩ := e
    have hs := (smSorted_cons k' v m).1 h
    unfold smDel
    split
    · exact ih hs.2
    · exact (smSorted_cons ..).2 ⟨above_smDel hs.1, ih hs.2⟩

theorem smSorted_smPut {k : Nat} {v : α} {m : List (Nat × α)} (h : smSorted m = true) : smSorted (smPut m k v) = true := by
  induction m with
  | nil => rfl
  | cons e m ih =>
    obtain ⟨k', v'⟩ := e
    have hs := (smSorted_cons k' v' m).1 h
    unfold smPut
    split
    · rename_i hlt
      refine (smSorted_cons ..).2 ⟨?_, h⟩
      intro x hx
      rcases List.mem_cons.1 hx with rfl | hx
      · exact hlt
      · exact Nat.lt_trans hlt (hs.1 x hx)
    · split
      · rename_i he
        subst he
        exact (smSorted_cons ..).2 hs
      · rename_i h1 h2
        exact (smSorted_cons ..).2 ⟨above_smPut (by omega) hs.1, ih hs.2⟩

theorem mem_smDel {e : Nat × α} {k : Nat} {m : List (Nat × α)} (h : e ∈ smDel m k) : e ∈ m := by
  induction m with
  | nil => exact h
  | cons x m ih =>
    obtain ⟨k', v⟩ := x
    unfold smDel at h
    split at h
    · exact List.mem_cons_of_mem _ (ih h)
    · rcases List.mem_cons.1 h with rfl | h
      · exact List.mem_cons_self ..
      · exact List.mem_cons_of_mem _ (ih h)

theorem mem_smPut {e : Nat × α} {k : Nat} {v : α} {m : List (Nat × α)} (h : e ∈ smPut m k v) : e = (k, v) ∨ e ∈ m := by
  induction m with
  | nil => exact Or.inl (List.mem_singleton.1 h)
  | cons x m ih =>
    obtain ⟨k', v'⟩ := x
    unfold smPut at h
    split at h
    · exact List.mem_cons.1 h
    · split at h
      · rcases List.mem_cons.1 h with h | h
        · exact Or.inl h
        · exact Or.inr (List.mem_cons_of_mem _ h)
      · rcases List.mem_cons.1 h with rfl | h
        · exact Or.inr (List.mem_cons_self ..)
        · exact (ih h).imp id (List.mem_cons_of_mem _)

theorem smCanon_iff [DecidableEq α] (d : Nat → α) (m : List (Nat × α)) :
    smCanon d m = true ↔ smSorted m = true ∧ ∀ e ∈ m, e.2 ≠ d e.1 := by
  simp [smCanon, List.all_eq_true]

/-- Putting a value other than the default keeps the canonical form. -/
theorem smCanon_smPut [DecidableEq α] {d : Nat → α} {m : List (Nat × α)} {k : Nat} {v : α}
    (h : smCanon d m = true) (hv : v ≠ d k) : smCanon d (smPut m k v) = true := by
  rw [smCanon_iff] at h ⊢
  refine ⟨smSorted_smPut h.1, ?_⟩
  intro e he
  rcases mem_smPut he with rfl | he
  · exact hv
  · exact h.2 e he

/-- Every write keeps the canonical form. -/
theorem smCanon_smSet [DecidableEq α] {d : Nat → α} {m : List (Nat × α)} (k : Nat) (v : α)
    (h : smCanon d m = true) : smCanon d (smSet (d k) m k v) = true := by
  unfold smSet
  split
  · rw [smCanon_iff] at h ⊢
    exact ⟨smSorted_smDel h.1, fun e he => h.2 e (mem_smDel he)⟩
  · rename_i hv
    exact smCanon_smPut h hv

/-- A part of a canonical map is canonical. -/
theorem smCanon_filter [DecidableEq α] {d : Nat → α} {m : List (Nat × α)} (p : Nat × α → Bool)
    (h : smCanon d m = true) : smCanon d (m.filter p) = true := by
  induction m with
  | nil => rfl
  | cons e m ih =>
    obtain ⟨k, v⟩ := e
    rw [smCanon_iff] at h
    have hs := (smSorted_cons k v m).1 h.1
    have hm : smCanon d m = true := (smCanon_iff ..).2 ⟨hs.2, fun e he => h.2 e (List.mem_cons_of_mem _ he)⟩
    rw [List.filter_cons]
    split
    · have ih' := (smCanon_iff ..).1 (ih hm)
      refine (smCanon_iff ..).2 ⟨(smSorted_cons ..).2 ⟨?_, ih'.1⟩, ?_⟩
      · intro x hx
        exact hs.1 x (List.mem_filter.1 hx).1
      · intro x hx
        rcases List.mem_cons.1 hx with rfl | hx
        · exact h.2 _ (List.mem_cons_self ..)
        · exact ih'.2 x hx
    · exact ih hm

end Sys2Proof.Laws
end

