-- ==== Sys2Proof/Laws/State.lean ====
section
/-! SUPPORT. Every field of the state after each single-field update: the updated one, and all the others, which stay. -/

namespace Sys2Proof.Laws

open Sys2Proof.Machine

variable (s : State)

@[simp] theorem rset_regs (addr : Nat) (v : Word) : (rset addr v s).regs = smSet (coldWord addr) s.regs addr v := rfl

@[simp] theorem rset_others (addr : Nat) (v : Word) :
    (rset addr v s).code = s.code ∧ (rset addr v s).now = s.now ∧ (rset addr v s).meridian = s.meridian ∧
    (rset addr v s).inUse = s.inUse ∧ (rset addr v s).held = s.held ∧ (rset addr v s).latch = s.latch ∧
    (rset addr v s).resetting = s.resetting ∧ (rset addr v s).warmBegun = s.warmBegun ∧
    (rset addr v s).fabricOpen = s.fabricOpen ∧ (rset addr v s).msixOn = s.msixOn ∧ (rset addr v s).msixPending = s.msixPending ∧
    (rset addr v s).drawn = s.drawn ∧ (rset addr v s).mem = s.mem ∧ (rset addr v s).hostMem = s.hostMem ∧
    (rset addr v s).poison = s.poison ∧ (rset addr v s).leaveQueue = s.leaveQueue ∧ (rset addr v s).leaveGrants = s.leaveGrants ∧
    (rset addr v s).logQueue = s.logQueue ∧ (rset addr v s).logLost = s.logLost ∧ (rset addr v s).logLostFirst = s.logLostFirst ∧
    (rset addr v s).logLostLast = s.logLostLast ∧ (rset addr v s).siu = s.siu ∧ (rset addr v s).clr = s.clr ∧
    (rset addr v s).clrSpare = s.clrSpare ∧ (rset addr v s).cnv = s.cnv ∧ (rset addr v s).pho = s.pho ∧
    (rset addr v s).tlk = s.tlk ∧ (rset addr v s).tlkLastId = s.tlkLastId ∧ (rset addr v s).warmStart = s.warmStart ∧
    (rset addr v s).cas = s.cas ∧ (rset addr v s).lan = s.lan ∧ (rset addr v s).lanRelease = s.lanRelease ∧
    (rset addr v s).pcie = s.pcie ∧ (rset addr v s).memCtl = s.memCtl ∧ (rset addr v s).cmp = s.cmp ∧
    (rset addr v s).recorder = s.recorder ∧ (rset addr v s).cod = s.cod ∧ (rset addr v s).mot = s.mot ∧
    (rset addr v s).sinc = s.sinc ∧ (rset addr v s).aud = s.aud ∧ (rset addr v s).audGood = s.audGood ∧
    (rset addr v s).twi = s.twi ∧ (rset addr v s).plt = s.plt ∧ (rset addr v s).cnt = s.cnt ∧ (rset addr v s).dbg = s.dbg ∧
    (rset addr v s).stopped = s.stopped ∧ (rset addr v s).taiPending = s.taiPending ∧ (rset addr v s).tLast = s.tLast ∧
    (rset addr v s).out = s.out ∧ (rset addr v s).pending = s.pending := by
  and_intros <;> rfl

@[simp] theorem uset_inUse (addr : Nat) (v : Word) : (uset addr v s).inUse = smSet (coldWord addr) s.inUse addr v := rfl

@[simp] theorem uset_others (addr : Nat) (v : Word) :
    (uset addr v s).code = s.code ∧ (uset addr v s).now = s.now ∧ (uset addr v s).meridian = s.meridian ∧
    (uset addr v s).regs = s.regs ∧ (uset addr v s).held = s.held ∧ (uset addr v s).latch = s.latch ∧
    (uset addr v s).resetting = s.resetting ∧ (uset addr v s).warmBegun = s.warmBegun ∧
    (uset addr v s).fabricOpen = s.fabricOpen ∧ (uset addr v s).msixOn = s.msixOn ∧ (uset addr v s).msixPending = s.msixPending ∧
    (uset addr v s).drawn = s.drawn ∧ (uset addr v s).mem = s.mem ∧ (uset addr v s).hostMem = s.hostMem ∧
    (uset addr v s).poison = s.poison ∧ (uset addr v s).leaveQueue = s.leaveQueue ∧ (uset addr v s).leaveGrants = s.leaveGrants ∧
    (uset addr v s).logQueue = s.logQueue ∧ (uset addr v s).logLost = s.logLost ∧ (uset addr v s).logLostFirst = s.logLostFirst ∧
    (uset addr v s).logLostLast = s.logLostLast ∧ (uset addr v s).siu = s.siu ∧ (uset addr v s).clr = s.clr ∧
    (uset addr v s).clrSpare = s.clrSpare ∧ (uset addr v s).cnv = s.cnv ∧ (uset addr v s).pho = s.pho ∧
    (uset addr v s).tlk = s.tlk ∧ (uset addr v s).tlkLastId = s.tlkLastId ∧ (uset addr v s).warmStart = s.warmStart ∧
    (uset addr v s).cas = s.cas ∧ (uset addr v s).lan = s.lan ∧ (uset addr v s).lanRelease = s.lanRelease ∧
    (uset addr v s).pcie = s.pcie ∧ (uset addr v s).memCtl = s.memCtl ∧ (uset addr v s).cmp = s.cmp ∧
    (uset addr v s).recorder = s.recorder ∧ (uset addr v s).cod = s.cod ∧ (uset addr v s).mot = s.mot ∧
    (uset addr v s).sinc = s.sinc ∧ (uset addr v s).aud = s.aud ∧ (uset addr v s).audGood = s.audGood ∧
    (uset addr v s).twi = s.twi ∧ (uset addr v s).plt = s.plt ∧ (uset addr v s).cnt = s.cnt ∧ (uset addr v s).dbg = s.dbg ∧
    (uset addr v s).stopped = s.stopped ∧ (uset addr v s).taiPending = s.taiPending ∧ (uset addr v s).tLast = s.tLast ∧
    (uset addr v s).out = s.out ∧ (uset addr v s).pending = s.pending := by
  and_intros <;> rfl

@[simp] theorem emit_out (e : Emit) : (emit e s).out = e :: s.out := rfl

@[simp] theorem emit_others (e : Emit) :
    (emit e s).code = s.code ∧ (emit e s).now = s.now ∧ (emit e s).meridian = s.meridian ∧ (emit e s).regs = s.regs ∧
    (emit e s).inUse = s.inUse ∧ (emit e s).held = s.held ∧ (emit e s).latch = s.latch ∧ (emit e s).resetting = s.resetting ∧
    (emit e s).warmBegun = s.warmBegun ∧ (emit e s).fabricOpen = s.fabricOpen ∧ (emit e s).msixOn = s.msixOn ∧
    (emit e s).msixPending = s.msixPending ∧ (emit e s).drawn = s.drawn ∧ (emit e s).mem = s.mem ∧
    (emit e s).hostMem = s.hostMem ∧ (emit e s).poison = s.poison ∧ (emit e s).leaveQueue = s.leaveQueue ∧
    (emit e s).leaveGrants = s.leaveGrants ∧ (emit e s).logQueue = s.logQueue ∧ (emit e s).logLost = s.logLost ∧
    (emit e s).logLostFirst = s.logLostFirst ∧ (emit e s).logLostLast = s.logLostLast ∧ (emit e s).siu = s.siu ∧
    (emit e s).clr = s.clr ∧ (emit e s).clrSpare = s.clrSpare ∧ (emit e s).cnv = s.cnv ∧ (emit e s).pho = s.pho ∧
    (emit e s).tlk = s.tlk ∧ (emit e s).tlkLastId = s.tlkLastId ∧ (emit e s).warmStart = s.warmStart ∧ (emit e s).cas = s.cas ∧
    (emit e s).lan = s.lan ∧ (emit e s).lanRelease = s.lanRelease ∧ (emit e s).pcie = s.pcie ∧ (emit e s).memCtl = s.memCtl ∧
    (emit e s).cmp = s.cmp ∧ (emit e s).recorder = s.recorder ∧ (emit e s).cod = s.cod ∧ (emit e s).mot = s.mot ∧
    (emit e s).sinc = s.sinc ∧ (emit e s).aud = s.aud ∧ (emit e s).audGood = s.audGood ∧ (emit e s).twi = s.twi ∧
    (emit e s).plt = s.plt ∧ (emit e s).cnt = s.cnt ∧ (emit e s).dbg = s.dbg ∧ (emit e s).stopped = s.stopped ∧
    (emit e s).taiPending = s.taiPending ∧ (emit e s).tLast = s.tLast ∧ (emit e s).pending = s.pending := by
  and_intros <;> rfl

@[simp] theorem draw_drawn : (draw s).drawn = s.drawn + 1 := rfl

@[simp] theorem draw_others :
    (draw s).code = s.code ∧ (draw s).now = s.now ∧ (draw s).meridian = s.meridian ∧ (draw s).regs = s.regs ∧
    (draw s).inUse = s.inUse ∧ (draw s).held = s.held ∧ (draw s).latch = s.latch ∧ (draw s).resetting = s.resetting ∧
    (draw s).warmBegun = s.warmBegun ∧ (draw s).fabricOpen = s.fabricOpen ∧ (draw s).msixOn = s.msixOn ∧
    (draw s).msixPending = s.msixPending ∧ (draw s).mem = s.mem ∧ (draw s).hostMem = s.hostMem ∧ (draw s).poison = s.poison ∧
    (draw s).leaveQueue = s.leaveQueue ∧ (draw s).leaveGrants = s.leaveGrants ∧ (draw s).logQueue = s.logQueue ∧
    (draw s).logLost = s.logLost ∧ (draw s).logLostFirst = s.logLostFirst ∧ (draw s).logLostLast = s.logLostLast ∧
    (draw s).siu = s.siu ∧ (draw s).clr = s.clr ∧ (draw s).clrSpare = s.clrSpare ∧ (draw s).cnv = s.cnv ∧ (draw s).pho = s.pho ∧
    (draw s).tlk = s.tlk ∧ (draw s).tlkLastId = s.tlkLastId ∧ (draw s).warmStart = s.warmStart ∧ (draw s).cas = s.cas ∧
    (draw s).lan = s.lan ∧ (draw s).lanRelease = s.lanRelease ∧ (draw s).pcie = s.pcie ∧ (draw s).memCtl = s.memCtl ∧
    (draw s).cmp = s.cmp ∧ (draw s).recorder = s.recorder ∧ (draw s).cod = s.cod ∧ (draw s).mot = s.mot ∧
    (draw s).sinc = s.sinc ∧ (draw s).aud = s.aud ∧ (draw s).audGood = s.audGood ∧ (draw s).twi = s.twi ∧ (draw s).plt = s.plt ∧
    (draw s).cnt = s.cnt ∧ (draw s).dbg = s.dbg ∧ (draw s).stopped = s.stopped ∧ (draw s).taiPending = s.taiPending ∧
    (draw s).tLast = s.tLast ∧ (draw s).out = s.out ∧ (draw s).pending = s.pending := by
  and_intros <;> rfl

@[simp] theorem setSiu_siu (p : Nat) (v : SiuPort) : (setSiu p v s).siu = setNth s.siu p v := rfl

@[simp] theorem setSiu_others (p : Nat) (v : SiuPort) :
    (setSiu p v s).code = s.code ∧ (setSiu p v s).now = s.now ∧ (setSiu p v s).meridian = s.meridian ∧
    (setSiu p v s).regs = s.regs ∧ (setSiu p v s).inUse = s.inUse ∧ (setSiu p v s).held = s.held ∧
    (setSiu p v s).latch = s.latch ∧ (setSiu p v s).resetting = s.resetting ∧ (setSiu p v s).warmBegun = s.warmBegun ∧
    (setSiu p v s).fabricOpen = s.fabricOpen ∧ (setSiu p v s).msixOn = s.msixOn ∧ (setSiu p v s).msixPending = s.msixPending ∧
    (setSiu p v s).drawn = s.drawn ∧ (setSiu p v s).mem = s.mem ∧ (setSiu p v s).hostMem = s.hostMem ∧
    (setSiu p v s).poison = s.poison ∧ (setSiu p v s).leaveQueue = s.leaveQueue ∧ (setSiu p v s).leaveGrants = s.leaveGrants ∧
    (setSiu p v s).logQueue = s.logQueue ∧ (setSiu p v s).logLost = s.logLost ∧ (setSiu p v s).logLostFirst = s.logLostFirst ∧
    (setSiu p v s).logLostLast = s.logLostLast ∧ (setSiu p v s).clr = s.clr ∧ (setSiu p v s).clrSpare = s.clrSpare ∧
    (setSiu p v s).cnv = s.cnv ∧ (setSiu p v s).pho = s.pho ∧ (setSiu p v s).tlk = s.tlk ∧
    (setSiu p v s).tlkLastId = s.tlkLastId ∧ (setSiu p v s).warmStart = s.warmStart ∧ (setSiu p v s).cas = s.cas ∧
    (setSiu p v s).lan = s.lan ∧ (setSiu p v s).lanRelease = s.lanRelease ∧ (setSiu p v s).pcie = s.pcie ∧
    (setSiu p v s).memCtl = s.memCtl ∧ (setSiu p v s).cmp = s.cmp ∧ (setSiu p v s).recorder = s.recorder ∧
    (setSiu p v s).cod = s.cod ∧ (setSiu p v s).mot = s.mot ∧ (setSiu p v s).sinc = s.sinc ∧ (setSiu p v s).aud = s.aud ∧
    (setSiu p v s).audGood = s.audGood ∧ (setSiu p v s).twi = s.twi ∧ (setSiu p v s).plt = s.plt ∧ (setSiu p v s).cnt = s.cnt ∧
    (setSiu p v s).dbg = s.dbg ∧ (setSiu p v s).stopped = s.stopped ∧ (setSiu p v s).taiPending = s.taiPending ∧
    (setSiu p v s).tLast = s.tLast ∧ (setSiu p v s).out = s.out ∧ (setSiu p v s).pending = s.pending := by
  and_intros <;> rfl

@[simp] theorem setClr_clr (p : Nat) (v : ClrPipe) : (setClr p v s).clr = setNth s.clr p v := rfl

@[simp] theorem setClr_others (p : Nat) (v : ClrPipe) :
    (setClr p v s).code = s.code ∧ (setClr p v s).now = s.now ∧ (setClr p v s).meridian = s.meridian ∧
    (setClr p v s).regs = s.regs ∧ (setClr p v s).inUse = s.inUse ∧ (setClr p v s).held = s.held ∧
    (setClr p v s).latch = s.latch ∧ (setClr p v s).resetting = s.resetting ∧ (setClr p v s).warmBegun = s.warmBegun ∧
    (setClr p v s).fabricOpen = s.fabricOpen ∧ (setClr p v s).msixOn = s.msixOn ∧ (setClr p v s).msixPending = s.msixPending ∧
    (setClr p v s).drawn = s.drawn ∧ (setClr p v s).mem = s.mem ∧ (setClr p v s).hostMem = s.hostMem ∧
    (setClr p v s).poison = s.poison ∧ (setClr p v s).leaveQueue = s.leaveQueue ∧ (setClr p v s).leaveGrants = s.leaveGrants ∧
    (setClr p v s).logQueue = s.logQueue ∧ (setClr p v s).logLost = s.logLost ∧ (setClr p v s).logLostFirst = s.logLostFirst ∧
    (setClr p v s).logLostLast = s.logLostLast ∧ (setClr p v s).siu = s.siu ∧ (setClr p v s).clrSpare = s.clrSpare ∧
    (setClr p v s).cnv = s.cnv ∧ (setClr p v s).pho = s.pho ∧ (setClr p v s).tlk = s.tlk ∧
    (setClr p v s).tlkLastId = s.tlkLastId ∧ (setClr p v s).warmStart = s.warmStart ∧ (setClr p v s).cas = s.cas ∧
    (setClr p v s).lan = s.lan ∧ (setClr p v s).lanRelease = s.lanRelease ∧ (setClr p v s).pcie = s.pcie ∧
    (setClr p v s).memCtl = s.memCtl ∧ (setClr p v s).cmp = s.cmp ∧ (setClr p v s).recorder = s.recorder ∧
    (setClr p v s).cod = s.cod ∧ (setClr p v s).mot = s.mot ∧ (setClr p v s).sinc = s.sinc ∧ (setClr p v s).aud = s.aud ∧
    (setClr p v s).audGood = s.audGood ∧ (setClr p v s).twi = s.twi ∧ (setClr p v s).plt = s.plt ∧ (setClr p v s).cnt = s.cnt ∧
    (setClr p v s).dbg = s.dbg ∧ (setClr p v s).stopped = s.stopped ∧ (setClr p v s).taiPending = s.taiPending ∧
    (setClr p v s).tLast = s.tLast ∧ (setClr p v s).out = s.out ∧ (setClr p v s).pending = s.pending := by
  and_intros <;> rfl

@[simp] theorem setCnv_cnv (v : CnvState) : (setCnv v s).cnv = v := rfl

@[simp] theorem setCnv_others (v : CnvState) :
    (setCnv v s).code = s.code ∧ (setCnv v s).now = s.now ∧ (setCnv v s).meridian = s.meridian ∧ (setCnv v s).regs = s.regs ∧
    (setCnv v s).inUse = s.inUse ∧ (setCnv v s).held = s.held ∧ (setCnv v s).latch = s.latch ∧
    (setCnv v s).resetting = s.resetting ∧ (setCnv v s).warmBegun = s.warmBegun ∧ (setCnv v s).fabricOpen = s.fabricOpen ∧
    (setCnv v s).msixOn = s.msixOn ∧ (setCnv v s).msixPending = s.msixPending ∧ (setCnv v s).drawn = s.drawn ∧
    (setCnv v s).mem = s.mem ∧ (setCnv v s).hostMem = s.hostMem ∧ (setCnv v s).poison = s.poison ∧
    (setCnv v s).leaveQueue = s.leaveQueue ∧ (setCnv v s).leaveGrants = s.leaveGrants ∧ (setCnv v s).logQueue = s.logQueue ∧
    (setCnv v s).logLost = s.logLost ∧ (setCnv v s).logLostFirst = s.logLostFirst ∧ (setCnv v s).logLostLast = s.logLostLast ∧
    (setCnv v s).siu = s.siu ∧ (setCnv v s).clr = s.clr ∧ (setCnv v s).clrSpare = s.clrSpare ∧ (setCnv v s).pho = s.pho ∧
    (setCnv v s).tlk = s.tlk ∧ (setCnv v s).tlkLastId = s.tlkLastId ∧ (setCnv v s).warmStart = s.warmStart ∧
    (setCnv v s).cas = s.cas ∧ (setCnv v s).lan = s.lan ∧ (setCnv v s).lanRelease = s.lanRelease ∧ (setCnv v s).pcie = s.pcie ∧
    (setCnv v s).memCtl = s.memCtl ∧ (setCnv v s).cmp = s.cmp ∧ (setCnv v s).recorder = s.recorder ∧ (setCnv v s).cod = s.cod ∧
    (setCnv v s).mot = s.mot ∧ (setCnv v s).sinc = s.sinc ∧ (setCnv v s).aud = s.aud ∧ (setCnv v s).audGood = s.audGood ∧
    (setCnv v s).twi = s.twi ∧ (setCnv v s).plt = s.plt ∧ (setCnv v s).cnt = s.cnt ∧ (setCnv v s).dbg = s.dbg ∧
    (setCnv v s).stopped = s.stopped ∧ (setCnv v s).taiPending = s.taiPending ∧ (setCnv v s).tLast = s.tLast ∧
    (setCnv v s).out = s.out ∧ (setCnv v s).pending = s.pending := by
  and_intros <;> rfl

@[simp] theorem setPho_pho (v : PhoState) : (setPho v s).pho = v := rfl

@[simp] theorem setPho_others (v : PhoState) :
    (setPho v s).code = s.code ∧ (setPho v s).now = s.now ∧ (setPho v s).meridian = s.meridian ∧ (setPho v s).regs = s.regs ∧
    (setPho v s).inUse = s.inUse ∧ (setPho v s).held = s.held ∧ (setPho v s).latch = s.latch ∧
    (setPho v s).resetting = s.resetting ∧ (setPho v s).warmBegun = s.warmBegun ∧ (setPho v s).fabricOpen = s.fabricOpen ∧
    (setPho v s).msixOn = s.msixOn ∧ (setPho v s).msixPending = s.msixPending ∧ (setPho v s).drawn = s.drawn ∧
    (setPho v s).mem = s.mem ∧ (setPho v s).hostMem = s.hostMem ∧ (setPho v s).poison = s.poison ∧
    (setPho v s).leaveQueue = s.leaveQueue ∧ (setPho v s).leaveGrants = s.leaveGrants ∧ (setPho v s).logQueue = s.logQueue ∧
    (setPho v s).logLost = s.logLost ∧ (setPho v s).logLostFirst = s.logLostFirst ∧ (setPho v s).logLostLast = s.logLostLast ∧
    (setPho v s).siu = s.siu ∧ (setPho v s).clr = s.clr ∧ (setPho v s).clrSpare = s.clrSpare ∧ (setPho v s).cnv = s.cnv ∧
    (setPho v s).tlk = s.tlk ∧ (setPho v s).tlkLastId = s.tlkLastId ∧ (setPho v s).warmStart = s.warmStart ∧
    (setPho v s).cas = s.cas ∧ (setPho v s).lan = s.lan ∧ (setPho v s).lanRelease = s.lanRelease ∧ (setPho v s).pcie = s.pcie ∧
    (setPho v s).memCtl = s.memCtl ∧ (setPho v s).cmp = s.cmp ∧ (setPho v s).recorder = s.recorder ∧ (setPho v s).cod = s.cod ∧
    (setPho v s).mot = s.mot ∧ (setPho v s).sinc = s.sinc ∧ (setPho v s).aud = s.aud ∧ (setPho v s).audGood = s.audGood ∧
    (setPho v s).twi = s.twi ∧ (setPho v s).plt = s.plt ∧ (setPho v s).cnt = s.cnt ∧ (setPho v s).dbg = s.dbg ∧
    (setPho v s).stopped = s.stopped ∧ (setPho v s).taiPending = s.taiPending ∧ (setPho v s).tLast = s.tLast ∧
    (setPho v s).out = s.out ∧ (setPho v s).pending = s.pending := by
  and_intros <;> rfl

@[simp] theorem setTlk_tlk (p : Nat) (v : TlkPort) : (setTlk p v s).tlk = setNth s.tlk p v := rfl

@[simp] theorem setTlk_others (p : Nat) (v : TlkPort) :
    (setTlk p v s).code = s.code ∧ (setTlk p v s).now = s.now ∧ (setTlk p v s).meridian = s.meridian ∧
    (setTlk p v s).regs = s.regs ∧ (setTlk p v s).inUse = s.inUse ∧ (setTlk p v s).held = s.held ∧
    (setTlk p v s).latch = s.latch ∧ (setTlk p v s).resetting = s.resetting ∧ (setTlk p v s).warmBegun = s.warmBegun ∧
    (setTlk p v s).fabricOpen = s.fabricOpen ∧ (setTlk p v s).msixOn = s.msixOn ∧ (setTlk p v s).msixPending = s.msixPending ∧
    (setTlk p v s).drawn = s.drawn ∧ (setTlk p v s).mem = s.mem ∧ (setTlk p v s).hostMem = s.hostMem ∧
    (setTlk p v s).poison = s.poison ∧ (setTlk p v s).leaveQueue = s.leaveQueue ∧ (setTlk p v s).leaveGrants = s.leaveGrants ∧
    (setTlk p v s).logQueue = s.logQueue ∧ (setTlk p v s).logLost = s.logLost ∧ (setTlk p v s).logLostFirst = s.logLostFirst ∧
    (setTlk p v s).logLostLast = s.logLostLast ∧ (setTlk p v s).siu = s.siu ∧ (setTlk p v s).clr = s.clr ∧
    (setTlk p v s).clrSpare = s.clrSpare ∧ (setTlk p v s).cnv = s.cnv ∧ (setTlk p v s).pho = s.pho ∧
    (setTlk p v s).tlkLastId = s.tlkLastId ∧ (setTlk p v s).warmStart = s.warmStart ∧ (setTlk p v s).cas = s.cas ∧
    (setTlk p v s).lan = s.lan ∧ (setTlk p v s).lanRelease = s.lanRelease ∧ (setTlk p v s).pcie = s.pcie ∧
    (setTlk p v s).memCtl = s.memCtl ∧ (setTlk p v s).cmp = s.cmp ∧ (setTlk p v s).recorder = s.recorder ∧
    (setTlk p v s).cod = s.cod ∧ (setTlk p v s).mot = s.mot ∧ (setTlk p v s).sinc = s.sinc ∧ (setTlk p v s).aud = s.aud ∧
    (setTlk p v s).audGood = s.audGood ∧ (setTlk p v s).twi = s.twi ∧ (setTlk p v s).plt = s.plt ∧ (setTlk p v s).cnt = s.cnt ∧
    (setTlk p v s).dbg = s.dbg ∧ (setTlk p v s).stopped = s.stopped ∧ (setTlk p v s).taiPending = s.taiPending ∧
    (setTlk p v s).tLast = s.tLast ∧ (setTlk p v s).out = s.out ∧ (setTlk p v s).pending = s.pending := by
  and_intros <;> rfl

@[simp] theorem setCasPort_cas (p : Nat) (v : CasPort) : (setCasPort p v s).cas = { s.cas with ports := setNth s.cas.ports p v } := rfl

@[simp] theorem setCasPort_others (p : Nat) (v : CasPort) :
    (setCasPort p v s).code = s.code ∧ (setCasPort p v s).now = s.now ∧ (setCasPort p v s).meridian = s.meridian ∧
    (setCasPort p v s).regs = s.regs ∧ (setCasPort p v s).inUse = s.inUse ∧ (setCasPort p v s).held = s.held ∧
    (setCasPort p v s).latch = s.latch ∧ (setCasPort p v s).resetting = s.resetting ∧
    (setCasPort p v s).warmBegun = s.warmBegun ∧ (setCasPort p v s).fabricOpen = s.fabricOpen ∧
    (setCasPort p v s).msixOn = s.msixOn ∧ (setCasPort p v s).msixPending = s.msixPending ∧ (setCasPort p v s).drawn = s.drawn ∧
    (setCasPort p v s).mem = s.mem ∧ (setCasPort p v s).hostMem = s.hostMem ∧ (setCasPort p v s).poison = s.poison ∧
    (setCasPort p v s).leaveQueue = s.leaveQueue ∧ (setCasPort p v s).leaveGrants = s.leaveGrants ∧
    (setCasPort p v s).logQueue = s.logQueue ∧ (setCasPort p v s).logLost = s.logLost ∧
    (setCasPort p v s).logLostFirst = s.logLostFirst ∧ (setCasPort p v s).logLostLast = s.logLostLast ∧
    (setCasPort p v s).siu = s.siu ∧ (setCasPort p v s).clr = s.clr ∧ (setCasPort p v s).clrSpare = s.clrSpare ∧
    (setCasPort p v s).cnv = s.cnv ∧ (setCasPort p v s).pho = s.pho ∧ (setCasPort p v s).tlk = s.tlk ∧
    (setCasPort p v s).tlkLastId = s.tlkLastId ∧ (setCasPort p v s).warmStart = s.warmStart ∧ (setCasPort p v s).lan = s.lan ∧
    (setCasPort p v s).lanRelease = s.lanRelease ∧ (setCasPort p v s).pcie = s.pcie ∧ (setCasPort p v s).memCtl = s.memCtl ∧
    (setCasPort p v s).cmp = s.cmp ∧ (setCasPort p v s).recorder = s.recorder ∧ (setCasPort p v s).cod = s.cod ∧
    (setCasPort p v s).mot = s.mot ∧ (setCasPort p v s).sinc = s.sinc ∧ (setCasPort p v s).aud = s.aud ∧
    (setCasPort p v s).audGood = s.audGood ∧ (setCasPort p v s).twi = s.twi ∧ (setCasPort p v s).plt = s.plt ∧
    (setCasPort p v s).cnt = s.cnt ∧ (setCasPort p v s).dbg = s.dbg ∧ (setCasPort p v s).stopped = s.stopped ∧
    (setCasPort p v s).taiPending = s.taiPending ∧ (setCasPort p v s).tLast = s.tLast ∧ (setCasPort p v s).out = s.out ∧
    (setCasPort p v s).pending = s.pending := by
  and_intros <;> rfl

@[simp] theorem setLanLane_lan (p i : Nat) (v : LanLane) : (setLanLane p i v s).lan = setNth s.lan p (setNth (nth [] s.lan p) i v) := rfl

@[simp] theorem setLanLane_others (p i : Nat) (v : LanLane) :
    (setLanLane p i v s).code = s.code ∧ (setLanLane p i v s).now = s.now ∧ (setLanLane p i v s).meridian = s.meridian ∧
    (setLanLane p i v s).regs = s.regs ∧ (setLanLane p i v s).inUse = s.inUse ∧ (setLanLane p i v s).held = s.held ∧
    (setLanLane p i v s).latch = s.latch ∧ (setLanLane p i v s).resetting = s.resetting ∧
    (setLanLane p i v s).warmBegun = s.warmBegun ∧ (setLanLane p i v s).fabricOpen = s.fabricOpen ∧
    (setLanLane p i v s).msixOn = s.msixOn ∧ (setLanLane p i v s).msixPending = s.msixPending ∧
    (setLanLane p i v s).drawn = s.drawn ∧ (setLanLane p i v s).mem = s.mem ∧ (setLanLane p i v s).hostMem = s.hostMem ∧
    (setLanLane p i v s).poison = s.poison ∧ (setLanLane p i v s).leaveQueue = s.leaveQueue ∧
    (setLanLane p i v s).leaveGrants = s.leaveGrants ∧ (setLanLane p i v s).logQueue = s.logQueue ∧
    (setLanLane p i v s).logLost = s.logLost ∧ (setLanLane p i v s).logLostFirst = s.logLostFirst ∧
    (setLanLane p i v s).logLostLast = s.logLostLast ∧ (setLanLane p i v s).siu = s.siu ∧ (setLanLane p i v s).clr = s.clr ∧
    (setLanLane p i v s).clrSpare = s.clrSpare ∧ (setLanLane p i v s).cnv = s.cnv ∧ (setLanLane p i v s).pho = s.pho ∧
    (setLanLane p i v s).tlk = s.tlk ∧ (setLanLane p i v s).tlkLastId = s.tlkLastId ∧
    (setLanLane p i v s).warmStart = s.warmStart ∧ (setLanLane p i v s).cas = s.cas ∧
    (setLanLane p i v s).lanRelease = s.lanRelease ∧ (setLanLane p i v s).pcie = s.pcie ∧
    (setLanLane p i v s).memCtl = s.memCtl ∧ (setLanLane p i v s).cmp = s.cmp ∧ (setLanLane p i v s).recorder = s.recorder ∧
    (setLanLane p i v s).cod = s.cod ∧ (setLanLane p i v s).mot = s.mot ∧ (setLanLane p i v s).sinc = s.sinc ∧
    (setLanLane p i v s).aud = s.aud ∧ (setLanLane p i v s).audGood = s.audGood ∧ (setLanLane p i v s).twi = s.twi ∧
    (setLanLane p i v s).plt = s.plt ∧ (setLanLane p i v s).cnt = s.cnt ∧ (setLanLane p i v s).dbg = s.dbg ∧
    (setLanLane p i v s).stopped = s.stopped ∧ (setLanLane p i v s).taiPending = s.taiPending ∧
    (setLanLane p i v s).tLast = s.tLast ∧ (setLanLane p i v s).out = s.out ∧ (setLanLane p i v s).pending = s.pending := by
  and_intros <;> rfl

@[simp] theorem setCmp_cmp (v : CmpState) : (setCmp v s).cmp = v := rfl

@[simp] theorem setCmp_others (v : CmpState) :
    (setCmp v s).code = s.code ∧ (setCmp v s).now = s.now ∧ (setCmp v s).meridian = s.meridian ∧ (setCmp v s).regs = s.regs ∧
    (setCmp v s).inUse = s.inUse ∧ (setCmp v s).held = s.held ∧ (setCmp v s).latch = s.latch ∧
    (setCmp v s).resetting = s.resetting ∧ (setCmp v s).warmBegun = s.warmBegun ∧ (setCmp v s).fabricOpen = s.fabricOpen ∧
    (setCmp v s).msixOn = s.msixOn ∧ (setCmp v s).msixPending = s.msixPending ∧ (setCmp v s).drawn = s.drawn ∧
    (setCmp v s).mem = s.mem ∧ (setCmp v s).hostMem = s.hostMem ∧ (setCmp v s).poison = s.poison ∧
    (setCmp v s).leaveQueue = s.leaveQueue ∧ (setCmp v s).leaveGrants = s.leaveGrants ∧ (setCmp v s).logQueue = s.logQueue ∧
    (setCmp v s).logLost = s.logLost ∧ (setCmp v s).logLostFirst = s.logLostFirst ∧ (setCmp v s).logLostLast = s.logLostLast ∧
    (setCmp v s).siu = s.siu ∧ (setCmp v s).clr = s.clr ∧ (setCmp v s).clrSpare = s.clrSpare ∧ (setCmp v s).cnv = s.cnv ∧
    (setCmp v s).pho = s.pho ∧ (setCmp v s).tlk = s.tlk ∧ (setCmp v s).tlkLastId = s.tlkLastId ∧
    (setCmp v s).warmStart = s.warmStart ∧ (setCmp v s).cas = s.cas ∧ (setCmp v s).lan = s.lan ∧
    (setCmp v s).lanRelease = s.lanRelease ∧ (setCmp v s).pcie = s.pcie ∧ (setCmp v s).memCtl = s.memCtl ∧
    (setCmp v s).recorder = s.recorder ∧ (setCmp v s).cod = s.cod ∧ (setCmp v s).mot = s.mot ∧ (setCmp v s).sinc = s.sinc ∧
    (setCmp v s).aud = s.aud ∧ (setCmp v s).audGood = s.audGood ∧ (setCmp v s).twi = s.twi ∧ (setCmp v s).plt = s.plt ∧
    (setCmp v s).cnt = s.cnt ∧ (setCmp v s).dbg = s.dbg ∧ (setCmp v s).stopped = s.stopped ∧
    (setCmp v s).taiPending = s.taiPending ∧ (setCmp v s).tLast = s.tLast ∧ (setCmp v s).out = s.out ∧
    (setCmp v s).pending = s.pending := by
  and_intros <;> rfl

@[simp] theorem setRec_recorder (v : RecState) : (setRec v s).recorder = v := rfl

@[simp] theorem setRec_others (v : RecState) :
    (setRec v s).code = s.code ∧ (setRec v s).now = s.now ∧ (setRec v s).meridian = s.meridian ∧ (setRec v s).regs = s.regs ∧
    (setRec v s).inUse = s.inUse ∧ (setRec v s).held = s.held ∧ (setRec v s).latch = s.latch ∧
    (setRec v s).resetting = s.resetting ∧ (setRec v s).warmBegun = s.warmBegun ∧ (setRec v s).fabricOpen = s.fabricOpen ∧
    (setRec v s).msixOn = s.msixOn ∧ (setRec v s).msixPending = s.msixPending ∧ (setRec v s).drawn = s.drawn ∧
    (setRec v s).mem = s.mem ∧ (setRec v s).hostMem = s.hostMem ∧ (setRec v s).poison = s.poison ∧
    (setRec v s).leaveQueue = s.leaveQueue ∧ (setRec v s).leaveGrants = s.leaveGrants ∧ (setRec v s).logQueue = s.logQueue ∧
    (setRec v s).logLost = s.logLost ∧ (setRec v s).logLostFirst = s.logLostFirst ∧ (setRec v s).logLostLast = s.logLostLast ∧
    (setRec v s).siu = s.siu ∧ (setRec v s).clr = s.clr ∧ (setRec v s).clrSpare = s.clrSpare ∧ (setRec v s).cnv = s.cnv ∧
    (setRec v s).pho = s.pho ∧ (setRec v s).tlk = s.tlk ∧ (setRec v s).tlkLastId = s.tlkLastId ∧
    (setRec v s).warmStart = s.warmStart ∧ (setRec v s).cas = s.cas ∧ (setRec v s).lan = s.lan ∧
    (setRec v s).lanRelease = s.lanRelease ∧ (setRec v s).pcie = s.pcie ∧ (setRec v s).memCtl = s.memCtl ∧
    (setRec v s).cmp = s.cmp ∧ (setRec v s).cod = s.cod ∧ (setRec v s).mot = s.mot ∧ (setRec v s).sinc = s.sinc ∧
    (setRec v s).aud = s.aud ∧ (setRec v s).audGood = s.audGood ∧ (setRec v s).twi = s.twi ∧ (setRec v s).plt = s.plt ∧
    (setRec v s).cnt = s.cnt ∧ (setRec v s).dbg = s.dbg ∧ (setRec v s).stopped = s.stopped ∧
    (setRec v s).taiPending = s.taiPending ∧ (setRec v s).tLast = s.tLast ∧ (setRec v s).out = s.out ∧
    (setRec v s).pending = s.pending := by
  and_intros <;> rfl

@[simp] theorem setCod_cod (v : CodState) : (setCod v s).cod = v := rfl

@[simp] theorem setCod_others (v : CodState) :
    (setCod v s).code = s.code ∧ (setCod v s).now = s.now ∧ (setCod v s).meridian = s.meridian ∧ (setCod v s).regs = s.regs ∧
    (setCod v s).inUse = s.inUse ∧ (setCod v s).held = s.held ∧ (setCod v s).latch = s.latch ∧
    (setCod v s).resetting = s.resetting ∧ (setCod v s).warmBegun = s.warmBegun ∧ (setCod v s).fabricOpen = s.fabricOpen ∧
    (setCod v s).msixOn = s.msixOn ∧ (setCod v s).msixPending = s.msixPending ∧ (setCod v s).drawn = s.drawn ∧
    (setCod v s).mem = s.mem ∧ (setCod v s).hostMem = s.hostMem ∧ (setCod v s).poison = s.poison ∧
    (setCod v s).leaveQueue = s.leaveQueue ∧ (setCod v s).leaveGrants = s.leaveGrants ∧ (setCod v s).logQueue = s.logQueue ∧
    (setCod v s).logLost = s.logLost ∧ (setCod v s).logLostFirst = s.logLostFirst ∧ (setCod v s).logLostLast = s.logLostLast ∧
    (setCod v s).siu = s.siu ∧ (setCod v s).clr = s.clr ∧ (setCod v s).clrSpare = s.clrSpare ∧ (setCod v s).cnv = s.cnv ∧
    (setCod v s).pho = s.pho ∧ (setCod v s).tlk = s.tlk ∧ (setCod v s).tlkLastId = s.tlkLastId ∧
    (setCod v s).warmStart = s.warmStart ∧ (setCod v s).cas = s.cas ∧ (setCod v s).lan = s.lan ∧
    (setCod v s).lanRelease = s.lanRelease ∧ (setCod v s).pcie = s.pcie ∧ (setCod v s).memCtl = s.memCtl ∧
    (setCod v s).cmp = s.cmp ∧ (setCod v s).recorder = s.recorder ∧ (setCod v s).mot = s.mot ∧ (setCod v s).sinc = s.sinc ∧
    (setCod v s).aud = s.aud ∧ (setCod v s).audGood = s.audGood ∧ (setCod v s).twi = s.twi ∧ (setCod v s).plt = s.plt ∧
    (setCod v s).cnt = s.cnt ∧ (setCod v s).dbg = s.dbg ∧ (setCod v s).stopped = s.stopped ∧
    (setCod v s).taiPending = s.taiPending ∧ (setCod v s).tLast = s.tLast ∧ (setCod v s).out = s.out ∧
    (setCod v s).pending = s.pending := by
  and_intros <;> rfl

@[simp] theorem putAx_mot (a : Nat) (v : MotAxis) : (putAx a v s).mot = setNth s.mot a v := rfl

@[simp] theorem putAx_others (a : Nat) (v : MotAxis) :
    (putAx a v s).code = s.code ∧ (putAx a v s).now = s.now ∧ (putAx a v s).meridian = s.meridian ∧ (putAx a v s).regs = s.regs ∧
    (putAx a v s).inUse = s.inUse ∧ (putAx a v s).held = s.held ∧ (putAx a v s).latch = s.latch ∧
    (putAx a v s).resetting = s.resetting ∧ (putAx a v s).warmBegun = s.warmBegun ∧ (putAx a v s).fabricOpen = s.fabricOpen ∧
    (putAx a v s).msixOn = s.msixOn ∧ (putAx a v s).msixPending = s.msixPending ∧ (putAx a v s).drawn = s.drawn ∧
    (putAx a v s).mem = s.mem ∧ (putAx a v s).hostMem = s.hostMem ∧ (putAx a v s).poison = s.poison ∧
    (putAx a v s).leaveQueue = s.leaveQueue ∧ (putAx a v s).leaveGrants = s.leaveGrants ∧ (putAx a v s).logQueue = s.logQueue ∧
    (putAx a v s).logLost = s.logLost ∧ (putAx a v s).logLostFirst = s.logLostFirst ∧ (putAx a v s).logLostLast = s.logLostLast ∧
    (putAx a v s).siu = s.siu ∧ (putAx a v s).clr = s.clr ∧ (putAx a v s).clrSpare = s.clrSpare ∧ (putAx a v s).cnv = s.cnv ∧
    (putAx a v s).pho = s.pho ∧ (putAx a v s).tlk = s.tlk ∧ (putAx a v s).tlkLastId = s.tlkLastId ∧
    (putAx a v s).warmStart = s.warmStart ∧ (putAx a v s).cas = s.cas ∧ (putAx a v s).lan = s.lan ∧
    (putAx a v s).lanRelease = s.lanRelease ∧ (putAx a v s).pcie = s.pcie ∧ (putAx a v s).memCtl = s.memCtl ∧
    (putAx a v s).cmp = s.cmp ∧ (putAx a v s).recorder = s.recorder ∧ (putAx a v s).cod = s.cod ∧ (putAx a v s).sinc = s.sinc ∧
    (putAx a v s).aud = s.aud ∧ (putAx a v s).audGood = s.audGood ∧ (putAx a v s).twi = s.twi ∧ (putAx a v s).plt = s.plt ∧
    (putAx a v s).cnt = s.cnt ∧ (putAx a v s).dbg = s.dbg ∧ (putAx a v s).stopped = s.stopped ∧
    (putAx a v s).taiPending = s.taiPending ∧ (putAx a v s).tLast = s.tLast ∧ (putAx a v s).out = s.out ∧
    (putAx a v s).pending = s.pending := by
  and_intros <;> rfl

@[simp] theorem putAud_aud (p : Nat) (v : AudPort) : (putAud p v s).aud = setNth s.aud p v := rfl

@[simp] theorem putAud_others (p : Nat) (v : AudPort) :
    (putAud p v s).code = s.code ∧ (putAud p v s).now = s.now ∧ (putAud p v s).meridian = s.meridian ∧
    (putAud p v s).regs = s.regs ∧ (putAud p v s).inUse = s.inUse ∧ (putAud p v s).held = s.held ∧
    (putAud p v s).latch = s.latch ∧ (putAud p v s).resetting = s.resetting ∧ (putAud p v s).warmBegun = s.warmBegun ∧
    (putAud p v s).fabricOpen = s.fabricOpen ∧ (putAud p v s).msixOn = s.msixOn ∧ (putAud p v s).msixPending = s.msixPending ∧
    (putAud p v s).drawn = s.drawn ∧ (putAud p v s).mem = s.mem ∧ (putAud p v s).hostMem = s.hostMem ∧
    (putAud p v s).poison = s.poison ∧ (putAud p v s).leaveQueue = s.leaveQueue ∧ (putAud p v s).leaveGrants = s.leaveGrants ∧
    (putAud p v s).logQueue = s.logQueue ∧ (putAud p v s).logLost = s.logLost ∧ (putAud p v s).logLostFirst = s.logLostFirst ∧
    (putAud p v s).logLostLast = s.logLostLast ∧ (putAud p v s).siu = s.siu ∧ (putAud p v s).clr = s.clr ∧
    (putAud p v s).clrSpare = s.clrSpare ∧ (putAud p v s).cnv = s.cnv ∧ (putAud p v s).pho = s.pho ∧ (putAud p v s).tlk = s.tlk ∧
    (putAud p v s).tlkLastId = s.tlkLastId ∧ (putAud p v s).warmStart = s.warmStart ∧ (putAud p v s).cas = s.cas ∧
    (putAud p v s).lan = s.lan ∧ (putAud p v s).lanRelease = s.lanRelease ∧ (putAud p v s).pcie = s.pcie ∧
    (putAud p v s).memCtl = s.memCtl ∧ (putAud p v s).cmp = s.cmp ∧ (putAud p v s).recorder = s.recorder ∧
    (putAud p v s).cod = s.cod ∧ (putAud p v s).mot = s.mot ∧ (putAud p v s).sinc = s.sinc ∧ (putAud p v s).audGood = s.audGood ∧
    (putAud p v s).twi = s.twi ∧ (putAud p v s).plt = s.plt ∧ (putAud p v s).cnt = s.cnt ∧ (putAud p v s).dbg = s.dbg ∧
    (putAud p v s).stopped = s.stopped ∧ (putAud p v s).taiPending = s.taiPending ∧ (putAud p v s).tLast = s.tLast ∧
    (putAud p v s).out = s.out ∧ (putAud p v s).pending = s.pending := by
  and_intros <;> rfl

@[simp] theorem putTwi_twi (p : Nat) (v : TwiBus) : (putTwi p v s).twi = setNth s.twi p v := rfl

@[simp] theorem putTwi_others (p : Nat) (v : TwiBus) :
    (putTwi p v s).code = s.code ∧ (putTwi p v s).now = s.now ∧ (putTwi p v s).meridian = s.meridian ∧
    (putTwi p v s).regs = s.regs ∧ (putTwi p v s).inUse = s.inUse ∧ (putTwi p v s).held = s.held ∧
    (putTwi p v s).latch = s.latch ∧ (putTwi p v s).resetting = s.resetting ∧ (putTwi p v s).warmBegun = s.warmBegun ∧
    (putTwi p v s).fabricOpen = s.fabricOpen ∧ (putTwi p v s).msixOn = s.msixOn ∧ (putTwi p v s).msixPending = s.msixPending ∧
    (putTwi p v s).drawn = s.drawn ∧ (putTwi p v s).mem = s.mem ∧ (putTwi p v s).hostMem = s.hostMem ∧
    (putTwi p v s).poison = s.poison ∧ (putTwi p v s).leaveQueue = s.leaveQueue ∧ (putTwi p v s).leaveGrants = s.leaveGrants ∧
    (putTwi p v s).logQueue = s.logQueue ∧ (putTwi p v s).logLost = s.logLost ∧ (putTwi p v s).logLostFirst = s.logLostFirst ∧
    (putTwi p v s).logLostLast = s.logLostLast ∧ (putTwi p v s).siu = s.siu ∧ (putTwi p v s).clr = s.clr ∧
    (putTwi p v s).clrSpare = s.clrSpare ∧ (putTwi p v s).cnv = s.cnv ∧ (putTwi p v s).pho = s.pho ∧ (putTwi p v s).tlk = s.tlk ∧
    (putTwi p v s).tlkLastId = s.tlkLastId ∧ (putTwi p v s).warmStart = s.warmStart ∧ (putTwi p v s).cas = s.cas ∧
    (putTwi p v s).lan = s.lan ∧ (putTwi p v s).lanRelease = s.lanRelease ∧ (putTwi p v s).pcie = s.pcie ∧
    (putTwi p v s).memCtl = s.memCtl ∧ (putTwi p v s).cmp = s.cmp ∧ (putTwi p v s).recorder = s.recorder ∧
    (putTwi p v s).cod = s.cod ∧ (putTwi p v s).mot = s.mot ∧ (putTwi p v s).sinc = s.sinc ∧ (putTwi p v s).aud = s.aud ∧
    (putTwi p v s).audGood = s.audGood ∧ (putTwi p v s).plt = s.plt ∧ (putTwi p v s).cnt = s.cnt ∧ (putTwi p v s).dbg = s.dbg ∧
    (putTwi p v s).stopped = s.stopped ∧ (putTwi p v s).taiPending = s.taiPending ∧ (putTwi p v s).tLast = s.tLast ∧
    (putTwi p v s).out = s.out ∧ (putTwi p v s).pending = s.pending := by
  and_intros <;> rfl

@[simp] theorem setPlt_plt (v : PltState) : (setPlt v s).plt = v := rfl

@[simp] theorem setPlt_others (v : PltState) :
    (setPlt v s).code = s.code ∧ (setPlt v s).now = s.now ∧ (setPlt v s).meridian = s.meridian ∧ (setPlt v s).regs = s.regs ∧
    (setPlt v s).inUse = s.inUse ∧ (setPlt v s).held = s.held ∧ (setPlt v s).latch = s.latch ∧
    (setPlt v s).resetting = s.resetting ∧ (setPlt v s).warmBegun = s.warmBegun ∧ (setPlt v s).fabricOpen = s.fabricOpen ∧
    (setPlt v s).msixOn = s.msixOn ∧ (setPlt v s).msixPending = s.msixPending ∧ (setPlt v s).drawn = s.drawn ∧
    (setPlt v s).mem = s.mem ∧ (setPlt v s).hostMem = s.hostMem ∧ (setPlt v s).poison = s.poison ∧
    (setPlt v s).leaveQueue = s.leaveQueue ∧ (setPlt v s).leaveGrants = s.leaveGrants ∧ (setPlt v s).logQueue = s.logQueue ∧
    (setPlt v s).logLost = s.logLost ∧ (setPlt v s).logLostFirst = s.logLostFirst ∧ (setPlt v s).logLostLast = s.logLostLast ∧
    (setPlt v s).siu = s.siu ∧ (setPlt v s).clr = s.clr ∧ (setPlt v s).clrSpare = s.clrSpare ∧ (setPlt v s).cnv = s.cnv ∧
    (setPlt v s).pho = s.pho ∧ (setPlt v s).tlk = s.tlk ∧ (setPlt v s).tlkLastId = s.tlkLastId ∧
    (setPlt v s).warmStart = s.warmStart ∧ (setPlt v s).cas = s.cas ∧ (setPlt v s).lan = s.lan ∧
    (setPlt v s).lanRelease = s.lanRelease ∧ (setPlt v s).pcie = s.pcie ∧ (setPlt v s).memCtl = s.memCtl ∧
    (setPlt v s).cmp = s.cmp ∧ (setPlt v s).recorder = s.recorder ∧ (setPlt v s).cod = s.cod ∧ (setPlt v s).mot = s.mot ∧
    (setPlt v s).sinc = s.sinc ∧ (setPlt v s).aud = s.aud ∧ (setPlt v s).audGood = s.audGood ∧ (setPlt v s).twi = s.twi ∧
    (setPlt v s).cnt = s.cnt ∧ (setPlt v s).dbg = s.dbg ∧ (setPlt v s).stopped = s.stopped ∧
    (setPlt v s).taiPending = s.taiPending ∧ (setPlt v s).tLast = s.tLast ∧ (setPlt v s).out = s.out ∧
    (setPlt v s).pending = s.pending := by
  and_intros <;> rfl

@[simp] theorem setCnt_cnt (v : CntState) : (setCnt v s).cnt = v := rfl

@[simp] theorem setCnt_others (v : CntState) :
    (setCnt v s).code = s.code ∧ (setCnt v s).now = s.now ∧ (setCnt v s).meridian = s.meridian ∧ (setCnt v s).regs = s.regs ∧
    (setCnt v s).inUse = s.inUse ∧ (setCnt v s).held = s.held ∧ (setCnt v s).latch = s.latch ∧
    (setCnt v s).resetting = s.resetting ∧ (setCnt v s).warmBegun = s.warmBegun ∧ (setCnt v s).fabricOpen = s.fabricOpen ∧
    (setCnt v s).msixOn = s.msixOn ∧ (setCnt v s).msixPending = s.msixPending ∧ (setCnt v s).drawn = s.drawn ∧
    (setCnt v s).mem = s.mem ∧ (setCnt v s).hostMem = s.hostMem ∧ (setCnt v s).poison = s.poison ∧
    (setCnt v s).leaveQueue = s.leaveQueue ∧ (setCnt v s).leaveGrants = s.leaveGrants ∧ (setCnt v s).logQueue = s.logQueue ∧
    (setCnt v s).logLost = s.logLost ∧ (setCnt v s).logLostFirst = s.logLostFirst ∧ (setCnt v s).logLostLast = s.logLostLast ∧
    (setCnt v s).siu = s.siu ∧ (setCnt v s).clr = s.clr ∧ (setCnt v s).clrSpare = s.clrSpare ∧ (setCnt v s).cnv = s.cnv ∧
    (setCnt v s).pho = s.pho ∧ (setCnt v s).tlk = s.tlk ∧ (setCnt v s).tlkLastId = s.tlkLastId ∧
    (setCnt v s).warmStart = s.warmStart ∧ (setCnt v s).cas = s.cas ∧ (setCnt v s).lan = s.lan ∧
    (setCnt v s).lanRelease = s.lanRelease ∧ (setCnt v s).pcie = s.pcie ∧ (setCnt v s).memCtl = s.memCtl ∧
    (setCnt v s).cmp = s.cmp ∧ (setCnt v s).recorder = s.recorder ∧ (setCnt v s).cod = s.cod ∧ (setCnt v s).mot = s.mot ∧
    (setCnt v s).sinc = s.sinc ∧ (setCnt v s).aud = s.aud ∧ (setCnt v s).audGood = s.audGood ∧ (setCnt v s).twi = s.twi ∧
    (setCnt v s).plt = s.plt ∧ (setCnt v s).dbg = s.dbg ∧ (setCnt v s).stopped = s.stopped ∧
    (setCnt v s).taiPending = s.taiPending ∧ (setCnt v s).tLast = s.tLast ∧ (setCnt v s).out = s.out ∧
    (setCnt v s).pending = s.pending := by
  and_intros <;> rfl

@[simp] theorem setDbg_dbg (v : DbgState) : (setDbg v s).dbg = v := rfl

@[simp] theorem setDbg_others (v : DbgState) :
    (setDbg v s).code = s.code ∧ (setDbg v s).now = s.now ∧ (setDbg v s).meridian = s.meridian ∧ (setDbg v s).regs = s.regs ∧
    (setDbg v s).inUse = s.inUse ∧ (setDbg v s).held = s.held ∧ (setDbg v s).latch = s.latch ∧
    (setDbg v s).resetting = s.resetting ∧ (setDbg v s).warmBegun = s.warmBegun ∧ (setDbg v s).fabricOpen = s.fabricOpen ∧
    (setDbg v s).msixOn = s.msixOn ∧ (setDbg v s).msixPending = s.msixPending ∧ (setDbg v s).drawn = s.drawn ∧
    (setDbg v s).mem = s.mem ∧ (setDbg v s).hostMem = s.hostMem ∧ (setDbg v s).poison = s.poison ∧
    (setDbg v s).leaveQueue = s.leaveQueue ∧ (setDbg v s).leaveGrants = s.leaveGrants ∧ (setDbg v s).logQueue = s.logQueue ∧
    (setDbg v s).logLost = s.logLost ∧ (setDbg v s).logLostFirst = s.logLostFirst ∧ (setDbg v s).logLostLast = s.logLostLast ∧
    (setDbg v s).siu = s.siu ∧ (setDbg v s).clr = s.clr ∧ (setDbg v s).clrSpare = s.clrSpare ∧ (setDbg v s).cnv = s.cnv ∧
    (setDbg v s).pho = s.pho ∧ (setDbg v s).tlk = s.tlk ∧ (setDbg v s).tlkLastId = s.tlkLastId ∧
    (setDbg v s).warmStart = s.warmStart ∧ (setDbg v s).cas = s.cas ∧ (setDbg v s).lan = s.lan ∧
    (setDbg v s).lanRelease = s.lanRelease ∧ (setDbg v s).pcie = s.pcie ∧ (setDbg v s).memCtl = s.memCtl ∧
    (setDbg v s).cmp = s.cmp ∧ (setDbg v s).recorder = s.recorder ∧ (setDbg v s).cod = s.cod ∧ (setDbg v s).mot = s.mot ∧
    (setDbg v s).sinc = s.sinc ∧ (setDbg v s).aud = s.aud ∧ (setDbg v s).audGood = s.audGood ∧ (setDbg v s).twi = s.twi ∧
    (setDbg v s).plt = s.plt ∧ (setDbg v s).cnt = s.cnt ∧ (setDbg v s).stopped = s.stopped ∧
    (setDbg v s).taiPending = s.taiPending ∧ (setDbg v s).tLast = s.tLast ∧ (setDbg v s).out = s.out ∧
    (setDbg v s).pending = s.pending := by
  and_intros <;> rfl

@[simp] theorem memPut_others (host : Bool) (a : Nat) (b : Byte) :
    (memPut host a b s).code = s.code ∧ (memPut host a b s).now = s.now ∧ (memPut host a b s).meridian = s.meridian ∧
    (memPut host a b s).regs = s.regs ∧ (memPut host a b s).inUse = s.inUse ∧ (memPut host a b s).held = s.held ∧
    (memPut host a b s).latch = s.latch ∧ (memPut host a b s).resetting = s.resetting ∧
    (memPut host a b s).warmBegun = s.warmBegun ∧ (memPut host a b s).fabricOpen = s.fabricOpen ∧
    (memPut host a b s).msixOn = s.msixOn ∧ (memPut host a b s).msixPending = s.msixPending ∧
    (memPut host a b s).drawn = s.drawn ∧ (memPut host a b s).poison = s.poison ∧ (memPut host a b s).leaveQueue = s.leaveQueue ∧
    (memPut host a b s).leaveGrants = s.leaveGrants ∧ (memPut host a b s).logQueue = s.logQueue ∧
    (memPut host a b s).logLost = s.logLost ∧ (memPut host a b s).logLostFirst = s.logLostFirst ∧
    (memPut host a b s).logLostLast = s.logLostLast ∧ (memPut host a b s).siu = s.siu ∧ (memPut host a b s).clr = s.clr ∧
    (memPut host a b s).clrSpare = s.clrSpare ∧ (memPut host a b s).cnv = s.cnv ∧ (memPut host a b s).pho = s.pho ∧
    (memPut host a b s).tlk = s.tlk ∧ (memPut host a b s).tlkLastId = s.tlkLastId ∧ (memPut host a b s).warmStart = s.warmStart ∧
    (memPut host a b s).cas = s.cas ∧ (memPut host a b s).lan = s.lan ∧ (memPut host a b s).lanRelease = s.lanRelease ∧
    (memPut host a b s).pcie = s.pcie ∧ (memPut host a b s).memCtl = s.memCtl ∧ (memPut host a b s).cmp = s.cmp ∧
    (memPut host a b s).recorder = s.recorder ∧ (memPut host a b s).cod = s.cod ∧ (memPut host a b s).mot = s.mot ∧
    (memPut host a b s).sinc = s.sinc ∧ (memPut host a b s).aud = s.aud ∧ (memPut host a b s).audGood = s.audGood ∧
    (memPut host a b s).twi = s.twi ∧ (memPut host a b s).plt = s.plt ∧ (memPut host a b s).cnt = s.cnt ∧
    (memPut host a b s).dbg = s.dbg ∧ (memPut host a b s).stopped = s.stopped ∧ (memPut host a b s).taiPending = s.taiPending ∧
    (memPut host a b s).tLast = s.tLast ∧ (memPut host a b s).out = s.out ∧ (memPut host a b s).pending = s.pending := by
  unfold memPut
  split <;> (and_intros <;> rfl)

end Sys2Proof.Laws
end

