-- ==== Sys2Proof/Laws/Registers.lean ====
section
/-! SUPPORT. Registers after each operation: what a read of a word, a field or a bit gives after a store, and what raising a flag or an error leaves. -/

namespace Sys2Proof.Laws

open Sys2Proof.Machine

/-! ### Bit fields -/

theorem testBit_withBits (n v : Nat) {hi lo : Nat} (h : lo ≤ hi) (j : Nat) :
    (withBits n hi lo v).testBit j = if lo ≤ j ∧ j ≤ hi then v.testBit (j - lo) else n.testBit j := by
  have e : withBits n hi lo v = 2 ^ lo * (2 ^ (hi + 1 - lo) * (n / 2 ^ (hi + 1)) + v % 2 ^ (hi + 1 - lo)) + n % 2 ^ lo := by
    unfold withBits
    have hp : 2 ^ (hi + 1) = 2 ^ lo * 2 ^ (hi + 1 - lo) := by rw [← Nat.pow_add]; congr 1; omega
    rw [hp, Nat.mul_add, Nat.mul_comm (v % _), Nat.mul_comm (n / _), Nat.mul_assoc]
  rw [e, Nat.testBit_two_pow_mul_add _ (Nat.mod_lt _ (Nat.two_pow_pos _)),
    Nat.testBit_two_pow_mul_add _ (Nat.mod_lt _ (Nat.two_pow_pos _))]
  by_cases h1 : j < lo
  · rw [if_pos h1, if_neg (by omega), Nat.testBit_mod_two_pow]
    simp [h1]
  · rw [if_neg h1]
    by_cases h2 : j - lo < hi + 1 - lo
    · rw [if_pos h2, if_pos (by omega), Nat.testBit_mod_two_pow]
      simp [h2]
    · rw [if_neg h2, if_neg (by omega), Nat.testBit_div_two_pow]
      congr 1
      omega

theorem bitAt_setBits (w : Word) (v : Nat) {hi lo j : Nat} (h : lo ≤ hi) (hj : j < 32) :
    bitAt (setBits w hi lo v) j = if lo ≤ j ∧ j ≤ hi then v.testBit (j - lo) else bitAt w j := by
  unfold bitAt setBits
  rw [BitVec.getLsbD_ofNat, testBit_withBits _ _ h]
  simp [hj, BitVec.getLsbD]

theorem bitAt_setBitAt (w : Word) (b : Bool) {k j : Nat} (hj : j < 32) :
    bitAt (setBitAt w k b) j = if j = k then b else bitAt w j := by
  unfold setBitAt
  rw [bitAt_setBits _ _ (Nat.le_refl k) hj]
  by_cases e : j = k
  · subst e
    cases b <;> simp
  · rw [if_neg e, if_neg (by omega)]

theorem getBits_testBit (w : Word) (hi lo j : Nat) :
    (getBits w hi lo).testBit j = (decide (j < hi + 1 - lo) && bitAt w (lo + j)) := by
  unfold getBits bitsOf bitAt
  rw [Nat.testBit_mod_two_pow, Nat.testBit_div_two_pow, BitVec.getLsbD, Nat.add_comm lo j]

theorem getBits_lt (w : Word) (hi lo : Nat) : getBits w hi lo < 2 ^ (hi + 1 - lo) := Nat.mod_lt _ (Nat.two_pow_pos _)

theorem getBits_setBits_same (w : Word) (v : Nat) {hi lo : Nat} (h : lo ≤ hi) (hh : hi < 32) :
    getBits (setBits w hi lo v) hi lo = v % 2 ^ (hi + 1 - lo) := by
  apply Nat.eq_of_testBit_eq
  intro j
  rw [getBits_testBit, Nat.testBit_mod_two_pow]
  by_cases hj : j < hi + 1 - lo
  · rw [bitAt_setBits _ _ h (by omega), if_pos (by omega), Nat.add_sub_cancel_left]
  · simp [hj]

theorem getBits_setBits_other (w : Word) (v : Nat) {hi lo hi' lo' : Nat} (h : lo ≤ hi) (hh : hi' < 32) (hd : hi' < lo ∨ hi < lo') :
    getBits (setBits w hi lo v) hi' lo' = getBits w hi' lo' := by
  apply Nat.eq_of_testBit_eq
  intro j
  rw [getBits_testBit, getBits_testBit]
  by_cases hj : j < hi' + 1 - lo'
  · rw [bitAt_setBits _ _ h (by omega), if_neg (by omega)]
  · simp [hj]

theorem bitAt_zero (j : Nat) : bitAt 0#32 j = false := by simp [bitAt]

theorem getBits_w32 (n : Nat) {hi lo : Nat} (hh : hi < 32) : getBits (w32 n) hi lo = bitsOf n hi lo := by
  apply Nat.eq_of_testBit_eq
  intro j
  rw [getBits_testBit]
  unfold bitsOf w32 bitAt
  rw [Nat.testBit_mod_two_pow, Nat.testBit_div_two_pow, BitVec.getLsbD_ofNat, Nat.add_comm lo j]
  by_cases hj : j < hi + 1 - lo
  · simp [hj, show j + lo < 32 by omega]
  · simp [hj]

theorem bitAt_w32_pow {k j : Nat} (hj : j < 32) : bitAt (w32 (2 ^ k)) j = decide (k = j) := by
  unfold bitAt w32
  rw [BitVec.getLsbD_ofNat, Nat.testBit_two_pow]
  simp [hj]

/-! ### Stored words -/

theorem rget_eq_of_regs {s t : State} (h : t.regs = s.regs) (a : Nat) : rget t a = rget s a := by unfold rget; rw [h]

theorem uget_eq_of_inUse {s t : State} (h : t.inUse = s.inUse) (a : Nat) : uget t a = uget s a := by unfold uget; rw [h]

@[simp] theorem rget_regs (s : State) (a : Nat) : smGet (coldWord a) s.regs a = rget s a := rfl

@[simp] theorem uget_inUse (s : State) (a : Nat) : smGet (coldWord a) s.inUse a = uget s a := rfl

theorem rget_rset (a b : Nat) (v : Word) (s : State) : rget (rset a v s) b = if b = a then v else rget s b := by
  unfold rget rset
  by_cases h : b = a
  · subst h; simp
  · rw [if_neg h]; exact smGet_smSet_other _ _ _ _ h

@[simp] theorem rget_rset_same (a : Nat) (v : Word) (s : State) : rget (rset a v s) a = v := by rw [rget_rset, if_pos rfl]

theorem rget_rset_other {a b : Nat} (v : Word) (s : State) (h : b ≠ a) : rget (rset a v s) b = rget s b := by rw [rget_rset, if_neg h]

theorem uget_uset (a b : Nat) (v : Word) (s : State) : uget (uset a v s) b = if b = a then v else uget s b := by
  unfold uget uset
  by_cases h : b = a
  · subst h; simp
  · rw [if_neg h]; exact smGet_smSet_other _ _ _ _ h

theorem rget_rsetFld_other {a b : Nat} (hi lo v : Nat) (s : State) (h : b ≠ a) : rget (rsetFld a hi lo v s) b = rget s b :=
  rget_rset_other _ _ h

theorem rget_rsetBit_other {a b : Nat} (k : Nat) (v : Bool) (s : State) (h : b ≠ a) : rget (rsetBit a k v s) b = rget s b :=
  rget_rset_other _ _ h

theorem rget_rinc_other {a b : Nat} (k : Nat) (s : State) (h : b ≠ a) : rget (rinc a k s) b = rget s b := rget_rset_other _ _ h

theorem rget_rset2_other {a b : Nat} (v : Nat) (s : State) (h : b ≠ a) (h4 : b ≠ a + 4) : rget (rset2 a v s) b = rget s b := by
  unfold rset2
  rw [rget_rset_other _ _ h4, rget_rset_other _ _ h]

theorem rfld_rsetFld_same (a v : Nat) (s : State) {hi lo : Nat} (h : lo ≤ hi) (hh : hi < 32) :
    rfld (rsetFld a hi lo v s) a hi lo = v % 2 ^ (hi + 1 - lo) := by
  unfold rfld rsetFld
  rw [rget_rset_same, getBits_setBits_same _ _ h hh]

theorem rfld_rsetFld_disjoint (a v : Nat) (s : State) {hi lo hi' lo' : Nat} (h : lo ≤ hi) (hh : hi' < 32) (hd : hi' < lo ∨ hi < lo') :
    rfld (rsetFld a hi lo v s) a hi' lo' = rfld s a hi' lo' := by
  unfold rfld rsetFld
  rw [rget_rset_same, getBits_setBits_other _ _ h hh hd]

theorem rbit_rsetBit_same (a : Nat) (b : Bool) (s : State) {k : Nat} (h : k < 32) : rbit (rsetBit a k b s) a k = b := by
  unfold rbit rsetBit
  rw [rget_rset_same, bitAt_setBitAt _ _ h, if_pos rfl]

theorem rbit_rsetBit_sibling (a : Nat) (b : Bool) (s : State) {k j : Nat} (hj : j < 32) (h : j ≠ k) :
    rbit (rsetBit a k b s) a j = rbit s a j := by
  unfold rbit rsetBit
  rw [rget_rset_same, bitAt_setBitAt _ _ hj, if_neg h]

theorem rnat_rinc (a k : Nat) (s : State) : rnat (rinc a k s) a = (rnat s a + k) % 2 ^ 32 := by
  unfold rinc rnat
  rw [rget_rset_same]
  exact BitVec.toNat_ofNat ..

theorem rnat_rset (a v : Nat) (s : State) (h : v < 2 ^ 32) : rnat (rset a (w32 v) s) a = v := by
  unfold rnat
  rw [rget_rset_same]
  exact (BitVec.toNat_ofNat ..).trans (Nat.mod_eq_of_lt h)

/-! ### Words after updates of other fields -/

@[simp] theorem rget_uset (addr : Nat) (v : Word) (s : State) (a : Nat) : rget (uset addr v s) a = rget s a := rfl

@[simp] theorem rget_emit (e : Emit) (s : State) (a : Nat) : rget (emit e s) a = rget s a := rfl

@[simp] theorem rget_draw (s : State) (a : Nat) : rget (draw s) a = rget s a := rfl

@[simp] theorem rget_setSiu (p : Nat) (v : SiuPort) (s : State) (a : Nat) : rget (setSiu p v s) a = rget s a := rfl

@[simp] theorem rget_setClr (p : Nat) (v : ClrPipe) (s : State) (a : Nat) : rget (setClr p v s) a = rget s a := rfl

@[simp] theorem rget_setCnt (v : CntState) (s : State) (a : Nat) : rget (setCnt v s) a = rget s a := rfl

/-- A word of a state written out as a record. -/
theorem rget_mk {x0 x1 x2 x3 x4 x5 x6 x7 x8 x9 x10 x11 x12 x13 x14 x15 x16 x17 x18 x19 x20 x21 x22 x23 x24 x25 x26 x27 x28 x29 x30 x31 x32 x33 x34 x35 x36 x37 x38 x39 x40 x41 x42 x43 x44 x45 x46 x47 x48 x49 x50} (a : Nat) :
    rget (State.mk x0 x1 x2 x3 x4 x5 x6 x7 x8 x9 x10 x11 x12 x13 x14 x15 x16 x17 x18 x19 x20 x21 x22 x23 x24 x25 x26 x27 x28 x29 x30 x31 x32 x33 x34 x35 x36 x37 x38 x39 x40 x41 x42 x43 x44 x45 x46 x47 x48 x49 x50) a = smGet (coldWord a) x3 a := rfl

theorem uget_mk {x0 x1 x2 x3 x4 x5 x6 x7 x8 x9 x10 x11 x12 x13 x14 x15 x16 x17 x18 x19 x20 x21 x22 x23 x24 x25 x26 x27 x28 x29 x30 x31 x32 x33 x34 x35 x36 x37 x38 x39 x40 x41 x42 x43 x44 x45 x46 x47 x48 x49 x50} (a : Nat) :
    uget (State.mk x0 x1 x2 x3 x4 x5 x6 x7 x8 x9 x10 x11 x12 x13 x14 x15 x16 x17 x18 x19 x20 x21 x22 x23 x24 x25 x26 x27 x28 x29 x30 x31 x32 x33 x34 x35 x36 x37 x38 x39 x40 x41 x42 x43 x44 x45 x46 x47 x48 x49 x50) a = smGet (coldWord a) x4 a := rfl

@[simp] theorem uget_rset (addr : Nat) (v : Word) (s : State) (a : Nat) : uget (rset addr v s) a = uget s a := rfl

@[simp] theorem pageThere_emit (e : Emit) (s : State) (n : Nat) : pageThere (emit e s) n = pageThere s n := rfl

/-! ### Flags and errors -/

variable (s : State)

/-- A word that no flag, error or count of writes lies in. -/
def Plain (a : Nat) : Prop := a % 0x1000 ≠ 0x18 ∧ a % 0x1000 ≠ 0x20 ∧ a % 0x1000 ≠ 0x24 ∧ a % 0x1000 ≠ 0x2C

theorem plain_of_body {a : Nat} (h : 0x40 ≤ a % 0x1000) : Plain a := by
  unfold Plain
  omega

/-- A page is there by the ordering code, MEM_CFG and Dead-reckoning mode alone. -/
theorem pageThere_congr {s t : State} {n : Nat} (hc : t.code = s.code) (hm : rget t R.MEM_CFG = rget s R.MEM_CFG)
    (hd : rget t R.PLT_DR_CTRL = rget s R.PLT_DR_CTRL) : pageThere t n = pageThere s n := by
  unfold pageThere deadReckoning rfld rbit
  rw [hc, hm, hd]

@[simp] theorem sendVector_others (v : Nat) :
    (sendVector v s).code = s.code ∧ (sendVector v s).now = s.now ∧ (sendVector v s).meridian = s.meridian ∧
    (sendVector v s).regs = s.regs ∧ (sendVector v s).inUse = s.inUse ∧ (sendVector v s).held = s.held ∧
    (sendVector v s).latch = s.latch ∧ (sendVector v s).resetting = s.resetting ∧ (sendVector v s).warmBegun = s.warmBegun ∧
    (sendVector v s).fabricOpen = s.fabricOpen ∧ (sendVector v s).msixOn = s.msixOn ∧ (sendVector v s).drawn = s.drawn ∧
    (sendVector v s).mem = s.mem ∧ (sendVector v s).hostMem = s.hostMem ∧ (sendVector v s).poison = s.poison ∧
    (sendVector v s).leaveQueue = s.leaveQueue ∧ (sendVector v s).leaveGrants = s.leaveGrants ∧
    (sendVector v s).logQueue = s.logQueue ∧ (sendVector v s).logLost = s.logLost ∧
    (sendVector v s).logLostFirst = s.logLostFirst ∧ (sendVector v s).logLostLast = s.logLostLast ∧
    (sendVector v s).siu = s.siu ∧ (sendVector v s).clr = s.clr ∧ (sendVector v s).clrSpare = s.clrSpare ∧
    (sendVector v s).cnv = s.cnv ∧ (sendVector v s).pho = s.pho ∧ (sendVector v s).tlk = s.tlk ∧
    (sendVector v s).tlkLastId = s.tlkLastId ∧ (sendVector v s).warmStart = s.warmStart ∧ (sendVector v s).cas = s.cas ∧
    (sendVector v s).lan = s.lan ∧ (sendVector v s).lanRelease = s.lanRelease ∧ (sendVector v s).pcie = s.pcie ∧
    (sendVector v s).memCtl = s.memCtl ∧ (sendVector v s).cmp = s.cmp ∧ (sendVector v s).recorder = s.recorder ∧
    (sendVector v s).cod = s.cod ∧ (sendVector v s).mot = s.mot ∧ (sendVector v s).sinc = s.sinc ∧ (sendVector v s).aud = s.aud ∧
    (sendVector v s).audGood = s.audGood ∧ (sendVector v s).twi = s.twi ∧ (sendVector v s).plt = s.plt ∧
    (sendVector v s).cnt = s.cnt ∧ (sendVector v s).dbg = s.dbg ∧ (sendVector v s).stopped = s.stopped ∧
    (sendVector v s).taiPending = s.taiPending ∧ (sendVector v s).tLast = s.tLast ∧ (sendVector v s).pending = s.pending := by
  unfold sendVector
  split <;> (and_intros <;> rfl)

@[simp] theorem sendVector_regs (v : Nat) : (sendVector v s).regs = s.regs := by
  unfold sendVector
  split <;> rfl

@[simp] theorem sourceVector_others (v : Nat) :
    (sourceVector v s).code = s.code ∧ (sourceVector v s).now = s.now ∧ (sourceVector v s).meridian = s.meridian ∧
    (sourceVector v s).regs = s.regs ∧ (sourceVector v s).inUse = s.inUse ∧ (sourceVector v s).held = s.held ∧
    (sourceVector v s).latch = s.latch ∧ (sourceVector v s).resetting = s.resetting ∧
    (sourceVector v s).warmBegun = s.warmBegun ∧ (sourceVector v s).fabricOpen = s.fabricOpen ∧
    (sourceVector v s).msixOn = s.msixOn ∧ (sourceVector v s).drawn = s.drawn ∧ (sourceVector v s).mem = s.mem ∧
    (sourceVector v s).hostMem = s.hostMem ∧ (sourceVector v s).poison = s.poison ∧
    (sourceVector v s).leaveQueue = s.leaveQueue ∧ (sourceVector v s).leaveGrants = s.leaveGrants ∧
    (sourceVector v s).logQueue = s.logQueue ∧ (sourceVector v s).logLost = s.logLost ∧
    (sourceVector v s).logLostFirst = s.logLostFirst ∧ (sourceVector v s).logLostLast = s.logLostLast ∧
    (sourceVector v s).siu = s.siu ∧ (sourceVector v s).clr = s.clr ∧ (sourceVector v s).clrSpare = s.clrSpare ∧
    (sourceVector v s).cnv = s.cnv ∧ (sourceVector v s).pho = s.pho ∧ (sourceVector v s).tlk = s.tlk ∧
    (sourceVector v s).tlkLastId = s.tlkLastId ∧ (sourceVector v s).warmStart = s.warmStart ∧ (sourceVector v s).cas = s.cas ∧
    (sourceVector v s).lan = s.lan ∧ (sourceVector v s).lanRelease = s.lanRelease ∧ (sourceVector v s).pcie = s.pcie ∧
    (sourceVector v s).memCtl = s.memCtl ∧ (sourceVector v s).cmp = s.cmp ∧ (sourceVector v s).recorder = s.recorder ∧
    (sourceVector v s).cod = s.cod ∧ (sourceVector v s).mot = s.mot ∧ (sourceVector v s).sinc = s.sinc ∧
    (sourceVector v s).aud = s.aud ∧ (sourceVector v s).audGood = s.audGood ∧ (sourceVector v s).twi = s.twi ∧
    (sourceVector v s).plt = s.plt ∧ (sourceVector v s).cnt = s.cnt ∧ (sourceVector v s).dbg = s.dbg ∧
    (sourceVector v s).stopped = s.stopped ∧ (sourceVector v s).taiPending = s.taiPending ∧ (sourceVector v s).tLast = s.tLast ∧
    (sourceVector v s).pending = s.pending := by
  unfold sourceVector
  split
  · simp only [and_self]
  · exact sendVector_others s v

@[simp] theorem sourceVector_regs (v : Nat) : (sourceVector v s).regs = s.regs := by
  unfold sourceVector
  split
  · rfl
  · exact sendVector_regs s v

@[simp] theorem rget_sendVector (v a : Nat) : rget (sendVector v s) a = rget s a := rget_eq_of_regs (sendVector_regs s v) a

@[simp] theorem rget_sourceVector (v a : Nat) : rget (sourceVector v s) a = rget s a := rget_eq_of_regs (sourceVector_regs s v) a

/-- Latching is a store of the page's status word, and perhaps a message. -/
theorem latchStat_spec (n : Nat) (mask : Word) :
    latchStat n mask s = s ∧ pageThere s n = false ∨
    pageThere s n = true ∧ (latchStat n mask s = rset (hdrIntStat n) (rget s (hdrIntStat n) ||| mask) s ∨
      latchStat n mask s = sendVector n (rset (hdrIntStat n) (rget s (hdrIntStat n) ||| mask) s)) := by
  unfold latchStat withRequest
  cases h : pageThere s n
  · exact .inl ⟨if_neg Bool.false_ne_true, rfl⟩
  · refine .inr ⟨rfl, ?_⟩
    dsimp only
    rw [if_pos rfl]
    split
    · exact .inr rfl
    · exact .inl rfl

@[simp] theorem latchStat_others (n : Nat) (mask : Word) :
    (latchStat n mask s).code = s.code ∧ (latchStat n mask s).now = s.now ∧ (latchStat n mask s).meridian = s.meridian ∧
    (latchStat n mask s).inUse = s.inUse ∧ (latchStat n mask s).held = s.held ∧ (latchStat n mask s).latch = s.latch ∧
    (latchStat n mask s).resetting = s.resetting ∧ (latchStat n mask s).warmBegun = s.warmBegun ∧
    (latchStat n mask s).fabricOpen = s.fabricOpen ∧ (latchStat n mask s).msixOn = s.msixOn ∧
    (latchStat n mask s).drawn = s.drawn ∧ (latchStat n mask s).mem = s.mem ∧ (latchStat n mask s).hostMem = s.hostMem ∧
    (latchStat n mask s).poison = s.poison ∧ (latchStat n mask s).leaveQueue = s.leaveQueue ∧
    (latchStat n mask s).leaveGrants = s.leaveGrants ∧ (latchStat n mask s).logQueue = s.logQueue ∧
    (latchStat n mask s).logLost = s.logLost ∧ (latchStat n mask s).logLostFirst = s.logLostFirst ∧
    (latchStat n mask s).logLostLast = s.logLostLast ∧ (latchStat n mask s).siu = s.siu ∧ (latchStat n mask s).clr = s.clr ∧
    (latchStat n mask s).clrSpare = s.clrSpare ∧ (latchStat n mask s).cnv = s.cnv ∧ (latchStat n mask s).pho = s.pho ∧
    (latchStat n mask s).tlk = s.tlk ∧ (latchStat n mask s).tlkLastId = s.tlkLastId ∧
    (latchStat n mask s).warmStart = s.warmStart ∧ (latchStat n mask s).cas = s.cas ∧ (latchStat n mask s).lan = s.lan ∧
    (latchStat n mask s).lanRelease = s.lanRelease ∧ (latchStat n mask s).pcie = s.pcie ∧
    (latchStat n mask s).memCtl = s.memCtl ∧ (latchStat n mask s).cmp = s.cmp ∧ (latchStat n mask s).recorder = s.recorder ∧
    (latchStat n mask s).cod = s.cod ∧ (latchStat n mask s).mot = s.mot ∧ (latchStat n mask s).sinc = s.sinc ∧
    (latchStat n mask s).aud = s.aud ∧ (latchStat n mask s).audGood = s.audGood ∧ (latchStat n mask s).twi = s.twi ∧
    (latchStat n mask s).plt = s.plt ∧ (latchStat n mask s).cnt = s.cnt ∧ (latchStat n mask s).dbg = s.dbg ∧
    (latchStat n mask s).stopped = s.stopped ∧ (latchStat n mask s).taiPending = s.taiPending ∧
    (latchStat n mask s).tLast = s.tLast ∧ (latchStat n mask s).pending = s.pending := by
  rcases latchStat_spec s n mask with ⟨h, _⟩ | ⟨_, h | h⟩ <;> rw [h]
  · simp only [and_self]
  · simp only [rset_others, and_self]
  · simp

theorem rget_latchStat (n : Nat) (mask : Word) (a : Nat) :
    rget (latchStat n mask s) a = if pageThere s n = true ∧ a = hdrIntStat n then rget s a ||| mask else rget s a := by
  rcases latchStat_spec s n mask with ⟨h, h0⟩ | ⟨h0, h | h⟩ <;> rw [h]
  · simp [h0]
  · rw [rget_rset]
    by_cases e : a = hdrIntStat n
    · simp [h0, e]
    · simp [e]
  · rw [rget_sendVector, rget_rset]
    by_cases e : a = hdrIntStat n
    · simp [h0, e]
    · simp [e]

@[simp] theorem raiseInt_others (n k : Nat) :
    (raiseInt n k s).code = s.code ∧ (raiseInt n k s).now = s.now ∧ (raiseInt n k s).meridian = s.meridian ∧
    (raiseInt n k s).inUse = s.inUse ∧ (raiseInt n k s).held = s.held ∧ (raiseInt n k s).latch = s.latch ∧
    (raiseInt n k s).resetting = s.resetting ∧ (raiseInt n k s).warmBegun = s.warmBegun ∧
    (raiseInt n k s).fabricOpen = s.fabricOpen ∧ (raiseInt n k s).msixOn = s.msixOn ∧ (raiseInt n k s).drawn = s.drawn ∧
    (raiseInt n k s).mem = s.mem ∧ (raiseInt n k s).hostMem = s.hostMem ∧ (raiseInt n k s).poison = s.poison ∧
    (raiseInt n k s).leaveQueue = s.leaveQueue ∧ (raiseInt n k s).leaveGrants = s.leaveGrants ∧
    (raiseInt n k s).logQueue = s.logQueue ∧ (raiseInt n k s).logLost = s.logLost ∧
    (raiseInt n k s).logLostFirst = s.logLostFirst ∧ (raiseInt n k s).logLostLast = s.logLostLast ∧
    (raiseInt n k s).siu = s.siu ∧ (raiseInt n k s).clr = s.clr ∧ (raiseInt n k s).clrSpare = s.clrSpare ∧
    (raiseInt n k s).cnv = s.cnv ∧ (raiseInt n k s).pho = s.pho ∧ (raiseInt n k s).tlk = s.tlk ∧
    (raiseInt n k s).tlkLastId = s.tlkLastId ∧ (raiseInt n k s).warmStart = s.warmStart ∧ (raiseInt n k s).cas = s.cas ∧
    (raiseInt n k s).lan = s.lan ∧ (raiseInt n k s).lanRelease = s.lanRelease ∧ (raiseInt n k s).pcie = s.pcie ∧
    (raiseInt n k s).memCtl = s.memCtl ∧ (raiseInt n k s).cmp = s.cmp ∧ (raiseInt n k s).recorder = s.recorder ∧
    (raiseInt n k s).cod = s.cod ∧ (raiseInt n k s).mot = s.mot ∧ (raiseInt n k s).sinc = s.sinc ∧ (raiseInt n k s).aud = s.aud ∧
    (raiseInt n k s).audGood = s.audGood ∧ (raiseInt n k s).twi = s.twi ∧ (raiseInt n k s).plt = s.plt ∧
    (raiseInt n k s).cnt = s.cnt ∧ (raiseInt n k s).dbg = s.dbg ∧ (raiseInt n k s).stopped = s.stopped ∧
    (raiseInt n k s).taiPending = s.taiPending ∧ (raiseInt n k s).tLast = s.tLast ∧ (raiseInt n k s).pending = s.pending := by
  exact latchStat_others s n _

theorem rget_raiseInt (n k a : Nat) :
    rget (raiseInt n k s) a = if pageThere s n = true ∧ a = hdrIntStat n then rget s a ||| w32 (2 ^ k) else rget s a :=
  rget_latchStat s n _ a

/-- Raising an interrupt bit touches no other word than the page's status. -/
theorem rget_raiseInt_plain (n k : Nat) {a : Nat} (h : Plain a) : rget (raiseInt n k s) a = rget s a := by
  rw [rget_raiseInt, if_neg]
  rintro ⟨_, rfl⟩
  revert h
  unfold Plain hdrIntStat pageBase
  omega

/-- The bit is set on a page that is there. -/
theorem rbit_raiseInt (n : Nat) {k : Nat} (hk : k < 32) (h : pageThere s n = true) : rbit (raiseInt n k s) (hdrIntStat n) k = true := by
  unfold rbit
  rw [rget_raiseInt, if_pos ⟨h, rfl⟩]
  unfold bitAt
  rw [BitVec.getLsbD_or]
  have := bitAt_w32_pow (k := k) hk
  unfold bitAt at this
  rw [this]
  simp

@[simp] theorem levelInt_others (n k : Nat) (b : Bool) :
    (levelInt n k b s).code = s.code ∧ (levelInt n k b s).now = s.now ∧ (levelInt n k b s).meridian = s.meridian ∧
    (levelInt n k b s).inUse = s.inUse ∧ (levelInt n k b s).held = s.held ∧ (levelInt n k b s).latch = s.latch ∧
    (levelInt n k b s).resetting = s.resetting ∧ (levelInt n k b s).warmBegun = s.warmBegun ∧
    (levelInt n k b s).fabricOpen = s.fabricOpen ∧ (levelInt n k b s).msixOn = s.msixOn ∧ (levelInt n k b s).drawn = s.drawn ∧
    (levelInt n k b s).mem = s.mem ∧ (levelInt n k b s).hostMem = s.hostMem ∧ (levelInt n k b s).poison = s.poison ∧
    (levelInt n k b s).leaveQueue = s.leaveQueue ∧ (levelInt n k b s).leaveGrants = s.leaveGrants ∧
    (levelInt n k b s).logQueue = s.logQueue ∧ (levelInt n k b s).logLost = s.logLost ∧
    (levelInt n k b s).logLostFirst = s.logLostFirst ∧ (levelInt n k b s).logLostLast = s.logLostLast ∧
    (levelInt n k b s).siu = s.siu ∧ (levelInt n k b s).clr = s.clr ∧ (levelInt n k b s).clrSpare = s.clrSpare ∧
    (levelInt n k b s).cnv = s.cnv ∧ (levelInt n k b s).pho = s.pho ∧ (levelInt n k b s).tlk = s.tlk ∧
    (levelInt n k b s).tlkLastId = s.tlkLastId ∧ (levelInt n k b s).warmStart = s.warmStart ∧ (levelInt n k b s).cas = s.cas ∧
    (levelInt n k b s).lan = s.lan ∧ (levelInt n k b s).lanRelease = s.lanRelease ∧ (levelInt n k b s).pcie = s.pcie ∧
    (levelInt n k b s).memCtl = s.memCtl ∧ (levelInt n k b s).cmp = s.cmp ∧ (levelInt n k b s).recorder = s.recorder ∧
    (levelInt n k b s).cod = s.cod ∧ (levelInt n k b s).mot = s.mot ∧ (levelInt n k b s).sinc = s.sinc ∧
    (levelInt n k b s).aud = s.aud ∧ (levelInt n k b s).audGood = s.audGood ∧ (levelInt n k b s).twi = s.twi ∧
    (levelInt n k b s).plt = s.plt ∧ (levelInt n k b s).cnt = s.cnt ∧ (levelInt n k b s).dbg = s.dbg ∧
    (levelInt n k b s).stopped = s.stopped ∧ (levelInt n k b s).taiPending = s.taiPending ∧ (levelInt n k b s).tLast = s.tLast ∧
    (levelInt n k b s).pending = s.pending := by
  unfold levelInt
  dsimp only
  split
  · rw [(raiseInt_others _ n k).1]
    simp [rsetBit]
  · simp [rsetBit]

theorem rget_levelInt_plain (n k : Nat) (b : Bool) {a : Nat} (h : Plain a) (hn : a % 0x1000 ≠ 0x10) :
    rget (levelInt n k b s) a = rget s a := by
  have hn : a ≠ hdrIntRaw n := by
    rintro rfl
    revert hn
    unfold hdrIntRaw pageBase
    omega
  unfold levelInt
  dsimp only
  split
  · rw [rget_raiseInt_plain _ _ _ h, rget_rsetBit_other _ _ _ hn]
  · rw [rget_rsetBit_other _ _ _ hn]

@[simp] theorem raiseErr_others (n cause : Nat) (info : Word) :
    (raiseErr n cause info s).code = s.code ∧ (raiseErr n cause info s).now = s.now ∧
    (raiseErr n cause info s).meridian = s.meridian ∧ (raiseErr n cause info s).inUse = s.inUse ∧
    (raiseErr n cause info s).held = s.held ∧ (raiseErr n cause info s).latch = s.latch ∧
    (raiseErr n cause info s).resetting = s.resetting ∧ (raiseErr n cause info s).warmBegun = s.warmBegun ∧
    (raiseErr n cause info s).fabricOpen = s.fabricOpen ∧ (raiseErr n cause info s).msixOn = s.msixOn ∧
    (raiseErr n cause info s).drawn = s.drawn ∧ (raiseErr n cause info s).mem = s.mem ∧
    (raiseErr n cause info s).hostMem = s.hostMem ∧ (raiseErr n cause info s).poison = s.poison ∧
    (raiseErr n cause info s).leaveQueue = s.leaveQueue ∧ (raiseErr n cause info s).leaveGrants = s.leaveGrants ∧
    (raiseErr n cause info s).logQueue = s.logQueue ∧ (raiseErr n cause info s).logLost = s.logLost ∧
    (raiseErr n cause info s).logLostFirst = s.logLostFirst ∧ (raiseErr n cause info s).logLostLast = s.logLostLast ∧
    (raiseErr n cause info s).siu = s.siu ∧ (raiseErr n cause info s).clr = s.clr ∧
    (raiseErr n cause info s).clrSpare = s.clrSpare ∧ (raiseErr n cause info s).cnv = s.cnv ∧
    (raiseErr n cause info s).pho = s.pho ∧ (raiseErr n cause info s).tlk = s.tlk ∧
    (raiseErr n cause info s).tlkLastId = s.tlkLastId ∧ (raiseErr n cause info s).warmStart = s.warmStart ∧
    (raiseErr n cause info s).cas = s.cas ∧ (raiseErr n cause info s).lan = s.lan ∧
    (raiseErr n cause info s).lanRelease = s.lanRelease ∧ (raiseErr n cause info s).pcie = s.pcie ∧
    (raiseErr n cause info s).memCtl = s.memCtl ∧ (raiseErr n cause info s).cmp = s.cmp ∧
    (raiseErr n cause info s).recorder = s.recorder ∧ (raiseErr n cause info s).cod = s.cod ∧
    (raiseErr n cause info s).mot = s.mot ∧ (raiseErr n cause info s).sinc = s.sinc ∧ (raiseErr n cause info s).aud = s.aud ∧
    (raiseErr n cause info s).audGood = s.audGood ∧ (raiseErr n cause info s).twi = s.twi ∧
    (raiseErr n cause info s).plt = s.plt ∧ (raiseErr n cause info s).cnt = s.cnt ∧ (raiseErr n cause info s).dbg = s.dbg ∧
    (raiseErr n cause info s).stopped = s.stopped ∧ (raiseErr n cause info s).taiPending = s.taiPending ∧
    (raiseErr n cause info s).tLast = s.tLast ∧ (raiseErr n cause info s).pending = s.pending := by
  unfold raiseErr
  split
  · simp only [and_self]
  · split
    · simp [rsetFld]
    · simp

/-- An error on a page that is not used leaves nothing. -/
theorem raiseErr_absent (n cause : Nat) (info : Word) (h : pageThere s n = false) : raiseErr n cause info s = s := by
  unfold raiseErr
  rw [h]
  rfl

/-- The first error of a page loads CODE and INFO and sets the error bit (R34). -/
theorem raiseErr_first (n cause : Nat) (info : Word) (h : pageThere s n = true) (h0 : rbit s (hdrIntStat n) 0 = false) :
    raiseErr n cause info s =
      raiseInt n 0 (rset (hdrErrInfo n) info (rset (hdrErrCode n) (w32 (blockOfPage n * 256 + cause)) s)) := by
  unfold raiseErr
  rw [h, h0]
  rfl

/-- A later error only counts in MORE, which holds at 65,535 (R34). -/
theorem raiseErr_more (n cause : Nat) (info : Word) (h : pageThere s n = true) (h0 : rbit s (hdrIntStat n) 0 = true) :
    raiseErr n cause info s = rsetFld (hdrErrCode n) 31 16 (satTo 0xFFFF (rfld s (hdrErrCode n) 31 16 + 1)) s := by
  unfold raiseErr
  rw [h, h0]
  rfl

/-- An error touches the page's error and status words alone. -/
theorem rget_raiseErr_plain (n cause : Nat) (info : Word) {a : Nat} (h : Plain a) : rget (raiseErr n cause info s) a = rget s a := by
  have hc : a ≠ hdrErrCode n := by
    rintro rfl
    revert h
    unfold Plain hdrErrCode pageBase
    omega
  have hi : a ≠ hdrErrInfo n := by
    rintro rfl
    revert h
    unfold Plain hdrErrInfo pageBase
    omega
  unfold raiseErr
  split
  · rfl
  · split
    · exact rget_rset_other _ _ hc
    · rw [rget_raiseInt_plain _ _ _ h, rget_rset_other _ _ hi, rget_rset_other _ _ hc]

/-- After an error the page's error bit is set. -/
theorem rbit_raiseErr (n cause : Nat) (info : Word) (h : pageThere s n = true) :
    rbit (raiseErr n cause info s) (hdrIntStat n) 0 = true := by
  cases h0 : rbit s (hdrIntStat n) 0
  · rw [raiseErr_first _ _ _ _ h h0]
    refine rbit_raiseInt _ _ (by omega) ?_
    rw [← h]
    exact pageThere_congr rfl
      (by rw [rget_rset_other _ _ (by unfold R.MEM_CFG hdrErrInfo pageBase; omega), rget_rset_other _ _ (by unfold R.MEM_CFG hdrErrCode pageBase; omega)])
      (by rw [rget_rset_other _ _ (by unfold R.PLT_DR_CTRL hdrErrInfo pageBase; omega), rget_rset_other _ _ (by unfold R.PLT_DR_CTRL hdrErrCode pageBase; omega)])
  · rw [raiseErr_more _ _ _ _ h h0]
    unfold rbit rsetFld
    rw [rget_rset_other]
    · exact h0
    · unfold hdrIntStat hdrErrCode pageBase
      omega

/-- The first error of a page leaves its code, cause and INFO (R34). -/
theorem rget_raiseErr_code (n cause : Nat) (info : Word) (h : pageThere s n = true) (h0 : rbit s (hdrIntStat n) 0 = false) :
    rget (raiseErr n cause info s) (hdrErrCode n) = w32 (blockOfPage n * 256 + cause) ∧
      rget (raiseErr n cause info s) (hdrErrInfo n) = info := by
  rw [raiseErr_first _ _ _ _ h h0]
  constructor
  · rw [rget_raiseInt, if_neg (by rintro ⟨_, e⟩; revert e; unfold hdrErrCode hdrIntStat pageBase; omega),
      rget_rset_other _ _ (by unfold hdrErrCode hdrErrInfo pageBase; omega), rget_rset_same]
  · rw [rget_raiseInt, if_neg (by rintro ⟨_, e⟩; revert e; unfold hdrErrInfo hdrIntStat pageBase; omega), rget_rset_same]

@[simp] theorem clearStat_others (n : Nat) (mask : Word) :
    (clearStat n mask s).code = s.code ∧ (clearStat n mask s).now = s.now ∧ (clearStat n mask s).meridian = s.meridian ∧
    (clearStat n mask s).inUse = s.inUse ∧ (clearStat n mask s).held = s.held ∧ (clearStat n mask s).latch = s.latch ∧
    (clearStat n mask s).resetting = s.resetting ∧ (clearStat n mask s).warmBegun = s.warmBegun ∧
    (clearStat n mask s).fabricOpen = s.fabricOpen ∧ (clearStat n mask s).msixOn = s.msixOn ∧
    (clearStat n mask s).msixPending = s.msixPending ∧ (clearStat n mask s).drawn = s.drawn ∧ (clearStat n mask s).mem = s.mem ∧
    (clearStat n mask s).hostMem = s.hostMem ∧ (clearStat n mask s).poison = s.poison ∧
    (clearStat n mask s).leaveQueue = s.leaveQueue ∧ (clearStat n mask s).leaveGrants = s.leaveGrants ∧
    (clearStat n mask s).logQueue = s.logQueue ∧ (clearStat n mask s).logLost = s.logLost ∧
    (clearStat n mask s).logLostFirst = s.logLostFirst ∧ (clearStat n mask s).logLostLast = s.logLostLast ∧
    (clearStat n mask s).siu = s.siu ∧ (clearStat n mask s).clr = s.clr ∧ (clearStat n mask s).clrSpare = s.clrSpare ∧
    (clearStat n mask s).cnv = s.cnv ∧ (clearStat n mask s).pho = s.pho ∧ (clearStat n mask s).tlk = s.tlk ∧
    (clearStat n mask s).tlkLastId = s.tlkLastId ∧ (clearStat n mask s).warmStart = s.warmStart ∧
    (clearStat n mask s).cas = s.cas ∧ (clearStat n mask s).lan = s.lan ∧ (clearStat n mask s).lanRelease = s.lanRelease ∧
    (clearStat n mask s).pcie = s.pcie ∧ (clearStat n mask s).memCtl = s.memCtl ∧ (clearStat n mask s).cmp = s.cmp ∧
    (clearStat n mask s).recorder = s.recorder ∧ (clearStat n mask s).cod = s.cod ∧ (clearStat n mask s).mot = s.mot ∧
    (clearStat n mask s).sinc = s.sinc ∧ (clearStat n mask s).aud = s.aud ∧ (clearStat n mask s).audGood = s.audGood ∧
    (clearStat n mask s).twi = s.twi ∧ (clearStat n mask s).plt = s.plt ∧ (clearStat n mask s).cnt = s.cnt ∧
    (clearStat n mask s).dbg = s.dbg ∧ (clearStat n mask s).stopped = s.stopped ∧
    (clearStat n mask s).taiPending = s.taiPending ∧ (clearStat n mask s).tLast = s.tLast ∧ (clearStat n mask s).out = s.out ∧
    (clearStat n mask s).pending = s.pending := by
  unfold clearStat
  dsimp only
  split <;> simp

@[simp] theorem resignal_others (n : Nat) :
    (resignal n s).code = s.code ∧ (resignal n s).now = s.now ∧ (resignal n s).meridian = s.meridian ∧
    (resignal n s).regs = s.regs ∧ (resignal n s).inUse = s.inUse ∧ (resignal n s).held = s.held ∧
    (resignal n s).latch = s.latch ∧ (resignal n s).resetting = s.resetting ∧ (resignal n s).warmBegun = s.warmBegun ∧
    (resignal n s).fabricOpen = s.fabricOpen ∧ (resignal n s).msixOn = s.msixOn ∧ (resignal n s).drawn = s.drawn ∧
    (resignal n s).mem = s.mem ∧ (resignal n s).hostMem = s.hostMem ∧ (resignal n s).poison = s.poison ∧
    (resignal n s).leaveQueue = s.leaveQueue ∧ (resignal n s).leaveGrants = s.leaveGrants ∧
    (resignal n s).logQueue = s.logQueue ∧ (resignal n s).logLost = s.logLost ∧ (resignal n s).logLostFirst = s.logLostFirst ∧
    (resignal n s).logLostLast = s.logLostLast ∧ (resignal n s).siu = s.siu ∧ (resignal n s).clr = s.clr ∧
    (resignal n s).clrSpare = s.clrSpare ∧ (resignal n s).cnv = s.cnv ∧ (resignal n s).pho = s.pho ∧ (resignal n s).tlk = s.tlk ∧
    (resignal n s).tlkLastId = s.tlkLastId ∧ (resignal n s).warmStart = s.warmStart ∧ (resignal n s).cas = s.cas ∧
    (resignal n s).lan = s.lan ∧ (resignal n s).lanRelease = s.lanRelease ∧ (resignal n s).pcie = s.pcie ∧
    (resignal n s).memCtl = s.memCtl ∧ (resignal n s).cmp = s.cmp ∧ (resignal n s).recorder = s.recorder ∧
    (resignal n s).cod = s.cod ∧ (resignal n s).mot = s.mot ∧ (resignal n s).sinc = s.sinc ∧ (resignal n s).aud = s.aud ∧
    (resignal n s).audGood = s.audGood ∧ (resignal n s).twi = s.twi ∧ (resignal n s).plt = s.plt ∧ (resignal n s).cnt = s.cnt ∧
    (resignal n s).dbg = s.dbg ∧ (resignal n s).stopped = s.stopped ∧ (resignal n s).taiPending = s.taiPending ∧
    (resignal n s).tLast = s.tLast ∧ (resignal n s).pending = s.pending := by
  unfold resignal
  split
  · exact sendVector_others s n
  · simp only [and_self]

@[simp] theorem logEvent_others (source inst kind : Nat) (detail : List Byte) :
    (logEvent source inst kind detail s).code = s.code ∧ (logEvent source inst kind detail s).now = s.now ∧
    (logEvent source inst kind detail s).meridian = s.meridian ∧ (logEvent source inst kind detail s).inUse = s.inUse ∧
    (logEvent source inst kind detail s).held = s.held ∧ (logEvent source inst kind detail s).latch = s.latch ∧
    (logEvent source inst kind detail s).resetting = s.resetting ∧ (logEvent source inst kind detail s).warmBegun = s.warmBegun ∧
    (logEvent source inst kind detail s).fabricOpen = s.fabricOpen ∧ (logEvent source inst kind detail s).msixOn = s.msixOn ∧
    (logEvent source inst kind detail s).drawn = s.drawn ∧ (logEvent source inst kind detail s).mem = s.mem ∧
    (logEvent source inst kind detail s).hostMem = s.hostMem ∧ (logEvent source inst kind detail s).poison = s.poison ∧
    (logEvent source inst kind detail s).leaveQueue = s.leaveQueue ∧
    (logEvent source inst kind detail s).leaveGrants = s.leaveGrants ∧ (logEvent source inst kind detail s).siu = s.siu ∧
    (logEvent source inst kind detail s).clr = s.clr ∧ (logEvent source inst kind detail s).clrSpare = s.clrSpare ∧
    (logEvent source inst kind detail s).cnv = s.cnv ∧ (logEvent source inst kind detail s).pho = s.pho ∧
    (logEvent source inst kind detail s).tlk = s.tlk ∧ (logEvent source inst kind detail s).tlkLastId = s.tlkLastId ∧
    (logEvent source inst kind detail s).warmStart = s.warmStart ∧ (logEvent source inst kind detail s).cas = s.cas ∧
    (logEvent source inst kind detail s).lan = s.lan ∧ (logEvent source inst kind detail s).lanRelease = s.lanRelease ∧
    (logEvent source inst kind detail s).pcie = s.pcie ∧ (logEvent source inst kind detail s).memCtl = s.memCtl ∧
    (logEvent source inst kind detail s).cmp = s.cmp ∧ (logEvent source inst kind detail s).recorder = s.recorder ∧
    (logEvent source inst kind detail s).cod = s.cod ∧ (logEvent source inst kind detail s).mot = s.mot ∧
    (logEvent source inst kind detail s).sinc = s.sinc ∧ (logEvent source inst kind detail s).aud = s.aud ∧
    (logEvent source inst kind detail s).audGood = s.audGood ∧ (logEvent source inst kind detail s).twi = s.twi ∧
    (logEvent source inst kind detail s).plt = s.plt ∧ (logEvent source inst kind detail s).cnt = s.cnt ∧
    (logEvent source inst kind detail s).dbg = s.dbg ∧ (logEvent source inst kind detail s).stopped = s.stopped ∧
    (logEvent source inst kind detail s).taiPending = s.taiPending ∧ (logEvent source inst kind detail s).tLast = s.tLast ∧
    (logEvent source inst kind detail s).pending = s.pending := by
  unfold logEvent
  split
  · dsimp only
    split <;> simp [rsetFld]
  · simp [rinc]

end Sys2Proof.Laws
end

