-- ==== Sys2Proof/Laws/DeviceMemory.lean ====
section
/-! SUPPORT. Device memory as the blocks reach it: what waking the memory, an uncorrectable burst, a rank that retires and a write leave alone. -/

namespace Sys2Proof.Laws

open Sys2Proof.Machine

variable (s : State)

@[simp] theorem setMemChan_others (ch : Nat) (v : MemChan) :
    (setMemChan ch v s).code = s.code ∧ (setMemChan ch v s).now = s.now ∧ (setMemChan ch v s).meridian = s.meridian ∧
    (setMemChan ch v s).regs = s.regs ∧ (setMemChan ch v s).inUse = s.inUse ∧ (setMemChan ch v s).held = s.held ∧
    (setMemChan ch v s).latch = s.latch ∧ (setMemChan ch v s).resetting = s.resetting ∧
    (setMemChan ch v s).warmBegun = s.warmBegun ∧ (setMemChan ch v s).fabricOpen = s.fabricOpen ∧
    (setMemChan ch v s).msixOn = s.msixOn ∧ (setMemChan ch v s).msixPending = s.msixPending ∧
    (setMemChan ch v s).drawn = s.drawn ∧ (setMemChan ch v s).mem = s.mem ∧ (setMemChan ch v s).hostMem = s.hostMem ∧
    (setMemChan ch v s).poison = s.poison ∧ (setMemChan ch v s).leaveQueue = s.leaveQueue ∧
    (setMemChan ch v s).leaveGrants = s.leaveGrants ∧ (setMemChan ch v s).logQueue = s.logQueue ∧
    (setMemChan ch v s).logLost = s.logLost ∧ (setMemChan ch v s).logLostFirst = s.logLostFirst ∧
    (setMemChan ch v s).logLostLast = s.logLostLast ∧ (setMemChan ch v s).siu = s.siu ∧ (setMemChan ch v s).clr = s.clr ∧
    (setMemChan ch v s).clrSpare = s.clrSpare ∧ (setMemChan ch v s).cnv = s.cnv ∧ (setMemChan ch v s).pho = s.pho ∧
    (setMemChan ch v s).tlk = s.tlk ∧ (setMemChan ch v s).tlkLastId = s.tlkLastId ∧ (setMemChan ch v s).warmStart = s.warmStart ∧
    (setMemChan ch v s).cas = s.cas ∧ (setMemChan ch v s).lan = s.lan ∧ (setMemChan ch v s).lanRelease = s.lanRelease ∧
    (setMemChan ch v s).pcie = s.pcie ∧ (setMemChan ch v s).cmp = s.cmp ∧ (setMemChan ch v s).recorder = s.recorder ∧
    (setMemChan ch v s).cod = s.cod ∧ (setMemChan ch v s).mot = s.mot ∧ (setMemChan ch v s).sinc = s.sinc ∧
    (setMemChan ch v s).aud = s.aud ∧ (setMemChan ch v s).audGood = s.audGood ∧ (setMemChan ch v s).twi = s.twi ∧
    (setMemChan ch v s).plt = s.plt ∧ (setMemChan ch v s).cnt = s.cnt ∧ (setMemChan ch v s).dbg = s.dbg ∧
    (setMemChan ch v s).stopped = s.stopped ∧ (setMemChan ch v s).taiPending = s.taiPending ∧
    (setMemChan ch v s).tLast = s.tLast ∧ (setMemChan ch v s).out = s.out ∧ (setMemChan ch v s).pending = s.pending := by
  and_intros <;> rfl

@[simp] theorem memWake_others :
    (memWake s).code = s.code ∧ (memWake s).now = s.now ∧ (memWake s).meridian = s.meridian ∧ (memWake s).inUse = s.inUse ∧
    (memWake s).held = s.held ∧ (memWake s).latch = s.latch ∧ (memWake s).resetting = s.resetting ∧
    (memWake s).warmBegun = s.warmBegun ∧ (memWake s).fabricOpen = s.fabricOpen ∧ (memWake s).msixOn = s.msixOn ∧
    (memWake s).drawn = s.drawn ∧ (memWake s).mem = s.mem ∧ (memWake s).hostMem = s.hostMem ∧ (memWake s).poison = s.poison ∧
    (memWake s).leaveQueue = s.leaveQueue ∧ (memWake s).leaveGrants = s.leaveGrants ∧ (memWake s).logQueue = s.logQueue ∧
    (memWake s).logLost = s.logLost ∧ (memWake s).logLostFirst = s.logLostFirst ∧ (memWake s).logLostLast = s.logLostLast ∧
    (memWake s).siu = s.siu ∧ (memWake s).clr = s.clr ∧ (memWake s).clrSpare = s.clrSpare ∧ (memWake s).cnv = s.cnv ∧
    (memWake s).pho = s.pho ∧ (memWake s).tlk = s.tlk ∧ (memWake s).tlkLastId = s.tlkLastId ∧
    (memWake s).warmStart = s.warmStart ∧ (memWake s).cas = s.cas ∧ (memWake s).lan = s.lan ∧
    (memWake s).lanRelease = s.lanRelease ∧ (memWake s).pcie = s.pcie ∧ (memWake s).memCtl = s.memCtl ∧
    (memWake s).cmp = s.cmp ∧ (memWake s).recorder = s.recorder ∧ (memWake s).cod = s.cod ∧ (memWake s).mot = s.mot ∧
    (memWake s).sinc = s.sinc ∧ (memWake s).aud = s.aud ∧ (memWake s).audGood = s.audGood ∧ (memWake s).twi = s.twi ∧
    (memWake s).plt = s.plt ∧ (memWake s).cnt = s.cnt ∧ (memWake s).dbg = s.dbg ∧ (memWake s).stopped = s.stopped ∧
    (memWake s).taiPending = s.taiPending ∧ (memWake s).tLast = s.tLast ∧ (memWake s).pending = s.pending := by
  unfold memWake
  split <;> simp [rsetBit]

@[simp] theorem leaveRequest_others (n : Nat) :
    (leaveRequest n s).code = s.code ∧ (leaveRequest n s).now = s.now ∧ (leaveRequest n s).meridian = s.meridian ∧
    (leaveRequest n s).inUse = s.inUse ∧ (leaveRequest n s).held = s.held ∧ (leaveRequest n s).latch = s.latch ∧
    (leaveRequest n s).resetting = s.resetting ∧ (leaveRequest n s).warmBegun = s.warmBegun ∧
    (leaveRequest n s).fabricOpen = s.fabricOpen ∧ (leaveRequest n s).msixOn = s.msixOn ∧ (leaveRequest n s).drawn = s.drawn ∧
    (leaveRequest n s).mem = s.mem ∧ (leaveRequest n s).hostMem = s.hostMem ∧ (leaveRequest n s).poison = s.poison ∧
    (leaveRequest n s).leaveGrants = s.leaveGrants ∧ (leaveRequest n s).logQueue = s.logQueue ∧
    (leaveRequest n s).logLost = s.logLost ∧ (leaveRequest n s).logLostFirst = s.logLostFirst ∧
    (leaveRequest n s).logLostLast = s.logLostLast ∧ (leaveRequest n s).siu = s.siu ∧ (leaveRequest n s).clr = s.clr ∧
    (leaveRequest n s).clrSpare = s.clrSpare ∧ (leaveRequest n s).cnv = s.cnv ∧ (leaveRequest n s).pho = s.pho ∧
    (leaveRequest n s).tlk = s.tlk ∧ (leaveRequest n s).tlkLastId = s.tlkLastId ∧ (leaveRequest n s).warmStart = s.warmStart ∧
    (leaveRequest n s).cas = s.cas ∧ (leaveRequest n s).lan = s.lan ∧ (leaveRequest n s).lanRelease = s.lanRelease ∧
    (leaveRequest n s).pcie = s.pcie ∧ (leaveRequest n s).memCtl = s.memCtl ∧ (leaveRequest n s).cmp = s.cmp ∧
    (leaveRequest n s).recorder = s.recorder ∧ (leaveRequest n s).cod = s.cod ∧ (leaveRequest n s).mot = s.mot ∧
    (leaveRequest n s).sinc = s.sinc ∧ (leaveRequest n s).aud = s.aud ∧ (leaveRequest n s).audGood = s.audGood ∧
    (leaveRequest n s).twi = s.twi ∧ (leaveRequest n s).plt = s.plt ∧ (leaveRequest n s).cnt = s.cnt ∧
    (leaveRequest n s).dbg = s.dbg ∧ (leaveRequest n s).stopped = s.stopped ∧ (leaveRequest n s).taiPending = s.taiPending ∧
    (leaveRequest n s).tLast = s.tLast ∧ (leaveRequest n s).pending = s.pending := by
  unfold leaveRequest
  split <;> simp

@[simp] theorem migStart_others :
    (migStart s).code = s.code ∧ (migStart s).now = s.now ∧ (migStart s).meridian = s.meridian ∧
    (migStart s).inUse = s.inUse ∧ (migStart s).held = s.held ∧ (migStart s).latch = s.latch ∧
    (migStart s).resetting = s.resetting ∧ (migStart s).warmBegun = s.warmBegun ∧ (migStart s).fabricOpen = s.fabricOpen ∧
    (migStart s).msixOn = s.msixOn ∧ (migStart s).msixPending = s.msixPending ∧ (migStart s).drawn = s.drawn ∧
    (migStart s).mem = s.mem ∧ (migStart s).hostMem = s.hostMem ∧ (migStart s).poison = s.poison ∧
    (migStart s).leaveQueue = s.leaveQueue ∧ (migStart s).leaveGrants = s.leaveGrants ∧ (migStart s).logQueue = s.logQueue ∧
    (migStart s).logLost = s.logLost ∧ (migStart s).logLostFirst = s.logLostFirst ∧ (migStart s).logLostLast = s.logLostLast ∧
    (migStart s).siu = s.siu ∧ (migStart s).clr = s.clr ∧ (migStart s).clrSpare = s.clrSpare ∧ (migStart s).cnv = s.cnv ∧
    (migStart s).pho = s.pho ∧ (migStart s).tlk = s.tlk ∧ (migStart s).tlkLastId = s.tlkLastId ∧
    (migStart s).warmStart = s.warmStart ∧ (migStart s).cas = s.cas ∧ (migStart s).lan = s.lan ∧
    (migStart s).lanRelease = s.lanRelease ∧ (migStart s).pcie = s.pcie ∧ (migStart s).memCtl = s.memCtl ∧
    (migStart s).cmp = s.cmp ∧ (migStart s).recorder = s.recorder ∧ (migStart s).cod = s.cod ∧ (migStart s).mot = s.mot ∧
    (migStart s).sinc = s.sinc ∧ (migStart s).aud = s.aud ∧ (migStart s).audGood = s.audGood ∧ (migStart s).twi = s.twi ∧
    (migStart s).plt = s.plt ∧ (migStart s).cnt = s.cnt ∧ (migStart s).dbg = s.dbg ∧ (migStart s).stopped = s.stopped ∧
    (migStart s).taiPending = s.taiPending ∧ (migStart s).tLast = s.tLast ∧ (migStart s).out = s.out ∧
    (migStart s).pending = s.pending := by
  unfold migStart
  split
  · simp only [and_self]
  · split <;> simp

@[simp] theorem memRetire_others (ch rank : Nat) :
    (memRetire ch rank s).code = s.code ∧ (memRetire ch rank s).now = s.now ∧ (memRetire ch rank s).meridian = s.meridian ∧
    (memRetire ch rank s).inUse = s.inUse ∧ (memRetire ch rank s).held = s.held ∧ (memRetire ch rank s).latch = s.latch ∧
    (memRetire ch rank s).resetting = s.resetting ∧ (memRetire ch rank s).warmBegun = s.warmBegun ∧
    (memRetire ch rank s).fabricOpen = s.fabricOpen ∧ (memRetire ch rank s).msixOn = s.msixOn ∧
    (memRetire ch rank s).drawn = s.drawn ∧ (memRetire ch rank s).mem = s.mem ∧ (memRetire ch rank s).hostMem = s.hostMem ∧
    (memRetire ch rank s).leaveGrants = s.leaveGrants ∧ (memRetire ch rank s).logQueue = s.logQueue ∧
    (memRetire ch rank s).logLost = s.logLost ∧ (memRetire ch rank s).logLostFirst = s.logLostFirst ∧
    (memRetire ch rank s).logLostLast = s.logLostLast ∧ (memRetire ch rank s).siu = s.siu ∧ (memRetire ch rank s).clr = s.clr ∧
    (memRetire ch rank s).clrSpare = s.clrSpare ∧ (memRetire ch rank s).cnv = s.cnv ∧ (memRetire ch rank s).pho = s.pho ∧
    (memRetire ch rank s).tlk = s.tlk ∧ (memRetire ch rank s).tlkLastId = s.tlkLastId ∧
    (memRetire ch rank s).warmStart = s.warmStart ∧ (memRetire ch rank s).cas = s.cas ∧ (memRetire ch rank s).lan = s.lan ∧
    (memRetire ch rank s).lanRelease = s.lanRelease ∧ (memRetire ch rank s).pcie = s.pcie ∧ (memRetire ch rank s).cmp = s.cmp ∧
    (memRetire ch rank s).recorder = s.recorder ∧ (memRetire ch rank s).cod = s.cod ∧ (memRetire ch rank s).mot = s.mot ∧
    (memRetire ch rank s).sinc = s.sinc ∧ (memRetire ch rank s).aud = s.aud ∧ (memRetire ch rank s).audGood = s.audGood ∧
    (memRetire ch rank s).twi = s.twi ∧ (memRetire ch rank s).plt = s.plt ∧ (memRetire ch rank s).cnt = s.cnt ∧
    (memRetire ch rank s).dbg = s.dbg ∧ (memRetire ch rank s).stopped = s.stopped ∧
    (memRetire ch rank s).taiPending = s.taiPending ∧ (memRetire ch rank s).tLast = s.tLast ∧
    (memRetire ch rank s).pending = s.pending := by
  unfold memRetire
  dsimp only
  split
  · simp only [and_self]
  · split
    · simp only [and_self]
    · split
      · split <;> simp
      · split <;> simp

@[simp] theorem memUe_others (burst : Nat) :
    (memUe burst s).code = s.code ∧ (memUe burst s).now = s.now ∧ (memUe burst s).meridian = s.meridian ∧
    (memUe burst s).inUse = s.inUse ∧ (memUe burst s).held = s.held ∧ (memUe burst s).latch = s.latch ∧
    (memUe burst s).resetting = s.resetting ∧ (memUe burst s).warmBegun = s.warmBegun ∧
    (memUe burst s).fabricOpen = s.fabricOpen ∧ (memUe burst s).msixOn = s.msixOn ∧ (memUe burst s).drawn = s.drawn ∧
    (memUe burst s).mem = s.mem ∧ (memUe burst s).hostMem = s.hostMem ∧ (memUe burst s).leaveGrants = s.leaveGrants ∧
    (memUe burst s).logQueue = s.logQueue ∧ (memUe burst s).logLost = s.logLost ∧ (memUe burst s).logLostFirst = s.logLostFirst ∧
    (memUe burst s).logLostLast = s.logLostLast ∧ (memUe burst s).siu = s.siu ∧ (memUe burst s).clr = s.clr ∧
    (memUe burst s).clrSpare = s.clrSpare ∧ (memUe burst s).cnv = s.cnv ∧ (memUe burst s).pho = s.pho ∧
    (memUe burst s).tlk = s.tlk ∧ (memUe burst s).tlkLastId = s.tlkLastId ∧ (memUe burst s).warmStart = s.warmStart ∧
    (memUe burst s).cas = s.cas ∧ (memUe burst s).lan = s.lan ∧ (memUe burst s).lanRelease = s.lanRelease ∧
    (memUe burst s).pcie = s.pcie ∧ (memUe burst s).cmp = s.cmp ∧ (memUe burst s).recorder = s.recorder ∧
    (memUe burst s).cod = s.cod ∧ (memUe burst s).mot = s.mot ∧ (memUe burst s).sinc = s.sinc ∧ (memUe burst s).aud = s.aud ∧
    (memUe burst s).audGood = s.audGood ∧ (memUe burst s).twi = s.twi ∧ (memUe burst s).plt = s.plt ∧
    (memUe burst s).cnt = s.cnt ∧ (memUe burst s).dbg = s.dbg ∧ (memUe burst s).stopped = s.stopped ∧
    (memUe burst s).taiPending = s.taiPending ∧ (memUe burst s).tLast = s.tLast ∧ (memUe burst s).pending = s.pending := by
  unfold memUe
  dsimp only
  split <;> simp [rset2, rinc]

theorem memUes_others (bs : List Nat) :
    (bs.foldl (fun s b => memUe b s) s).code = s.code ∧ (bs.foldl (fun s b => memUe b s) s).now = s.now ∧
    (bs.foldl (fun s b => memUe b s) s).meridian = s.meridian ∧ (bs.foldl (fun s b => memUe b s) s).inUse = s.inUse ∧
    (bs.foldl (fun s b => memUe b s) s).held = s.held ∧ (bs.foldl (fun s b => memUe b s) s).latch = s.latch ∧
    (bs.foldl (fun s b => memUe b s) s).resetting = s.resetting ∧ (bs.foldl (fun s b => memUe b s) s).warmBegun = s.warmBegun ∧
    (bs.foldl (fun s b => memUe b s) s).fabricOpen = s.fabricOpen ∧ (bs.foldl (fun s b => memUe b s) s).msixOn = s.msixOn ∧
    (bs.foldl (fun s b => memUe b s) s).drawn = s.drawn ∧ (bs.foldl (fun s b => memUe b s) s).mem = s.mem ∧
    (bs.foldl (fun s b => memUe b s) s).hostMem = s.hostMem ∧ (bs.foldl (fun s b => memUe b s) s).leaveGrants = s.leaveGrants ∧
    (bs.foldl (fun s b => memUe b s) s).logQueue = s.logQueue ∧ (bs.foldl (fun s b => memUe b s) s).logLost = s.logLost ∧
    (bs.foldl (fun s b => memUe b s) s).logLostFirst = s.logLostFirst ∧
    (bs.foldl (fun s b => memUe b s) s).logLostLast = s.logLostLast ∧ (bs.foldl (fun s b => memUe b s) s).siu = s.siu ∧
    (bs.foldl (fun s b => memUe b s) s).clr = s.clr ∧ (bs.foldl (fun s b => memUe b s) s).clrSpare = s.clrSpare ∧
    (bs.foldl (fun s b => memUe b s) s).cnv = s.cnv ∧ (bs.foldl (fun s b => memUe b s) s).pho = s.pho ∧
    (bs.foldl (fun s b => memUe b s) s).tlk = s.tlk ∧ (bs.foldl (fun s b => memUe b s) s).tlkLastId = s.tlkLastId ∧
    (bs.foldl (fun s b => memUe b s) s).warmStart = s.warmStart ∧ (bs.foldl (fun s b => memUe b s) s).cas = s.cas ∧
    (bs.foldl (fun s b => memUe b s) s).lan = s.lan ∧ (bs.foldl (fun s b => memUe b s) s).lanRelease = s.lanRelease ∧
    (bs.foldl (fun s b => memUe b s) s).pcie = s.pcie ∧ (bs.foldl (fun s b => memUe b s) s).cmp = s.cmp ∧
    (bs.foldl (fun s b => memUe b s) s).recorder = s.recorder ∧ (bs.foldl (fun s b => memUe b s) s).cod = s.cod ∧
    (bs.foldl (fun s b => memUe b s) s).mot = s.mot ∧ (bs.foldl (fun s b => memUe b s) s).sinc = s.sinc ∧
    (bs.foldl (fun s b => memUe b s) s).aud = s.aud ∧ (bs.foldl (fun s b => memUe b s) s).audGood = s.audGood ∧
    (bs.foldl (fun s b => memUe b s) s).twi = s.twi ∧ (bs.foldl (fun s b => memUe b s) s).plt = s.plt ∧
    (bs.foldl (fun s b => memUe b s) s).cnt = s.cnt ∧ (bs.foldl (fun s b => memUe b s) s).dbg = s.dbg ∧
    (bs.foldl (fun s b => memUe b s) s).stopped = s.stopped ∧ (bs.foldl (fun s b => memUe b s) s).taiPending = s.taiPending ∧
    (bs.foldl (fun s b => memUe b s) s).tLast = s.tLast ∧ (bs.foldl (fun s b => memUe b s) s).pending = s.pending := by
  induction bs generalizing s with
  | nil => simp only [List.foldl_nil, and_self]
  | cons b bs ih =>
    have h := ih (memUe b s)
    simp only [memUe_others] at h
    exact h

@[simp] theorem memSee_others (host : Bool) (k a : Nat) :
    (memSee host k a s).code = s.code ∧ (memSee host k a s).now = s.now ∧ (memSee host k a s).meridian = s.meridian ∧
    (memSee host k a s).inUse = s.inUse ∧ (memSee host k a s).held = s.held ∧ (memSee host k a s).latch = s.latch ∧
    (memSee host k a s).resetting = s.resetting ∧ (memSee host k a s).warmBegun = s.warmBegun ∧
    (memSee host k a s).fabricOpen = s.fabricOpen ∧ (memSee host k a s).msixOn = s.msixOn ∧ (memSee host k a s).drawn = s.drawn ∧
    (memSee host k a s).mem = s.mem ∧ (memSee host k a s).hostMem = s.hostMem ∧ (memSee host k a s).leaveGrants = s.leaveGrants ∧
    (memSee host k a s).logQueue = s.logQueue ∧ (memSee host k a s).logLost = s.logLost ∧
    (memSee host k a s).logLostFirst = s.logLostFirst ∧ (memSee host k a s).logLostLast = s.logLostLast ∧
    (memSee host k a s).siu = s.siu ∧ (memSee host k a s).clr = s.clr ∧ (memSee host k a s).clrSpare = s.clrSpare ∧
    (memSee host k a s).cnv = s.cnv ∧ (memSee host k a s).pho = s.pho ∧ (memSee host k a s).tlk = s.tlk ∧
    (memSee host k a s).tlkLastId = s.tlkLastId ∧ (memSee host k a s).warmStart = s.warmStart ∧ (memSee host k a s).cas = s.cas ∧
    (memSee host k a s).lan = s.lan ∧ (memSee host k a s).lanRelease = s.lanRelease ∧ (memSee host k a s).pcie = s.pcie ∧
    (memSee host k a s).cmp = s.cmp ∧ (memSee host k a s).recorder = s.recorder ∧ (memSee host k a s).cod = s.cod ∧
    (memSee host k a s).mot = s.mot ∧ (memSee host k a s).sinc = s.sinc ∧ (memSee host k a s).aud = s.aud ∧
    (memSee host k a s).audGood = s.audGood ∧ (memSee host k a s).twi = s.twi ∧ (memSee host k a s).plt = s.plt ∧
    (memSee host k a s).cnt = s.cnt ∧ (memSee host k a s).dbg = s.dbg ∧ (memSee host k a s).stopped = s.stopped ∧
    (memSee host k a s).taiPending = s.taiPending ∧ (memSee host k a s).tLast = s.tLast ∧ (memSee host k a s).pending = s.pending := by
  unfold memSee
  split
  · simp only [and_self]
  · simp [memUes_others]

theorem memPuts_others (host : Bool) (a : Nat) (bs : List Byte) :
    (memPuts host a bs s).code = s.code ∧ (memPuts host a bs s).now = s.now ∧ (memPuts host a bs s).meridian = s.meridian ∧
    (memPuts host a bs s).regs = s.regs ∧ (memPuts host a bs s).inUse = s.inUse ∧ (memPuts host a bs s).held = s.held ∧
    (memPuts host a bs s).latch = s.latch ∧ (memPuts host a bs s).resetting = s.resetting ∧
    (memPuts host a bs s).warmBegun = s.warmBegun ∧ (memPuts host a bs s).fabricOpen = s.fabricOpen ∧
    (memPuts host a bs s).msixOn = s.msixOn ∧ (memPuts host a bs s).msixPending = s.msixPending ∧
    (memPuts host a bs s).drawn = s.drawn ∧ (memPuts host a bs s).poison = s.poison ∧
    (memPuts host a bs s).leaveQueue = s.leaveQueue ∧ (memPuts host a bs s).leaveGrants = s.leaveGrants ∧
    (memPuts host a bs s).logQueue = s.logQueue ∧ (memPuts host a bs s).logLost = s.logLost ∧
    (memPuts host a bs s).logLostFirst = s.logLostFirst ∧ (memPuts host a bs s).logLostLast = s.logLostLast ∧
    (memPuts host a bs s).siu = s.siu ∧ (memPuts host a bs s).clr = s.clr ∧ (memPuts host a bs s).clrSpare = s.clrSpare ∧
    (memPuts host a bs s).cnv = s.cnv ∧ (memPuts host a bs s).pho = s.pho ∧ (memPuts host a bs s).tlk = s.tlk ∧
    (memPuts host a bs s).tlkLastId = s.tlkLastId ∧ (memPuts host a bs s).warmStart = s.warmStart ∧
    (memPuts host a bs s).cas = s.cas ∧ (memPuts host a bs s).lan = s.lan ∧ (memPuts host a bs s).lanRelease = s.lanRelease ∧
    (memPuts host a bs s).pcie = s.pcie ∧ (memPuts host a bs s).memCtl = s.memCtl ∧ (memPuts host a bs s).cmp = s.cmp ∧
    (memPuts host a bs s).recorder = s.recorder ∧ (memPuts host a bs s).cod = s.cod ∧ (memPuts host a bs s).mot = s.mot ∧
    (memPuts host a bs s).sinc = s.sinc ∧ (memPuts host a bs s).aud = s.aud ∧ (memPuts host a bs s).audGood = s.audGood ∧
    (memPuts host a bs s).twi = s.twi ∧ (memPuts host a bs s).plt = s.plt ∧ (memPuts host a bs s).cnt = s.cnt ∧
    (memPuts host a bs s).dbg = s.dbg ∧ (memPuts host a bs s).stopped = s.stopped ∧
    (memPuts host a bs s).taiPending = s.taiPending ∧ (memPuts host a bs s).tLast = s.tLast ∧ (memPuts host a bs s).out = s.out ∧
    (memPuts host a bs s).pending = s.pending := by
  induction bs generalizing a s with
  | nil => simp only [memPuts, and_self]
  | cons b bs ih =>
    have h := ih (memPut host a b s) (a + 1)
    have e : memPuts host a (b :: bs) s = memPuts host (a + 1) bs (memPut host a b s) := rfl
    rw [e]
    simp only [memPut_others] at h
    exact h

@[simp] theorem memClean_others (host : Bool) (a k : Nat) :
    (memClean host a k s).code = s.code ∧ (memClean host a k s).now = s.now ∧ (memClean host a k s).meridian = s.meridian ∧
    (memClean host a k s).regs = s.regs ∧ (memClean host a k s).inUse = s.inUse ∧ (memClean host a k s).held = s.held ∧
    (memClean host a k s).latch = s.latch ∧ (memClean host a k s).resetting = s.resetting ∧
    (memClean host a k s).warmBegun = s.warmBegun ∧ (memClean host a k s).fabricOpen = s.fabricOpen ∧
    (memClean host a k s).msixOn = s.msixOn ∧ (memClean host a k s).msixPending = s.msixPending ∧
    (memClean host a k s).drawn = s.drawn ∧ (memClean host a k s).mem = s.mem ∧ (memClean host a k s).hostMem = s.hostMem ∧
    (memClean host a k s).leaveQueue = s.leaveQueue ∧ (memClean host a k s).leaveGrants = s.leaveGrants ∧
    (memClean host a k s).logQueue = s.logQueue ∧ (memClean host a k s).logLost = s.logLost ∧
    (memClean host a k s).logLostFirst = s.logLostFirst ∧ (memClean host a k s).logLostLast = s.logLostLast ∧
    (memClean host a k s).siu = s.siu ∧ (memClean host a k s).clr = s.clr ∧ (memClean host a k s).clrSpare = s.clrSpare ∧
    (memClean host a k s).cnv = s.cnv ∧ (memClean host a k s).pho = s.pho ∧ (memClean host a k s).tlk = s.tlk ∧
    (memClean host a k s).tlkLastId = s.tlkLastId ∧ (memClean host a k s).warmStart = s.warmStart ∧
    (memClean host a k s).cas = s.cas ∧ (memClean host a k s).lan = s.lan ∧ (memClean host a k s).lanRelease = s.lanRelease ∧
    (memClean host a k s).pcie = s.pcie ∧ (memClean host a k s).memCtl = s.memCtl ∧ (memClean host a k s).cmp = s.cmp ∧
    (memClean host a k s).recorder = s.recorder ∧ (memClean host a k s).cod = s.cod ∧ (memClean host a k s).mot = s.mot ∧
    (memClean host a k s).sinc = s.sinc ∧ (memClean host a k s).aud = s.aud ∧ (memClean host a k s).audGood = s.audGood ∧
    (memClean host a k s).twi = s.twi ∧ (memClean host a k s).plt = s.plt ∧ (memClean host a k s).cnt = s.cnt ∧
    (memClean host a k s).dbg = s.dbg ∧ (memClean host a k s).stopped = s.stopped ∧
    (memClean host a k s).taiPending = s.taiPending ∧ (memClean host a k s).tLast = s.tLast ∧ (memClean host a k s).out = s.out ∧
    (memClean host a k s).pending = s.pending := by
  unfold memClean
  split <;> (and_intros <;> rfl)

@[simp] theorem memWrite_others (host : Bool) (a : Nat) (bs : List Byte) :
    (memWrite host a bs s).code = s.code ∧ (memWrite host a bs s).now = s.now ∧ (memWrite host a bs s).meridian = s.meridian ∧
    (memWrite host a bs s).inUse = s.inUse ∧ (memWrite host a bs s).held = s.held ∧ (memWrite host a bs s).latch = s.latch ∧
    (memWrite host a bs s).resetting = s.resetting ∧ (memWrite host a bs s).warmBegun = s.warmBegun ∧
    (memWrite host a bs s).fabricOpen = s.fabricOpen ∧ (memWrite host a bs s).msixOn = s.msixOn ∧
    (memWrite host a bs s).drawn = s.drawn ∧ (memWrite host a bs s).leaveGrants = s.leaveGrants ∧
    (memWrite host a bs s).logQueue = s.logQueue ∧ (memWrite host a bs s).logLost = s.logLost ∧
    (memWrite host a bs s).logLostFirst = s.logLostFirst ∧ (memWrite host a bs s).logLostLast = s.logLostLast ∧
    (memWrite host a bs s).siu = s.siu ∧ (memWrite host a bs s).clr = s.clr ∧ (memWrite host a bs s).clrSpare = s.clrSpare ∧
    (memWrite host a bs s).cnv = s.cnv ∧ (memWrite host a bs s).pho = s.pho ∧ (memWrite host a bs s).tlk = s.tlk ∧
    (memWrite host a bs s).tlkLastId = s.tlkLastId ∧ (memWrite host a bs s).warmStart = s.warmStart ∧
    (memWrite host a bs s).cas = s.cas ∧ (memWrite host a bs s).lan = s.lan ∧ (memWrite host a bs s).lanRelease = s.lanRelease ∧
    (memWrite host a bs s).pcie = s.pcie ∧ (memWrite host a bs s).cmp = s.cmp ∧ (memWrite host a bs s).recorder = s.recorder ∧
    (memWrite host a bs s).cod = s.cod ∧ (memWrite host a bs s).mot = s.mot ∧ (memWrite host a bs s).sinc = s.sinc ∧
    (memWrite host a bs s).aud = s.aud ∧ (memWrite host a bs s).audGood = s.audGood ∧ (memWrite host a bs s).twi = s.twi ∧
    (memWrite host a bs s).plt = s.plt ∧ (memWrite host a bs s).cnt = s.cnt ∧ (memWrite host a bs s).dbg = s.dbg ∧
    (memWrite host a bs s).stopped = s.stopped ∧ (memWrite host a bs s).taiPending = s.taiPending ∧
    (memWrite host a bs s).tLast = s.tLast ∧ (memWrite host a bs s).pending = s.pending := by
  unfold memWrite
  dsimp only
  split
  · simp [memPuts_others]
  · split
    · simp only [and_self]
    · simp [memPuts_others, memUes_others]

end Sys2Proof.Laws
end

