-- ==== Sys2Proof/Laws/Evolves.lean ====
section
/-! SUPPORT. What every operation of the model does to the ordering code, the clock, the queue, and the keyed stores. -/

namespace Sys2Proof.Laws

open Sys2Proof.Machine Sys2Proof.Safety

/-- State `t` comes from `s` by the effect of a command: the fused ordering code, the clock and the queue are as they were,
and keyed stores stay canonical. -/
structure Evolves (s t : State) : Prop where
  code : t.code = s.code
  now : t.now = s.now
  pending : t.pending = s.pending
  sound : Sound s → Sound t

theorem Evolves.refl (s : State) : Evolves s s := ⟨rfl, rfl, rfl, id⟩

/-- `Evolves` in terms of the fields it speaks of. -/
def EvolvesTo (s : State) (code : OrderingCode) (now : Nat) (regs inUse : List (Nat × Word)) (mem hostMem : List Host.Cell)
    (pending : List Instr) : Prop :=
  Evolves s { code := code, now := now, regs := regs, inUse := inUse, mem := mem, hostMem := hostMem, pending := pending }

theorem evolves_mk_iff {s0 : State} {x0 x1 x2 x3 x4 x5 x6 x7 x8 x9 x10 x11 x12 x13 x14 x15 x16 x17 x18 x19 x20 x21 x22 x23 x24 x25 x26 x27 x28 x29 x30 x31 x32 x33 x34 x35 x36 x37 x38 x39 x40 x41 x42 x43 x44 x45 x46 x47 x48 x49 x50} :
    Evolves s0 (State.mk x0 x1 x2 x3 x4 x5 x6 x7 x8 x9 x10 x11 x12 x13 x14 x15 x16 x17 x18 x19 x20 x21 x22 x23 x24 x25 x26 x27 x28 x29 x30 x31 x32 x33 x34 x35 x36 x37 x38 x39 x40 x41 x42 x43 x44 x45 x46 x47 x48 x49 x50) ↔ EvolvesTo s0 x0 x1 x3 x4 x13 x14 x50 :=
  ⟨fun h => ⟨h.code, h.now, h.pending, h.sound⟩, fun h => ⟨h.code, h.now, h.pending, h.sound⟩⟩

/-- A change of other fields. -/
theorem evolvesTo_self {s0 a : State} (h : Evolves s0 a) :
    EvolvesTo s0 a.code a.now a.regs a.inUse a.mem a.hostMem a.pending :=
  ⟨h.code, h.now, h.pending, h.sound⟩

theorem evolves_ite {s0 a b : State} {c : Prop} [Decidable c] (ha : Evolves s0 a) (hb : Evolves s0 b) :
    Evolves s0 (if c then a else b) := by
  split <;> assumption

theorem evolves_pair {α : Type} {s0 t : State} {a : α} (h : Evolves s0 t) : Evolves s0 (a, t).2 := h

theorem evolves_pair2 {α β : Type} {s0 t : State} {a : α} {b : β} (h : Evolves s0 t) : Evolves s0 (a, b, t).2.2 := h

theorem evolves_fst {α : Type} {s0 t : State} {a : α} {p : State × α} (e : p = (t, a)) (h : Evolves s0 p.1) : Evolves s0 t := by
  subst e
  exact h

theorem evolves_snd {α : Type} {s0 t : State} {a : α} {p : α × State} (e : p = (a, t)) (h : Evolves s0 p.2) : Evolves s0 t := by
  subst e
  exact h

theorem evolves_snd2 {α β : Type} {s0 t : State} {a : α} {b : β} {p : α × β × State} (e : p = (a, b, t)) (h : Evolves s0 p.2.2) :
    Evolves s0 t := by
  subst e
  exact h

theorem evolves_foldl {α : Type} {s0 a : State} {f : State → α → State} {l : List α} (h : Evolves s0 a)
    (hf : ∀ t x, Evolves s0 t → Evolves s0 (f t x)) : Evolves s0 (l.foldl f a) := by
  induction l generalizing a with
  | nil => exact h
  | cons x l ih => exact ih (hf a x h)

theorem evolves_foldl_snd {α β : Type} {s0 : State} {a : β × State} {f : β × State → α → β × State} {l : List α} (h : Evolves s0 a.2)
    (hf : ∀ p x, Evolves s0 p.2 → Evolves s0 (f p x).2) : Evolves s0 (l.foldl f a).2 := by
  induction l generalizing a with
  | nil => exact h
  | cons x l ih => exact ih (hf a x h)

theorem evolves_foldl_snd2 {α β γ : Type} {s0 : State} {a : β × γ × State} {f : β × γ × State → α → β × γ × State} {l : List α}
    (h : Evolves s0 a.2.2) (hf : ∀ p x, Evolves s0 p.2.2 → Evolves s0 (f p x).2.2) : Evolves s0 (l.foldl f a).2.2 := by
  induction l generalizing a with
  | nil => exact h
  | cons x l ih => exact ih (hf a x h)

/-! ### The primitive writes -/

theorem sound_iff (s : State) : Sound s ↔ (Memory.wf s.mem = true ∧ Memory.wf s.hostMem = true) ∧
    smCanon coldWord s.regs = true ∧ smCanon coldWord s.inUse = true := by
  simp [Sound, memoriesWf, registersWf]

theorem evolves_rset {s0 : State} (addr : Nat) (v : Word) (s : State) (h : Evolves s0 s) : Evolves s0 (rset addr v s) := by
  refine ⟨h.code, h.now, h.pending, fun hs => ?_⟩
  have := (sound_iff s).1 (h.sound hs)
  exact (sound_iff _).2 ⟨this.1, smCanon_smSet addr v this.2.1, this.2.2⟩

theorem evolves_uset {s0 : State} (addr : Nat) (v : Word) (s : State) (h : Evolves s0 s) : Evolves s0 (uset addr v s) := by
  refine ⟨h.code, h.now, h.pending, fun hs => ?_⟩
  have := (sound_iff s).1 (h.sound hs)
  exact (sound_iff _).2 ⟨this.1, this.2.1, smCanon_smSet addr v this.2.2⟩

theorem evolves_memPut {s0 : State} (host : Bool) (a : Nat) (b : Byte) (s : State) (h : Evolves s0 s) : Evolves s0 (memPut host a b s) := by
  unfold memPut
  split
  · refine ⟨h.code, h.now, h.pending, fun hs => ?_⟩
    have := (sound_iff s).1 (h.sound hs)
    exact (sound_iff _).2 ⟨⟨this.1.1, smCanon_smSet a b this.1.2⟩, this.2⟩
  · refine ⟨h.code, h.now, h.pending, fun hs => ?_⟩
    have := (sound_iff s).1 (h.sound hs)
    exact (sound_iff _).2 ⟨⟨smCanon_smSet a b this.1.1, this.1.2⟩, this.2⟩

theorem smCanon_nil : smCanon coldWord [] = true := rfl

theorem smCanon_staged {m l : List (Nat × Word)} (h : smCanon coldWord m = true) (hl : ∀ e ∈ l, e.2 ≠ coldWord e.1) :
    smCanon coldWord (l.foldl (fun m e => smPut m e.1 e.2) m) = true := by
  induction l generalizing m with
  | nil => exact h
  | cons e l ih =>
    exact ih (smCanon_smPut h (hl e (List.mem_cons_self ..))) fun x hx => hl x (List.mem_cons_of_mem _ hx)

/-- A commit puts the page's staged words in use. -/
theorem evolves_commitApply {s0 : State} (n : Nat) (s : State) (h : Evolves s0 s) : Evolves s0 (commitApply n s) := by
  unfold commitApply rsetBit
  refine evolves_rset _ _ _ ⟨h.code, h.now, h.pending, fun hs => ?_⟩
  have := (sound_iff s).1 (h.sound hs)
  refine (sound_iff _).2 ⟨this.1, this.2.1, smCanon_staged (smCanon_filter _ this.2.2) ?_⟩
  intro e he
  exact ((smCanon_iff ..).1 this.2.1).2 e (List.mem_filter.1 he).1

end Sys2Proof.Laws
end

