-- ==== Sys2Proof/Laws/EvolvesShared.lean ====
section
/-! SUPPORT. `Evolves` for the shared operations: memory, flags, power leave, sampling, register writes and record rings: each operation keeps what the state it starts from has kept. -/

namespace Sys2Proof.Laws

open Sys2Proof.Machine Sys2Proof.Safety

set_option linter.all false

variable {s0 : State}

/-! ### Ops -/

theorem evolves_rsetFld (addr : Nat) (hi : Nat) (lo : Nat) (v : Nat) (s : State) (hev : Evolves s0 s) :
    Evolves s0 (rsetFld addr hi lo v s) := by
  unfold rsetFld
  try dsimp only
  with_reducible repeat' (first | assumption | apply evolves_rset)

theorem evolves_rsetBit (addr : Nat) (k : Nat) (b : Bool) (s : State) (hev : Evolves s0 s) :
    Evolves s0 (rsetBit addr k b s) := by
  unfold rsetBit
  try dsimp only
  with_reducible repeat' (first | assumption | apply evolves_rset)

theorem evolves_rset2 (addr : Nat) (v : Nat) (s : State) (hev : Evolves s0 s) :
    Evolves s0 (rset2 addr v s) := by
  unfold rset2
  try dsimp only
  with_reducible repeat' (first | assumption | apply evolves_rset)

theorem evolves_rinc (addr : Nat) (k : Nat) (s : State) (hev : Evolves s0 s) :
    Evolves s0 (rinc addr k s) := by
  unfold rinc
  try dsimp only
  with_reducible repeat' (first | assumption | apply evolves_rset)

theorem evolves_rincFld (addr : Nat) (hi : Nat) (lo : Nat) (k : Nat) (s : State) (hev : Evolves s0 s) :
    Evolves s0 (rincFld addr hi lo k s) := by
  unfold rincFld
  try dsimp only
  with_reducible repeat' (first | assumption | apply evolves_rsetFld)

theorem evolves_memPuts (host : Bool) (a : Nat) (y0 : List Byte) (y1 : State) (hev : Evolves s0 y1) :
    Evolves s0 (memPuts host a y0 y1) := by
  induction y0 generalizing host a y1
  all_goals
    unfold memPuts
    try dsimp only
    with_reducible repeat' (first | assumption | apply evolves_memPut | apply_assumption)

theorem evolves_memClean (host : Bool) (a : Nat) (k : Nat) (s : State) (hev : Evolves s0 s) :
    Evolves s0 (memClean host a k s) := by
  unfold memClean
  try dsimp only
  with_reducible repeat' (first
    | (intro _; try dsimp only) | assumption | (simp only [evolves_mk_iff]; apply evolvesTo_self) | apply evolves_ite | split)

theorem evolves_emit (e : Emit) (s : State) (hev : Evolves s0 s) :
    Evolves s0 (emit e s) := by
  unfold emit
  try dsimp only
  with_reducible repeat' (first | assumption | (simp only [evolves_mk_iff]; apply evolvesTo_self))

theorem evolves_draw (s : State) (hev : Evolves s0 s) :
    Evolves s0 (draw s) := by
  unfold draw
  try dsimp only
  with_reducible repeat' (first | assumption | (simp only [evolves_mk_iff]; apply evolvesTo_self))

theorem evolves_setSiu (p : Nat) (v : SiuPort) (s : State) (hev : Evolves s0 s) :
    Evolves s0 (setSiu p v s) := by
  unfold setSiu
  try dsimp only
  with_reducible repeat' (first | assumption | (simp only [evolves_mk_iff]; apply evolvesTo_self))

theorem evolves_setClr (p : Nat) (v : ClrPipe) (s : State) (hev : Evolves s0 s) :
    Evolves s0 (setClr p v s) := by
  unfold setClr
  try dsimp only
  with_reducible repeat' (first | assumption | (simp only [evolves_mk_iff]; apply evolvesTo_self))

theorem evolves_rsetLong (addr : Nat) (t : Nat) (s : State) (hev : Evolves s0 s) :
    Evolves s0 (rsetLong addr t s) := by
  unfold rsetLong
  try dsimp only
  with_reducible repeat' (first | assumption | apply evolves_rset | refine evolves_snd (by assumption) ?_ | split)

/-! ### Flags -/

theorem evolves_sendVector (v : Nat) (s : State) (hev : Evolves s0 s) :
    Evolves s0 (sendVector v s) := by
  unfold sendVector
  try dsimp only
  with_reducible repeat' (first
    | assumption | apply evolves_emit | (simp only [evolves_mk_iff]; apply evolvesTo_self) | apply evolves_ite | split)

theorem evolves_sourceVector (v : Nat) (s : State) (hev : Evolves s0 s) :
    Evolves s0 (sourceVector v s) := by
  unfold sourceVector
  try dsimp only
  with_reducible repeat' (first | assumption | apply evolves_sendVector | apply evolves_ite | split)

theorem evolves_withRequest (n : Nat) (f : State → State) (s : State) (hf : ∀ (z0 : State), Evolves s0 z0 → Evolves s0 (f z0)) (hev : Evolves s0 s) :
    Evolves s0 (withRequest n f s) := by
  unfold withRequest
  try dsimp only
  with_reducible repeat' (first
    | (intro _; try dsimp only) | assumption | apply evolves_sendVector | apply hf | apply evolves_ite | split)

theorem evolves_latchStat (n : Nat) (mask : Word) (s : State) (hev : Evolves s0 s) :
    Evolves s0 (latchStat n mask s) := by
  unfold latchStat
  try dsimp only
  with_reducible repeat' (first
    | (intro _; try dsimp only) | assumption | apply evolves_withRequest | apply evolves_rset
    | (simp only [evolves_mk_iff]; apply evolvesTo_self) | apply evolves_ite | split)

theorem evolves_raiseInt (n : Nat) (k : Nat) (s : State) (hev : Evolves s0 s) :
    Evolves s0 (raiseInt n k s) := by
  unfold raiseInt
  try dsimp only
  with_reducible repeat' (first | assumption | apply evolves_latchStat)

theorem evolves_levelInt (n : Nat) (k : Nat) (b : Bool) (s : State) (hev : Evolves s0 s) :
    Evolves s0 (levelInt n k b s) := by
  unfold levelInt
  try dsimp only
  with_reducible repeat' (first | assumption | apply evolves_rsetBit | apply evolves_raiseInt | apply evolves_ite | split)

theorem evolves_raiseErr (n : Nat) (cause : Nat) (info : Word) (s : State) (hev : Evolves s0 s) :
    Evolves s0 (raiseErr n cause info s) := by
  unfold raiseErr
  try dsimp only
  with_reducible repeat' (first
    | assumption | apply evolves_rsetFld | apply evolves_raiseInt | apply evolves_rset | apply evolves_ite | split)

theorem evolves_clearStat (n : Nat) (mask : Word) (s : State) (hev : Evolves s0 s) :
    Evolves s0 (clearStat n mask s) := by
  unfold clearStat
  try dsimp only
  with_reducible repeat' (first | assumption | apply evolves_rset | apply evolves_ite | split)

theorem evolves_resignal (n : Nat) (s : State) (hev : Evolves s0 s) :
    Evolves s0 (resignal n s) := by
  unfold resignal
  try dsimp only
  with_reducible repeat' (first | assumption | apply evolves_sendVector | apply evolves_ite | split)

theorem evolves_logEvent (source : Nat) (inst : Nat) (kind : Nat) (detail : List Byte) (s : State) (hev : Evolves s0 s) :
    Evolves s0 (logEvent source inst kind detail s) := by
  unfold logEvent
  try dsimp only
  with_reducible repeat' (first
    | assumption | apply evolves_rsetFld | apply evolves_raiseInt | apply evolves_rinc
    | (simp only [evolves_mk_iff]; apply evolvesTo_self) | apply evolves_ite | split)

/-! ### Leave -/

theorem evolves_leaveRequest (n : Nat) (s : State) (hev : Evolves s0 s) :
    Evolves s0 (leaveRequest n s) := by
  unfold leaveRequest
  try dsimp only
  with_reducible repeat' (first
    | assumption | apply evolves_raiseInt | (simp only [evolves_mk_iff]; apply evolvesTo_self) | apply evolves_ite | split)

theorem evolves_grantOne (n : Nat) (at_ : Nat) (ramp : Nat) (s : State) (hev : Evolves s0 s) :
    Evolves s0 (grantOne n at_ ramp s) := by
  unfold grantOne
  try dsimp only
  with_reducible repeat' (first
    | (intro _; try dsimp only) | assumption | apply evolves_rset | (simp only [evolves_mk_iff]; apply evolvesTo_self))

theorem evolves_leavePass (y0 : List LeaveWait) (y1 : Nat) (y2 : State) (hev : Evolves s0 y2) :
    Evolves s0 (leavePass y0 y1 y2) := by
  induction y0 generalizing y1 y2
  all_goals
    unfold leavePass
    try dsimp only
    with_reducible repeat' (first | assumption | apply evolves_grantOne | apply_assumption | apply evolves_ite | split)

theorem evolves_leaveEvaluate (s : State) (hev : Evolves s0 s) :
    Evolves s0 (leaveEvaluate s) := by
  unfold leaveEvaluate
  try dsimp only
  with_reducible repeat' (first | assumption | apply evolves_leavePass)

theorem evolves_leaveRelease (n : Nat) (s : State) (hev : Evolves s0 s) :
    Evolves s0 (leaveRelease n s) := by
  unfold leaveRelease
  try dsimp only
  with_reducible repeat' (first
    | (intro _; try dsimp only) | assumption | apply evolves_rsetFld | (simp only [evolves_mk_iff]; apply evolvesTo_self)
    | apply evolves_ite | split)

theorem evolves_leaveWithdraw (n : Nat) (s : State) (hev : Evolves s0 s) :
    Evolves s0 (leaveWithdraw n s) := by
  unfold leaveWithdraw
  try dsimp only
  with_reducible repeat' (first | (intro _; try dsimp only) | assumption | (simp only [evolves_mk_iff]; apply evolvesTo_self))

theorem evolves_leaveDenied (n : Nat) (s : State) (hev : Evolves s0 s) :
    Evolves s0 (leaveDenied n s) := by
  unfold leaveDenied
  try dsimp only
  with_reducible repeat' (first
    | (intro _; try dsimp only) | assumption | apply evolves_raiseErr | apply evolves_rsetBit | apply evolves_ite
    | apply evolves_foldl | split)

theorem evolves_leaveExpire (n : Nat) (s : State) (hev : Evolves s0 s) :
    Evolves s0 (leaveExpire n s) := by
  unfold leaveExpire
  try dsimp only
  with_reducible repeat' (first | assumption | apply evolves_leaveDenied | apply evolves_leaveWithdraw)

theorem evolves_withdrawTo (total : Nat) (y0 : Nat) (y1 : State) (hev : Evolves s0 y1) :
    Evolves s0 (withdrawTo total y0 y1) := by
  induction y0 generalizing total y1
  all_goals
    unfold withdrawTo
    try dsimp only
    with_reducible repeat' (first
      | (intro _; try dsimp only) | assumption | apply evolves_raiseInt | apply evolves_leaveDenied | apply evolves_leaveRelease
      | apply_assumption | (simp only [evolves_mk_iff]; apply evolvesTo_self) | apply evolves_ite | split)

theorem evolves_leaveForce (n : Nat) (s : State) (hev : Evolves s0 s) :
    Evolves s0 (leaveForce n s) := by
  unfold leaveForce
  try dsimp only
  with_reducible repeat' (first
    | (intro _; try dsimp only) | assumption | apply evolves_rsetBit | apply evolves_raiseInt | apply evolves_grantOne
    | apply evolves_raiseErr | apply evolves_rinc | (simp only [evolves_mk_iff]; apply evolvesTo_self) | apply evolves_ite | split)

/-! ### MemBase -/

theorem evolves_setMemChan (ch : Nat) (v : MemChan) (s : State) (hev : Evolves s0 s) :
    Evolves s0 (setMemChan ch v s) := by
  unfold setMemChan
  try dsimp only
  with_reducible repeat' (first | assumption | (simp only [evolves_mk_iff]; apply evolvesTo_self))

theorem evolves_migStart (s : State) (hev : Evolves s0 s) :
    Evolves s0 (migStart s) := by
  unfold migStart
  try dsimp only
  with_reducible repeat' (first
    | (intro _; try dsimp only) | assumption | apply evolves_rset | (simp only [evolves_mk_iff]; apply evolvesTo_self)
    | apply evolves_ite | split)

theorem evolves_memRetire (ch : Nat) (rank : Nat) (s : State) (hev : Evolves s0 s) :
    Evolves s0 (memRetire ch rank s) := by
  unfold memRetire
  try dsimp only
  with_reducible repeat' (first
    | (intro _; try dsimp only) | assumption | apply evolves_migStart | apply evolves_leaveRequest | apply evolves_raiseErr
    | apply evolves_setMemChan | (simp only [evolves_mk_iff]; apply evolvesTo_self) | apply evolves_ite | split)

theorem evolves_ceCheck (ch : Nat) (rank : Nat) (s : State) (hev : Evolves s0 s) :
    Evolves s0 (ceCheck ch rank s) := by
  unfold ceCheck
  try dsimp only
  with_reducible repeat' (first
    | (intro _; try dsimp only) | assumption | apply evolves_setMemChan | apply evolves_memRetire | apply evolves_raiseInt
    | apply evolves_raiseErr | (simp only [evolves_mk_iff]; apply evolvesTo_self) | apply evolves_ite | split)

theorem evolves_memCe (ch : Nat) (rank : Nat) (s : State) (hev : Evolves s0 s) :
    Evolves s0 (memCe ch rank s) := by
  unfold memCe
  try dsimp only
  with_reducible repeat' (first
    | assumption | apply evolves_rinc | apply evolves_ceCheck | apply evolves_setMemChan
    | (simp only [evolves_mk_iff]; apply evolvesTo_self))

theorem evolves_memUe (burst : Nat) (s : State) (hev : Evolves s0 s) :
    Evolves s0 (memUe burst s) := by
  unfold memUe
  try dsimp only
  with_reducible repeat' (first
    | assumption | apply evolves_rset2 | apply evolves_rinc | apply evolves_memRetire | apply evolves_raiseErr
    | (simp only [evolves_mk_iff]; apply evolvesTo_self) | apply evolves_ite | split)

theorem evolves_memWake (s : State) (hev : Evolves s0 s) :
    Evolves s0 (memWake s) := by
  unfold memWake
  try dsimp only
  with_reducible repeat' (first | assumption | apply evolves_raiseInt | apply evolves_rsetBit | apply evolves_ite | split)

theorem evolves_memSleep (s : State) (hev : Evolves s0 s) :
    Evolves s0 (memSleep s) := by
  unfold memSleep
  try dsimp only
  with_reducible repeat' (first
    | assumption | apply evolves_raiseInt | apply evolves_rinc | apply evolves_rsetBit | apply evolves_ite | split)

theorem evolves_memSee (host : Bool) (k : Nat) (a : Nat) (s : State) (hev : Evolves s0 s) :
    Evolves s0 (memSee host k a s) := by
  unfold memSee
  try dsimp only
  with_reducible repeat' (first
    | (intro _; try dsimp only) | assumption | apply evolves_memUe | apply evolves_memWake | apply evolves_ite
    | apply evolves_foldl | split)

theorem evolves_memWrite (host : Bool) (a : Nat) (bs : List Byte) (s : State) (hev : Evolves s0 s) :
    Evolves s0 (memWrite host a bs s) := by
  unfold memWrite
  try dsimp only
  with_reducible repeat' (first
    | (intro _; try dsimp only) | assumption | apply evolves_memPuts | apply evolves_memClean | apply evolves_memUe
    | apply evolves_memWake | apply evolves_ite | apply evolves_foldl | split)

theorem evolves_ringWrite (host : Bool) (base : Nat) (size : Nat) (off : Nat) (bs : List Byte) (s : State) (hev : Evolves s0 s) :
    Evolves s0 (ringWrite host base size off bs s) := by
  unfold ringWrite
  try dsimp only
  with_reducible repeat' (first | assumption | apply evolves_memWrite | apply evolves_ite | split)

/-! ### CntBase -/

theorem evolves_setCnt (v : CntState) (s : State) (hev : Evolves s0 s) :
    Evolves s0 (setCnt v s) := by
  unfold setCnt
  try dsimp only
  with_reducible repeat' (first | assumption | (simp only [evolves_mk_iff]; apply evolvesTo_self))

theorem evolves_psWrite (o : PsOpen) (latency : Nat) (s : State) (hev : Evolves s0 s) :
    Evolves s0 (psWrite o latency s) := by
  unfold psWrite
  try dsimp only
  with_reducible repeat' (first
    | assumption | apply evolves_raiseInt | apply evolves_raiseErr | apply evolves_rinc | apply evolves_memWrite
    | apply evolves_setCnt | apply evolves_rset | apply evolves_sourceVector | (simp only [evolves_mk_iff]; apply evolvesTo_self)
    | apply evolves_ite | split)

theorem evolves_psTakes (s : State) (cls : Nat) (hev : Evolves s0 s) :
    Evolves s0 (psTakes s cls).2 := by
  unfold psTakes
  try dsimp only
  with_reducible repeat' (first
    | assumption | apply evolves_setCnt | (simp only [evolves_mk_iff]; apply evolvesTo_self) | apply evolves_ite | split)

theorem evolves_psBegin (cls : Nat) (key : Nat) (kind : Nat) (source : Nat) (queue : Nat) (tag : Nat) (addr : Nat) (s : State) (hev : Evolves s0 s) :
    Evolves s0 (psBegin cls key kind source queue tag addr s) := by
  unfold psBegin
  try dsimp only
  with_reducible repeat' (first
    | assumption | apply evolves_psTakes | apply evolves_setCnt | (simp only [evolves_mk_iff]; apply evolvesTo_self)
    | apply evolves_ite | refine evolves_snd (by assumption) ?_ | split)

theorem evolves_psEnd (cls : Nat) (key : Nat) (f : PsOpen → PsOpen) (s : State) (hev : Evolves s0 s) :
    Evolves s0 (psEnd cls key f s) := by
  unfold psEnd
  try dsimp only
  with_reducible repeat' (first
    | (intro _; try dsimp only) | assumption | apply evolves_psWrite | apply evolves_setCnt
    | (simp only [evolves_mk_iff]; apply evolvesTo_self) | split)

theorem evolves_psDiscard (cls : Nat) (gone : Nat → Bool) (s : State) (hev : Evolves s0 s) :
    Evolves s0 (psDiscard cls gone s) := by
  unfold psDiscard
  try dsimp only
  with_reducible repeat' (first
    | (intro _; try dsimp only) | assumption | apply evolves_rinc | apply evolves_setCnt
    | (simp only [evolves_mk_iff]; apply evolvesTo_self) | apply evolves_ite | split)

theorem evolves_psRegister (who : Requester) (isWrite : Bool) (addr : Nat) (s : State) (hev : Evolves s0 s) :
    Evolves s0 (psRegister who isWrite addr s) := by
  unfold psRegister
  try dsimp only
  with_reducible repeat' (first
    | assumption | apply evolves_psTakes | apply evolves_draw | apply evolves_psWrite | apply evolves_ite
    | refine evolves_snd (by assumption) ?_ | split)

theorem evolves_psControl (before : State) (s : State) (hev : Evolves s0 s) :
    Evolves s0 (psControl before s) := by
  unfold psControl
  try dsimp only
  with_reducible repeat' (first
    | (intro _; try dsimp only) | assumption | apply evolves_setCnt | (simp only [evolves_mk_iff]; apply evolvesTo_self)
    | apply evolves_ite | split)

/-! ### Regs -/

theorem evolves_latchWords (who : Requester) (base : Nat) (y0 : Nat) (y1 : Nat) (y2 : State) (hev : Evolves s0 y2) :
    Evolves s0 (latchWords who base y0 y1 y2) := by
  induction y0 generalizing who base y1 y2
  all_goals
    unfold latchWords
    try dsimp only
    with_reducible repeat' (first | assumption | apply_assumption | (simp only [evolves_mk_iff]; apply evolvesTo_self))

theorem evolves_latchRead (who : Requester) (addr : Nat) (s : State) (hev : Evolves s0 s) :
    Evolves s0 (latchRead who addr s) := by
  unfold latchRead
  try dsimp only
  with_reducible repeat' (first
    | (intro _; try dsimp only) | assumption | apply evolves_latchWords | (simp only [evolves_mk_iff]; apply evolvesTo_self)
    | split)

theorem evolves_storeChecked (n : Nat) (off : Nat) (v : Word) (f : FieldDesc) (acc : Word × State) (hev : Evolves s0 acc.2) :
    Evolves s0 (storeChecked n off v f acc).2 := by
  unfold storeChecked
  try dsimp only
  with_reducible repeat' (first | assumption | apply evolves_raiseErr | apply evolves_ite | split)

theorem evolves_applyField (n : Nat) (off : Nat) (v : Word) (busy : Bool) (lock : Bool) (open_ : FieldDesc → Bool) (skip : Word) (acc : Word × State) (f : FieldDesc) (hev : Evolves s0 acc.2) :
    Evolves s0 (applyField n off v busy lock open_ skip acc f).2 := by
  unfold applyField
  try dsimp only
  with_reducible repeat' (first
    | (intro _; try dsimp only) | assumption | apply evolves_storeChecked | apply evolves_raiseErr
    | (simp only [evolves_mk_iff]; apply evolvesTo_self) | apply evolves_ite | split)

theorem evolves_dropHeld (base : Nat) (y0 : Nat) (y1 : Nat) (y2 : State) (hev : Evolves s0 y2) :
    Evolves s0 (dropHeld base y0 y1 y2) := by
  induction y0 generalizing base y1 y2
  all_goals
    unfold dropHeld
    try dsimp only
    with_reducible repeat' (first | assumption | apply_assumption | (simp only [evolves_mk_iff]; apply evolvesTo_self))

theorem evolves_storeWords (base : Nat) (v : Nat) (y0 : Nat) (y1 : Nat) (y2 : State) (hev : Evolves s0 y2) :
    Evolves s0 (storeWords base v y0 y1 y2) := by
  induction y0 generalizing base v y1 y2
  all_goals
    unfold storeWords
    try dsimp only
    with_reducible repeat' (first | assumption | apply evolves_rset | apply_assumption)

theorem evolves_writeWide (n : Nat) (addr : Nat) (v : Word) (r : RegDesc) (w : Nat) (lock : Bool) (s : State) (hev : Evolves s0 s) :
    Evolves s0 (writeWide n addr v r w lock s) := by
  unfold writeWide
  try dsimp only
  with_reducible repeat' (first
    | (intro _; try dsimp only) | assumption | apply evolves_raiseErr | apply evolves_dropHeld | apply evolves_storeWords
    | (simp only [evolves_mk_iff]; apply evolvesTo_self) | apply evolves_ite | split)

theorem evolves_dropWrite (s : State) (hev : Evolves s0 s) :
    Evolves s0 (dropWrite s) := by
  unfold dropWrite
  try dsimp only
  with_reducible repeat' (first | assumption | apply evolves_rinc)

theorem evolves_countSeq (n : Nat) (s : State) (hev : Evolves s0 s) :
    Evolves s0 (countSeq n s) := by
  unfold countSeq
  try dsimp only
  with_reducible repeat' (first | assumption | apply evolves_rinc)

theorem evolves_untaken (addr : Nat) (s : State) (hev : Evolves s0 s) :
    Evolves s0 (untaken addr s) := by
  unfold untaken
  try dsimp only
  with_reducible repeat' (first | assumption | apply evolves_dropWrite | apply evolves_ite | split)

theorem evolves_writeWord (who : Requester) (addr : Nat) (v : Word) (skip : Word) (s : State) (hev : Evolves s0 s) :
    Evolves s0 (writeWord who addr v skip s) := by
  unfold writeWord
  try dsimp only
  with_reducible repeat' (first
    | (intro _; try dsimp only) | assumption | exact Evolves.refl _ | apply evolves_untaken | apply evolves_raiseErr
    | apply evolves_countSeq | apply evolves_writeWide | apply evolves_applyField | apply evolves_rset
    | (simp only [evolves_mk_iff]; apply evolvesTo_self) | apply evolves_ite | apply evolves_foldl | apply evolves_foldl_snd
    | apply evolves_foldl_snd2 | refine evolves_snd (by assumption) ?_ | refine evolves_fst (by assumption) ?_
    | refine evolves_snd2 (by assumption) ?_ | split)

theorem evolves_writeReg (who : Requester) (addr : Nat) (v : Word) (skip : Word) (s : State) (hev : Evolves s0 s) :
    Evolves s0 (writeReg who addr v skip s) := by
  unfold writeReg
  try dsimp only
  with_reducible repeat' (first | assumption | apply evolves_writeWord | apply evolves_psRegister | apply evolves_ite | split)

theorem evolves_readOut (who : Requester) (addr : Nat) (v : Word) (s : State) (hev : Evolves s0 s) :
    Evolves s0 (readOut who addr v s) := by
  unfold readOut
  try dsimp only
  with_reducible repeat' (first | assumption | apply evolves_emit | apply evolves_psRegister | apply evolves_ite | split)

theorem evolves_commitFail (n : Nat) (cause : Nat) (info : Word) (s : State) (hev : Evolves s0 s) :
    Evolves s0 (commitFail n cause info s) := by
  unfold commitFail
  try dsimp only
  with_reducible repeat' (first | assumption | apply evolves_raiseErr | apply evolves_rsetBit)

/-! ### Rings -/

theorem evolves_ringAdopt (g : RingRegs) (r : RecordRing) (s : State) (hev : Evolves s0 s) :
    Evolves s0 (ringAdopt g r s).2 := by
  unfold ringAdopt
  try dsimp only
  with_reducible repeat' (first
    | assumption | apply evolves_rset | (simp only [evolves_mk_iff]; apply evolvesTo_self) | apply evolves_ite | split)

theorem evolves_ringGiveUp (r : RecordRing) (start : Nat) (s : State) (hev : Evolves s0 s) :
    Evolves s0 (ringGiveUp r start s).2 := by
  unfold ringGiveUp
  try dsimp only
  with_reducible repeat' (first
    | (intro _; try dsimp only) | assumption | apply evolves_ringWrite | (simp only [evolves_mk_iff]; apply evolvesTo_self)
    | apply evolves_ite | apply evolves_foldl | split)

theorem evolves_ringPublish (g : RingRegs) (vec : Reserved → Nat) (r : RecordRing) (s : State) (hev : Evolves s0 s) :
    Evolves s0 (ringPublish g vec r s).2 := by
  unfold ringPublish
  try dsimp only
  with_reducible repeat' (first
    | (intro _; try dsimp only) | assumption | apply evolves_sourceVector | apply evolves_rset
    | (simp only [evolves_mk_iff]; apply evolvesTo_self) | split)

end Sys2Proof.Laws
end

