-- ==== Sys2Proof/Laws/EvolvesTime.lean ====
section
/-! SUPPORT. `Evolves` for audio and Meridian time: each operation keeps what the state it starts from has kept. -/

namespace Sys2Proof.Laws

open Sys2Proof.Machine Sys2Proof.Safety

set_option linter.all false

variable {s0 : State}

/-! ### Aud -/

theorem evolves_putAud (p : Nat) (x : AudPort) (s : State) (hev : Evolves s0 s) :
    Evolves s0 (putAud p x s) := by
  unfold putAud
  try dsimp only
  with_reducible repeat' (first | assumption | (simp only [evolves_mk_iff]; apply evolvesTo_self))

theorem evolves_audArm (p : Nat) (s : State) (hev : Evolves s0 s) :
    Evolves s0 (audArm p s) := by
  unfold audArm
  try dsimp only
  with_reducible repeat' (first
    | assumption | apply evolves_raiseErr | apply evolves_putAud | apply evolves_emit | apply evolves_rset2
    | apply evolves_rsetBit | apply evolves_ite | split)

theorem evolves_audBlockEnd (p : Nat) (last : Bool) (s : State) (hev : Evolves s0 s) :
    Evolves s0 (audBlockEnd p last s) := by
  unfold audBlockEnd
  try dsimp only
  with_reducible repeat' (first
    | (intro _; try dsimp only) | assumption | apply evolves_putAud | apply evolves_ringWrite | apply evolves_rset
    | apply evolves_raiseInt | apply evolves_sourceVector | (simp only [evolves_mk_iff]; apply evolvesTo_self) | apply evolves_ite
    | split)

theorem evolves_audStore (p : Nat) (n : Nat) (slots : List Word) (s : State) (hev : Evolves s0 s) :
    Evolves s0 (audStore p n slots s) := by
  unfold audStore
  try dsimp only
  with_reducible repeat' (first
    | (intro _; try dsimp only) | assumption | apply evolves_putAud | apply evolves_raiseInt | apply evolves_raiseErr
    | apply evolves_rset2 | apply evolves_rinc | apply evolves_audBlockEnd | (simp only [evolves_mk_iff]; apply evolvesTo_self)
    | apply evolves_ite | split)

theorem evolves_audSlip (p : Nat) (n : Nat) (flag : Nat) (s : State) (hev : Evolves s0 s) :
    Evolves s0 (audSlip p n flag s) := by
  unfold audSlip
  try dsimp only
  with_reducible repeat' (first
    | (intro _; try dsimp only) | assumption | apply evolves_putAud | apply evolves_raiseInt | apply evolves_raiseErr
    | (simp only [evolves_mk_iff]; apply evolvesTo_self) | apply evolves_ite | split)

theorem evolves_audPlace (p : Nat) (stamp : Nat) (slots : List Word) (y0 : Nat) (y1 : State) (hev : Evolves s0 y1) :
    Evolves s0 (audPlace p stamp slots y0 y1) := by
  induction y0 generalizing p stamp slots y1
  all_goals
    unfold audPlace
    try dsimp only
    with_reducible repeat' (first
      | assumption | apply evolves_rset | apply evolves_audStore | apply evolves_audSlip | apply evolves_rinc
      | apply evolves_putAud | apply_assumption | (simp only [evolves_mk_iff]; apply evolvesTo_self) | apply evolves_ite | split)

theorem evolves_audFrame (p : Nat) (stamp : Nat) (bclks : Nat) (bits : List Bool) (s : State) (hev : Evolves s0 s) :
    Evolves s0 (audFrame p stamp bclks bits s) := by
  unfold audFrame
  try dsimp only
  with_reducible repeat' (first
    | assumption | apply evolves_raiseErr | apply evolves_rinc | apply evolves_audPlace | apply evolves_rset
    | apply evolves_putAud | apply evolves_audStore | (simp only [evolves_mk_iff]; apply evolvesTo_self) | apply evolves_ite
    | split)

theorem evolves_audQuiet (p : Nat) (s : State) (hev : Evolves s0 s) :
    Evolves s0 (audQuiet p s) := by
  unfold audQuiet
  try dsimp only
  with_reducible repeat' (first | assumption | apply evolves_emit | apply evolves_ite | split)

theorem evolves_audStop (p : Nat) (s : State) (hev : Evolves s0 s) :
    Evolves s0 (audStop p s) := by
  unfold audStop
  try dsimp only
  with_reducible repeat' (first
    | assumption | apply evolves_audQuiet | apply evolves_putAud | apply evolves_rsetBit | apply evolves_audBlockEnd
    | apply evolves_ite | split)

theorem evolves_audAbandon (p : Nat) (s : State) (hev : Evolves s0 s) :
    Evolves s0 (audAbandon p s) := by
  unfold audAbandon
  try dsimp only
  with_reducible repeat' (first
    | assumption | apply evolves_putAud | apply evolves_rsetBit | apply evolves_audQuiet | apply evolves_ite | split)

theorem evolves_setAudLocked (b : Bool) (s : State) (hev : Evolves s0 s) :
    Evolves s0 (setAudLocked b s) := by
  unfold setAudLocked
  try dsimp only
  with_reducible repeat' (first | assumption | apply evolves_raiseInt | apply evolves_rsetBit | apply evolves_ite | split)

theorem evolves_dcoUpdate (s : State) (hev : Evolves s0 s) :
    Evolves s0 (dcoUpdate s) := by
  unfold dcoUpdate
  try dsimp only
  with_reducible repeat' (first
    | assumption | apply evolves_rsetFld | apply evolves_putAud | apply evolves_setAudLocked
    | (simp only [evolves_mk_iff]; apply evolvesTo_self) | apply evolves_ite | split)

theorem evolves_audCommand (who : Requester) (p : Nat) (value : Word) (s : State) (hev : Evolves s0 s) :
    Evolves s0 (audCommand who p value s) := by
  unfold audCommand
  try dsimp only
  with_reducible repeat' (first
    | assumption | apply evolves_writeReg | apply evolves_audArm | apply evolves_audStop | apply evolves_ite | split)

theorem evolves_execAudArm (who : Requester) (port : Fin 4) (value : Word) (s : State) (hev : Evolves s0 s) :
    ∃ t, execAudArm who port value s = .next t ∧ Evolves s0 t := by
  unfold execAudArm
  try dsimp only
  refine ⟨_, rfl, ?_⟩
  with_reducible repeat' (first | assumption | apply evolves_audCommand)

theorem evolves_execAudStop (who : Requester) (port : Fin 4) (value : Word) (s : State) (hev : Evolves s0 s) :
    ∃ t, execAudStop who port value s = .next t ∧ Evolves s0 t := by
  unfold execAudStop
  try dsimp only
  refine ⟨_, rfl, ?_⟩
  with_reducible repeat' (first | assumption | apply evolves_audCommand)

theorem evolves_execAudFrame (port : Fin 4) (stamp : Nat) (bclks : Nat) (bits : List Bool) (s : State) (hev : Evolves s0 s) :
    ∃ t, execAudFrame port stamp bclks bits s = .next t ∧ Evolves s0 t := by
  unfold execAudFrame
  try dsimp only
  refine ⟨_, rfl, ?_⟩
  with_reducible repeat' (first | assumption | apply evolves_audFrame)

theorem evolves_execAudClockLoss (port : Fin 4) (s : State) (hev : Evolves s0 s) :
    ∃ t, execAudClockLoss port s = .next t ∧ Evolves s0 t := by
  unfold execAudClockLoss
  try dsimp only
  refine ⟨_, rfl, ?_⟩
  with_reducible repeat' (first | assumption | apply evolves_raiseErr | apply evolves_ite | split)

theorem evolves_execDcoUpdate (s : State) (hev : Evolves s0 s) :
    ∃ t, execDcoUpdate s = .next t ∧ Evolves s0 t := by
  unfold execDcoUpdate
  try dsimp only
  refine ⟨_, rfl, ?_⟩
  with_reducible repeat' (first | assumption | apply evolves_dcoUpdate)

/-! ### Mer -/

theorem evolves_setFreq (i : Int) (s : State) (hev : Evolves s0 s) :
    Evolves s0 (setFreq i s) := by
  unfold setFreq
  try dsimp only
  with_reducible repeat' (first | assumption | apply evolves_rset | apply evolves_ite | split)

theorem evolves_setMerState (v : Nat) (s : State) (hev : Evolves s0 s) :
    Evolves s0 (setMerState v s) := by
  unfold setMerState
  try dsimp only
  with_reducible repeat' (first | assumption | apply evolves_raiseInt | apply evolves_rsetFld | apply evolves_ite | split)

theorem evolves_merStep (t : Nat) (s : State) (hev : Evolves s0 s) :
    Evolves s0 (merStep t s) := by
  unfold merStep
  try dsimp only
  with_reducible repeat' (first
    | assumption | apply evolves_raiseInt | apply evolves_rinc | (simp only [evolves_mk_iff]; apply evolvesTo_self)
    | apply evolves_ite | split)

theorem evolves_setTaiOfs (i : Int) (s : State) (hev : Evolves s0 s) :
    Evolves s0 (setTaiOfs i s) := by
  unfold setTaiOfs
  try dsimp only
  with_reducible repeat' (first | assumption | apply evolves_rset2)

theorem evolves_epochBreak (d : Int) (s : State) (hev : Evolves s0 s) :
    Evolves s0 (epochBreak d s) := by
  unfold epochBreak
  try dsimp only
  with_reducible repeat' (first | assumption | apply evolves_raiseInt | apply evolves_rincFld | apply evolves_logEvent)

theorem evolves_steer (d : Int) (lo : Int) (hi : Int) (s : State) (hev : Evolves s0 s) :
    Evolves s0 (steer d lo hi s) := by
  unfold steer
  try dsimp only
  with_reducible repeat' (first | assumption | apply evolves_setFreq | apply evolves_draw | apply evolves_ite | split)

theorem evolves_followTheta (theta : Int) (lodestarEpoch : Bool) (s : State) (hev : Evolves s0 s) :
    Evolves s0 (followTheta theta lodestarEpoch s) := by
  unfold followTheta
  try dsimp only
  with_reducible repeat' (first
    | assumption | apply evolves_setMerState | apply evolves_rset | apply evolves_rsetBit | apply evolves_merStep
    | apply evolves_setFreq | apply evolves_steer | apply evolves_ite | split)

theorem evolves_applyReference (ref : Nat) (at16 : Nat) (s : State) (hev : Evolves s0 s) :
    Evolves s0 (applyReference ref at16 s) := by
  unfold applyReference
  try dsimp only
  with_reducible repeat' (first
    | assumption | apply evolves_rset | apply evolves_merStep | apply evolves_setTaiOfs | apply evolves_rsetBit
    | apply evolves_steer | apply evolves_epochBreak | apply evolves_ite | split)

theorem evolves_maxtStep (maxt : Nat) (s : State) (hev : Evolves s0 s) :
    Evolves s0 (maxtStep maxt s) := by
  unfold maxtStep
  try dsimp only
  with_reducible repeat' (first
    | assumption | apply evolves_setTaiOfs | apply evolves_merStep | apply evolves_epochBreak | apply evolves_ite | split)

theorem evolves_merHoldover (s : State) (hev : Evolves s0 s) :
    Evolves s0 (merHoldover s) := by
  unfold merHoldover
  try dsimp only
  with_reducible repeat' (first | assumption | apply evolves_setMerState | apply evolves_raiseErr | apply evolves_ite | split)

theorem evolves_merUnsync (s : State) (hev : Evolves s0 s) :
    Evolves s0 (merUnsync s) := by
  unfold merUnsync
  try dsimp only
  with_reducible repeat' (first | assumption | apply evolves_setMerState | apply evolves_raiseErr | apply evolves_ite | split)

theorem evolves_execHoldover (s : State) (hev : Evolves s0 s) :
    ∃ t, execHoldover s = .next t ∧ Evolves s0 t := by
  unfold execHoldover
  try dsimp only
  refine ⟨_, rfl, ?_⟩
  with_reducible repeat' (first | assumption | apply evolves_merHoldover | apply evolves_ite | split)

theorem evolves_execPpsMissing (s : State) (hev : Evolves s0 s) :
    ∃ t, execPpsMissing s = .next t ∧ Evolves s0 t := by
  unfold execPpsMissing
  try dsimp only
  refine ⟨_, rfl, ?_⟩
  with_reducible repeat' (first | assumption | apply evolves_raiseErr | apply evolves_rsetBit | apply evolves_ite | split)

theorem evolves_execRef10mLoss (s : State) (hev : Evolves s0 s) :
    ∃ t, execRef10mLoss s = .next t ∧ Evolves s0 t := by
  unfold execRef10mLoss
  try dsimp only
  refine ⟨_, rfl, ?_⟩
  with_reducible repeat' (first | assumption | apply evolves_rsetBit | apply evolves_raiseErr | apply evolves_ite | split)

theorem evolves_execRef10mRestored (s : State) (hev : Evolves s0 s) :
    ∃ t, execRef10mRestored s = .next t ∧ Evolves s0 t := by
  unfold execRef10mRestored
  try dsimp only
  refine ⟨_, rfl, ?_⟩
  with_reducible repeat' (first | assumption | apply evolves_rsetBit)

end Sys2Proof.Laws
end

