-- ==== Sys2Proof/Laws/EvolvesCapture.lean ====
section
/-! SUPPORT. `Evolves` for the path of a frame: layers, colour pipelines, recording feed, sensor ports: each operation keeps what the state it starts from has kept. -/

namespace Sys2Proof.Laws

open Sys2Proof.Machine Sys2Proof.Safety

set_option linter.all false

variable {s0 : State}

/-! ### LanBase -/

theorem evolves_setLanLane (p : Nat) (i : Nat) (v : LanLane) (s : State) (hev : Evolves s0 s) :
    Evolves s0 (setLanLane p i v s) := by
  unfold setLanLane
  try dsimp only
  with_reducible repeat' (first | assumption | (simp only [evolves_mk_iff]; apply evolvesTo_self))

theorem evolves_setLane (p : Nat) (i : Nat) (v : Nat) (s : State) (hev : Evolves s0 s) :
    Evolves s0 (setLane p i v s) := by
  unfold setLane
  try dsimp only
  with_reducible repeat' (first
    | assumption | apply evolves_raiseInt | apply evolves_rsetFld | apply evolves_rinc | apply evolves_setLanLane
    | (simp only [evolves_mk_iff]; apply evolvesTo_self) | apply evolves_ite | split)

theorem evolves_setSpareOf (p : Nat) (k : Nat) (st : Nat) (lane : Nat) (s : State) (hev : Evolves s0 s) :
    Evolves s0 (setSpareOf p k st lane s) := by
  unfold setSpareOf
  try dsimp only
  with_reducible repeat' (first | assumption | apply evolves_rsetFld)

theorem evolves_logSubstitution (kind : Nat) (page : Nat) (unit : Nat) (spare : Nat) (s : State) (hev : Evolves s0 s) :
    Evolves s0 (logSubstitution kind page unit spare s) := by
  unfold logSubstitution
  try dsimp only
  with_reducible repeat' (first | assumption | apply evolves_logEvent)

theorem evolves_substEnd (p : Nat) (k : Nat) (s : State) (hev : Evolves s0 s) :
    Evolves s0 (substEnd p k s) := by
  unfold substEnd
  try dsimp only
  with_reducible repeat' (first
    | (intro _; try dsimp only) | assumption | apply evolves_setLane | apply evolves_setSpareOf | apply evolves_rinc
    | apply evolves_rsetBit | apply evolves_logSubstitution | apply evolves_raiseInt
    | (simp only [evolves_mk_iff]; apply evolvesTo_self) | split)

theorem evolves_spareFailed (p : Nat) (k : Nat) (s : State) (hev : Evolves s0 s) :
    Evolves s0 (spareFailed p k s) := by
  unfold spareFailed
  try dsimp only
  with_reducible repeat' (first | assumption | apply evolves_raiseErr | apply evolves_setSpareOf)

theorem evolves_spareReturned (p : Nat) (port : Nat) (s : State) (hev : Evolves s0 s) :
    Evolves s0 (spareReturned p port s) := by
  unfold spareReturned
  try dsimp only
  with_reducible repeat' (first
    | (intro _; try dsimp only) | assumption | apply evolves_setLane | apply evolves_setSpareOf | apply evolves_rsetBit
    | (simp only [evolves_mk_iff]; apply evolvesTo_self) | apply evolves_ite | split)

theorem evolves_substAbandon (p : Nat) (port : Nat) (s : State) (hev : Evolves s0 s) :
    Evolves s0 (substAbandon p port s) := by
  unfold substAbandon
  try dsimp only
  with_reducible repeat' (first
    | (intro _; try dsimp only) | assumption | apply evolves_setSpareOf | apply evolves_ite | apply evolves_foldl | split)

theorem evolves_lanSpareResult (page : Nat) (k : Nat) (ok : Bool) (s : State) (hev : Evolves s0 s) :
    Evolves s0 (lanSpareResult page k ok s) := by
  unfold lanSpareResult
  try dsimp only
  with_reducible repeat' (first | assumption | apply evolves_substEnd | apply evolves_spareFailed | apply evolves_ite | split)

/-! ### CmpBase -/

theorem evolves_setCmp (v : CmpState) (s : State) (hev : Evolves s0 s) :
    Evolves s0 (setCmp v s) := by
  unfold setCmp
  try dsimp only
  with_reducible repeat' (first | assumption | (simp only [evolves_mk_iff]; apply evolvesTo_self))

theorem evolves_cmpSubmit (user : CmpUser) (deflate : Bool) (bytes : List Byte) (head : Option KpcHeader) (s : State) (hev : Evolves s0 s) :
    Evolves s0 (cmpSubmit user deflate bytes head s) := by
  unfold cmpSubmit
  try dsimp only
  with_reducible repeat' (first | assumption | apply evolves_setCmp | (simp only [evolves_mk_iff]; apply evolvesTo_self))

theorem evolves_sendOffer (l : Nat) (b : Nat) (sof : Nat) (s : State) (hev : Evolves s0 s) :
    Evolves s0 (sendOffer l b sof s) := by
  unfold sendOffer
  try dsimp only
  with_reducible repeat' (first
    | (intro _; try dsimp only) | assumption | apply evolves_rinc | apply evolves_setCmp | apply evolves_cmpSubmit
    | (simp only [evolves_mk_iff]; apply evolvesTo_self) | apply evolves_ite | apply evolves_foldl | split)

theorem evolves_sendOverwritten (l : Nat) (b : Nat) (s : State) (hev : Evolves s0 s) :
    Evolves s0 (sendOverwritten l b s) := by
  unfold sendOverwritten
  try dsimp only
  with_reducible repeat' (first
    | (intro _; try dsimp only) | assumption | apply evolves_rinc | apply evolves_setCmp
    | (simp only [evolves_mk_iff]; apply evolvesTo_self) | apply evolves_ite | split)

/-! ### CnvLayers -/

theorem evolves_setCnv (v : CnvState) (s : State) (hev : Evolves s0 s) :
    Evolves s0 (setCnv v s) := by
  unfold setCnv
  try dsimp only
  with_reducible repeat' (first | assumption | (simp only [evolves_mk_iff]; apply evolvesTo_self))

theorem evolves_setLayer (l : Nat) (v : CnvLayer) (s : State) (hev : Evolves s0 s) :
    Evolves s0 (setLayer l v s) := by
  unfold setLayer
  try dsimp only
  with_reducible repeat' (first | assumption | (simp only [evolves_mk_iff]; apply evolvesTo_self))

theorem evolves_storeBegin (l : Nat) (b : Nat) (s : State) (hev : Evolves s0 s) :
    Evolves s0 (storeBegin l b s) := by
  unfold storeBegin
  try dsimp only
  with_reducible repeat' (first
    | assumption | apply evolves_sendOverwritten | apply evolves_setLayer | apply evolves_raiseInt | apply evolves_rinc
    | (simp only [evolves_mk_iff]; apply evolvesTo_self) | apply evolves_ite | split)

theorem evolves_storeDone (l : Nat) (b : Nat) (sof : Nat) (s : State) (hev : Evolves s0 s) :
    Evolves s0 (storeDone l b sof s) := by
  unfold storeDone
  try dsimp only
  with_reducible repeat' (first
    | assumption | apply evolves_setLayer | apply evolves_sendOffer | (simp only [evolves_mk_iff]; apply evolvesTo_self))

theorem evolves_storeDrop (l : Nat) (b : Nat) (s : State) (hev : Evolves s0 s) :
    Evolves s0 (storeDrop l b s) := by
  unfold storeDrop
  try dsimp only
  with_reducible repeat' (first | assumption | apply evolves_setLayer | (simp only [evolves_mk_iff]; apply evolvesTo_self))

theorem evolves_putOt0 (o : Ot0Pic) (s : State) (hev : Evolves s0 s) :
    Evolves s0 (putOt0 o s) := by
  unfold putOt0
  try dsimp only
  with_reducible repeat' (first
    | (intro _; try dsimp only) | assumption | (simp only [evolves_mk_iff]; apply evolvesTo_self) | apply evolves_ite | split)

theorem evolves_sweepOt0 (s : State) (hev : Evolves s0 s) :
    Evolves s0 (sweepOt0 s) := by
  unfold sweepOt0
  try dsimp only
  with_reducible repeat' (first | (intro _; try dsimp only) | assumption | (simp only [evolves_mk_iff]; apply evolvesTo_self))

theorem evolves_showReady (s : State) (hev : Evolves s0 s) :
    Evolves s0 (showReady s) := by
  unfold showReady
  try dsimp only
  with_reducible repeat' (first
    | (intro _; try dsimp only) | assumption | apply evolves_rsetBit | apply evolves_rsetFld
    | (simp only [evolves_mk_iff]; apply evolvesTo_self) | split)

theorem evolves_showHostFree (s : State) (hev : Evolves s0 s) :
    Evolves s0 (showHostFree s) := by
  unfold showHostFree
  try dsimp only
  with_reducible repeat' (first | (intro _; try dsimp only) | assumption | apply evolves_rsetBit)

theorem evolves_monGone (b : Nat) (s : State) (hev : Evolves s0 s) :
    Evolves s0 (monGone b s) := by
  unfold monGone
  try dsimp only
  with_reducible repeat' (first
    | (intro _; try dsimp only) | assumption | apply evolves_rinc | apply evolves_memWrite
    | (simp only [evolves_mk_iff]; apply evolvesTo_self) | apply evolves_ite | split)

theorem evolves_bufRelease (b : Nat) (s : State) (hev : Evolves s0 s) :
    Evolves s0 (bufRelease b s) := by
  unfold bufRelease
  try dsimp only
  with_reducible repeat' (first
    | (intro _; try dsimp only) | assumption | apply evolves_monGone | apply evolves_showHostFree | apply evolves_showReady
    | (simp only [evolves_mk_iff]; apply evolvesTo_self) | apply evolves_ite | split)

theorem evolves_picAbandon (b : Nat) (s : State) (hev : Evolves s0 s) :
    Evolves s0 (picAbandon b s) := by
  unfold picAbandon
  try dsimp only
  with_reducible repeat' (first | assumption | apply evolves_bufRelease | apply evolves_rinc)

theorem evolves_ot0Line (p : Nat) (sof : Nat) (row : List Nat) (s : State) (hev : Evolves s0 s) :
    Evolves s0 (ot0Line p sof row s) := by
  unfold ot0Line
  try dsimp only
  with_reducible repeat' (first
    | (intro _; try dsimp only) | assumption | apply evolves_putOt0 | apply evolves_memWrite
    | (simp only [evolves_mk_iff]; apply evolvesTo_self) | apply evolves_ite | split)

theorem evolves_ot0Done (p : Nat) (sof : Nat) (s : State) (hev : Evolves s0 s) :
    Evolves s0 (ot0Done p sof s) := by
  unfold ot0Done
  try dsimp only
  with_reducible repeat' (first
    | (intro _; try dsimp only) | assumption | apply evolves_putOt0 | apply evolves_storeDone
    | (simp only [evolves_mk_iff]; apply evolvesTo_self) | apply evolves_ite | split)

theorem evolves_ot0Withdraw (p : Nat) (sof : Nat) (s : State) (hev : Evolves s0 s) :
    Evolves s0 (ot0Withdraw p sof s) := by
  unfold ot0Withdraw
  try dsimp only
  with_reducible repeat' (first
    | (intro _; try dsimp only) | assumption | apply evolves_putOt0 | apply evolves_storeDrop | apply evolves_picAbandon
    | (simp only [evolves_mk_iff]; apply evolvesTo_self) | apply evolves_ite | apply evolves_foldl | split)

/-! ### CnvMap -/

theorem evolves_setMapState (bank : Nat) (v : Nat) (s : State) (hev : Evolves s0 s) :
    Evolves s0 (setMapState bank v s) := by
  unfold setMapState
  try dsimp only
  with_reducible repeat' (first | assumption | apply evolves_rsetFld | apply evolves_ite | split)

theorem evolves_setSelfref (v : Nat) (s : State) (hev : Evolves s0 s) :
    Evolves s0 (setSelfref v s) := by
  unfold setSelfref
  try dsimp only
  with_reducible repeat' (first | assumption | apply evolves_raiseInt | apply evolves_rsetFld | apply evolves_ite | split)

/-! ### CnvCommit -/

theorem evolves_layersCommitted (before : State) (s : State) (hev : Evolves s0 s) :
    Evolves s0 (layersCommitted before s) := by
  unfold layersCommitted
  try dsimp only
  with_reducible repeat' (first
    | (intro _; try dsimp only) | assumption | apply evolves_sendOffer | apply evolves_raiseErr | apply evolves_setCmp
    | (simp only [evolves_mk_iff]; apply evolvesTo_self) | apply evolves_ite | apply evolves_foldl | split)

theorem evolves_tlkNewBank (bank : Nat) (s : State) (hev : Evolves s0 s) :
    Evolves s0 (tlkNewBank bank s) := by
  unfold tlkNewBank
  try dsimp only
  with_reducible repeat' (first | (intro _; try dsimp only) | assumption | (simp only [evolves_mk_iff]; apply evolvesTo_self))

theorem evolves_cnvCommit (k : Nat) (s : State) (hev : Evolves s0 s) :
    Evolves s0 (cnvCommit k s) := by
  unfold cnvCommit
  try dsimp only
  with_reducible repeat' (first
    | (intro _; try dsimp only) | assumption | apply evolves_commitFail | apply evolves_commitApply
    | apply evolves_layersCommitted | apply evolves_tlkNewBank | (simp only [evolves_mk_iff]; apply evolvesTo_self)
    | apply evolves_ite | split)

theorem evolves_cnvCommits (s : State) (hev : Evolves s0 s) :
    Evolves s0 (cnvCommits s) := by
  unfold cnvCommits
  try dsimp only
  with_reducible repeat' (first | assumption | apply evolves_cnvCommit)

theorem evolves_joinLive (l : Nat) (p : Nat) (sof : Nat) (c : CnvPic) (s : State) (hev : Evolves s0 s) :
    Evolves s0 (joinLive l p sof c s) := by
  unfold joinLive
  try dsimp only
  with_reducible repeat' (first
    | (intro _; try dsimp only) | assumption | apply evolves_rsetBit | (simp only [evolves_mk_iff]; apply evolvesTo_self)
    | apply evolves_ite | split)

theorem evolves_ot0Begin (p : Nat) (id : Nat) (sof : Nat) (w : Nat) (h : Nat) (delivered : Bool) (s : State) (hev : Evolves s0 s) :
    Evolves s0 (ot0Begin p id sof w h delivered s) := by
  unfold ot0Begin
  try dsimp only
  with_reducible repeat' (first
    | (intro _; try dsimp only) | assumption | apply evolves_cnvCommits | apply evolves_sweepOt0 | apply evolves_raiseErr
    | apply evolves_joinLive | apply evolves_picAbandon | apply evolves_storeBegin
    | (simp only [evolves_mk_iff]; apply evolvesTo_self) | apply evolves_ite | split)

/-! ### Clr -/

theorem evolves_setCalState (p : Nat) (v : Nat) (s : State) (hev : Evolves s0 s) :
    Evolves s0 (setCalState p v s) := by
  unfold setCalState
  try dsimp only
  with_reducible repeat' (first | assumption | apply evolves_rsetFld)

theorem evolves_calAbort (p : Nat) (s : State) (hev : Evolves s0 s) :
    Evolves s0 (calAbort p s) := by
  unfold calAbort
  try dsimp only
  with_reducible repeat' (first
    | assumption | apply evolves_setClr | apply evolves_setCalState | apply evolves_raiseErr | apply evolves_rset
    | (simp only [evolves_mk_iff]; apply evolvesTo_self) | apply evolves_ite | split)

theorem evolves_calAccumulate (p : Nat) (f : ClrFrame) (first : Bool) (s : State) (hev : Evolves s0 s) :
    Evolves s0 (calAccumulate p f first s) := by
  unfold calAccumulate
  try dsimp only
  with_reducible repeat' (first
    | (intro _; try dsimp only) | assumption | apply evolves_memWrite | apply evolves_ite | apply evolves_foldl | split)

theorem evolves_calTake (p : Nat) (f : ClrFrame) (s : State) (hev : Evolves s0 s) :
    Evolves s0 (calTake p f s) := by
  unfold calTake
  try dsimp only
  with_reducible repeat' (first
    | (intro _; try dsimp only) | assumption | apply evolves_memSee | apply evolves_calAbort | apply evolves_setClr
    | apply evolves_calAccumulate | (simp only [evolves_mk_iff]; apply evolvesTo_self) | apply evolves_ite | split)

theorem evolves_otRearm (p : Nat) (s : State) (hev : Evolves s0 s) :
    Evolves s0 (otRearm p s) := by
  unfold otRearm
  try dsimp only
  with_reducible repeat' (first | assumption | apply evolves_setClr | (simp only [evolves_mk_iff]; apply evolvesTo_self))

theorem evolves_clrCommit (n : Nat) (w : Nat) (h : Nat) (s : State) (hev : Evolves s0 s) :
    Evolves s0 (clrCommit n w h s) := by
  unfold clrCommit
  try dsimp only
  with_reducible repeat' (first
    | (intro _; try dsimp only) | assumption | apply evolves_commitApply | apply evolves_calAbort | apply evolves_commitFail
    | apply evolves_otRearm | apply evolves_raiseInt | (simp only [evolves_mk_iff]; apply evolvesTo_self) | apply evolves_ite
    | split)

theorem evolves_setSpareState (v : Nat) (s : State) (hev : Evolves s0 s) :
    Evolves s0 (setSpareState v s) := by
  unfold setSpareState
  try dsimp only
  with_reducible repeat' (first | assumption | apply evolves_rsetFld)

theorem evolves_setSpareFor (pipe : Nat) (slice : Nat) (s : State) (hev : Evolves s0 s) :
    Evolves s0 (setSpareFor pipe slice s) := by
  unfold setSpareFor
  try dsimp only
  with_reducible repeat' (first | assumption | apply evolves_rsetFld)

theorem evolves_spareMoves (p : Nat) (s : State) (hev : Evolves s0 s) :
    Evolves s0 (spareMoves p s) := by
  unfold spareMoves
  try dsimp only
  with_reducible repeat' (first
    | assumption | apply evolves_setSpareFor | (simp only [evolves_mk_iff]; apply evolvesTo_self) | apply evolves_ite | split)

theorem evolves_spareTakes (p : Nat) (k : Nat) (s : State) (hev : Evolves s0 s) :
    Evolves s0 (spareTakes p k s) := by
  unfold spareTakes
  try dsimp only
  with_reducible repeat' (first
    | assumption | apply evolves_raiseInt | apply evolves_logEvent | apply evolves_rsetBit | apply evolves_setSpareState
    | apply evolves_setSpareFor | (simp only [evolves_mk_iff]; apply evolvesTo_self))

theorem evolves_spareAtSof (p : Nat) (s : State) (hev : Evolves s0 s) :
    Evolves s0 (spareAtSof p s) := by
  unfold spareAtSof
  try dsimp only
  with_reducible repeat' (first
    | (intro _; try dsimp only) | assumption | apply evolves_spareTakes | apply evolves_rsetBit | apply evolves_setSpareState
    | apply evolves_spareMoves | (simp only [evolves_mk_iff]; apply evolvesTo_self) | apply evolves_ite | split)

theorem evolves_tapAtSof (p : Nat) (id : Nat) (w : Nat) (h : Nat) (s : State) (hev : Evolves s0 s) :
    Evolves s0 (tapAtSof p id w h s).2 := by
  unfold tapAtSof
  try dsimp only
  with_reducible repeat' (first
    | assumption | apply evolves_ringAdopt | apply evolves_setClr | apply evolves_raiseErr | apply evolves_rinc
    | (simp only [evolves_mk_iff]; apply evolvesTo_self) | apply evolves_ite | refine evolves_snd (by assumption) ?_ | split)

theorem evolves_otConfigError (p : Nat) (n : Nat) (r : Nat) (s : State) (hev : Evolves s0 s) :
    Evolves s0 (otConfigError p n r s) := by
  unfold otConfigError
  try dsimp only
  with_reducible repeat' (first
    | assumption | apply evolves_raiseErr | apply evolves_setClr | (simp only [evolves_mk_iff]; apply evolvesTo_self)
    | apply evolves_ite | split)

theorem evolves_otAtSof (p : Nat) (n : Nat) (id : Nat) (w : Nat) (h : Nat) (s : State) (hev : Evolves s0 s) :
    Evolves s0 (otAtSof p n id w h s).2 := by
  unfold otAtSof
  try dsimp only
  with_reducible repeat' (first
    | (intro _; try dsimp only) | assumption | apply evolves_setClr | apply evolves_rinc | apply evolves_otConfigError
    | apply evolves_raiseErr | (simp only [evolves_mk_iff]; apply evolvesTo_self) | apply evolves_ite | split)

theorem evolves_clrFrameStart (p : Nat) (id : Nat) (sof : Nat) (w : Nat) (h : Nat) (s : State) (hev : Evolves s0 s) :
    Evolves s0 (clrFrameStart p id sof w h s) := by
  unfold clrFrameStart
  try dsimp only
  with_reducible repeat' (first
    | (intro _; try dsimp only) | assumption | apply evolves_clrCommit | apply evolves_spareAtSof | apply evolves_setCalState
    | apply evolves_uset | apply evolves_rsetBit | apply evolves_tapAtSof | apply evolves_otAtSof | apply evolves_setClr
    | apply evolves_ot0Begin | (simp only [evolves_mk_iff]; apply evolvesTo_self) | apply evolves_ite
    | refine evolves_snd (by assumption) ?_ | split)

theorem evolves_withNewest (p : Nat) (id : Nat) (f : ClrFrame → ClrFrame) (s : State) (hev : Evolves s0 s) :
    Evolves s0 (withNewest p id f s) := by
  unfold withNewest
  try dsimp only
  with_reducible repeat' (first
    | (intro _; try dsimp only) | assumption | apply evolves_setClr | (simp only [evolves_mk_iff]; apply evolvesTo_self)
    | apply evolves_ite | split)

theorem evolves_clrLineIn (p : Nat) (id : Nat) (samples : List Nat) (s : State) (hev : Evolves s0 s) :
    Evolves s0 (clrLineIn p id samples s) := by
  unfold clrLineIn
  try dsimp only
  with_reducible repeat' (first
    | (intro _; try dsimp only) | assumption | apply evolves_withNewest | (simp only [evolves_mk_iff]; apply evolvesTo_self))

theorem evolves_clrWithdraw (p : Nat) (f : ClrFrame) (s : State) (hev : Evolves s0 s) :
    Evolves s0 (clrWithdraw p f s) := by
  unfold clrWithdraw
  try dsimp only
  with_reducible repeat' (first
    | (intro _; try dsimp only) | assumption | apply evolves_rinc | apply evolves_ringGiveUp | apply evolves_setClr
    | apply evolves_ot0Withdraw | (simp only [evolves_mk_iff]; apply evolvesTo_self) | apply evolves_ite | apply evolves_foldl
    | refine evolves_snd (by assumption) ?_ | split)

theorem evolves_clrAbandon (p : Nat) (id : Nat) (s : State) (hev : Evolves s0 s) :
    Evolves s0 (clrAbandon p id s) := by
  unfold clrAbandon
  try dsimp only
  with_reducible repeat' (first
    | (intro _; try dsimp only) | assumption | apply evolves_clrWithdraw | apply evolves_setClr
    | (simp only [evolves_mk_iff]; apply evolvesTo_self) | split)

theorem evolves_otWrite (u : Nat → Word) (f : ClrFrame) (p : Nat) (n : Nat) (w : Nat × List Byte) (s : State) (hev : Evolves s0 s) :
    Evolves s0 (otWrite u f p n w s) := by
  unfold otWrite
  try dsimp only
  with_reducible repeat' (first | assumption | apply evolves_memWrite)

theorem evolves_clrComplete (p : Nat) (f : ClrFrame) (s : State) (hev : Evolves s0 s) :
    Evolves s0 (clrComplete p f s) := by
  unfold clrComplete
  try dsimp only
  with_reducible repeat' (first
    | (intro _; try dsimp only) | assumption | apply evolves_ot0Done | apply evolves_otWrite | apply evolves_setClr
    | apply evolves_ringWrite | apply evolves_calTake | (simp only [evolves_mk_iff]; apply evolvesTo_self) | apply evolves_ite
    | apply evolves_foldl | split)

theorem evolves_clrSweep (p : Nat) (s : State) (hev : Evolves s0 s) :
    Evolves s0 (clrSweep p s) := by
  unfold clrSweep
  try dsimp only
  with_reducible repeat' (first
    | (intro _; try dsimp only) | assumption | apply evolves_clrComplete | apply evolves_setClr
    | (simp only [evolves_mk_iff]; apply evolvesTo_self) | apply evolves_foldl)

theorem evolves_clrFrameClosed (p : Nat) (id : Nat) (flags : Nat) (s : State) (hev : Evolves s0 s) :
    Evolves s0 (clrFrameClosed p id flags s) := by
  unfold clrFrameClosed
  try dsimp only
  with_reducible repeat' (first
    | (intro _; try dsimp only) | assumption | apply evolves_clrSweep | apply evolves_withNewest
    | (simp only [evolves_mk_iff]; apply evolvesTo_self))

theorem evolves_rawRows (p n : Nat) (f : ClrFrame) (s : State) (h : Evolves s0 s) :
    Evolves s0 (rawRows p n f s).2.2 := by
  induction n generalizing f s with
  | zero => exact h
  | succ n ih =>
    rw [rawRows.eq_2]
    extract_lets m s1 r
    split
    · have h1 : Evolves s0 s1 := evolves_memSee _ _ _ _ h
      split
      · exact h1
      · exact ih _ _ (evolves_rinc _ _ _ h1)
    · split
      · split
        · dsimp only
          exact evolves_memSee _ _ _ _ h
        · extract_lets t1 k t2 g w
          have h1 : Evolves s0 t1 := by
            unfold t1
            split
            · exact evolves_raiseErr _ _ _ _ h
            · exact h
          have h2 : Evolves s0 t2 := evolves_memSee _ _ _ _ (evolves_ite (evolves_memWake _ h1) h1)
          split
          · exact h2
          · exact ih _ _ (evolves_rinc _ _ _ (evolves_rinc _ _ _ h2))
      · exact h

theorem evolves_ot0Deliver (p : Nat) (y0 : Nat) (y1 : ClrFrame) (y2 : State) (hev : Evolves s0 y2) :
    Evolves s0 (ot0Deliver p y0 y1 y2).2 := by
  induction y0 generalizing p y1 y2
  all_goals
    unfold ot0Deliver
    try dsimp only
    with_reducible repeat' (first
      | (intro _; try dsimp only) | assumption | apply evolves_ot0Line | apply_assumption
      | (simp only [evolves_mk_iff]; apply evolvesTo_self) | apply evolves_ite | split)

theorem evolves_otLines (p : Nat) (y : Nat) (f : ClrFrame) (s : State) (hev : Evolves s0 s) :
    Evolves s0 (otLines p y f s) := by
  unfold otLines
  try dsimp only
  with_reducible repeat' (first
    | (intro _; try dsimp only) | assumption | apply evolves_otWrite | apply evolves_ite | apply evolves_foldl | split)

theorem evolves_tapLineOut (p : Nat) (y : Nat) (f : ClrFrame) (demo : List Nat) (dev : List DevSite) (s : State) (hev : Evolves s0 s) :
    Evolves s0 (tapLineOut p y f demo dev s) := by
  unfold tapLineOut
  try dsimp only
  with_reducible repeat' (first
    | (intro _; try dsimp only) | assumption | apply evolves_ringWrite | (simp only [evolves_mk_iff]; apply evolvesTo_self)
    | split)

theorem evolves_putFrame (p : Nat) (f : ClrFrame) (s : State) (hev : Evolves s0 s) :
    Evolves s0 (putFrame p f s) := by
  unfold putFrame
  try dsimp only
  with_reducible repeat' (first
    | (intro _; try dsimp only) | assumption | apply evolves_setClr | (simp only [evolves_mk_iff]; apply evolvesTo_self)
    | apply evolves_ite | split)

theorem evolves_clrDropFrame (p : Nat) (f : ClrFrame) (s : State) (hev : Evolves s0 s) :
    Evolves s0 (clrDropFrame p f s) := by
  unfold clrDropFrame
  try dsimp only
  with_reducible repeat' (first
    | (intro _; try dsimp only) | assumption | apply evolves_clrWithdraw | apply evolves_setClr
    | (simp only [evolves_mk_iff]; apply evolvesTo_self))

theorem evolves_sliceMismatch (p : Nat) (f : ClrFrame) (s : State) (hev : Evolves s0 s) :
    Evolves s0 (sliceMismatch p f s) := by
  unfold sliceMismatch
  try dsimp only
  with_reducible repeat' (first
    | assumption | apply evolves_clrDropFrame | apply evolves_rinc | apply evolves_raiseErr | apply evolves_raiseInt
    | apply evolves_setSpareState | (simp only [evolves_mk_iff]; apply evolvesTo_self) | refine evolves_snd (by assumption) ?_
    | split)

theorem evolves_otOverruns (p : Nat) (beyond : BitVec 4) (f : ClrFrame) (s : State) (hev : Evolves s0 s) :
    Evolves s0 (otOverruns p beyond f s).2 := by
  unfold otOverruns
  try dsimp only
  with_reducible repeat' (first
    | (intro _; try dsimp only) | assumption | exact Evolves.refl _ | apply evolves_raiseErr | apply evolves_rinc
    | apply evolves_ot0Withdraw | (simp only [evolves_mk_iff]; apply evolvesTo_self) | apply evolves_ite | apply evolves_foldl
    | apply evolves_foldl_snd | apply evolves_foldl_snd2 | refine evolves_snd (by assumption) ?_
    | refine evolves_fst (by assumption) ?_ | refine evolves_snd2 (by assumption) ?_ | split)

theorem evolves_emitLine (p : Nat) (beyond : BitVec 4) (f : ClrFrame) (s : State) (hev : Evolves s0 s) :
    Evolves s0 (emitLine p beyond f s) := by
  unfold emitLine
  try dsimp only
  with_reducible repeat' (first
    | (intro _; try dsimp only) | assumption | exact Evolves.refl _ | apply evolves_rawRows | apply evolves_raiseErr
    | apply evolves_clrDropFrame | apply evolves_rinc | apply evolves_otOverruns | apply evolves_ot0Deliver
    | apply evolves_clrSweep | apply evolves_putFrame | apply evolves_tapLineOut | apply evolves_otLines
    | (simp only [evolves_mk_iff]; apply evolvesTo_self) | apply evolves_ite | apply evolves_foldl | apply evolves_foldl_snd
    | apply evolves_foldl_snd2 | refine evolves_snd (by assumption) ?_ | refine evolves_fst (by assumption) ?_
    | refine evolves_snd2 (by assumption) ?_ | split)

/-! ### MotLatch -/

theorem evolves_putAx (a : Nat) (x : MotAxis) (s : State) (hev : Evolves s0 s) :
    Evolves s0 (putAx a x s) := by
  unfold putAx
  try dsimp only
  with_reducible repeat' (first | assumption | (simp only [evolves_mk_iff]; apply evolvesTo_self))

theorem evolves_movePos (a : Nat) (d : Int) (s : State) (hev : Evolves s0 s) :
    Evolves s0 (movePos a d s) := by
  unfold movePos
  try dsimp only
  with_reducible repeat' (first | assumption | apply evolves_rset2)

theorem evolves_takeLatch (a : Nat) (at16 : Nat) (s : State) (hev : Evolves s0 s) :
    Evolves s0 (takeLatch a at16 s) := by
  unfold takeLatch
  try dsimp only
  with_reducible repeat' (first
    | assumption | apply evolves_raiseInt | apply evolves_rset | apply evolves_rsetLong | apply evolves_rset2 | apply evolves_ite
    | split)

theorem evolves_motSofLatch (port : Nat) (stamp : Nat) (s : State) (hev : Evolves s0 s) :
    Evolves s0 (motSofLatch port stamp s) := by
  unfold motSofLatch
  try dsimp only
  with_reducible repeat' (first
    | (intro _; try dsimp only) | assumption | apply evolves_takeLatch | apply evolves_ite | apply evolves_foldl | split)

/-! ### RecBase -/

theorem evolves_setRec (v : RecState) (s : State) (hev : Evolves s0 s) :
    Evolves s0 (setRec v s) := by
  unfold setRec
  try dsimp only
  with_reducible repeat' (first | assumption | (simp only [evolves_mk_iff]; apply evolvesTo_self))

theorem evolves_showDirty (s : State) (hev : Evolves s0 s) :
    Evolves s0 (showDirty s) := by
  unfold showDirty
  try dsimp only
  with_reducible repeat' (first | assumption | apply evolves_rset)

theorem evolves_dirtyReserve (n : Nat) (s : State) (hev : Evolves s0 s) :
    Evolves s0 (dirtyReserve n s) := by
  unfold dirtyReserve
  try dsimp only
  with_reducible repeat' (first
    | assumption | apply evolves_showDirty | apply evolves_setRec | (simp only [evolves_mk_iff]; apply evolvesTo_self))

theorem evolves_dirtyReturn (n : Nat) (s : State) (hev : Evolves s0 s) :
    Evolves s0 (dirtyReturn n s) := by
  unfold dirtyReturn
  try dsimp only
  with_reducible repeat' (first
    | assumption | apply evolves_showDirty | apply evolves_setRec | (simp only [evolves_mk_iff]; apply evolvesTo_self))

theorem evolves_journalWrite (kind : Nat) (values : List Nat) (s : State) (hev : Evolves s0 s) :
    Evolves s0 (journalWrite kind values s).2 := by
  unfold journalWrite
  try dsimp only
  with_reducible repeat' (first
    | (intro _; try dsimp only) | assumption | exact Evolves.refl _ | apply evolves_setRec | apply evolves_emit
    | (simp only [evolves_mk_iff]; apply evolvesTo_self) | apply evolves_ite | apply evolves_foldl | apply evolves_foldl_snd
    | apply evolves_foldl_snd2 | refine evolves_snd (by assumption) ?_ | refine evolves_fst (by assumption) ?_
    | refine evolves_snd2 (by assumption) ?_ | split)

theorem evolves_journalNote (kind : Nat) (values : List Nat) (s : State) (hev : Evolves s0 s) :
    Evolves s0 (journalNote kind values s) := by
  unfold journalNote
  try dsimp only
  with_reducible repeat' (first | assumption | apply evolves_journalWrite)

theorem evolves_replaceOrder (old : Nat) (new : Nat) (s : State) (hev : Evolves s0 s) :
    Evolves s0 (replaceOrder old new s) := by
  unfold replaceOrder
  try dsimp only
  with_reducible repeat' (first
    | (intro _; try dsimp only) | assumption | apply evolves_setRec | (simp only [evolves_mk_iff]; apply evolvesTo_self)
    | apply evolves_ite | split)

theorem evolves_putDirty (v : Nat) (data : List Byte) (s : State) (hev : Evolves s0 s) :
    Evolves s0 (putDirty v data s) := by
  unfold putDirty
  try dsimp only
  with_reducible repeat' (first
    | (intro _; try dsimp only) | assumption | apply evolves_replaceOrder | apply evolves_memWrite | apply evolves_setRec
    | (simp only [evolves_mk_iff]; apply evolvesTo_self) | split)

theorem evolves_putDirties (v : Nat) (y0 : List (List Byte)) (y1 : State) (hev : Evolves s0 y1) :
    Evolves s0 (putDirties v y0 y1) := by
  induction y0 generalizing v y1
  all_goals
    unfold putDirties
    try dsimp only
    with_reducible repeat' (first | assumption | apply evolves_showDirty | apply evolves_putDirty | apply_assumption)

theorem evolves_putClip (c : RecClip) (s : State) (hev : Evolves s0 s) :
    Evolves s0 (putClip c s) := by
  unfold putClip
  try dsimp only
  with_reducible repeat' (first
    | (intro _; try dsimp only) | assumption | apply evolves_journalNote | apply evolves_setRec
    | (simp only [evolves_mk_iff]; apply evolvesTo_self) | apply evolves_ite | split)

theorem evolves_clipClose (p : Nat) (s : State) (hev : Evolves s0 s) :
    Evolves s0 (clipClose p s) := by
  unfold clipClose
  try dsimp only
  with_reducible repeat' (first
    | (intro _; try dsimp only) | assumption | apply evolves_putClip | apply evolves_raiseInt | apply evolves_rinc
    | apply evolves_rsetFld | (simp only [evolves_mk_iff]; apply evolvesTo_self) | split)

theorem evolves_clipFrame (p : Nat) (sof : Nat) (first : Nat) (sectors : Nat) (s : State) (hev : Evolves s0 s) :
    Evolves s0 (clipFrame p sof first sectors s) := by
  unfold clipFrame
  try dsimp only
  with_reducible repeat' (first
    | (intro _; try dsimp only) | assumption | apply evolves_clipClose | apply evolves_setRec | apply evolves_rsetFld
    | apply evolves_putClip | (simp only [evolves_mk_iff]; apply evolvesTo_self) | apply evolves_ite | split)

theorem evolves_clipLoses (p : Nat) (s : State) (hev : Evolves s0 s) :
    Evolves s0 (clipLoses p s) := by
  unfold clipLoses
  try dsimp only
  with_reducible repeat' (first
    | (intro _; try dsimp only) | assumption | apply evolves_putClip | (simp only [evolves_mk_iff]; apply evolvesTo_self) | split)

theorem evolves_recDrop (p : Nat) (id : Nat) (s : State) (hev : Evolves s0 s) :
    Evolves s0 (recDrop p id s) := by
  unfold recDrop
  try dsimp only
  with_reducible repeat' (first
    | (intro _; try dsimp only) | assumption | apply evolves_clipLoses | apply evolves_dirtyReturn | apply evolves_setRec
    | (simp only [evolves_mk_iff]; apply evolvesTo_self) | split)

theorem evolves_mediaFull (p : Nat) (id : Nat) (s : State) (hev : Evolves s0 s) :
    Evolves s0 (mediaFull p id s) := by
  unfold mediaFull
  try dsimp only
  with_reducible repeat' (first | assumption | apply evolves_recDrop | apply evolves_raiseErr | apply evolves_rinc)

theorem evolves_recAccept (f : RecFrame) (s : State) (hev : Evolves s0 s) :
    Evolves s0 (recAccept f s) := by
  unfold recAccept
  try dsimp only
  with_reducible repeat' (first
    | (intro _; try dsimp only) | assumption | apply evolves_mediaFull | apply evolves_dirtyReturn | apply evolves_setRec
    | apply evolves_clipFrame | apply evolves_rinc | apply evolves_rset2 | apply evolves_putDirties
    | (simp only [evolves_mk_iff]; apply evolvesTo_self) | apply evolves_ite | split)

/-! ### RecFeed -/

theorem evolves_putRecFrame (f : RecFrame) (s : State) (hev : Evolves s0 s) :
    Evolves s0 (putRecFrame f s) := by
  unfold putRecFrame
  try dsimp only
  with_reducible repeat' (first
    | (intro _; try dsimp only) | assumption | apply evolves_setRec | (simp only [evolves_mk_iff]; apply evolvesTo_self)
    | apply evolves_ite | split)

theorem evolves_stripeSubmit (f : RecFrame) (k : Nat) (pre : List Byte) (s : State) (hev : Evolves s0 s) :
    Evolves s0 (stripeSubmit f k pre s) := by
  unfold stripeSubmit
  try dsimp only
  with_reducible repeat' (first
    | assumption | apply evolves_recDrop | apply evolves_raiseErr | apply evolves_rinc | apply evolves_cmpSubmit
    | apply evolves_dirtyReserve | apply evolves_putRecFrame | (simp only [evolves_mk_iff]; apply evolvesTo_self)
    | apply evolves_ite | refine evolves_snd (by assumption) ?_ | split)

theorem evolves_recSof (p : Nat) (f : SiuFrame) (s : State) (hev : Evolves s0 s) :
    Evolves s0 (recSof p f s) := by
  unfold recSof
  try dsimp only
  with_reducible repeat' (first
    | assumption | apply evolves_recDrop | apply evolves_setRec | (simp only [evolves_mk_iff]; apply evolvesTo_self)
    | apply evolves_ite | split)

theorem evolves_recLine (p : Nat) (f : SiuFrame) (samples : List Nat) (s : State) (hev : Evolves s0 s) :
    Evolves s0 (recLine p f samples s) := by
  unfold recLine
  try dsimp only
  with_reducible repeat' (first
    | (intro _; try dsimp only) | assumption | apply evolves_putRecFrame | apply evolves_stripeSubmit
    | (simp only [evolves_mk_iff]; apply evolvesTo_self) | split)

theorem evolves_recDone (p : Nat) (id : Nat) (head : List Byte) (s : State) (hev : Evolves s0 s) :
    Evolves s0 (recDone p id head s) := by
  unfold recDone
  try dsimp only
  with_reducible repeat' (first
    | (intro _; try dsimp only) | assumption | apply evolves_stripeSubmit | (simp only [evolves_mk_iff]; apply evolvesTo_self)
    | split)

theorem evolves_recAbandon (p : Nat) (id : Nat) (s : State) (hev : Evolves s0 s) :
    Evolves s0 (recAbandon p id s) := by
  unfold recAbandon
  try dsimp only
  with_reducible repeat' (first | assumption | apply evolves_recDrop)

/-! ### Siu -/

theorem evolves_setPortState (p : Nat) (v : Nat) (s : State) (hev : Evolves s0 s) :
    Evolves s0 (setPortState p v s) := by
  unfold setPortState
  try dsimp only
  with_reducible repeat' (first | assumption | apply evolves_raiseInt | apply evolves_rsetFld | apply evolves_ite | split)

theorem evolves_siuStartPort (p : Nat) (s : State) (hev : Evolves s0 s) :
    Evolves s0 (siuStartPort p s) := by
  unfold siuStartPort
  try dsimp only
  with_reducible repeat' (first | (intro _; try dsimp only) | assumption | apply evolves_setPortState | apply evolves_ite | split)

theorem evolves_sendCodeword (p : Nat) (c : Codeword) (s : State) (hev : Evolves s0 s) :
    Evolves s0 (sendCodeword p c s) := by
  unfold sendCodeword
  try dsimp only
  with_reducible repeat' (first
    | assumption | apply evolves_emit | apply evolves_setSiu | (simp only [evolves_mk_iff]; apply evolvesTo_self)
    | apply evolves_ite | split)

theorem evolves_sendBridge (p : Nat) (ws : List Word) (s : State) (hev : Evolves s0 s) :
    Evolves s0 (sendBridge p ws s) := by
  unfold sendBridge
  try dsimp only
  with_reducible repeat' (first | (intro _; try dsimp only) | assumption | apply evolves_sendCodeword | apply evolves_foldl)

theorem evolves_siuErr (p : Nat) (cause : Nat) (info : Nat) (s : State) (hev : Evolves s0 s) :
    Evolves s0 (siuErr p cause info s) := by
  unfold siuErr
  try dsimp only
  with_reducible repeat' (first | assumption | apply evolves_raiseErr)

theorem evolves_pktDiscard (p : Nat) (s : State) (hev : Evolves s0 s) :
    Evolves s0 (pktDiscard p s) := by
  unfold pktDiscard
  try dsimp only
  with_reducible repeat' (first | assumption | apply evolves_rinc)

theorem evolves_arrive (p : Nat) (sound : Bool) (pkt : RxPacket) (s : State) (hev : Evolves s0 s) :
    Evolves s0 (arrive p sound pkt s) := by
  unfold arrive
  try dsimp only
  with_reducible repeat' (first
    | (intro _; try dsimp only) | assumption | apply evolves_rinc | apply evolves_setSiu
    | (simp only [evolves_mk_iff]; apply evolvesTo_self))

theorem evolves_putSiuFrame (p : Nat) (f : Option SiuFrame) (s : State) (hev : Evolves s0 s) :
    Evolves s0 (putSiuFrame p f s) := by
  unfold putSiuFrame
  try dsimp only
  with_reducible repeat' (first | assumption | apply evolves_setSiu | (simp only [evolves_mk_iff]; apply evolvesTo_self))

theorem evolves_t0AtSof (p : Nat) (id : Nat) (w : Nat) (h : Nat) (d : Nat) (s : State) (hev : Evolves s0 s) :
    Evolves s0 (t0AtSof p id w h d s).2 := by
  unfold t0AtSof
  try dsimp only
  with_reducible repeat' (first
    | assumption | apply evolves_ringAdopt | apply evolves_setSiu | apply evolves_siuErr | apply evolves_rincFld
    | (simp only [evolves_mk_iff]; apply evolvesTo_self) | apply evolves_ite | refine evolves_snd (by assumption) ?_ | split)

theorem evolves_t0Line (p : Nat) (f : SiuFrame) (y : Nat) (xs : List Nat) (s : State) (hev : Evolves s0 s) :
    Evolves s0 (t0Line p f y xs s) := by
  unfold t0Line
  try dsimp only
  with_reducible repeat' (first
    | (intro _; try dsimp only) | assumption | apply evolves_ringWrite | (simp only [evolves_mk_iff]; apply evolvesTo_self)
    | split)

theorem evolves_t0Finish (p : Nat) (f : SiuFrame) (s : State) (hev : Evolves s0 s) :
    Evolves s0 (t0Finish p f s) := by
  unfold t0Finish
  try dsimp only
  with_reducible repeat' (first
    | (intro _; try dsimp only) | assumption | apply evolves_ringWrite | apply evolves_setSiu
    | (simp only [evolves_mk_iff]; apply evolvesTo_self) | split)

theorem evolves_deliverLine (p : Nat) (xs : List Nat) (f : SiuFrame) (s : State) (hev : Evolves s0 s) :
    Evolves s0 (deliverLine p xs f s).2 := by
  unfold deliverLine
  try dsimp only
  with_reducible repeat' (first
    | assumption | apply evolves_t0Line | apply evolves_recLine | apply evolves_clrLineIn
    | (simp only [evolves_mk_iff]; apply evolvesTo_self) | apply evolves_ite | split)

theorem evolves_padLines (p : Nat) (y0 : Nat) (y1 : SiuFrame) (y2 : State) (hev : Evolves s0 y2) :
    Evolves s0 (padLines p y0 y1 y2).2 := by
  induction y0 generalizing p y1 y2
  all_goals
    unfold padLines
    try dsimp only
    with_reducible repeat' (first
      | assumption | apply evolves_deliverLine | apply evolves_rinc | apply_assumption
      | (simp only [evolves_mk_iff]; apply evolvesTo_self) | refine evolves_snd (by assumption) ?_ | split)

theorem evolves_frameDoneInt (p : Nat) (f : SiuFrame) (s : State) (hev : Evolves s0 s) :
    Evolves s0 (frameDoneInt p f s) := by
  unfold frameDoneInt
  try dsimp only
  with_reducible repeat' (first | assumption | apply evolves_raiseInt | apply evolves_rset)

theorem evolves_completeFrame (p : Nat) (f : SiuFrame) (s : State) (hev : Evolves s0 s) :
    Evolves s0 (completeFrame p f s) := by
  unfold completeFrame
  try dsimp only
  with_reducible repeat' (first
    | assumption | apply evolves_t0Finish | apply evolves_putSiuFrame | apply evolves_recDone | apply evolves_clrFrameClosed
    | apply evolves_frameDoneInt | apply evolves_rinc | apply evolves_ite | split)

theorem evolves_abandonFrame (p : Nat) (f : SiuFrame) (s : State) (hev : Evolves s0 s) :
    Evolves s0 (abandonFrame p f s) := by
  unfold abandonFrame
  try dsimp only
  with_reducible repeat' (first
    | (intro _; try dsimp only) | assumption | apply evolves_setSiu | apply evolves_ringGiveUp | apply evolves_recAbandon
    | apply evolves_clrAbandon | apply evolves_frameDoneInt | apply evolves_rinc
    | (simp only [evolves_mk_iff]; apply evolvesTo_self) | apply evolves_ite | refine evolves_snd (by assumption) ?_ | split)

theorem evolves_closeFrame (p : Nat) (f : SiuFrame) (s : State) (hev : Evolves s0 s) :
    Evolves s0 (closeFrame p f s) := by
  unfold closeFrame
  try dsimp only
  with_reducible repeat' (first
    | assumption | apply evolves_completeFrame | apply evolves_siuErr | apply evolves_abandonFrame | apply evolves_setSiu
    | (simp only [evolves_mk_iff]; apply evolvesTo_self) | apply evolves_ite | split)

theorem evolves_finishPads (p : Nat) (s : State) (hev : Evolves s0 s) :
    Evolves s0 (finishPads p s) := by
  unfold finishPads
  try dsimp only
  with_reducible repeat' (first
    | (intro _; try dsimp only) | assumption | apply evolves_padLines | apply evolves_completeFrame
    | (simp only [evolves_mk_iff]; apply evolvesTo_self) | apply evolves_ite | refine evolves_snd (by assumption) ?_ | split)

theorem evolves_lateClose (p : Nat) (f : SiuFrame) (s : State) (hev : Evolves s0 s) :
    Evolves s0 (lateClose p f s) := by
  unfold lateClose
  try dsimp only
  with_reducible repeat' (first
    | assumption | apply evolves_siuErr | apply evolves_abandonFrame | apply evolves_setSiu
    | (simp only [evolves_mk_iff]; apply evolvesTo_self) | apply evolves_ite | split)

theorem evolves_orphan (p : Nat) (pkt : RxPacket) (s : State) (hev : Evolves s0 s) :
    Evolves s0 (orphan p pkt s) := by
  unfold orphan
  try dsimp only
  with_reducible repeat' (first | assumption | apply evolves_pktDiscard | apply evolves_siuErr | apply evolves_ite | split)

theorem evolves_step1 {p t : Nat} {lengthOk : Bool} {pkt : RxPacket} {s r : State} (h : Evolves s0 s)
    (e : step1 p t lengthOk pkt s = some r) : Evolves s0 r := by
  unfold step1 at e
  split at e
  · cases e
  · split at e
    · cases e
      split
      · exact h
      · exact evolves_siuErr _ _ _ _ h
    · cases e
      split
      · exact evolves_pktDiscard _ _ h
      · exact evolves_siuErr _ _ _ _ (evolves_pktDiscard _ _ h)

theorem evolves_trigMatch (p : Nat) (id : Nat) (stamp : Nat) (s : State) (hev : Evolves s0 s) :
    Evolves s0 (trigMatch p id stamp s) := by
  unfold trigMatch
  try dsimp only
  with_reducible repeat' (first
    | (intro _; try dsimp only) | assumption | apply evolves_rset | apply evolves_setSiu
    | (simp only [evolves_mk_iff]; apply evolvesTo_self) | split)

theorem evolves_siuCommit (p : Nat) (s : State) (hev : Evolves s0 s) :
    Evolves s0 (siuCommit p s) := by
  unfold siuCommit
  try dsimp only
  with_reducible repeat' (first
    | assumption | apply evolves_otRearm | apply evolves_commitApply | apply evolves_calAbort | apply evolves_ite | split)

theorem evolves_noPipe (p : Nat) (id : Nat) (s : State) (hev : Evolves s0 s) :
    Evolves s0 (noPipe p id s) := by
  unfold noPipe
  try dsimp only
  with_reducible repeat' (first
    | assumption | apply evolves_pktDiscard | apply evolves_rinc | apply evolves_setSiu
    | (simp only [evolves_mk_iff]; apply evolvesTo_self))

theorem evolves_acceptSof (p : Nat) (pkt : RxPacket) (s : State) (hev : Evolves s0 s) :
    Evolves s0 (acceptSof p pkt s) := by
  unfold acceptSof
  try dsimp only
  with_reducible repeat' (first
    | assumption | apply evolves_raiseInt | apply evolves_t0AtSof | apply evolves_setSiu | apply evolves_recSof
    | apply evolves_clrFrameStart | apply evolves_motSofLatch | (simp only [evolves_mk_iff]; apply evolvesTo_self)
    | apply evolves_ite | refine evolves_snd (by assumption) ?_ | split)

theorem evolves_geometryFault (p : Nat) (pkt : RxPacket) (s : State) (hev : Evolves s0 s) :
    Evolves s0 (geometryFault p pkt s) := by
  unfold geometryFault
  try dsimp only
  with_reducible repeat' (first
    | assumption | apply evolves_siuErr | apply evolves_pktDiscard | apply evolves_setSiu | apply evolves_raiseInt
    | apply evolves_rset | apply evolves_rinc | (simp only [evolves_mk_iff]; apply evolvesTo_self))

theorem evolves_noEofClose (p : Nat) (newId : Nat) (s : State) (hev : Evolves s0 s) :
    Evolves s0 (noEofClose p newId s) := by
  unfold noEofClose
  try dsimp only
  with_reducible repeat' (first
    | (intro _; try dsimp only) | assumption | apply evolves_finishPads | apply evolves_closeFrame | apply evolves_siuErr
    | (simp only [evolves_mk_iff]; apply evolvesTo_self) | split)

theorem evolves_sofHeard (p : Nat) (pkt : RxPacket) (s : State) (hev : Evolves s0 s) :
    Evolves s0 (sofHeard p pkt s) := by
  unfold sofHeard
  try dsimp only
  with_reducible repeat' (first
    | assumption | apply evolves_setSiu | (simp only [evolves_mk_iff]; apply evolvesTo_self) | apply evolves_ite | split)

theorem evolves_sofPacket (p : Nat) (pkt : RxPacket) (s : State) (hev : Evolves s0 s) :
    Evolves s0 (sofPacket p pkt s) := by
  unfold sofPacket
  try dsimp only
  with_reducible repeat' (first
    | (intro _; try dsimp only) | assumption | exact Evolves.refl _ | apply evolves_sofHeard | apply evolves_arrive
    | apply evolves_rsetLong | apply evolves_finishPads | apply evolves_siuCommit | apply evolves_noEofClose
    | apply evolves_trigMatch | apply evolves_pktDiscard | apply evolves_setSiu | apply evolves_noPipe
    | apply evolves_geometryFault | apply evolves_raiseInt | apply evolves_acceptSof | refine evolves_step1 ?_ (by assumption)
    | (simp only [evolves_mk_iff]; apply evolvesTo_self) | apply evolves_ite | apply evolves_foldl | apply evolves_foldl_snd
    | apply evolves_foldl_snd2 | refine evolves_snd (by assumption) ?_ | refine evolves_fst (by assumption) ?_
    | refine evolves_snd2 (by assumption) ?_ | split)

theorem evolves_lineSteps (p : Nat) (pkt : RxPacket) (stagingFull : Bool) (f0 : SiuFrame) (s : State) (hev : Evolves s0 s) :
    Evolves s0 (lineSteps p pkt stagingFull f0 s) := by
  unfold lineSteps
  try dsimp only
  with_reducible repeat' (first
    | (intro _; try dsimp only) | assumption | apply evolves_putSiuFrame | apply evolves_rinc | apply evolves_siuErr
    | apply evolves_rincFld | apply evolves_recAbandon | apply evolves_pktDiscard | apply evolves_abandonFrame
    | apply evolves_padLines | apply evolves_deliverLine | (simp only [evolves_mk_iff]; apply evolvesTo_self) | apply evolves_ite
    | refine evolves_snd (by assumption) ?_ | split)

theorem evolves_lineOrder (p : Nat) (pkt : RxPacket) (stagingFull : Bool) (f0 : SiuFrame) (s : State) (hev : Evolves s0 s) :
    Evolves s0 (lineOrder p pkt stagingFull f0 s) := by
  unfold lineOrder
  try dsimp only
  with_reducible repeat' (first
    | assumption | apply evolves_siuErr | apply evolves_pktDiscard | apply evolves_putSiuFrame | apply evolves_abandonFrame
    | apply evolves_padLines | apply evolves_lineSteps | (simp only [evolves_mk_iff]; apply evolvesTo_self) | apply evolves_ite
    | refine evolves_snd (by assumption) ?_ | split)

theorem evolves_linePacket (p : Nat) (pkt : RxPacket) (fifoFull : Bool) (stagingFull : Bool) (s : State) (hev : Evolves s0 s) :
    Evolves s0 (linePacket p pkt fifoFull stagingFull s) := by
  unfold linePacket
  try dsimp only
  with_reducible repeat' (first
    | (intro _; try dsimp only) | assumption | exact Evolves.refl _ | apply evolves_arrive | apply evolves_orphan
    | apply evolves_pktDiscard | apply evolves_lateClose | apply evolves_siuErr | apply evolves_abandonFrame
    | apply evolves_lineOrder | refine evolves_step1 ?_ (by assumption) | (simp only [evolves_mk_iff]; apply evolvesTo_self)
    | apply evolves_ite | apply evolves_foldl | apply evolves_foldl_snd | apply evolves_foldl_snd2
    | refine evolves_snd (by assumption) ?_ | refine evolves_fst (by assumption) ?_ | refine evolves_snd2 (by assumption) ?_
    | split)

/-! ### SiuCmds -/

theorem evolves_execSof (port : Fin 2) (packet : Packet) (s : State) (hev : Evolves s0 s) :
    ∃ t, execSof port packet s = .next t ∧ Evolves s0 t := by
  unfold execSof
  try dsimp only
  refine ⟨_, rfl, ?_⟩
  with_reducible repeat' (first | assumption | apply evolves_sofPacket)

theorem evolves_execLine (port : Fin 2) (packet : Packet) (fifoFull : Bool) (stagingFull : Bool) (s : State) (hev : Evolves s0 s) :
    ∃ t, execLine port packet fifoFull stagingFull s = .next t ∧ Evolves s0 t := by
  unfold execLine
  try dsimp only
  refine ⟨_, rfl, ?_⟩
  with_reducible repeat' (first | assumption | apply evolves_linePacket)

theorem evolves_eofPacket (p : Nat) (pkt : RxPacket) (s : State) (hev : Evolves s0 s) :
    Evolves s0 (eofPacket p pkt s) := by
  unfold eofPacket
  try dsimp only
  with_reducible repeat' (first
    | (intro _; try dsimp only) | assumption | apply evolves_arrive | apply evolves_orphan | apply evolves_closeFrame
    | refine evolves_step1 ?_ (by assumption) | (simp only [evolves_mk_iff]; apply evolvesTo_self) | apply evolves_ite | split)

theorem evolves_execEof (port : Fin 2) (packet : Packet) (s : State) (hev : Evolves s0 s) :
    ∃ t, execEof port packet s = .next t ∧ Evolves s0 t := by
  unfold execEof
  try dsimp only
  refine ⟨_, rfl, ?_⟩
  with_reducible repeat' (first | assumption | apply evolves_eofPacket)

theorem evolves_metaArrives (p : Nat) (pkt : RxPacket) (s : State) (hev : Evolves s0 s) :
    Evolves s0 (metaArrives p pkt s) := by
  unfold metaArrives
  try dsimp only
  with_reducible repeat' (first
    | (intro _; try dsimp only) | assumption | exact Evolves.refl _ | apply evolves_arrive | apply evolves_orphan
    | apply evolves_pktDiscard | apply evolves_putSiuFrame | refine evolves_step1 ?_ (by assumption)
    | (simp only [evolves_mk_iff]; apply evolvesTo_self) | apply evolves_ite | apply evolves_foldl | apply evolves_foldl_snd
    | apply evolves_foldl_snd2 | refine evolves_snd (by assumption) ?_ | refine evolves_fst (by assumption) ?_
    | refine evolves_snd2 (by assumption) ?_ | split)

theorem evolves_execMetaPacket (port : Fin 2) (packet : Packet) (s : State) (hev : Evolves s0 s) :
    ∃ t, execMetaPacket port packet s = .next t ∧ Evolves s0 t := by
  unfold execMetaPacket
  try dsimp only
  refine ⟨_, rfl, ?_⟩
  with_reducible repeat' (first | assumption | apply evolves_metaArrives)

theorem evolves_execEcho (port : Fin 2) (s : State) (hev : Evolves s0 s) :
    ∃ t, execEcho port s = .next t ∧ Evolves s0 t := by
  unfold execEcho
  try dsimp only
  refine ⟨_, rfl, ?_⟩
  with_reducible repeat' (first
    | assumption | apply evolves_sendBridge | apply evolves_setSiu | (simp only [evolves_mk_iff]; apply evolvesTo_self)
    | apply evolves_ite | split)

theorem evolves_echoReplyArrives (p : Nat) (pkt : RxPacket) (s : State) (hev : Evolves s0 s) :
    Evolves s0 (echoReplyArrives p pkt s) := by
  unfold echoReplyArrives
  try dsimp only
  with_reducible repeat' (first
    | (intro _; try dsimp only) | assumption | exact Evolves.refl _ | apply evolves_arrive | apply evolves_pktDiscard
    | apply evolves_setSiu | apply evolves_rset | refine evolves_step1 ?_ (by assumption)
    | (simp only [evolves_mk_iff]; apply evolvesTo_self) | apply evolves_ite | apply evolves_foldl | apply evolves_foldl_snd
    | apply evolves_foldl_snd2 | refine evolves_snd (by assumption) ?_ | refine evolves_fst (by assumption) ?_
    | refine evolves_snd2 (by assumption) ?_ | split)

theorem evolves_execEchoReply (port : Fin 2) (packet : Packet) (s : State) (hev : Evolves s0 s) :
    ∃ t, execEchoReply port packet s = .next t ∧ Evolves s0 t := by
  unfold execEchoReply
  try dsimp only
  refine ⟨_, rfl, ?_⟩
  with_reducible repeat' (first | assumption | apply evolves_echoReplyArrives)

theorem evolves_execEchoTimeout (port : Fin 2) (s : State) (hev : Evolves s0 s) :
    ∃ t, execEchoTimeout port s = .next t ∧ Evolves s0 t := by
  unfold execEchoTimeout
  try dsimp only
  refine ⟨_, rfl, ?_⟩
  with_reducible repeat' (first | assumption | apply evolves_setSiu | (simp only [evolves_mk_iff]; apply evolvesTo_self))

theorem evolves_execTrigger (port : Fin 2) (s : State) (hev : Evolves s0 s) :
    ∃ t, execTrigger port s = .next t ∧ Evolves s0 t := by
  unfold execTrigger
  try dsimp only
  refine ⟨_, rfl, ?_⟩
  with_reducible repeat' (first
    | assumption | apply evolves_sendBridge | apply evolves_setSiu | apply evolves_rincFld
    | (simp only [evolves_mk_iff]; apply evolvesTo_self) | apply evolves_ite | split)

theorem evolves_execLateLine (port : Fin 2) (s : State) (hev : Evolves s0 s) :
    ∃ t, execLateLine port s = .next t ∧ Evolves s0 t := by
  unfold execLateLine
  try dsimp only
  refine ⟨_, rfl, ?_⟩
  with_reducible repeat' (first
    | (intro _; try dsimp only) | assumption | apply evolves_lateClose | (simp only [evolves_mk_iff]; apply evolvesTo_self)
    | apply evolves_ite | split)

theorem evolves_execLateFrame (port : Fin 2) (s : State) (hev : Evolves s0 s) :
    ∃ t, execLateFrame port s = .next t ∧ Evolves s0 t := by
  unfold execLateFrame
  try dsimp only
  refine ⟨_, rfl, ?_⟩
  with_reducible repeat' (first
    | assumption | apply evolves_siuErr | apply evolves_setSiu | (simp only [evolves_mk_iff]; apply evolvesTo_self)
    | apply evolves_ite | split)

theorem evolves_execPadLinesDone (port : Fin 2) (s : State) (hev : Evolves s0 s) :
    ∃ t, execPadLinesDone port s = .next t ∧ Evolves s0 t := by
  unfold execPadLinesDone
  try dsimp only
  refine ⟨_, rfl, ?_⟩
  with_reducible repeat' (first | assumption | apply evolves_finishPads)

theorem evolves_alignLane (p : Nat) (lane : Nat) (count : Nat) (skew : Nat) (s : State) (hev : Evolves s0 s) :
    Evolves s0 (alignLane p lane count skew s) := by
  unfold alignLane
  try dsimp only
  with_reducible repeat' (first
    | (intro _; try dsimp only) | assumption | apply evolves_rsetFld | apply evolves_setSiu | apply evolves_siuErr
    | apply evolves_setPortState | (simp only [evolves_mk_iff]; apply evolvesTo_self) | apply evolves_ite
    | refine evolves_snd (by assumption) ?_ | split)

theorem evolves_substTick (p : Nat) (count : Nat) (s : State) (hev : Evolves s0 s) :
    Evolves s0 (substTick p count s) := by
  unfold substTick
  try dsimp only
  with_reducible repeat' (first
    | (intro _; try dsimp only) | assumption | apply evolves_setPortState | apply evolves_lanSpareResult
    | apply evolves_sendBridge | apply evolves_setSiu | (simp only [evolves_mk_iff]; apply evolvesTo_self) | apply evolves_ite
    | split)

theorem evolves_spareCodeword (p : Nat) (lane : Nat) (count : Nat) (clean : Bool) (s : State) (hev : Evolves s0 s) :
    Evolves s0 (spareCodeword p lane count clean s) := by
  unfold spareCodeword
  try dsimp only
  with_reducible repeat' (first
    | (intro _; try dsimp only) | assumption | apply evolves_lanSpareResult | apply evolves_setPortState | apply evolves_rsetBit
    | apply evolves_rsetFld | apply evolves_setSiu | (simp only [evolves_mk_iff]; apply evolvesTo_self) | apply evolves_ite
    | split)

theorem evolves_spareBack (p : Nat) (count : Nat) (s : State) (hev : Evolves s0 s) :
    Evolves s0 (spareBack p count s) := by
  unfold spareBack
  try dsimp only
  with_reducible repeat' (first
    | (intro _; try dsimp only) | assumption | apply evolves_spareReturned | apply evolves_rsetFld | apply evolves_setSiu
    | (simp only [evolves_mk_iff]; apply evolvesTo_self) | apply evolves_ite | split)

theorem evolves_alignArrives (p : Nat) (lane : Nat) (c : Codeword) (skew : Nat) (clean : Bool) (s : State) (hev : Evolves s0 s) :
    Evolves s0 (alignArrives p lane c skew clean s) := by
  unfold alignArrives
  try dsimp only
  with_reducible repeat' (first
    | (intro _; try dsimp only) | assumption | apply evolves_rinc | apply evolves_setSiu | apply evolves_spareBack
    | apply evolves_alignLane | apply evolves_spareCodeword | apply evolves_substTick
    | (simp only [evolves_mk_iff]; apply evolvesTo_self) | apply evolves_ite | split)

theorem evolves_execAlignmentCodeword (port : Fin 2) (lane : Fin 5) (codeword : BitVec 5440) (skew : Nat) (clean : Bool) (s : State) (hev : Evolves s0 s) :
    ∃ t, execAlignmentCodeword port lane codeword skew clean s = .next t ∧ Evolves s0 t := by
  unfold execAlignmentCodeword
  try dsimp only
  refine ⟨_, rfl, ?_⟩
  with_reducible repeat' (first | assumption | apply evolves_alignArrives)

theorem evolves_siuAlignSend (p : Nat) (s : State) (hev : Evolves s0 s) :
    Evolves s0 (siuAlignSend p s) := by
  unfold siuAlignSend
  try dsimp only
  with_reducible repeat' (first
    | (intro _; try dsimp only) | assumption | apply evolves_setSiu | apply evolves_emit
    | (simp only [evolves_mk_iff]; apply evolvesTo_self) | apply evolves_ite | apply evolves_foldl | split)

theorem evolves_execAlignmentLost (port : Fin 2) (lanes : BitVec 4) (s : State) (hev : Evolves s0 s) :
    ∃ t, execAlignmentLost port lanes s = .next t ∧ Evolves s0 t := by
  unfold execAlignmentLost
  try dsimp only
  refine ⟨_, rfl, ?_⟩
  with_reducible repeat' (first
    | (intro _; try dsimp only) | assumption | apply evolves_siuErr | apply evolves_substAbandon | apply evolves_setPortState
    | apply evolves_setSiu | apply evolves_closeFrame | (simp only [evolves_mk_iff]; apply evolvesTo_self) | apply evolves_ite
    | split)

theorem evolves_execT0Publish (port : Fin 2) (s : State) (hev : Evolves s0 s) :
    ∃ t, execT0Publish port s = .next t ∧ Evolves s0 t := by
  unfold execT0Publish
  try dsimp only
  refine ⟨_, rfl, ?_⟩
  with_reducible repeat' (first
    | (intro _; try dsimp only) | assumption | apply evolves_ringPublish | apply evolves_setSiu
    | (simp only [evolves_mk_iff]; apply evolvesTo_self) | refine evolves_snd (by assumption) ?_ | split)

theorem evolves_siuSubstStart (p : Nat) (logical : Nat) (s : State) (hev : Evolves s0 s) :
    Evolves s0 (siuSubstStart p logical s) := by
  unfold siuSubstStart
  try dsimp only
  with_reducible repeat' (first
    | assumption | apply evolves_sendBridge | apply evolves_setSiu | (simp only [evolves_mk_iff]; apply evolvesTo_self)
    | apply evolves_ite | refine evolves_snd (by assumption) ?_ | split)

end Sys2Proof.Laws
end

