-- ==== Sys2Proof/Laws/EvolvesTiles.lean ====
section
/-! SUPPORT. `Evolves` for the Sextant and the tile link: each operation keeps what the state it starts from has kept. -/

namespace Sys2Proof.Laws

open Sys2Proof.Machine Sys2Proof.Safety

set_option linter.all false

variable {s0 : State}

/-! ### Pho -/

theorem evolves_setPho (v : PhoState) (s : State) (hev : Evolves s0 s) :
    Evolves s0 (setPho v s) := by
  unfold setPho
  try dsimp only
  with_reducible repeat' (first | assumption | (simp only [evolves_mk_iff]; apply evolvesTo_self))

theorem evolves_checkClasses (s : State) (hev : Evolves s0 s) :
    Evolves s0 (checkClasses s) := by
  unfold checkClasses
  try dsimp only
  with_reducible repeat' (first
    | (intro _; try dsimp only) | assumption | apply evolves_raiseErr | apply evolves_memSee | apply evolves_ite
    | apply evolves_foldl | split)

theorem evolves_setGlim (g : F32) (s : State) (hev : Evolves s0 s) :
    Evolves s0 (setGlim g s) := by
  unfold setGlim
  try dsimp only
  with_reducible repeat' (first
    | assumption | apply evolves_rsetBit | apply evolves_rset | apply evolves_raiseInt | apply evolves_ite | split)

theorem evolves_setMeas (key : Nat) (m : PhoMeas) (s : State) (hev : Evolves s0 s) :
    Evolves s0 (setMeas key m s) := by
  unfold setMeas
  try dsimp only
  with_reducible repeat' (first | assumption | (simp only [evolves_mk_iff]; apply evolvesTo_self))

theorem evolves_takeMeas (key : Nat) (t : PhoTile) (s : State) (hev : Evolves s0 s) :
    Evolves s0 (takeMeas key t s).2 := by
  unfold takeMeas
  try dsimp only
  with_reducible repeat' (first
    | assumption | apply evolves_setMeas | (simp only [evolves_mk_iff]; apply evolvesTo_self) | apply evolves_ite | split)

theorem evolves_measStore (key : Nat) (temp : Nat) (steady : Bool) (s : State) (hev : Evolves s0 s) :
    Evolves s0 (measStore key temp steady s) := by
  unfold measStore
  try dsimp only
  with_reducible repeat' (first | assumption | apply evolves_rinc | apply evolves_setMeas | apply evolves_ite | split)

theorem evolves_prepareTile (at16 : Nat) (calBase : Nat) (stBase : Nat) (g : F32) (acc : List PhoTile × State) (e : MapEntry) (hev : Evolves s0 acc.2) :
    Evolves s0 (prepareTile at16 calBase stBase g acc e).2 := by
  unfold prepareTile
  try dsimp only
  with_reducible repeat' (first
    | (intro _; try dsimp only) | assumption | apply evolves_raiseErr | apply evolves_rinc | apply evolves_memSee
    | apply evolves_takeMeas | (simp only [evolves_mk_iff]; apply evolvesTo_self) | apply evolves_ite
    | refine evolves_snd (by assumption) ?_ | split)

theorem evolves_refEnd (result : Nat) (s : State) (hev : Evolves s0 s) :
    Evolves s0 (refEnd result s) := by
  unfold refEnd
  try dsimp only
  with_reducible repeat' (first
    | assumption | apply evolves_raiseInt | apply evolves_rsetFld | apply evolves_setPho
    | (simp only [evolves_mk_iff]; apply evolvesTo_self))

theorem evolves_refAbort (s : State) (hev : Evolves s0 s) :
    Evolves s0 (refAbort s) := by
  unfold refAbort
  try dsimp only
  with_reducible repeat' (first | assumption | apply evolves_refEnd | apply evolves_raiseErr | apply evolves_ite | split)

theorem evolves_passBegin (at16 : Nat) (u : Nat → Word) (s : State) (hev : Evolves s0 s) :
    Evolves s0 (passBegin at16 u s) := by
  unfold passBegin
  try dsimp only
  with_reducible repeat' (first
    | (intro _; try dsimp only) | assumption | exact Evolves.refl _ | apply evolves_commitApply | apply evolves_refAbort
    | apply evolves_setGlim | apply evolves_checkClasses | apply evolves_prepareTile | apply evolves_rsetBit
    | apply evolves_setPho | (simp only [evolves_mk_iff]; apply evolvesTo_self) | apply evolves_ite | apply evolves_foldl
    | apply evolves_foldl_snd | apply evolves_foldl_snd2 | refine evolves_snd (by assumption) ?_
    | refine evolves_fst (by assumption) ?_ | refine evolves_snd2 (by assumption) ?_ | split)

theorem evolves_closeTile (p : PhoPass) (limited : Bool) (t : PhoTile) (s : State) (hev : Evolves s0 s) :
    Evolves s0 (closeTile p limited t s).2.2 := by
  unfold closeTile
  try dsimp only
  with_reducible repeat' (first
    | (intro _; try dsimp only) | assumption | apply evolves_memWrite | (simp only [evolves_mk_iff]; apply evolvesTo_self) | split)

theorem evolves_limiter (pw : F32) (pi : F32) (dt : F32) (s : State) (hev : Evolves s0 s) :
    Evolves s0 (limiter pw pi dt s) := by
  unfold limiter
  try dsimp only
  with_reducible repeat' (first
    | assumption | apply evolves_rsetBit | apply evolves_setGlim | apply evolves_raiseErr | apply evolves_raiseInt
    | apply evolves_ite | split)

theorem evolves_refAfterPass (ts : List (PhoTile × Bool)) (s : State) (hev : Evolves s0 s) :
    Evolves s0 (refAfterPass ts s) := by
  unfold refAfterPass
  try dsimp only
  with_reducible repeat' (first
    | (intro _; try dsimp only) | assumption | apply evolves_rset | apply evolves_setPho | apply evolves_rsetFld
    | (simp only [evolves_mk_iff]; apply evolvesTo_self) | apply evolves_ite | split)

theorem evolves_passClose (p : PhoPass) (s : State) (hev : Evolves s0 s) :
    Evolves s0 (passClose p s) := by
  unfold passClose
  try dsimp only
  with_reducible repeat' (first
    | (intro _; try dsimp only) | assumption | exact Evolves.refl _ | apply evolves_closeTile | apply evolves_rset
    | apply evolves_refAfterPass | apply evolves_limiter | apply evolves_raiseInt | apply evolves_rsetBit | apply evolves_rinc
    | apply evolves_setPho | (simp only [evolves_mk_iff]; apply evolvesTo_self) | apply evolves_ite | apply evolves_foldl
    | apply evolves_foldl_snd | apply evolves_foldl_snd2 | refine evolves_snd (by assumption) ?_
    | refine evolves_fst (by assumption) ?_ | refine evolves_snd2 (by assumption) ?_ | split)

theorem evolves_passForget (s : State) (hev : Evolves s0 s) :
    Evolves s0 (passForget s) := by
  unfold passForget
  try dsimp only
  with_reducible repeat' (first
    | (intro _; try dsimp only) | assumption | apply evolves_rsetBit | apply evolves_setPho
    | (simp only [evolves_mk_iff]; apply evolvesTo_self) | apply evolves_ite | split)

theorem evolves_execPassBegin (s : State) (hev : Evolves s0 s) :
    ∃ t, execPassBegin s = .next t ∧ Evolves s0 t := by
  unfold execPassBegin
  try dsimp only
  refine ⟨_, rfl, ?_⟩
  with_reducible repeat' (first
    | (intro _; try dsimp only) | assumption | apply evolves_passForget | apply evolves_passBegin | apply evolves_setPho
    | (simp only [evolves_mk_iff]; apply evolvesTo_self) | apply evolves_ite | split)

theorem evolves_execPassClose (s : State) (hev : Evolves s0 s) :
    ∃ t, execPassClose s = .next t ∧ Evolves s0 t := by
  unfold execPassClose
  try dsimp only
  refine ⟨_, rfl, ?_⟩
  with_reducible repeat' (first
    | (intro _; try dsimp only) | assumption | apply evolves_passForget | apply evolves_passClose
    | (simp only [evolves_mk_iff]; apply evolvesTo_self) | apply evolves_ite | split)

theorem evolves_execRefCaptureStart (who : Requester) (value : Word) (s : State) (hev : Evolves s0 s) :
    ∃ t, execRefCaptureStart who value s = .next t ∧ Evolves s0 t := by
  unfold execRefCaptureStart
  try dsimp only
  refine ⟨_, rfl, ?_⟩
  with_reducible repeat' (first
    | assumption | apply evolves_writeReg | apply evolves_raiseErr | apply evolves_rsetFld | apply evolves_setPho
    | (simp only [evolves_mk_iff]; apply evolvesTo_self) | apply evolves_ite | split)

theorem evolves_execRefCaptureCancel (who : Requester) (value : Word) (s : State) (hev : Evolves s0 s) :
    ∃ t, execRefCaptureCancel who value s = .next t ∧ Evolves s0 t := by
  unfold execRefCaptureCancel
  try dsimp only
  refine ⟨_, rfl, ?_⟩
  with_reducible repeat' (first | assumption | apply evolves_writeReg | apply evolves_refAbort | apply evolves_ite | split)

theorem evolves_execRefCaptureTimeout (s : State) (hev : Evolves s0 s) :
    ∃ t, execRefCaptureTimeout s = .next t ∧ Evolves s0 t := by
  unfold execRefCaptureTimeout
  try dsimp only
  refine ⟨_, rfl, ?_⟩
  with_reducible repeat' (first | assumption | apply evolves_refEnd | apply evolves_raiseErr | apply evolves_ite | split)

theorem evolves_execRefCaptureWriteDone (s : State) (hev : Evolves s0 s) :
    ∃ t, execRefCaptureWriteDone s = .next t ∧ Evolves s0 t := by
  unfold execRefCaptureWriteDone
  try dsimp only
  refine ⟨_, rfl, ?_⟩
  with_reducible repeat' (first
    | (intro _; try dsimp only) | assumption | apply evolves_refEnd | apply evolves_memWrite | apply evolves_ite
    | apply evolves_foldl | split)

theorem evolves_execPhoPwrPeakRead (who : Requester) (s : State) (hev : Evolves s0 s) :
    ∃ t, execPhoPwrPeakRead who s = .next t ∧ Evolves s0 t := by
  unfold execPhoPwrPeakRead
  try dsimp only
  refine ⟨_, rfl, ?_⟩
  with_reducible repeat' (first | assumption | apply evolves_readOut | apply evolves_rset | apply evolves_ite | split)

/-! ### Tlk -/

theorem evolves_setTlk (p : Nat) (v : TlkPort) (s : State) (hev : Evolves s0 s) :
    Evolves s0 (setTlk p v s) := by
  unfold setTlk
  try dsimp only
  with_reducible repeat' (first | assumption | (simp only [evolves_mk_iff]; apply evolvesTo_self))

theorem evolves_setTlkState (p : Nat) (v : Nat) (s : State) (hev : Evolves s0 s) :
    Evolves s0 (setTlkState p v s) := by
  unfold setTlkState
  try dsimp only
  with_reducible repeat' (first | assumption | apply evolves_rsetFld)

theorem evolves_setTlkCount (p : Nat) (v : Nat) (s : State) (hev : Evolves s0 s) :
    Evolves s0 (setTlkCount p v s) := by
  unfold setTlkCount
  try dsimp only
  with_reducible repeat' (first | assumption | apply evolves_rsetFld)

theorem evolves_tileSend (p : Nat) (cs : List Codeword) (s : State) (hev : Evolves s0 s) :
    Evolves s0 (tileSend p cs s) := by
  unfold tileSend
  try dsimp only
  with_reducible repeat' (first | (intro _; try dsimp only) | assumption | apply evolves_emit | apply evolves_foldl)

theorem evolves_tileFrame (p : Nat) (type : Nat) (length : Nat) (h1 : Nat) (h2 : Nat) (h3 : Nat) (h4 : Nat) (h5 : Nat) (h6 : Nat) (payload : List Byte) (s : State) (hev : Evolves s0 s) :
    Evolves s0 (tileFrame p type length h1 h2 h3 h4 h5 h6 payload s) := by
  unfold tileFrame
  try dsimp only
  with_reducible repeat' (first | assumption | apply evolves_tileSend)

theorem evolves_tileAlignSend (p : Nat) (s : State) (hev : Evolves s0 s) :
    Evolves s0 (tileAlignSend p s) := by
  unfold tileAlignSend
  try dsimp only
  with_reducible repeat' (first
    | assumption | apply evolves_tileSend | apply evolves_setTlk | (simp only [evolves_mk_iff]; apply evolvesTo_self))

theorem evolves_timedFrame (p : Nat) (type : Nat) (id : Nat) (at16 : Nat) (s : State) (hev : Evolves s0 s) :
    Evolves s0 (timedFrame p type id at16 s) := by
  unfold timedFrame
  try dsimp only
  with_reducible repeat' (first
    | assumption | apply evolves_tileFrame | apply evolves_draw | refine evolves_snd (by assumption) ?_ | split)

theorem evolves_configAll (p : Nat) (kind : Nat) (h3 : Nat) (s : State) (hev : Evolves s0 s) :
    Evolves s0 (configAll p kind h3 s) := by
  unfold configAll
  try dsimp only
  with_reducible repeat' (first | assumption | apply evolves_tileFrame)

theorem evolves_configOne (p : Nat) (pos : Nat) (kind : Nat) (h3 : Nat) (s : State) (hev : Evolves s0 s) :
    Evolves s0 (configOne p pos kind h3 s) := by
  unfold configOne
  try dsimp only
  with_reducible repeat' (first | assumption | apply evolves_tileFrame)

theorem evolves_sendSchedule (p : Nat) (u : Nat → Word) (s : State) (hev : Evolves s0 s) :
    Evolves s0 (sendSchedule p u s) := by
  unfold sendSchedule
  try dsimp only
  with_reducible repeat' (first
    | assumption | apply evolves_tileFrame | apply evolves_draw | apply evolves_setTlk
    | (simp only [evolves_mk_iff]; apply evolvesTo_self))

theorem evolves_scheduleAhead (p : Nat) (u : Nat → Word) (s : State) (hev : Evolves s0 s) :
    Evolves s0 (scheduleAhead p u s) := by
  unfold scheduleAhead
  try dsimp only
  with_reducible repeat' (first | assumption | apply evolves_sendSchedule | apply evolves_ite | split)

theorem evolves_countDropped (p : Nat) (n : Nat) (s : State) (hev : Evolves s0 s) :
    Evolves s0 (countDropped p n s) := by
  unfold countDropped
  try dsimp only
  with_reducible repeat' (first | assumption | apply evolves_rinc)

theorem evolves_pixFrames (p chain view id total n first : Nat) (px : List Nat) (s : State) (h : Evolves s0 s) :
    Evolves s0 (pixFrames p chain view id total n first px s) := by
  induction n generalizing first px s with
  | zero => exact h
  | succ n ih =>
    cases px with
    | nil => exact h
    | cons x px =>
      rw [pixFrames.eq_3 _ _ _ _ _ _ _ _ _ (by simp)]
      refine ih _ _ _ ?_
      split
      · exact evolves_rinc _ _ _ (evolves_tileFrame _ _ _ _ _ _ _ _ _ _ _ (evolves_rinc _ _ _ h))
      · exact evolves_tileFrame _ _ _ _ _ _ _ _ _ _ _ (evolves_rinc _ _ _ h)

theorem evolves_tlkPix (p : Nat) (chain : Nat) (view : Nat) (id : Nat) (u : Nat → Word) (px : List Nat) (s : State) (hev : Evolves s0 s) :
    Evolves s0 (tlkPix p chain view id u px s) := by
  unfold tlkPix
  try dsimp only
  with_reducible repeat' (first
    | assumption | apply evolves_countDropped | apply evolves_scheduleAhead | apply evolves_raiseErr | apply evolves_setTlk
    | apply evolves_pixFrames | (simp only [evolves_mk_iff]; apply evolvesTo_self) | apply evolves_ite | split)

theorem evolves_chainSee (p : Nat) (c : Nat) (n : Nat) (s : State) (hev : Evolves s0 s) :
    Evolves s0 (chainSee p c n s) := by
  unfold chainSee
  try dsimp only
  with_reducible repeat' (first | assumption | apply evolves_memSee)

theorem evolves_showDelay (p : Nat) (s : State) (hev : Evolves s0 s) :
    Evolves s0 (showDelay p s) := by
  unfold showDelay
  try dsimp only
  with_reducible repeat' (first | assumption | apply evolves_rset | apply evolves_ite | split)

theorem evolves_leadCheck (p : Nat) (s : State) (hev : Evolves s0 s) :
    Evolves s0 (leadCheck p s) := by
  unfold leadCheck
  try dsimp only
  with_reducible repeat' (first
    | assumption | apply evolves_setTlk | apply evolves_raiseErr | (simp only [evolves_mk_iff]; apply evolvesTo_self)
    | apply evolves_ite | split)

theorem evolves_putDelay (p : Nat) (c : Nat) (d : Nat) (s : State) (hev : Evolves s0 s) :
    Evolves s0 (putDelay p c d s) := by
  unfold putDelay
  try dsimp only
  with_reducible repeat' (first | assumption | apply evolves_showDelay | apply evolves_configOne | apply evolves_memWrite)

theorem evolves_putIdent (p : Nat) (c : Nat) (ident : List Byte) (s : State) (hev : Evolves s0 s) :
    Evolves s0 (putIdent p c ident s) := by
  unfold putIdent
  try dsimp only
  with_reducible repeat' (first | assumption | apply evolves_memWrite)

theorem evolves_askLater (p : Nat) (q : TlkQuery) (s : State) (hev : Evolves s0 s) :
    Evolves s0 (askLater p q s) := by
  unfold askLater
  try dsimp only
  with_reducible repeat' (first | assumption | apply evolves_setTlk | (simp only [evolves_mk_iff]; apply evolvesTo_self))

theorem evolves_ask (p : Nat) (kind : Nat) (dst : Nat) (why : TlkWhy) (s : State) (hev : Evolves s0 s) :
    Evolves s0 (ask p kind dst why s) := by
  unfold ask
  try dsimp only
  with_reducible repeat' (first | assumption | apply evolves_askLater)

theorem evolves_askAssign (p : Nat) (dst : Nat) (why : TlkWhy) (s : State) (hev : Evolves s0 s) :
    Evolves s0 (askAssign p dst why s) := by
  unfold askAssign
  try dsimp only
  with_reducible repeat' (first | assumption | apply evolves_askLater)

theorem evolves_dropQueries (p : Nat) (s : State) (hev : Evolves s0 s) :
    Evolves s0 (dropQueries p s) := by
  unfold dropQueries
  try dsimp only
  with_reducible repeat' (first
    | (intro _; try dsimp only) | assumption | apply evolves_setTlk | (simp only [evolves_mk_iff]; apply evolvesTo_self)
    | apply evolves_ite | split)

theorem evolves_dropSums (p : Nat) (s : State) (hev : Evolves s0 s) :
    Evolves s0 (dropSums p s) := by
  unfold dropSums
  try dsimp only
  with_reducible repeat' (first | (intro _; try dsimp only) | assumption | (simp only [evolves_mk_iff]; apply evolvesTo_self))

theorem evolves_tlkEnumerate (p : Nat) (s : State) (hev : Evolves s0 s) :
    Evolves s0 (tlkEnumerate p s) := by
  unfold tlkEnumerate
  try dsimp only
  with_reducible repeat' (first
    | assumption | apply evolves_configAll | apply evolves_setTlkCount | apply evolves_setTlkState | apply evolves_dropSums
    | apply evolves_dropQueries | apply evolves_askAssign | apply evolves_setTlk
    | (simp only [evolves_mk_iff]; apply evolvesTo_self))

theorem evolves_chainKnown (p : Nat) (count : Nat) (why : TlkWhy) (s : State) (hev : Evolves s0 s) :
    Evolves s0 (chainKnown p count why s) := by
  unfold chainKnown
  try dsimp only
  with_reducible repeat' (first
    | assumption | apply evolves_showDelay | apply evolves_setTlkCount | apply evolves_setTlkState | apply evolves_sendSchedule
    | apply evolves_leadCheck | apply evolves_raiseInt | apply evolves_ask | apply evolves_ite | split)

theorem evolves_enumEnd (p : Nat) (count : Nat) (s : State) (hev : Evolves s0 s) :
    Evolves s0 (enumEnd p count s) := by
  unfold enumEnd
  try dsimp only
  with_reducible repeat' (first | assumption | apply evolves_chainKnown | apply evolves_rset)

theorem evolves_enumNext (p : Nat) (c : Nat) (s : State) (hev : Evolves s0 s) :
    Evolves s0 (enumNext p c s) := by
  unfold enumNext
  try dsimp only
  with_reducible repeat' (first | assumption | apply evolves_askAssign | apply evolves_enumEnd | apply evolves_ite | split)

theorem evolves_resumeAt (p : Nat) (c : Nat) (s : State) (hev : Evolves s0 s) :
    Evolves s0 (resumeAt p c s) := by
  unfold resumeAt
  try dsimp only
  with_reducible repeat' (first
    | assumption | apply evolves_raiseInt | apply evolves_rset | apply evolves_showDelay | apply evolves_setTlkCount
    | apply evolves_ask | apply evolves_ite | split)

theorem evolves_resumeEnd (p : Nat) (c : Nat) (s : State) (hev : Evolves s0 s) :
    Evolves s0 (resumeEnd p c s) := by
  unfold resumeEnd
  try dsimp only
  with_reducible repeat' (first
    | assumption | apply evolves_leadCheck | apply evolves_raiseInt | apply evolves_rset | apply evolves_showDelay
    | apply evolves_setTlkCount)

theorem evolves_chainSearch (p : Nat) (lo : Nat) (hi : Nat) (s : State) (hev : Evolves s0 s) :
    Evolves s0 (chainSearch p lo hi s) := by
  unfold chainSearch
  try dsimp only
  with_reducible repeat' (first
    | assumption | apply evolves_ask | apply evolves_raiseInt | apply evolves_raiseErr | apply evolves_rset | apply evolves_ite
    | split)

theorem evolves_enumMismatch (p : Nat) (c : Nat) (s : State) (hev : Evolves s0 s) :
    Evolves s0 (enumMismatch p c s) := by
  unfold enumMismatch
  try dsimp only
  with_reducible repeat' (first
    | (intro _; try dsimp only) | assumption | apply evolves_setTlk | apply evolves_tlkEnumerate | apply evolves_raiseErr
    | (simp only [evolves_mk_iff]; apply evolvesTo_self))

theorem evolves_warmKnown (p : Nat) (s : State) (hev : Evolves s0 s) :
    Evolves s0 (warmKnown p s) := by
  unfold warmKnown
  try dsimp only
  with_reducible repeat' (first
    | (intro _; try dsimp only) | assumption | apply evolves_chainKnown | apply evolves_configOne | apply evolves_chainSee
    | apply evolves_ite | apply evolves_foldl | split)

theorem evolves_returnUp (p : Nat) (delta : Nat) (s : State) (hev : Evolves s0 s) :
    Evolves s0 (returnUp p delta s) := by
  unfold returnUp
  try dsimp only
  with_reducible repeat' (first
    | (intro _; try dsimp only) | assumption | apply evolves_memWrite | apply evolves_sendSchedule | apply evolves_configAll
    | apply evolves_showDelay | apply evolves_setTlkState | apply evolves_setTlk
    | (simp only [evolves_mk_iff]; apply evolvesTo_self) | apply evolves_foldl)

theorem evolves_hostDone (p : Nat) (timeout : Bool) (s : State) (hev : Evolves s0 s) :
    Evolves s0 (hostDone p timeout s) := by
  unfold hostDone
  try dsimp only
  with_reducible repeat' (first | assumption | apply evolves_raiseInt | apply evolves_rsetBit)

theorem evolves_hostReply (p : Nat) (h4 : Word) (payload : List Byte) (s : State) (hev : Evolves s0 s) :
    Evolves s0 (hostReply p h4 payload s) := by
  unfold hostReply
  try dsimp only
  with_reducible repeat' (first
    | (intro _; try dsimp only) | assumption | apply evolves_rset | apply evolves_ite | apply evolves_foldl | split)

theorem evolves_queryAnswered (p : Nat) (q : TlkQuery) (h4 : Word) (payload : List Byte) (rtt : Nat) (s : State) (hev : Evolves s0 s) :
    Evolves s0 (queryAnswered p q h4 payload rtt s) := by
  unfold queryAnswered
  try dsimp only
  with_reducible repeat' (first
    | (intro _; try dsimp only) | assumption | apply evolves_setTlk | apply evolves_chainSee | apply evolves_hostDone
    | apply evolves_hostReply | apply evolves_raiseInt | apply evolves_putDelay | apply evolves_chainSearch | apply evolves_ask
    | apply evolves_putIdent | apply evolves_enumNext | apply evolves_enumMismatch | apply evolves_warmKnown
    | apply evolves_resumeAt | apply evolves_returnUp | (simp only [evolves_mk_iff]; apply evolvesTo_self) | apply evolves_ite
    | split)

theorem evolves_queryTimedOut (p : Nat) (q : TlkQuery) (s : State) (hev : Evolves s0 s) :
    Evolves s0 (queryTimedOut p q s) := by
  unfold queryTimedOut
  try dsimp only
  with_reducible repeat' (first
    | (intro _; try dsimp only) | assumption | apply evolves_raiseErr | apply evolves_rinc | apply evolves_hostDone
    | apply evolves_raiseInt | apply evolves_chainSearch | apply evolves_enumEnd | apply evolves_enumMismatch
    | apply evolves_askAssign | apply evolves_resumeEnd | apply evolves_resumeAt | apply evolves_returnUp
    | (simp only [evolves_mk_iff]; apply evolvesTo_self) | split)

theorem evolves_querySend (p : Nat) (s : State) (hev : Evolves s0 s) :
    Evolves s0 (querySend p s) := by
  unfold querySend
  try dsimp only
  with_reducible repeat' (first
    | (intro _; try dsimp only) | assumption | apply evolves_setTlk | apply evolves_configAll | apply evolves_chainSee
    | apply evolves_hostDone | apply evolves_tileFrame | apply evolves_queryAnswered
    | (simp only [evolves_mk_iff]; apply evolvesTo_self) | apply evolves_ite | split)

theorem evolves_tempToPho (p : Nat) (pos : Nat) (h4 : Word) (s : State) (hev : Evolves s0 s) :
    Evolves s0 (tempToPho p pos h4 s) := by
  unfold tempToPho
  try dsimp only
  with_reducible repeat' (first | assumption | apply evolves_measStore | apply evolves_rinc)

theorem evolves_tileArrive (p : Nat) (pkt : RxPacket) (s : State) (hev : Evolves s0 s) :
    Evolves s0 (tileArrive p pkt s) := by
  unfold tileArrive
  try dsimp only
  with_reducible repeat' (first
    | (intro _; try dsimp only) | assumption | apply evolves_rinc | apply evolves_setTlk
    | (simp only [evolves_mk_iff]; apply evolvesTo_self))

theorem evolves_replyFrame (p : Nat) (pkt : RxPacket) (rtt : Nat) (s : State) (hev : Evolves s0 s) :
    Evolves s0 (replyFrame p pkt rtt s) := by
  unfold replyFrame
  try dsimp only
  with_reducible repeat' (first
    | (intro _; try dsimp only) | assumption | apply evolves_tileArrive | apply evolves_raiseErr | apply evolves_rinc
    | apply evolves_tempToPho | apply evolves_setTlk | apply evolves_queryAnswered
    | (simp only [evolves_mk_iff]; apply evolvesTo_self) | apply evolves_ite | split)

theorem evolves_tlkLinkUp (p : Nat) (s : State) (hev : Evolves s0 s) :
    Evolves s0 (tlkLinkUp p s) := by
  unfold tlkLinkUp
  try dsimp only
  with_reducible repeat' (first
    | assumption | apply evolves_ask | apply evolves_setTlk | apply evolves_setTlkState | apply evolves_tlkEnumerate
    | (simp only [evolves_mk_iff]; apply evolvesTo_self) | apply evolves_ite | split)

theorem evolves_tlkTraining (p : Nat) (s : State) (hev : Evolves s0 s) :
    Evolves s0 (tlkTraining p s) := by
  unfold tlkTraining
  try dsimp only
  with_reducible repeat' (first | assumption | apply evolves_setTlkState | apply evolves_ite | split)

theorem evolves_tlkLinkDown (p : Nat) (carries : Bool) (s : State) (hev : Evolves s0 s) :
    Evolves s0 (tlkLinkDown p carries s) := by
  unfold tlkLinkDown
  try dsimp only
  with_reducible repeat' (first
    | assumption | apply evolves_timedFrame | apply evolves_dropSums | apply evolves_dropQueries | apply evolves_setTlkState
    | apply evolves_setTlk | apply evolves_raiseErr | (simp only [evolves_mk_iff]; apply evolvesTo_self) | apply evolves_ite
    | split)

theorem evolves_tlkRelease (s : State) (hev : Evolves s0 s) :
    Evolves s0 (tlkRelease s) := by
  unfold tlkRelease
  try dsimp only
  with_reducible repeat' (first | (intro _; try dsimp only) | assumption | (simp only [evolves_mk_iff]; apply evolvesTo_self))

theorem evolves_tlkLaunch (p : Nat) (id : Nat) (at16 : Nat) (u : Nat → Word) (s : State) (hev : Evolves s0 s) :
    Evolves s0 (tlkLaunch p id at16 u s) := by
  unfold tlkLaunch
  try dsimp only
  with_reducible repeat' (first
    | assumption | apply evolves_countDropped | apply evolves_leadCheck | apply evolves_timedFrame | apply evolves_scheduleAhead
    | (simp only [evolves_mk_iff]; apply evolvesTo_self) | apply evolves_ite | split)

theorem evolves_tlkSelfref (p : Nat) (at16 : Nat) (s : State) (hev : Evolves s0 s) :
    Evolves s0 (tlkSelfref p at16 s) := by
  unfold tlkSelfref
  try dsimp only
  with_reducible repeat' (first | assumption | apply evolves_timedFrame | apply evolves_ite | split)

end Sys2Proof.Laws
end

