-- ==== Sys2Proof/Laws/EvolvesCascade.lean ====
section
/-! SUPPORT. `Evolves` for the cascade: each operation keeps what the state it starts from has kept. -/

namespace Sys2Proof.Laws

open Sys2Proof.Machine Sys2Proof.Safety

set_option linter.all false

variable {s0 : State}

/-! ### Cas -/

theorem evolves_setCasPort (p : Nat) (v : CasPort) (s : State) (hev : Evolves s0 s) :
    Evolves s0 (setCasPort p v s) := by
  unfold setCasPort
  try dsimp only
  with_reducible repeat' (first | assumption | (simp only [evolves_mk_iff]; apply evolvesTo_self))

theorem evolves_setCasState (p : Nat) (v : Nat) (s : State) (hev : Evolves s0 s) :
    Evolves s0 (setCasState p v s) := by
  unfold setCasState
  try dsimp only
  with_reducible repeat' (first | assumption | apply evolves_raiseInt | apply evolves_rsetFld | apply evolves_ite | split)

theorem evolves_emitFlit (p : Nat) (h0 : Word) (h1 : Word) (h2 : Word) (h3 : Word) (payload : List Byte) (poison : Bool) (s : State) (hev : Evolves s0 s) :
    Evolves s0 (emitFlit p h0 h1 h2 h3 payload poison s) := by
  unfold emitFlit
  try dsimp only
  with_reducible repeat' (first | assumption | apply evolves_emit | apply evolves_ite | split)

theorem evolves_linkFlit (p : Nat) (type : Nat) (crd : Nat) (nak : Bool) (payload : List Byte) (s : State) (hev : Evolves s0 s) :
    Evolves s0 (linkFlit p type crd nak payload s) := by
  unfold linkFlit
  try dsimp only
  with_reducible repeat' (first
    | (intro _; try dsimp only) | assumption | apply evolves_emitFlit | (simp only [evolves_mk_iff]; apply evolvesTo_self) | split)

theorem evolves_linkFields (p : Nat) (type : Nat) (values : List Nat) (s : State) (hev : Evolves s0 s) :
    Evolves s0 (linkFields p type values s) := by
  unfold linkFields
  try dsimp only
  with_reducible repeat' (first | assumption | apply evolves_emit)

theorem evolves_sendAck (p : Nat) (credit : Option Nat) (s : State) (hev : Evolves s0 s) :
    Evolves s0 (sendAck p credit s) := by
  unfold sendAck
  try dsimp only
  with_reducible repeat' (first
    | (intro _; try dsimp only) | assumption | apply evolves_linkFlit | (simp only [evolves_mk_iff]; apply evolvesTo_self) | split)

theorem evolves_sendNak (p : Nat) (s : State) (hev : Evolves s0 s) :
    Evolves s0 (sendNak p s) := by
  unfold sendNak
  try dsimp only
  with_reducible repeat' (first | assumption | apply evolves_linkFlit)

theorem evolves_transmit (p : Nat) (lseq : Nat) (i : CasItem) (poison : Bool) (s : State) (hev : Evolves s0 s) :
    Evolves s0 (transmit p lseq i poison s) := by
  unfold transmit
  try dsimp only
  with_reducible repeat' (first
    | assumption | apply evolves_emit | apply evolves_emitFlit | apply evolves_draw | apply evolves_ite | split)

theorem evolves_messageLeft (seq : Nat) (d : CasDone) (s : State) (hev : Evolves s0 s) :
    Evolves s0 (messageLeft seq d s) := by
  unfold messageLeft
  try dsimp only
  with_reducible repeat' (first
    | (intro _; try dsimp only) | assumption | apply evolves_rset | apply evolves_psEnd
    | (simp only [evolves_mk_iff]; apply evolvesTo_self) | apply evolves_ite | split)

theorem evolves_itemLeft (cls : Nat) (i : CasItem) (s : State) (hev : Evolves s0 s) :
    Evolves s0 (itemLeft cls i s) := by
  unfold itemLeft
  try dsimp only
  with_reducible repeat' (first
    | (intro _; try dsimp only) | assumption | apply evolves_sendAck | apply evolves_messageLeft
    | (simp only [evolves_mk_iff]; apply evolvesTo_self) | apply evolves_ite | split)

theorem evolves_sendNext (p : Nat) (cls : Nat) (i : CasItem) (rest : List CasItem) (s : State) (hev : Evolves s0 s) :
    Evolves s0 (sendNext p cls i rest s) := by
  unfold sendNext
  try dsimp only
  with_reducible repeat' (first
    | assumption | apply evolves_setCasPort | apply evolves_itemLeft | apply evolves_transmit | apply evolves_rinc
    | (simp only [evolves_mk_iff]; apply evolvesTo_self) | apply evolves_ite | split)

theorem evolves_staleErr (p : Nat) (src : Nat) (s : State) (hev : Evolves s0 s) :
    Evolves s0 (staleErr p src s) := by
  unfold staleErr
  try dsimp only
  with_reducible repeat' (first | assumption | apply evolves_raiseErr | apply evolves_rinc)

theorem evolves_dropStale (p : Nat) (cls : Nat) (i : CasItem) (rest : List CasItem) (s : State) (hev : Evolves s0 s) :
    Evolves s0 (dropStale p cls i rest s) := by
  unfold dropStale
  try dsimp only
  with_reducible repeat' (first
    | (intro _; try dsimp only) | assumption | apply evolves_itemLeft | apply evolves_staleErr | apply evolves_setCasPort
    | (simp only [evolves_mk_iff]; apply evolvesTo_self) | split)

theorem evolves_pump (p : Nat) (y0 : Nat) (y1 : State) (hev : Evolves s0 y1) :
    Evolves s0 (pump p y0 y1) := by
  induction y0 generalizing p y1
  all_goals
    unfold pump
    try dsimp only
    with_reducible repeat' (first
      | (intro _; try dsimp only) | assumption | apply evolves_dropStale | apply evolves_sendNext | apply_assumption
      | (simp only [evolves_mk_iff]; apply evolvesTo_self) | apply evolves_ite | split)

theorem evolves_pumpPort (p : Nat) (s : State) (hev : Evolves s0 s) :
    Evolves s0 (pumpPort p s) := by
  unfold pumpPort
  try dsimp only
  with_reducible repeat' (first | assumption | apply evolves_pump)

theorem evolves_pumpAll (s : State) (hev : Evolves s0 s) :
    Evolves s0 (pumpAll s) := by
  unfold pumpAll
  try dsimp only
  with_reducible repeat' (first | (intro _; try dsimp only) | assumption | apply evolves_pumpPort | apply evolves_foldl)

theorem evolves_queueItem (cls : Nat) (ports : List Nat) (i : CasItem) (s : State) (hev : Evolves s0 s) :
    Evolves s0 (queueItem cls ports i s) := by
  unfold queueItem
  try dsimp only
  with_reducible repeat' (first | (intro _; try dsimp only) | assumption | apply evolves_setCasPort | apply evolves_foldl)

theorem evolves_takeUid (s : State) (hev : Evolves s0 s) :
    Evolves s0 (takeUid s) := by
  unfold takeUid
  try dsimp only
  with_reducible repeat' (first | assumption | (simp only [evolves_mk_iff]; apply evolvesTo_self))

theorem evolves_topoTo (ports : List Nat) (change : Bool) (s : State) (hev : Evolves s0 s) :
    Evolves s0 (topoTo ports change s) := by
  unfold topoTo
  try dsimp only
  with_reducible repeat' (first
    | assumption | apply evolves_pumpAll | apply evolves_queueItem | apply evolves_takeUid | apply evolves_ite | split)

theorem evolves_sendTopo (change : Bool) (s : State) (hev : Evolves s0 s) :
    Evolves s0 (sendTopo change s) := by
  unfold sendTopo
  try dsimp only
  with_reducible repeat' (first | assumption | apply evolves_topoTo)

theorem evolves_queueFlits (m : CasMessage) (ports : List Nat) (y0 : List (List Byte)) (y1 : State) (hev : Evolves s0 y1) :
    Evolves s0 (queueFlits m ports y0 y1) := by
  induction y0 generalizing m ports y1
  all_goals
    unfold queueFlits
    try dsimp only
    with_reducible repeat' (first
      | assumption | apply evolves_queueItem | apply evolves_takeUid | apply_assumption
      | (simp only [evolves_mk_iff]; apply evolvesTo_self) | apply evolves_ite | split)

theorem evolves_sendWaiting (y0 : List CasMessage) (y1 : State) (hev : Evolves s0 y1) :
    Evolves s0 (sendWaiting y0 y1) := by
  induction y0 generalizing y1
  all_goals
    unfold sendWaiting
    try dsimp only
    with_reducible repeat' (first
      | assumption | apply evolves_pumpAll | apply evolves_queueFlits | apply_assumption
      | (simp only [evolves_mk_iff]; apply evolvesTo_self) | apply evolves_ite | split)

theorem evolves_sendMessage (cls : Nat) (dst : Nat) (bcast : Bool) (chunks : List (List Byte)) (d : CasDone) (s : State) (hev : Evolves s0 s) :
    Evolves s0 (sendMessage cls dst bcast chunks d s) := by
  unfold sendMessage
  try dsimp only
  with_reducible repeat' (first
    | assumption | apply evolves_rinc | apply evolves_sendWaiting | (simp only [evolves_mk_iff]; apply evolvesTo_self)
    | apply evolves_ite | split)

theorem evolves_announce (p : Nat) (s : State) (hev : Evolves s0 s) :
    Evolves s0 (announce p s) := by
  unfold announce
  try dsimp only
  with_reducible repeat' (first
    | (intro _; try dsimp only) | assumption | apply evolves_linkFlit | apply evolves_setCasPort
    | (simp only [evolves_mk_iff]; apply evolvesTo_self) | apply evolves_ite | split)

theorem evolves_announceChanges (s : State) (hev : Evolves s0 s) :
    Evolves s0 (announceChanges s) := by
  unfold announceChanges
  try dsimp only
  with_reducible repeat' (first | (intro _; try dsimp only) | assumption | apply evolves_announce | apply evolves_foldl)

theorem evolves_setPortRoles (deep : Bool) (s : State) (hev : Evolves s0 s) :
    Evolves s0 (setPortRoles deep s) := by
  unfold setPortRoles
  try dsimp only
  with_reducible repeat' (first
    | (intro _; try dsimp only) | assumption | apply evolves_setCasState | (simp only [evolves_mk_iff]; apply evolvesTo_self)
    | apply evolves_ite | apply evolves_foldl | split)

theorem evolves_setDevState (v : Nat) (s : State) (hev : Evolves s0 s) :
    Evolves s0 (setDevState v s) := by
  unfold setDevState
  try dsimp only
  with_reducible repeat' (first | assumption | apply evolves_raiseInt | apply evolves_rsetFld | apply evolves_ite | split)

theorem evolves_refreshStandby (s : State) (hev : Evolves s0 s) :
    Evolves s0 (refreshStandby s) := by
  unfold refreshStandby
  try dsimp only
  with_reducible repeat' (first
    | (intro _; try dsimp only) | assumption | apply evolves_rset | (simp only [evolves_mk_iff]; apply evolvesTo_self)
    | apply evolves_ite | split)

theorem evolves_adoptReference (s : State) (hev : Evolves s0 s) :
    Evolves s0 (adoptReference s) := by
  unfold adoptReference
  try dsimp only
  with_reducible repeat' (first
    | (intro _; try dsimp only) | assumption | apply evolves_rsetFld | apply evolves_rset2
    | (simp only [evolves_mk_iff]; apply evolvesTo_self) | split)

theorem evolves_treeChanged (old : Option Nat) (s : State) (hev : Evolves s0 s) :
    Evolves s0 (treeChanged old s) := by
  unfold treeChanged
  try dsimp only
  with_reducible repeat' (first
    | (intro _; try dsimp only) | assumption | apply evolves_logEvent | apply evolves_raiseInt | apply evolves_sendTopo
    | (simp only [evolves_mk_iff]; apply evolvesTo_self) | apply evolves_ite | split)

theorem evolves_crown (s : State) (hev : Evolves s0 s) :
    Evolves s0 (crown s) := by
  unfold crown
  try dsimp only
  with_reducible repeat' (first | assumption | apply evolves_setMerState | apply evolves_rsetBit | apply evolves_ite | split)

theorem evolves_uncrown (s : State) (hev : Evolves s0 s) :
    Evolves s0 (uncrown s) := by
  unfold uncrown
  try dsimp only
  with_reducible repeat' (first | assumption | apply evolves_rsetBit)

theorem evolves_elect (s : State) (hev : Evolves s0 s) :
    Evolves s0 (elect s) := by
  unfold elect
  try dsimp only
  with_reducible repeat' (first
    | (intro _; try dsimp only) | assumption | apply evolves_rsetFld | apply evolves_adoptReference | apply evolves_refreshStandby
    | apply evolves_setPortRoles | apply evolves_setDevState | apply evolves_treeChanged | apply evolves_topoTo
    | apply evolves_sendWaiting | apply evolves_announceChanges | apply evolves_merHoldover | apply evolves_uncrown
    | apply evolves_crown | apply evolves_raiseErr | apply evolves_merUnsync | (simp only [evolves_mk_iff]; apply evolvesTo_self)
    | apply evolves_ite | split)

theorem evolves_casLeave (p : Nat) (dest : Nat) (err : Bool) (s : State) (hev : Evolves s0 s) :
    Evolves s0 (casLeave p dest err s) := by
  unfold casLeave
  try dsimp only
  with_reducible repeat' (first
    | (intro _; try dsimp only) | assumption | apply evolves_rset | apply evolves_setCasPort | apply evolves_setCasState
    | apply evolves_raiseErr | apply evolves_itemLeft | apply evolves_elect | apply evolves_merHoldover
    | (simp only [evolves_mk_iff]; apply evolvesTo_self) | apply evolves_ite | apply evolves_foldl | split)

theorem evolves_casPortDown (p : Nat) (s : State) (hev : Evolves s0 s) :
    Evolves s0 (casPortDown p s) := by
  unfold casPortDown
  try dsimp only
  with_reducible repeat' (first | assumption | apply evolves_casLeave)

theorem evolves_discover (p : Nat) (s : State) (hev : Evolves s0 s) :
    Evolves s0 (discover p s) := by
  unfold discover
  try dsimp only
  with_reducible repeat' (first | assumption | apply evolves_linkFlit)

theorem evolves_casLinkUp (p : Nat) (s : State) (hev : Evolves s0 s) :
    Evolves s0 (casLinkUp p s) := by
  unfold casLinkUp
  try dsimp only
  with_reducible repeat' (first | assumption | apply evolves_discover | apply evolves_setCasState | apply evolves_ite | split)

theorem evolves_resend (p : Nat) (s : State) (hev : Evolves s0 s) :
    Evolves s0 (resend p s) := by
  unfold resend
  try dsimp only
  with_reducible repeat' (first
    | (intro _; try dsimp only) | assumption | apply evolves_casPortDown | apply evolves_transmit | apply evolves_rinc
    | apply evolves_setCasPort | (simp only [evolves_mk_iff]; apply evolvesTo_self) | apply evolves_ite | apply evolves_foldl
    | split)

theorem evolves_linkFieldsIn (p : Nat) (f : Flit) (s : State) (hev : Evolves s0 s) :
    Evolves s0 (linkFieldsIn p f s) := by
  unfold linkFieldsIn
  try dsimp only
  with_reducible repeat' (first
    | (intro _; try dsimp only) | assumption | apply evolves_setCasPort | apply evolves_resend | apply evolves_pumpPort
    | (simp only [evolves_mk_iff]; apply evolvesTo_self) | apply evolves_ite | refine evolves_snd (by assumption) ?_ | split)

theorem evolves_stomp (p : Nat) (f : Flit) (s : State) (hev : Evolves s0 s) :
    Evolves s0 (stomp p f s) := by
  unfold stomp
  try dsimp only
  with_reducible repeat' (first
    | (intro _; try dsimp only) | assumption | apply evolves_rinc | apply evolves_transmit | apply evolves_ite
    | apply evolves_foldl | split)

theorem evolves_flitIn (p : Nat) (t : Nat) (f : Flit) (s : State) (hev : Evolves s0 s) :
    Evolves s0 (flitIn p t f s).1 := by
  unfold flitIn
  try dsimp only
  with_reducible repeat' (first
    | assumption | apply evolves_stomp | apply evolves_rinc | apply evolves_raiseErr | apply evolves_setCasPort
    | apply evolves_sendNak | apply evolves_linkFieldsIn | (simp only [evolves_mk_iff]; apply evolvesTo_self) | apply evolves_ite
    | split)

theorem evolves_acceptFlit (p : Nat) (f : Flit) (s : State) (hev : Evolves s0 s) :
    Evolves s0 (acceptFlit p f s).1 := by
  unfold acceptFlit
  try dsimp only
  with_reducible repeat' (first
    | (intro _; try dsimp only) | assumption | apply evolves_sendNak | apply evolves_rinc | apply evolves_setCasPort
    | apply evolves_sendAck | apply evolves_raiseErr | apply evolves_staleErr | (simp only [evolves_mk_iff]; apply evolvesTo_self)
    | apply evolves_ite | split)

theorem evolves_forwardFlit (p : Nat) (f : Flit) (payload : List Byte) (s : State) (hev : Evolves s0 s) :
    Evolves s0 (forwardFlit p f payload s) := by
  unfold forwardFlit
  try dsimp only
  with_reducible repeat' (first
    | assumption | apply evolves_sendAck | apply evolves_pumpAll | apply evolves_queueItem | apply evolves_takeUid
    | apply evolves_ite | split)

theorem evolves_putOpen (o : CasOpen) (s : State) (hev : Evolves s0 s) :
    Evolves s0 (putOpen o s) := by
  unfold putOpen
  try dsimp only
  with_reducible repeat' (first | (intro _; try dsimp only) | assumption | (simp only [evolves_mk_iff]; apply evolvesTo_self))

theorem evolves_dropOpen (src : Nat) (cls : Nat) (s : State) (hev : Evolves s0 s) :
    Evolves s0 (dropOpen src cls s) := by
  unfold dropOpen
  try dsimp only
  with_reducible repeat' (first | (intro _; try dsimp only) | assumption | (simp only [evolves_mk_iff]; apply evolvesTo_self))

theorem evolves_picDrop (s : State) (hev : Evolves s0 s) :
    Evolves s0 (picDrop s) := by
  unfold picDrop
  try dsimp only
  with_reducible repeat' (first | assumption | apply evolves_rinc)

theorem evolves_openIncomplete (o : CasOpen) (s : State) (hev : Evolves s0 s) :
    Evolves s0 (openIncomplete o s) := by
  unfold openIncomplete
  try dsimp only
  with_reducible repeat' (first
    | (intro _; try dsimp only) | assumption | apply evolves_psDiscard | apply evolves_rinc | apply evolves_picDrop
    | apply evolves_raiseErr | apply evolves_ite | split)

theorem evolves_picWhole (o : CasOpen) (layer : Nat) (addr : Nat) (s : State) (hev : Evolves s0 s) :
    Evolves s0 (picWhole o layer addr s) := by
  unfold picWhole
  try dsimp only
  with_reducible repeat' (first
    | (intro _; try dsimp only) | assumption | apply evolves_picDrop | apply evolves_cmpSubmit | apply evolves_raiseInt
    | apply evolves_rinc | (simp only [evolves_mk_iff]; apply evolvesTo_self) | apply evolves_ite | split)

theorem evolves_picTooBig (o : CasOpen) (s : State) (hev : Evolves s0 s) :
    Evolves s0 (picTooBig o s) := by
  unfold picTooBig
  try dsimp only
  with_reducible repeat' (first | assumption | apply evolves_picDrop | apply evolves_raiseErr)

theorem evolves_picOpen (o : CasOpen) (s : State) (hev : Evolves s0 s) :
    Evolves s0 (picOpen o s).2 := by
  unfold picOpen
  try dsimp only
  with_reducible repeat' (first
    | (intro _; try dsimp only) | assumption | apply evolves_picDrop | apply evolves_picTooBig | apply evolves_memWrite
    | (simp only [evolves_mk_iff]; apply evolvesTo_self) | apply evolves_ite | split)

theorem evolves_picBytes (o : CasOpen) (b : List Byte) (s : State) (hev : Evolves s0 s) :
    Evolves s0 (picBytes o b s).2 := by
  unfold picBytes
  try dsimp only
  with_reducible repeat' (first
    | (intro _; try dsimp only) | assumption | apply evolves_picTooBig | apply evolves_memWrite
    | (simp only [evolves_mk_iff]; apply evolvesTo_self) | apply evolves_ite | split)

theorem evolves_picEnd (o : CasOpen) (s : State) (hev : Evolves s0 s) :
    Evolves s0 (picEnd o s) := by
  unfold picEnd
  try dsimp only
  with_reducible repeat' (first
    | (intro _; try dsimp only) | assumption | apply evolves_dropOpen | apply evolves_picWhole | apply evolves_openIncomplete
    | (simp only [evolves_mk_iff]; apply evolvesTo_self) | apply evolves_ite | split)

theorem evolves_msgWhole (o : CasOpen) (s : State) (hev : Evolves s0 s) :
    Evolves s0 (msgWhole o s) := by
  unfold msgWhole
  try dsimp only
  with_reducible repeat' (first
    | (intro _; try dsimp only) | assumption | apply evolves_psDiscard | apply evolves_rinc | apply evolves_raiseErr
    | apply evolves_psEnd | apply evolves_memWrite | apply evolves_sourceVector | apply evolves_raiseInt | apply evolves_rset
    | (simp only [evolves_mk_iff]; apply evolvesTo_self) | apply evolves_ite | split)

theorem evolves_reassemble (f : Flit) (s : State) (hev : Evolves s0 s) :
    Evolves s0 (reassemble f s) := by
  unfold reassemble
  try dsimp only
  with_reducible repeat' (first
    | (intro _; try dsimp only) | assumption | apply evolves_openIncomplete | apply evolves_picOpen | apply evolves_picBytes
    | apply evolves_picEnd | apply evolves_putOpen | apply evolves_psBegin | apply evolves_msgWhole | apply evolves_dropOpen
    | (simp only [evolves_mk_iff]; apply evolvesTo_self) | apply evolves_ite | refine evolves_snd (by assumption) ?_ | split)

/-! ### CasCmds -/

theorem evolves_execIdle (port : Fin 4) (flit : Flit) (s : State) (hev : Evolves s0 s) :
    ∃ t, execIdle port flit s = .next t ∧ Evolves s0 t := by
  unfold execIdle
  try dsimp only
  refine ⟨_, rfl, ?_⟩
  with_reducible repeat' (first | assumption | apply evolves_flitIn)

theorem evolves_execDiscover (port : Fin 4) (flit : Flit) (s : State) (hev : Evolves s0 s) :
    ∃ t, execDiscover port flit s = .next t ∧ Evolves s0 t := by
  unfold execDiscover
  try dsimp only
  refine ⟨_, rfl, ?_⟩
  with_reducible repeat' (first
    | assumption | apply evolves_flitIn | apply evolves_rsetBit | apply evolves_rsetFld | apply evolves_elect
    | (simp only [evolves_mk_iff]; apply evolvesTo_self) | apply evolves_ite | refine evolves_snd (by assumption) ?_ | split)

theorem evolves_execDiscoverSend (port : Fin 4) (s : State) (hev : Evolves s0 s) :
    ∃ t, execDiscoverSend port s = .next t ∧ Evolves s0 t := by
  unfold execDiscoverSend
  try dsimp only
  refine ⟨_, rfl, ?_⟩
  with_reducible repeat' (first | assumption | apply evolves_discover | apply evolves_ite | split)

theorem evolves_execIsolated (s : State) (hev : Evolves s0 s) :
    ∃ t, execIsolated s = .next t ∧ Evolves s0 t := by
  unfold execIsolated
  try dsimp only
  refine ⟨_, rfl, ?_⟩
  with_reducible repeat' (first
    | assumption | apply evolves_raiseErr | apply evolves_rset | apply evolves_setDevState | apply evolves_treeChanged
    | apply evolves_crown | apply evolves_merUnsync | apply evolves_uncrown | (simp only [evolves_mk_iff]; apply evolvesTo_self)
    | apply evolves_ite | split)

theorem evolves_execAnnounce (port : Fin 4) (flit : Flit) (s : State) (hev : Evolves s0 s) :
    ∃ t, execAnnounce port flit s = .next t ∧ Evolves s0 t := by
  unfold execAnnounce
  try dsimp only
  refine ⟨_, rfl, ?_⟩
  with_reducible repeat' (first
    | assumption | apply evolves_flitIn | apply evolves_setCasPort | apply evolves_maxtStep | apply evolves_elect
    | (simp only [evolves_mk_iff]; apply evolvesTo_self) | apply evolves_ite | refine evolves_snd (by assumption) ?_ | split)

theorem evolves_execAnnounceSend (port : Fin 4) (s : State) (hev : Evolves s0 s) :
    ∃ t, execAnnounceSend port s = .next t ∧ Evolves s0 t := by
  unfold execAnnounceSend
  try dsimp only
  refine ⟨_, rfl, ?_⟩
  with_reducible repeat' (first | assumption | apply evolves_announce | apply evolves_ite | split)

theorem evolves_execLodestarDrop (s : State) (hev : Evolves s0 s) :
    ∃ t, execLodestarDrop s = .next t ∧ Evolves s0 t := by
  unfold execLodestarDrop
  try dsimp only
  refine ⟨_, rfl, ?_⟩
  with_reducible repeat' (first
    | (intro _; try dsimp only) | assumption | apply evolves_elect | apply evolves_merHoldover
    | (simp only [evolves_mk_iff]; apply evolvesTo_self) | apply evolves_ite | split)

theorem evolves_execTopo (port : Fin 4) (flit : Flit) (change : Bool) (s : State) (hev : Evolves s0 s) :
    ∃ t, execTopo port flit change s = .next t ∧ Evolves s0 t := by
  unfold execTopo
  try dsimp only
  refine ⟨_, rfl, ?_⟩
  with_reducible repeat' (first
    | (intro _; try dsimp only) | assumption | exact Evolves.refl _ | apply evolves_flitIn | apply evolves_acceptFlit
    | apply evolves_forwardFlit | (simp only [evolves_mk_iff]; apply evolvesTo_self) | apply evolves_ite | apply evolves_foldl
    | apply evolves_foldl_snd | apply evolves_foldl_snd2 | refine evolves_snd (by assumption) ?_
    | refine evolves_fst (by assumption) ?_ | refine evolves_snd2 (by assumption) ?_ | split)

theorem evolves_execTopoSend (s : State) (hev : Evolves s0 s) :
    ∃ t, execTopoSend s = .next t ∧ Evolves s0 t := by
  unfold execTopoSend
  try dsimp only
  refine ⟨_, rfl, ?_⟩
  with_reducible repeat' (first | assumption | apply evolves_sendTopo | apply evolves_ite | split)

theorem evolves_execSync (port : Fin 4) (flit : Flit) (s : State) (hev : Evolves s0 s) :
    ∃ t, execSync port flit s = .next t ∧ Evolves s0 t := by
  unfold execSync
  try dsimp only
  refine ⟨_, rfl, ?_⟩
  with_reducible repeat' (first
    | (intro _; try dsimp only) | assumption | exact Evolves.refl _ | apply evolves_flitIn | apply evolves_acceptFlit
    | apply evolves_sendAck | apply evolves_forwardFlit | apply evolves_followTheta
    | (simp only [evolves_mk_iff]; apply evolvesTo_self) | apply evolves_ite | apply evolves_foldl | apply evolves_foldl_snd
    | apply evolves_foldl_snd2 | refine evolves_snd (by assumption) ?_ | refine evolves_fst (by assumption) ?_
    | refine evolves_snd2 (by assumption) ?_ | split)

theorem evolves_execSyncSend (s : State) (hev : Evolves s0 s) :
    ∃ t, execSyncSend s = .next t ∧ Evolves s0 t := by
  unfold execSyncSend
  try dsimp only
  refine ⟨_, rfl, ?_⟩
  with_reducible repeat' (first
    | (intro _; try dsimp only) | assumption | apply evolves_pumpPort | apply evolves_queueItem | apply evolves_takeUid
    | (simp only [evolves_mk_iff]; apply evolvesTo_self) | apply evolves_ite | apply evolves_foldl | split)

theorem evolves_execPdelayReq (port : Fin 4) (flit : Flit) (tag : BitVec 16) (s : State) (hev : Evolves s0 s) :
    ∃ t, execPdelayReq port flit tag s = .next t ∧ Evolves s0 t := by
  unfold execPdelayReq
  try dsimp only
  refine ⟨_, rfl, ?_⟩
  with_reducible repeat' (first
    | assumption | apply evolves_flitIn | apply evolves_draw | apply evolves_linkFields | apply evolves_ite
    | refine evolves_snd (by assumption) ?_ | split)

theorem evolves_execPdelayReqSend (port : Fin 4) (s : State) (hev : Evolves s0 s) :
    ∃ t, execPdelayReqSend port s = .next t ∧ Evolves s0 t := by
  unfold execPdelayReqSend
  try dsimp only
  refine ⟨_, rfl, ?_⟩
  with_reducible repeat' (first
    | assumption | apply evolves_linkFields | apply evolves_setCasPort | (simp only [evolves_mk_iff]; apply evolvesTo_self)
    | apply evolves_ite | split)

theorem evolves_execPdelayResp (port : Fin 4) (flit : Flit) (tag : BitVec 16) (turn : BitVec 64) (s : State) (hev : Evolves s0 s) :
    ∃ t, execPdelayResp port flit tag turn s = .next t ∧ Evolves s0 t := by
  unfold execPdelayResp
  try dsimp only
  refine ⟨_, rfl, ?_⟩
  with_reducible repeat' (first
    | (intro _; try dsimp only) | assumption | apply evolves_flitIn | apply evolves_rset2 | apply evolves_setCasPort
    | (simp only [evolves_mk_iff]; apply evolvesTo_self) | apply evolves_ite | apply evolves_foldl
    | refine evolves_snd (by assumption) ?_ | split)

theorem evolves_casSubstStart (p : Nat) (logical : Nat) (s : State) (hev : Evolves s0 s) :
    Evolves s0 (casSubstStart p logical s) := by
  unfold casSubstStart
  try dsimp only
  with_reducible repeat' (first
    | assumption | apply evolves_linkFields | apply evolves_setCasPort | (simp only [evolves_mk_iff]; apply evolvesTo_self)
    | apply evolves_ite | split)

theorem evolves_mirrorStops (p : Nat) (logical : Nat) (start : Nat) (s : State) (hev : Evolves s0 s) :
    Evolves s0 (mirrorStops p logical start s) := by
  unfold mirrorStops
  try dsimp only
  with_reducible repeat' (first
    | (intro _; try dsimp only) | assumption | apply evolves_spareFailed | apply evolves_setCasPort
    | (simp only [evolves_mk_iff]; apply evolvesTo_self) | apply evolves_ite | split)

theorem evolves_execLanemap (port : Fin 4) (flit : Flit) (action : Bool) (lane : Fin 4) (start : BitVec 32) (s : State) (hev : Evolves s0 s) :
    ∃ t, execLanemap port flit action lane start s = .next t ∧ Evolves s0 t := by
  unfold execLanemap
  try dsimp only
  refine ⟨_, rfl, ?_⟩
  with_reducible repeat' (first
    | (intro _; try dsimp only) | assumption | apply evolves_flitIn | apply evolves_setSpareOf | apply evolves_setCasPort
    | apply evolves_mirrorStops | (simp only [evolves_mk_iff]; apply evolvesTo_self) | apply evolves_ite
    | refine evolves_snd (by assumption) ?_ | split)

theorem evolves_spareAlign (p : Nat) (count : Nat) (clean : Bool) (s : State) (hev : Evolves s0 s) :
    Evolves s0 (spareAlign p count clean s) := by
  unfold spareAlign
  try dsimp only
  with_reducible repeat' (first
    | (intro _; try dsimp only) | assumption | apply evolves_setCasPort | apply evolves_lanSpareResult | apply evolves_linkFields
    | (simp only [evolves_mk_iff]; apply evolvesTo_self) | apply evolves_ite | split)

theorem evolves_casBack (p : Nat) (count : Nat) (s : State) (hev : Evolves s0 s) :
    Evolves s0 (casBack p count s) := by
  unfold casBack
  try dsimp only
  with_reducible repeat' (first
    | (intro _; try dsimp only) | assumption | apply evolves_spareReturned | apply evolves_setCasPort
    | (simp only [evolves_mk_iff]; apply evolvesTo_self) | apply evolves_ite | split)

theorem evolves_alignSend (p : Nat) (s : State) (hev : Evolves s0 s) :
    Evolves s0 (alignSend p s) := by
  unfold alignSend
  try dsimp only
  with_reducible repeat' (first
    | assumption | apply evolves_linkFlit | apply evolves_setCasPort | (simp only [evolves_mk_iff]; apply evolvesTo_self))

theorem evolves_execAlign (port : Fin 4) (flit : Flit) (skew : Nat) (spareClean : Bool) (s : State) (hev : Evolves s0 s) :
    ∃ t, execAlign port flit skew spareClean s = .next t ∧ Evolves s0 t := by
  unfold execAlign
  try dsimp only
  refine ⟨_, rfl, ?_⟩
  with_reducible repeat' (first
    | assumption | apply evolves_flitIn | apply evolves_casBack | apply evolves_spareAlign | apply evolves_setCasPort
    | (simp only [evolves_mk_iff]; apply evolvesTo_self) | apply evolves_ite | split)

theorem evolves_execPic (port : Fin 4) (flit : Flit) (s : State) (hev : Evolves s0 s) :
    ∃ t, execPic port flit s = .next t ∧ Evolves s0 t := by
  unfold execPic
  try dsimp only
  refine ⟨_, rfl, ?_⟩
  with_reducible repeat' (first
    | (intro _; try dsimp only) | assumption | exact Evolves.refl _ | apply evolves_flitIn | apply evolves_acceptFlit
    | apply evolves_forwardFlit | apply evolves_reassemble | (simp only [evolves_mk_iff]; apply evolvesTo_self)
    | apply evolves_ite | apply evolves_foldl | apply evolves_foldl_snd | apply evolves_foldl_snd2
    | refine evolves_snd (by assumption) ?_ | refine evolves_fst (by assumption) ?_ | refine evolves_snd2 (by assumption) ?_
    | split)

theorem evolves_execMsg (port : Fin 4) (flit : Flit) (s : State) (hev : Evolves s0 s) :
    ∃ t, execMsg port flit s = .next t ∧ Evolves s0 t := by
  unfold execMsg
  try dsimp only
  refine ⟨_, rfl, ?_⟩
  with_reducible repeat' (first
    | (intro _; try dsimp only) | assumption | exact Evolves.refl _ | apply evolves_flitIn | apply evolves_acceptFlit
    | apply evolves_forwardFlit | apply evolves_reassemble | (simp only [evolves_mk_iff]; apply evolvesTo_self)
    | apply evolves_ite | apply evolves_foldl | apply evolves_foldl_snd | apply evolves_foldl_snd2
    | refine evolves_snd (by assumption) ?_ | refine evolves_fst (by assumption) ?_ | refine evolves_snd2 (by assumption) ?_
    | split)

theorem evolves_execPicSend (stream : Fin 8) (s : State) (hev : Evolves s0 s) :
    ∃ t, execPicSend stream s = .next t ∧ Evolves s0 t := by
  unfold execPicSend
  try dsimp only
  refine ⟨_, rfl, ?_⟩
  with_reducible repeat' (first
    | (intro _; try dsimp only) | assumption | apply evolves_memSee | apply evolves_rset | apply evolves_sendMessage
    | apply evolves_ite | split)

theorem evolves_takeEntries (y0 : Nat) (y1 : State) (hev : Evolves s0 y1) :
    Evolves s0 (takeEntries y0 y1) := by
  induction y0 generalizing y1
  all_goals
    unfold takeEntries
    try dsimp only
    with_reducible repeat' (first
      | assumption | apply evolves_sendMessage | apply evolves_psBegin | apply_assumption
      | (simp only [evolves_mk_iff]; apply evolvesTo_self) | apply evolves_ite | split)

theorem evolves_execMsgSend (who : Requester) (value : Word) (s : State) (hev : Evolves s0 s) :
    ∃ t, execMsgSend who value s = .next t ∧ Evolves s0 t := by
  unfold execMsgSend
  try dsimp only
  refine ⟨_, rfl, ?_⟩
  with_reducible repeat' (first | assumption | apply evolves_writeReg | apply evolves_takeEntries | apply evolves_ite | split)

theorem evolves_execRetryTimeout (port : Fin 4) (s : State) (hev : Evolves s0 s) :
    ∃ t, execRetryTimeout port s = .next t ∧ Evolves s0 t := by
  unfold execRetryTimeout
  try dsimp only
  refine ⟨_, rfl, ?_⟩
  with_reducible repeat' (first | assumption | apply evolves_resend | apply evolves_ite | split)

theorem evolves_execQuarantineExpiry (s : State) (hev : Evolves s0 s) :
    ∃ t, execQuarantineExpiry s = .next t ∧ Evolves s0 t := by
  unfold execQuarantineExpiry
  try dsimp only
  refine ⟨_, rfl, ?_⟩
  with_reducible repeat' (first | assumption | apply evolves_sendWaiting | apply evolves_ite | split)

theorem evolves_execTaiSet (who : Requester) (value : Word) (s : State) (hev : Evolves s0 s) :
    ∃ t, execTaiSet who value s = .next t ∧ Evolves s0 t := by
  unfold execTaiSet
  try dsimp only
  refine ⟨_, rfl, ?_⟩
  with_reducible repeat' (first
    | assumption | apply evolves_writeReg | apply evolves_announceChanges | apply evolves_applyReference
    | (simp only [evolves_mk_iff]; apply evolvesTo_self) | apply evolves_ite | split)

theorem evolves_execPpsIn (s : State) (hev : Evolves s0 s) :
    ∃ t, execPpsIn s = .next t ∧ Evolves s0 t := by
  unfold execPpsIn
  try dsimp only
  refine ⟨_, rfl, ?_⟩
  with_reducible repeat' (first
    | assumption | apply evolves_raiseInt | apply evolves_rinc | apply evolves_rsetBit | apply evolves_rsetLong
    | apply evolves_announceChanges | apply evolves_applyReference | (simp only [evolves_mk_iff]; apply evolvesTo_self)
    | apply evolves_ite | split)

theorem evolves_electWritten (oldId : Nat) (s : State) (hev : Evolves s0 s) :
    Evolves s0 (electWritten oldId s) := by
  unfold electWritten
  try dsimp only
  with_reducible repeat' (first
    | assumption | apply evolves_elect | (simp only [evolves_mk_iff]; apply evolvesTo_self) | apply evolves_ite | split)

end Sys2Proof.Laws
end

