-- ==== Sys2Proof/Laws/EvolvesPlatform.lean ====
section
/-! SUPPORT. `Evolves` for the flash, the Log book and the lanes: each operation keeps what the state it starts from has kept. -/

namespace Sys2Proof.Laws

open Sys2Proof.Machine Sys2Proof.Safety

set_option linter.all false

variable {s0 : State}

/-! ### Flash -/

theorem evolves_setPlt (v : PltState) (s : State) (hev : Evolves s0 s) :
    Evolves s0 (setPlt v s) := by
  unfold setPlt
  try dsimp only
  with_reducible repeat' (first | assumption | (simp only [evolves_mk_iff]; apply evolvesTo_self))

theorem evolves_flashPut (a : Nat) (b : Byte) (s : State) (hev : Evolves s0 s) :
    Evolves s0 (flashPut a b s) := by
  unfold flashPut
  try dsimp only
  with_reducible repeat' (first | assumption | apply evolves_setPlt | (simp only [evolves_mk_iff]; apply evolvesTo_self))

theorem evolves_flashProgram (a : Nat) (y0 : List Byte) (y1 : State) (hev : Evolves s0 y1) :
    Evolves s0 (flashProgram a y0 y1) := by
  induction y0 generalizing a y1
  all_goals
    unfold flashProgram
    try dsimp only
    with_reducible repeat' (first | assumption | apply evolves_flashPut | apply_assumption)

theorem evolves_flashErase (a : Nat) (n : Nat) (s : State) (hev : Evolves s0 s) :
    Evolves s0 (flashErase a n s) := by
  unfold flashErase
  try dsimp only
  with_reducible repeat' (first
    | (intro _; try dsimp only) | assumption | apply evolves_setPlt | (simp only [evolves_mk_iff]; apply evolvesTo_self))

theorem evolves_flashSpoil (a : Nat) (n : Nat) (s : State) (hev : Evolves s0 s) :
    Evolves s0 (flashSpoil a n s) := by
  unfold flashSpoil
  try dsimp only
  with_reducible repeat' (first
    | (intro _; try dsimp only) | assumption | apply evolves_draw | apply evolves_flashPut | apply evolves_foldl)

theorem evolves_loadBuffer (bs : List Byte) (s : State) (hev : Evolves s0 s) :
    Evolves s0 (loadBuffer bs s) := by
  unfold loadBuffer
  try dsimp only
  with_reducible repeat' (first | (intro _; try dsimp only) | assumption | apply evolves_rset | apply evolves_foldl)

theorem evolves_flashGo (who : Requester) (s : State) (hev : Evolves s0 s) :
    Evolves s0 (flashGo who s) := by
  unfold flashGo
  try dsimp only
  with_reducible repeat' (first
    | assumption | apply evolves_raiseErr | apply evolves_rsetFld | apply evolves_setPlt
    | (simp only [evolves_mk_iff]; apply evolvesTo_self) | apply evolves_ite | split)

theorem evolves_flashCommand (who : Requester) (value : Word) (s : State) (hev : Evolves s0 s) :
    Evolves s0 (flashCommand who value s) := by
  unfold flashCommand
  try dsimp only
  with_reducible repeat' (first | assumption | apply evolves_writeReg | apply evolves_flashGo | apply evolves_ite | split)

theorem evolves_execFlashRead (who : Requester) (value : Word) (s : State) (hev : Evolves s0 s) :
    ∃ t, execFlashRead who value s = .next t ∧ Evolves s0 t := by
  unfold execFlashRead
  try dsimp only
  refine ⟨_, rfl, ?_⟩
  with_reducible repeat' (first | assumption | apply evolves_flashCommand)

theorem evolves_execFlashProgram (who : Requester) (value : Word) (s : State) (hev : Evolves s0 s) :
    ∃ t, execFlashProgram who value s = .next t ∧ Evolves s0 t := by
  unfold execFlashProgram
  try dsimp only
  refine ⟨_, rfl, ?_⟩
  with_reducible repeat' (first | assumption | apply evolves_flashCommand)

theorem evolves_execFlashErase (who : Requester) (value : Word) (s : State) (hev : Evolves s0 s) :
    ∃ t, execFlashErase who value s = .next t ∧ Evolves s0 t := by
  unfold execFlashErase
  try dsimp only
  refine ⟨_, rfl, ?_⟩
  with_reducible repeat' (first | assumption | apply evolves_flashCommand)

theorem evolves_flashEffect (o : FlashOp) (ok : Bool) (s : State) (hev : Evolves s0 s) :
    Evolves s0 (flashEffect o ok s) := by
  unfold flashEffect
  try dsimp only
  with_reducible repeat' (first
    | assumption | apply evolves_loadBuffer | apply evolves_draw | apply evolves_flashSpoil | apply evolves_flashProgram
    | apply evolves_flashErase | apply evolves_ite | split)

theorem evolves_execFlashDone (ok : Bool) (s : State) (hev : Evolves s0 s) :
    ∃ t, execFlashDone ok s = .next t ∧ Evolves s0 t := by
  unfold execFlashDone
  try dsimp only
  refine ⟨_, rfl, ?_⟩
  with_reducible repeat' (first
    | (intro _; try dsimp only) | assumption | apply evolves_flashEffect | apply evolves_setPlt | apply evolves_rsetFld
    | apply evolves_raiseInt | apply evolves_raiseErr | (simp only [evolves_mk_iff]; apply evolvesTo_self) | apply evolves_ite
    | split)

theorem evolves_bootBusy (b : Bool) (s : State) (hev : Evolves s0 s) :
    Evolves s0 (bootBusy b s) := by
  unfold bootBusy
  try dsimp only
  with_reducible repeat' (first | assumption | apply evolves_rsetBit)

theorem evolves_bootChange (f : BootRec → BootRec) (s : State) (hev : Evolves s0 s) :
    Evolves s0 (bootChange f s) := by
  unfold bootChange
  try dsimp only
  with_reducible repeat' (first
    | assumption | apply evolves_bootBusy | apply evolves_setPlt | (simp only [evolves_mk_iff]; apply evolvesTo_self))

theorem evolves_bootWrite (r : BootRec) (s : State) (hev : Evolves s0 s) :
    Evolves s0 (bootWrite r s) := by
  unfold bootWrite
  try dsimp only
  with_reducible repeat' (first
    | (intro _; try dsimp only) | assumption | apply evolves_flashProgram | apply evolves_flashErase
    | (simp only [evolves_mk_iff]; apply evolvesTo_self) | split)

theorem evolves_execFwSlotWrite (who : Requester) (value : Word) (s : State) (hev : Evolves s0 s) :
    ∃ t, execFwSlotWrite who value s = .next t ∧ Evolves s0 t := by
  unfold execFwSlotWrite
  try dsimp only
  refine ⟨_, rfl, ?_⟩
  with_reducible repeat' (first
    | (intro _; try dsimp only) | assumption | apply evolves_writeReg | apply evolves_bootChange
    | (simp only [evolves_mk_iff]; apply evolvesTo_self) | apply evolves_ite | split)

theorem evolves_execSettingsSlotWrite (who : Requester) (value : Word) (s : State) (hev : Evolves s0 s) :
    ∃ t, execSettingsSlotWrite who value s = .next t ∧ Evolves s0 t := by
  unfold execSettingsSlotWrite
  try dsimp only
  refine ⟨_, rfl, ?_⟩
  with_reducible repeat' (first
    | (intro _; try dsimp only) | assumption | apply evolves_writeReg | apply evolves_bootChange
    | (simp only [evolves_mk_iff]; apply evolvesTo_self) | apply evolves_ite | split)

theorem evolves_execBootRecordWritten (s : State) (hev : Evolves s0 s) :
    ∃ t, execBootRecordWritten s = .next t ∧ Evolves s0 t := by
  unfold execBootRecordWritten
  try dsimp only
  refine ⟨_, rfl, ?_⟩
  with_reducible repeat' (first
    | (intro _; try dsimp only) | assumption | apply evolves_bootWrite | apply evolves_setPlt | apply evolves_rsetFld
    | apply evolves_raiseInt | apply evolves_bootBusy | (simp only [evolves_mk_iff]; apply evolvesTo_self) | apply evolves_ite
    | split)

/-! ### LogBook -/

theorem evolves_setHead (sector : Nat) (slot : Nat) (s : State) (hev : Evolves s0 s) :
    Evolves s0 (setHead sector slot s) := by
  unfold setHead
  try dsimp only
  with_reducible repeat' (first | assumption | apply evolves_rset)

theorem evolves_recordPut (e : LogEvent) (s : State) (hev : Evolves s0 s) :
    Evolves s0 (recordPut e s) := by
  unfold recordPut
  try dsimp only
  with_reducible repeat' (first
    | assumption | apply evolves_rset | apply evolves_setHead | apply evolves_flashProgram | apply evolves_setPlt
    | (simp only [evolves_mk_iff]; apply evolvesTo_self))

theorem evolves_openSector (s : State) (hev : Evolves s0 s) :
    Evolves s0 (openSector s) := by
  unfold openSector
  try dsimp only
  with_reducible repeat' (first
    | (intro _; try dsimp only) | assumption | apply evolves_setHead | apply evolves_flashProgram | apply evolves_flashErase
    | apply evolves_recordPut | apply evolves_foldl)

theorem evolves_headReady (y0 : Nat) (y1 : State) (hev : Evolves s0 y1) :
    Evolves s0 (headReady y0 y1) := by
  induction y0 generalizing y1
  all_goals
    unfold headReady
    try dsimp only
    with_reducible repeat' (first
      | assumption | apply evolves_openSector | apply evolves_setHead | apply_assumption | apply evolves_ite | split)

theorem evolves_showLogQueue (s : State) (hev : Evolves s0 s) :
    Evolves s0 (showLogQueue s) := by
  unfold showLogQueue
  try dsimp only
  with_reducible repeat' (first | assumption | apply evolves_rsetFld)

theorem evolves_lostJoins (s : State) (hev : Evolves s0 s) :
    Evolves s0 (lostJoins s) := by
  unfold lostJoins
  try dsimp only
  with_reducible repeat' (first
    | (intro _; try dsimp only) | assumption | apply evolves_raiseErr | (simp only [evolves_mk_iff]; apply evolvesTo_self)
    | apply evolves_ite | split)

theorem evolves_logCommit (s : State) (hev : Evolves s0 s) :
    Evolves s0 (logCommit s) := by
  unfold logCommit
  try dsimp only
  with_reducible repeat' (first
    | (intro _; try dsimp only) | assumption | apply evolves_recordPut | apply evolves_headReady | apply evolves_setPlt
    | apply evolves_raiseInt | apply evolves_showLogQueue | apply evolves_lostJoins
    | (simp only [evolves_mk_iff]; apply evolvesTo_self) | split)

theorem evolves_execLogRecordWrite (ok : Bool) (s : State) (hev : Evolves s0 s) :
    ∃ t, execLogRecordWrite ok s = .next t ∧ Evolves s0 t := by
  unfold execLogRecordWrite
  try dsimp only
  refine ⟨_, rfl, ?_⟩
  with_reducible repeat' (first
    | assumption | apply evolves_logCommit | apply evolves_headReady | apply evolves_raiseErr | apply evolves_setHead
    | apply evolves_flashSpoil | apply evolves_ite | split)

theorem evolves_markDrop (kind : Nat) (unit : Nat) (s : State) (hev : Evolves s0 s) :
    Evolves s0 (markDrop kind unit s) := by
  unfold markDrop
  try dsimp only
  with_reducible repeat' (first
    | (intro _; try dsimp only) | assumption | apply evolves_setPlt | (simp only [evolves_mk_iff]; apply evolvesTo_self))

theorem evolves_sramNoSpare (m : Nat) (s : State) (hev : Evolves s0 s) :
    Evolves s0 (sramNoSpare m s) := by
  unfold sramNoSpare
  try dsimp only
  with_reducible repeat' (first
    | assumption | apply evolves_raiseErr | apply evolves_setPlt | (simp only [evolves_mk_iff]; apply evolvesTo_self)
    | apply evolves_ite | split)

theorem evolves_sramRepair (m : Nat) (row : Nat) (s : State) (hev : Evolves s0 s) :
    Evolves s0 (sramRepair m row s) := by
  unfold sramRepair
  try dsimp only
  with_reducible repeat' (first
    | assumption | apply evolves_sramNoSpare | apply evolves_logEvent | apply evolves_setPlt
    | (simp only [evolves_mk_iff]; apply evolvesTo_self) | apply evolves_ite | split)

theorem evolves_execSramCorrectedError (sram : Nat) (row : Nat) (s : State) (hev : Evolves s0 s) :
    ∃ t, execSramCorrectedError sram row s = .next t ∧ Evolves s0 t := by
  unfold execSramCorrectedError
  try dsimp only
  refine ⟨_, rfl, ?_⟩
  with_reducible repeat' (first
    | (intro _; try dsimp only) | assumption | apply evolves_sramRepair | apply evolves_setPlt
    | (simp only [evolves_mk_iff]; apply evolvesTo_self) | apply evolves_ite | split)

/-! ### Lan -/

theorem evolves_laneWake (p : Nat) (i : Nat) (s : State) (hev : Evolves s0 s) :
    Evolves s0 (laneWake p i s) := by
  unfold laneWake
  try dsimp only
  with_reducible repeat' (first | assumption | apply evolves_setLane | apply evolves_ite | split)

theorem evolves_lanEnablePort (p : Nat) (port : Nat) (s : State) (hev : Evolves s0 s) :
    Evolves s0 (lanEnablePort p port s) := by
  unfold lanEnablePort
  try dsimp only
  with_reducible repeat' (first | (intro _; try dsimp only) | assumption | apply evolves_laneWake | apply evolves_foldl)

theorem evolves_sendTraining (p : Nat) (i : Nat) (s : State) (hev : Evolves s0 s) :
    Evolves s0 (sendTraining p i s) := by
  unfold sendTraining
  try dsimp only
  with_reducible repeat' (first
    | assumption | apply evolves_emit | apply evolves_setLanLane | (simp only [evolves_mk_iff]; apply evolvesTo_self)
    | apply evolves_ite | refine evolves_snd (by assumption) ?_ | split)

theorem evolves_lanAdapt (p : Nat) (i : Nat) (s : State) (hev : Evolves s0 s) :
    Evolves s0 (lanAdapt p i s) := by
  unfold lanAdapt
  try dsimp only
  with_reducible repeat' (first | assumption | apply evolves_draw | apply evolves_rsetFld)

theorem evolves_releaseStart (p : Nat) (k : Nat) (s : State) (hev : Evolves s0 s) :
    Evolves s0 (releaseStart p k s) := by
  unfold releaseStart
  try dsimp only
  with_reducible repeat' (first
    | assumption | apply evolves_sendBridge | apply evolves_setSiu | apply evolves_linkFields | apply evolves_setCasPort
    | apply evolves_spareReturned | (simp only [evolves_mk_iff]; apply evolvesTo_self) | apply evolves_ite | split)

theorem evolves_laneUp (p : Nat) (i : Nat) (s : State) (hev : Evolves s0 s) :
    Evolves s0 (laneUp p i s) := by
  unfold laneUp
  try dsimp only
  with_reducible repeat' (first
    | (intro _; try dsimp only) | assumption | apply evolves_leaveRelease | apply evolves_setLane | apply evolves_releaseStart
    | apply evolves_tlkLinkUp | apply evolves_substEnd | apply evolves_setPortState | apply evolves_casLinkUp
    | (simp only [evolves_mk_iff]; apply evolvesTo_self) | apply evolves_ite | split)

theorem evolves_siuLinkLost (p : Nat) (mask : Nat) (s : State) (hev : Evolves s0 s) :
    Evolves s0 (siuLinkLost p mask s) := by
  unfold siuLinkLost
  try dsimp only
  with_reducible repeat' (first
    | (intro _; try dsimp only) | assumption | apply evolves_spareReturned | apply evolves_rsetFld | apply evolves_setPortState
    | apply evolves_setSiu | apply evolves_siuErr | apply evolves_closeFrame | (simp only [evolves_mk_iff]; apply evolvesTo_self)
    | apply evolves_ite | split)

theorem evolves_ownerLoses (p : Nat) (i : Nat) (s : State) (hev : Evolves s0 s) :
    Evolves s0 (ownerLoses p i s) := by
  unfold ownerLoses
  try dsimp only
  with_reducible repeat' (first
    | assumption | apply evolves_siuLinkLost | apply evolves_substAbandon | apply evolves_tlkLinkDown | apply evolves_casLeave
    | apply evolves_ite | split)

theorem evolves_laneDown (p : Nat) (i : Nat) (s : State) (hev : Evolves s0 s) :
    Evolves s0 (laneDown p i s) := by
  unfold laneDown
  try dsimp only
  with_reducible repeat' (first
    | assumption | apply evolves_setLane | apply evolves_ownerLoses | apply evolves_laneWake | apply evolves_ite | split)

theorem evolves_substStart (p : Nat) (k : Nat) (i : Nat) (s : State) (hev : Evolves s0 s) :
    Evolves s0 (substStart p k i s) := by
  unfold substStart
  try dsimp only
  with_reducible repeat' (first
    | assumption | apply evolves_siuSubstStart | apply evolves_setSpareOf | apply evolves_casSubstStart | apply evolves_laneWake
    | apply evolves_emit | apply evolves_tlkLinkDown | apply evolves_ite | split)

theorem evolves_autoSubst (p : Nat) (i : Nat) (s : State) (hev : Evolves s0 s) :
    Evolves s0 (autoSubst p i s) := by
  unfold autoSubst
  try dsimp only
  with_reducible repeat' (first
    | (intro _; try dsimp only) | assumption | apply evolves_substStart | apply evolves_raiseErr | apply evolves_setLanLane
    | (simp only [evolves_mk_iff]; apply evolvesTo_self) | apply evolves_ite | split)

theorem evolves_execSignalDetect (page : Fin 5) (lane : Fin 20) (s : State) (hev : Evolves s0 s) :
    ∃ t, execSignalDetect page lane s = .next t ∧ Evolves s0 t := by
  unfold execSignalDetect
  try dsimp only
  refine ⟨_, rfl, ?_⟩
  with_reducible repeat' (first
    | assumption | apply evolves_setLane | apply evolves_sendTraining | apply evolves_tlkTraining | apply evolves_ite | split)

theorem evolves_orderHold (p : Nat) (port : Nat) (s : State) (hev : Evolves s0 s) :
    Evolves s0 (orderHold p port s) := by
  unfold orderHold
  try dsimp only
  with_reducible repeat' (first
    | (intro _; try dsimp only) | assumption | apply evolves_setLane | apply evolves_setLanLane
    | (simp only [evolves_mk_iff]; apply evolvesTo_self) | apply evolves_ite | apply evolves_foldl | split)

theorem evolves_blockTaken (p : Nat) (i : Nat) (negated : Bool) (block : List Byte) (s : State) (hev : Evolves s0 s) :
    Evolves s0 (blockTaken p i negated block s) := by
  unfold blockTaken
  try dsimp only
  with_reducible repeat' (first
    | (intro _; try dsimp only) | assumption | apply evolves_setLanLane | apply evolves_rsetFld | apply evolves_laneUp
    | apply evolves_lanAdapt | apply evolves_rsetBit | apply evolves_setLane | apply evolves_raiseErr | apply evolves_orderHold
    | (simp only [evolves_mk_iff]; apply evolvesTo_self) | apply evolves_ite | apply evolves_foldl
    | refine evolves_snd (by assumption) ?_ | split)

theorem evolves_execTrainingBlock (page : Fin 3) (lane : Fin 18) (before : Int) (levels : List Int) (s : State) (hev : Evolves s0 s) :
    ∃ t, execTrainingBlock page lane before levels s = .next t ∧ Evolves s0 t := by
  unfold execTrainingBlock
  try dsimp only
  refine ⟨_, rfl, ?_⟩
  with_reducible repeat' (first
    | (intro _; try dsimp only) | assumption | apply evolves_sendTraining | apply evolves_blockTaken | apply evolves_ite | split)

theorem evolves_execTrainTimeout (page : Fin 3) (lane : Fin 18) (s : State) (hev : Evolves s0 s) :
    ∃ t, execTrainTimeout page lane s = .next t ∧ Evolves s0 t := by
  unfold execTrainTimeout
  try dsimp only
  refine ⟨_, rfl, ?_⟩
  with_reducible repeat' (first
    | assumption | apply evolves_setLane | apply evolves_sendTraining | apply evolves_raiseErr | apply evolves_setLanLane
    | (simp only [evolves_mk_iff]; apply evolvesTo_self) | apply evolves_ite | split)

theorem evolves_fomUp (p : Nat) (i : Nat) (fom : Nat) (s : State) (hev : Evolves s0 s) :
    Evolves s0 (fomUp p i fom s) := by
  unfold fomUp
  try dsimp only
  with_reducible repeat' (first
    | assumption | apply evolves_raiseInt | apply evolves_raiseErr | apply evolves_setLanLane | apply evolves_emit
    | apply evolves_laneDown | apply evolves_autoSubst | (simp only [evolves_mk_iff]; apply evolvesTo_self) | apply evolves_ite
    | split)

theorem evolves_fomWindow (p : Nat) (i : Nat) (v : Nat) (s : State) (hev : Evolves s0 s) :
    Evolves s0 (fomWindow p i v s) := by
  unfold fomWindow
  try dsimp only
  with_reducible repeat' (first
    | assumption | apply evolves_setLanLane | apply evolves_rset | apply evolves_sendTraining | apply evolves_setLane
    | apply evolves_laneUp | apply evolves_fomUp | apply evolves_lanAdapt | apply evolves_leaveRequest
    | (simp only [evolves_mk_iff]; apply evolvesTo_self) | apply evolves_ite | split)

theorem evolves_execFomWindow (page : Fin 5) (lane : Fin 20) (sums : Option (Nat × Nat)) (s : State) (hev : Evolves s0 s) :
    ∃ t, execFomWindow page lane sums s = .next t ∧ Evolves s0 t := by
  unfold execFomWindow
  try dsimp only
  refine ⟨_, rfl, ?_⟩
  with_reducible repeat' (first | assumption | apply evolves_fomWindow)

theorem evolves_sweepRun (s : State) (hev : Evolves s0 s) :
    Evolves s0 (sweepRun s) := by
  unfold sweepRun
  try dsimp only
  with_reducible repeat' (first
    | (intro _; try dsimp only) | assumption | apply evolves_setLane | apply evolves_ite | apply evolves_foldl | split)

theorem evolves_execLinkLoss (page : Fin 5) (lane : Fin 20) (s : State) (hev : Evolves s0 s) :
    ∃ t, execLinkLoss page lane s = .next t ∧ Evolves s0 t := by
  unfold execLinkLoss
  try dsimp only
  refine ⟨_, rfl, ?_⟩
  with_reducible repeat' (first | assumption | apply evolves_laneDown | apply evolves_ite | split)

theorem evolves_execTileSpareCheckTimeout (spare : Fin 2) (s : State) (hev : Evolves s0 s) :
    ∃ t, execTileSpareCheckTimeout spare s = .next t ∧ Evolves s0 t := by
  unfold execTileSpareCheckTimeout
  try dsimp only
  refine ⟨_, rfl, ?_⟩
  with_reducible repeat' (first
    | assumption | apply evolves_spareFailed | apply evolves_emit | apply evolves_setLane | apply evolves_laneWake
    | apply evolves_ite | split)

theorem evolves_execLanForce (who : Requester) (page : Fin 3) (value : Word) (s : State) (hev : Evolves s0 s) :
    ∃ t, execLanForce who page value s = .next t ∧ Evolves s0 t := by
  unfold execLanForce
  try dsimp only
  refine ⟨_, rfl, ?_⟩
  with_reducible repeat' (first
    | (intro _; try dsimp only) | assumption | apply evolves_writeReg | apply evolves_raiseErr | apply evolves_substStart
    | (simp only [evolves_mk_iff]; apply evolvesTo_self) | apply evolves_ite | split)

theorem evolves_execLanRelease (who : Requester) (page : Fin 3) (value : Word) (s : State) (hev : Evolves s0 s) :
    ∃ t, execLanRelease who page value s = .next t ∧ Evolves s0 t := by
  unfold execLanRelease
  try dsimp only
  refine ⟨_, rfl, ?_⟩
  with_reducible repeat' (first
    | (intro _; try dsimp only) | assumption | apply evolves_writeReg | apply evolves_raiseErr | apply evolves_setLane
    | apply evolves_rsetBit | apply evolves_markDrop | apply evolves_laneWake | apply evolves_emit | apply evolves_tlkLinkDown
    | (simp only [evolves_mk_iff]; apply evolvesTo_self) | apply evolves_ite | split)

theorem evolves_execRetiredClear (who : Requester) (page : Fin 5) (value : Word) (s : State) (hev : Evolves s0 s) :
    ∃ t, execRetiredClear who page value s = .next t ∧ Evolves s0 t := by
  unfold execRetiredClear
  try dsimp only
  refine ⟨_, rfl, ?_⟩
  with_reducible repeat' (first
    | (intro _; try dsimp only) | assumption | apply evolves_writeReg | apply evolves_setLane | apply evolves_markDrop
    | apply evolves_laneWake | (simp only [evolves_mk_iff]; apply evolvesTo_self) | apply evolves_ite | apply evolves_foldl
    | split)

theorem evolves_execRetrain (who : Requester) (port : Fin 4) (value : Word) (s : State) (hev : Evolves s0 s) :
    ∃ t, execRetrain who port value s = .next t ∧ Evolves s0 t := by
  unfold execRetrain
  try dsimp only
  refine ⟨_, rfl, ?_⟩
  with_reducible repeat' (first
    | (intro _; try dsimp only) | assumption | apply evolves_writeReg | apply evolves_electWritten | apply evolves_casLeave
    | apply evolves_lanEnablePort | apply evolves_setLane | apply evolves_ite | apply evolves_foldl | split)

theorem evolves_casPortStart (p : Nat) (s : State) (hev : Evolves s0 s) :
    Evolves s0 (casPortStart p s) := by
  unfold casPortStart
  try dsimp only
  with_reducible repeat' (first
    | assumption | apply evolves_lanEnablePort | apply evolves_setCasState | apply evolves_casLinkUp | apply evolves_ite | split)

theorem evolves_casStart (s : State) (hev : Evolves s0 s) :
    Evolves s0 (casStart s) := by
  unfold casStart
  try dsimp only
  with_reducible repeat' (first
    | (intro _; try dsimp only) | assumption | apply evolves_sendTopo | apply evolves_casPortStart | apply evolves_foldl)

end Sys2Proof.Laws
end

