-- ==== Sys2Proof/Laws/EvolvesCoder.lean ====
section
/-! SUPPORT. `Evolves` for the coder and the two-wire buses: each operation keeps what the state it starts from has kept. -/

namespace Sys2Proof.Laws

open Sys2Proof.Machine Sys2Proof.Safety

set_option linter.all false

variable {s0 : State}

/-! ### Cod -/

theorem evolves_setCod (v : CodState) (s : State) (hev : Evolves s0 s) :
    Evolves s0 (setCod v s) := by
  unfold setCod
  try dsimp only
  with_reducible repeat' (first | assumption | (simp only [evolves_mk_iff]; apply evolvesTo_self))

theorem evolves_putCtx (k : Nat) (c : CodCtx) (s : State) (hev : Evolves s0 s) :
    Evolves s0 (putCtx k c s) := by
  unfold putCtx
  try dsimp only
  with_reducible repeat' (first | assumption | apply evolves_setCod | (simp only [evolves_mk_iff]; apply evolvesTo_self))

theorem evolves_newSequence (k : Nat) (s : State) (hev : Evolves s0 s) :
    Evolves s0 (newSequence k s) := by
  unfold newSequence
  try dsimp only
  with_reducible repeat' (first | assumption | apply evolves_putCtx | (simp only [evolves_mk_iff]; apply evolvesTo_self))

theorem evolves_codRestart (k : Nat) (s : State) (hev : Evolves s0 s) :
    Evolves s0 (codRestart k s) := by
  unfold codRestart
  try dsimp only
  with_reducible repeat' (first | assumption | apply evolves_raiseInt | apply evolves_rincFld | apply evolves_newSequence)

theorem evolves_codCommit (k : Nat) (s : State) (hev : Evolves s0 s) :
    Evolves s0 (codCommit k s) := by
  unfold codCommit
  try dsimp only
  with_reducible repeat' (first
    | (intro _; try dsimp only) | assumption | apply evolves_commitFail | apply evolves_commitApply | apply evolves_newSequence
    | (simp only [evolves_mk_iff]; apply evolvesTo_self) | apply evolves_ite | split)

theorem evolves_freeDone (p cnt : Nat) (l : List (Nat × Bool)) (s : State) (h : Evolves s0 s) :
    Evolves s0 (freeDone p cnt l s).2 := by
  induction l generalizing s with
  | nil => exact h
  | cons e l ih =>
    obtain ⟨b, d⟩ := e
    cases d
    · exact h
    · exact ih _ (evolves_rsetFld _ _ _ _ _ h)

theorem evolves_codFree (k : Nat) (s : State) (hev : Evolves s0 s) :
    Evolves s0 (codFree k s) := by
  unfold codFree
  try dsimp only
  with_reducible repeat' (first
    | assumption | apply evolves_freeDone | apply evolves_putCtx | (simp only [evolves_mk_iff]; apply evolvesTo_self)
    | refine evolves_snd (by assumption) ?_ | split)

theorem evolves_codTake (k : Nat) (coded : Bool) (s : State) (hev : Evolves s0 s) :
    Evolves s0 (codTake k coded s) := by
  unfold codTake
  try dsimp only
  with_reducible repeat' (first | assumption | apply evolves_putCtx | (simp only [evolves_mk_iff]; apply evolvesTo_self))

theorem evolves_codForm (k : Nat) (y0 : Nat) (y1 : State) (hev : Evolves s0 y1) :
    Evolves s0 (codForm k y0 y1) := by
  induction y0 generalizing k y1
  all_goals
    unfold codForm
    try dsimp only
    with_reducible repeat' (first
      | (intro _; try dsimp only) | assumption | apply evolves_memSee | apply evolves_codFree | apply evolves_codTake
      | apply evolves_raiseErr | apply evolves_codRestart | apply evolves_putCtx | apply_assumption
      | (simp only [evolves_mk_iff]; apply evolvesTo_self) | apply evolves_ite | apply evolves_foldl
      | refine evolves_snd (by assumption) ?_ | split)

theorem evolves_engState (st : Nat) (ctx : Nat) (s : State) (hev : Evolves s0 s) :
    Evolves s0 (engState st ctx s) := by
  unfold engState
  try dsimp only
  with_reducible repeat' (first | assumption | apply evolves_rset | apply evolves_raiseInt | apply evolves_ite | split)

theorem evolves_codBegin (k : Nat) (s : State) (hev : Evolves s0 s) :
    Evolves s0 (codBegin k s) := by
  unfold codBegin
  try dsimp only
  with_reducible repeat' (first
    | (intro _; try dsimp only) | assumption | apply evolves_putCtx | apply evolves_rinc | apply evolves_rsetBit
    | apply evolves_engState | apply evolves_draw | apply evolves_setCod | (simp only [evolves_mk_iff]; apply evolvesTo_self)
    | apply evolves_ite | split)

theorem evolves_codStart (s : State) (hev : Evolves s0 s) :
    Evolves s0 (codStart s) := by
  unfold codStart
  try dsimp only
  with_reducible repeat' (first
    | (intro _; try dsimp only) | assumption | apply evolves_codForm | apply evolves_codBegin | apply evolves_codCommit
    | (simp only [evolves_mk_iff]; apply evolvesTo_self) | apply evolves_ite | apply evolves_foldl | split)

theorem evolves_codRowReads (k : Nat) (it : CodItem) (r : Nat) (s : State) (hev : Evolves s0 s) :
    Evolves s0 (codRowReads k it r s) := by
  unfold codRowReads
  try dsimp only
  with_reducible repeat' (first
    | (intro _; try dsimp only) | assumption | apply evolves_memSee | apply evolves_ite | apply evolves_foldl | split)

theorem evolves_codRow (refPoison : Bool) (s : State) (hev : Evolves s0 s) :
    Evolves s0 (codRow refPoison s) := by
  unfold codRow
  try dsimp only
  with_reducible repeat' (first
    | (intro _; try dsimp only) | assumption | apply evolves_engState | apply evolves_rincFld | apply evolves_setCod
    | apply evolves_codRowReads | apply evolves_raiseErr | apply evolves_draw | (simp only [evolves_mk_iff]; apply evolvesTo_self)
    | apply evolves_ite | split)

theorem evolves_codStallEnd (s : State) (hev : Evolves s0 s) :
    Evolves s0 (codStallEnd s) := by
  unfold codStallEnd
  try dsimp only
  with_reducible repeat' (first
    | (intro _; try dsimp only) | assumption | apply evolves_raiseErr | apply evolves_setCod | apply evolves_putCtx
    | apply evolves_codRestart | apply evolves_codFree | apply evolves_rsetBit | apply evolves_engState
    | (simp only [evolves_mk_iff]; apply evolvesTo_self) | apply evolves_ite | split)

theorem evolves_codDone (s : State) (hev : Evolves s0 s) :
    Evolves s0 (codDone s) := by
  unfold codDone
  try dsimp only
  with_reducible repeat' (first
    | (intro _; try dsimp only) | assumption | apply evolves_draw | apply evolves_ringWrite | apply evolves_rset
    | apply evolves_rinc | apply evolves_rincFld | apply evolves_raiseInt | apply evolves_raiseErr | apply evolves_codFree
    | apply evolves_putCtx | apply evolves_setCod | apply evolves_sourceVector | apply evolves_rsetBit | apply evolves_engState
    | (simp only [evolves_mk_iff]; apply evolvesTo_self) | apply evolves_ite | split)

theorem evolves_codCtxStart (k : Nat) (s : State) (hev : Evolves s0 s) :
    Evolves s0 (codCtxStart k s) := by
  unfold codCtxStart
  try dsimp only
  with_reducible repeat' (first | assumption | apply evolves_putCtx)

theorem evolves_execCodPictureStart (s : State) (hev : Evolves s0 s) :
    ∃ t, execCodPictureStart s = .next t ∧ Evolves s0 t := by
  unfold execCodPictureStart
  try dsimp only
  refine ⟨_, rfl, ?_⟩
  with_reducible repeat' (first | assumption | apply evolves_codStart)

theorem evolves_execCodRow (refPoison : Bool) (s : State) (hev : Evolves s0 s) :
    ∃ t, execCodRow refPoison s = .next t ∧ Evolves s0 t := by
  unfold execCodRow
  try dsimp only
  refine ⟨_, rfl, ?_⟩
  with_reducible repeat' (first | assumption | apply evolves_codRow)

theorem evolves_execCodPictureDone (s : State) (hev : Evolves s0 s) :
    ∃ t, execCodPictureDone s = .next t ∧ Evolves s0 t := by
  unfold execCodPictureDone
  try dsimp only
  refine ⟨_, rfl, ?_⟩
  with_reducible repeat' (first | assumption | apply evolves_codDone)

theorem evolves_execStallTimeout (s : State) (hev : Evolves s0 s) :
    ∃ t, execStallTimeout s = .next t ∧ Evolves s0 t := by
  unfold execStallTimeout
  try dsimp only
  refine ⟨_, rfl, ?_⟩
  with_reducible repeat' (first | assumption | apply evolves_codStallEnd)

/-! ### Twi -/

theorem evolves_putTwi (p : Nat) (x : TwiBus) (s : State) (hev : Evolves s0 s) :
    Evolves s0 (putTwi p x s) := by
  unfold putTwi
  try dsimp only
  with_reducible repeat' (first | assumption | (simp only [evolves_mk_iff]; apply evolvesTo_self))

theorem evolves_showTgt (p : Nat) (addressed : Bool) (s : State) (hev : Evolves s0 s) :
    Evolves s0 (showTgt p addressed s) := by
  unfold showTgt
  try dsimp only
  with_reducible repeat' (first | assumption | apply evolves_rset)

theorem evolves_twiEnd (p : Nat) (status : Nat) (bytes : Nat) (s : State) (hev : Evolves s0 s) :
    Evolves s0 (twiEnd p status bytes s) := by
  unfold twiEnd
  try dsimp only
  with_reducible repeat' (first
    | assumption | apply evolves_raiseInt | apply evolves_rset | apply evolves_putTwi
    | (simp only [evolves_mk_iff]; apply evolvesTo_self))

theorem evolves_putTwiData (p i : Nat) (bs : List Byte) (s : State) (h : Evolves s0 s) : Evolves s0 (putTwiData p i bs s) := by
  induction bs generalizing i s with
  | nil => exact h
  | cons b bs ih => exact ih _ _ (evolves_rsetFld _ _ _ _ _ h)

theorem evolves_twiBegin (p : Nat) (sdaLow : Bool) (freed : Bool) (s : State) (hev : Evolves s0 s) :
    Evolves s0 (twiBegin p sdaLow freed s) := by
  unfold twiBegin
  try dsimp only
  with_reducible repeat' (first
    | assumption | apply evolves_putTwi | apply evolves_emit | apply evolves_rinc | apply evolves_twiEnd | apply evolves_raiseErr
    | (simp only [evolves_mk_iff]; apply evolvesTo_self) | apply evolves_ite | split)

theorem evolves_twiGo (p : Nat) (value : Word) (sdaLow : Bool) (freed : Bool) (s : State) (hev : Evolves s0 s) :
    Evolves s0 (twiGo p value sdaLow freed s) := by
  unfold twiGo
  try dsimp only
  with_reducible repeat' (first
    | assumption | apply evolves_raiseErr | apply evolves_putTwi | apply evolves_twiEnd | apply evolves_rset
    | apply evolves_twiBegin | (simp only [evolves_mk_iff]; apply evolvesTo_self) | apply evolves_ite | split)

theorem evolves_twiRetryOr (p : Nat) (gap : Nat) (last : State → State) (s : State) (hlast : ∀ (z0 : State), Evolves s0 z0 → Evolves s0 (last z0)) (hev : Evolves s0 s) :
    Evolves s0 (twiRetryOr p gap last s) := by
  unfold twiRetryOr
  try dsimp only
  with_reducible repeat' (first
    | (intro _; try dsimp only) | assumption | apply evolves_putTwi | apply hlast
    | (simp only [evolves_mk_iff]; apply evolvesTo_self) | apply evolves_ite | split)

theorem evolves_twiArb (p : Nat) (cause : Nat) (info : Word) (s : State) (hev : Evolves s0 s) :
    Evolves s0 (twiArb p cause info s) := by
  unfold twiArb
  try dsimp only
  with_reducible repeat' (first
    | assumption | apply evolves_twiRetryOr | apply evolves_twiEnd | apply evolves_raiseErr | apply evolves_rinc)

theorem evolves_twiDone (p : Nat) (e : TwiEnd) (s : State) (hev : Evolves s0 s) :
    Evolves s0 (twiDone p e s) := by
  unfold twiDone
  try dsimp only
  with_reducible repeat' (first
    | (intro _; try dsimp only) | assumption | apply evolves_twiEnd | apply evolves_putTwiData | apply evolves_twiRetryOr
    | apply evolves_rsetBit | apply evolves_raiseErr | apply evolves_twiArb | (simp only [evolves_mk_iff]; apply evolvesTo_self)
    | apply evolves_ite | split)

theorem evolves_rxFill (p : Nat) (s : State) (hev : Evolves s0 s) :
    Evolves s0 (rxFill p s) := by
  unfold rxFill
  try dsimp only
  with_reducible repeat' (first | assumption | apply evolves_putTwi | (simp only [evolves_mk_iff]; apply evolvesTo_self))

theorem evolves_txDrain (p : Nat) (y0 : Nat) (y1 : State) (hev : Evolves s0 y1) :
    Evolves s0 (txDrain p y0 y1) := by
  induction y0 generalizing p y1
  all_goals
    unfold txDrain
    try dsimp only
    with_reducible repeat' (first
      | (intro _; try dsimp only) | assumption | apply evolves_emit | apply evolves_putTwi | apply_assumption
      | (simp only [evolves_mk_iff]; apply evolvesTo_self) | apply evolves_ite | split)

theorem evolves_tgtService (p : Nat) (s : State) (hev : Evolves s0 s) :
    Evolves s0 (tgtService p s) := by
  unfold tgtService
  try dsimp only
  with_reducible repeat' (first | assumption | apply evolves_raiseInt | apply evolves_ite | split)

theorem evolves_tgtAddressed (p : Nat) (bytes : List Byte) (count : Nat) (s : State) (hev : Evolves s0 s) :
    Evolves s0 (tgtAddressed p bytes count s) := by
  unfold tgtAddressed
  try dsimp only
  with_reducible repeat' (first
    | assumption | apply evolves_putTwi | apply evolves_tgtService | apply evolves_showTgt | apply evolves_txDrain
    | apply evolves_rxFill | (simp only [evolves_mk_iff]; apply evolvesTo_self) | apply evolves_ite | split)

theorem evolves_tgtExpiry (p : Nat) (s : State) (hev : Evolves s0 s) :
    Evolves s0 (tgtExpiry p s) := by
  unfold tgtExpiry
  try dsimp only
  with_reducible repeat' (first
    | assumption | apply evolves_raiseErr | apply evolves_rinc | apply evolves_putTwi | apply evolves_emit
    | (simp only [evolves_mk_iff]; apply evolvesTo_self) | apply evolves_ite | split)

theorem evolves_execTwiGo (who : Requester) (bus : Fin 4) (value : Word) (sdaLow : Bool) (freed : Bool) (s : State) (hev : Evolves s0 s) :
    ∃ t, execTwiGo who bus value sdaLow freed s = .next t ∧ Evolves s0 t := by
  unfold execTwiGo
  try dsimp only
  refine ⟨_, rfl, ?_⟩
  with_reducible repeat' (first | assumption | apply evolves_writeReg | apply evolves_twiGo | apply evolves_ite | split)

theorem evolves_execTwiTransferDone (bus : Fin 4) (result : TwiEnd) (s : State) (hev : Evolves s0 s) :
    ∃ t, execTwiTransferDone bus result s = .next t ∧ Evolves s0 t := by
  unfold execTwiTransferDone
  try dsimp only
  refine ⟨_, rfl, ?_⟩
  with_reducible repeat' (first | assumption | apply evolves_twiDone)

theorem evolves_execTwiRetry (bus : Fin 4) (s : State) (hev : Evolves s0 s) :
    ∃ t, execTwiRetry bus s = .next t ∧ Evolves s0 t := by
  unfold execTwiRetry
  try dsimp only
  refine ⟨_, rfl, ?_⟩
  with_reducible repeat' (first
    | assumption | apply evolves_emit | apply evolves_rinc | apply evolves_putTwi
    | (simp only [evolves_mk_iff]; apply evolvesTo_self) | apply evolves_ite | split)

theorem evolves_execStretchTimeout (bus : Fin 4) (s : State) (hev : Evolves s0 s) :
    ∃ t, execStretchTimeout bus s = .next t ∧ Evolves s0 t := by
  unfold execStretchTimeout
  try dsimp only
  refine ⟨_, rfl, ?_⟩
  with_reducible repeat' (first | assumption | apply evolves_twiEnd | apply evolves_raiseErr | apply evolves_ite | split)

theorem evolves_execBusStuck (bus : Fin 4) (scl : Bool) (sda : Bool) (s : State) (hev : Evolves s0 s) :
    ∃ t, execBusStuck bus scl sda s = .next t ∧ Evolves s0 t := by
  unfold execBusStuck
  try dsimp only
  refine ⟨_, rfl, ?_⟩
  with_reducible repeat' (first
    | assumption | apply evolves_raiseErr | apply evolves_putTwi | apply evolves_twiEnd
    | (simp only [evolves_mk_iff]; apply evolvesTo_self) | apply evolves_ite | split)

theorem evolves_execTargetAddressed (bus : Fin 4) (bytes : List Byte) (count : Nat) (s : State) (hev : Evolves s0 s) :
    ∃ t, execTargetAddressed bus bytes count s = .next t ∧ Evolves s0 t := by
  unfold execTargetAddressed
  try dsimp only
  refine ⟨_, rfl, ?_⟩
  with_reducible repeat' (first | assumption | apply evolves_tgtAddressed)

theorem evolves_execTgtStretchExpiry (bus : Fin 4) (s : State) (hev : Evolves s0 s) :
    ∃ t, execTgtStretchExpiry bus s = .next t ∧ Evolves s0 t := by
  unfold execTgtStretchExpiry
  try dsimp only
  refine ⟨_, rfl, ?_⟩
  with_reducible repeat' (first | assumption | apply evolves_showTgt | apply evolves_tgtExpiry)

theorem evolves_execTgtTxPush (who : Requester) (bus : Fin 4) (value : Word) (s : State) (hev : Evolves s0 s) :
    ∃ t, execTgtTxPush who bus value s = .next t ∧ Evolves s0 t := by
  unfold execTgtTxPush
  try dsimp only
  refine ⟨_, rfl, ?_⟩
  with_reducible repeat' (first
    | assumption | apply evolves_writeReg | apply evolves_showTgt | apply evolves_txDrain | apply evolves_putTwi
    | (simp only [evolves_mk_iff]; apply evolvesTo_self) | apply evolves_ite | split)

theorem evolves_execTgtRxPop (who : Requester) (bus : Fin 4) (s : State) (hev : Evolves s0 s) :
    ∃ t, execTgtRxPop who bus s = .next t ∧ Evolves s0 t := by
  unfold execTgtRxPop
  try dsimp only
  refine ⟨_, rfl, ?_⟩
  with_reducible repeat' (first
    | (intro _; try dsimp only) | assumption | apply evolves_readOut | apply evolves_showTgt | apply evolves_rxFill
    | apply evolves_putTwi | (simp only [evolves_mk_iff]; apply evolvesTo_self) | apply evolves_ite | split)

theorem evolves_execBusFree (bus : Fin 4) (sdaLow : Bool) (freed : Bool) (s : State) (hev : Evolves s0 s) :
    ∃ t, execBusFree bus sdaLow freed s = .next t ∧ Evolves s0 t := by
  unfold execBusFree
  try dsimp only
  refine ⟨_, rfl, ?_⟩
  with_reducible repeat' (first
    | assumption | apply evolves_showTgt | apply evolves_putTwi | apply evolves_twiBegin
    | (simp only [evolves_mk_iff]; apply evolvesTo_self) | apply evolves_ite | split)

end Sys2Proof.Laws
end

