-- ==== Sys2Proof/Laws/EvolvesRecorder.lean ====
section
/-! SUPPORT. `Evolves` for the recorder and its host queues: each operation keeps what the state it starts from has kept. -/

namespace Sys2Proof.Laws

open Sys2Proof.Machine Sys2Proof.Safety

set_option linter.all false

variable {s0 : State}

/-! ### RecMedia -/

theorem evolves_setMediaPort (p : Nat) (v : Nat) (s : State) (hev : Evolves s0 s) :
    Evolves s0 (setMediaPort p v s) := by
  unfold setMediaPort
  try dsimp only
  with_reducible repeat' (first | assumption | apply evolves_rsetFld | apply evolves_ite | split)

theorem evolves_setNvme (v : Nvme) (s : State) (hev : Evolves s0 s) :
    Evolves s0 (setNvme v s) := by
  unfold setNvme
  try dsimp only
  with_reducible repeat' (first | assumption | apply evolves_setRec | (simp only [evolves_mk_iff]; apply evolvesTo_self))

theorem evolves_nvmeInterrupt (vector : Nat) (admin : Bool) (s : State) (hev : Evolves s0 s) :
    Evolves s0 (nvmeInterrupt vector admin s) := by
  unfold nvmeInterrupt
  try dsimp only
  with_reducible repeat' (first
    | assumption | apply evolves_emit | apply evolves_setNvme | (simp only [evolves_mk_iff]; apply evolvesTo_self)
    | apply evolves_ite | split)

theorem evolves_putCq (q : NvmeCq) (s : State) (hev : Evolves s0 s) :
    Evolves s0 (putCq q s) := by
  unfold putCq
  try dsimp only
  with_reducible repeat' (first
    | (intro _; try dsimp only) | assumption | apply evolves_setNvme | (simp only [evolves_mk_iff]; apply evolvesTo_self)
    | apply evolves_ite | split)

theorem evolves_putSq (q : NvmeSq) (s : State) (hev : Evolves s0 s) :
    Evolves s0 (putSq q s) := by
  unfold putSq
  try dsimp only
  with_reducible repeat' (first
    | (intro _; try dsimp only) | assumption | apply evolves_setNvme | (simp only [evolves_mk_iff]; apply evolvesTo_self)
    | apply evolves_ite | split)

theorem evolves_cqFlush (y0 : Nat) (y1 : NvmeCq) (y2 : State) (hev : Evolves s0 y2) :
    Evolves s0 (cqFlush y0 y1 y2) := by
  induction y0 generalizing y1 y2
  all_goals
    unfold cqFlush
    try dsimp only
    with_reducible repeat' (first
      | (intro _; try dsimp only) | assumption | apply evolves_putCq | apply evolves_psEnd | apply evolves_memWrite
      | apply evolves_nvmeInterrupt | apply_assumption | (simp only [evolves_mk_iff]; apply evolvesTo_self) | apply evolves_ite
      | split)

theorem evolves_nvmeComplete (sq : Nat) (cid : Nat) (status : Nat) (dw0 : Nat) (s : State) (hev : Evolves s0 s) :
    Evolves s0 (nvmeComplete sq cid status dw0 s) := by
  unfold nvmeComplete
  try dsimp only
  with_reducible repeat' (first
    | (intro _; try dsimp only) | assumption | apply evolves_setNvme | apply evolves_cqFlush
    | (simp only [evolves_mk_iff]; apply evolvesTo_self) | apply evolves_ite | split)

theorem evolves_eventPump (y0 : Nat) (y1 : State) (hev : Evolves s0 y1) :
    Evolves s0 (eventPump y0 y1) := by
  induction y0 generalizing y1
  all_goals
    unfold eventPump
    try dsimp only
    with_reducible repeat' (first
      | (intro _; try dsimp only) | assumption | apply evolves_nvmeComplete | apply evolves_setNvme | apply_assumption
      | (simp only [evolves_mk_iff]; apply evolvesTo_self) | apply evolves_ite | split)

theorem evolves_nvmeEvent (type : Nat) (info : Nat) (s : State) (hev : Evolves s0 s) :
    Evolves s0 (nvmeEvent type info s) := by
  unfold nvmeEvent
  try dsimp only
  with_reducible repeat' (first
    | assumption | apply evolves_eventPump | apply evolves_setNvme | (simp only [evolves_mk_iff]; apply evolvesTo_self)
    | apply evolves_ite | split)

theorem evolves_smartCheck (s : State) (hev : Evolves s0 s) :
    Evolves s0 (smartCheck s) := by
  unfold smartCheck
  try dsimp only
  with_reducible repeat' (first
    | (intro _; try dsimp only) | assumption | apply evolves_setNvme | apply evolves_nvmeEvent
    | (simp only [evolves_mk_iff]; apply evolvesTo_self) | apply evolves_ite | split)

theorem evolves_setArray (st : Nat) (member : Nat) (s : State) (hev : Evolves s0 s) :
    Evolves s0 (setArray st member s) := by
  unfold setArray
  try dsimp only
  with_reducible repeat' (first
    | (intro _; try dsimp only) | assumption | apply evolves_rset | apply evolves_raiseInt | apply evolves_logEvent
    | apply evolves_rsetBit | apply evolves_smartCheck | apply evolves_nvmeEvent | apply evolves_foldl)

theorem evolves_setPointer (n : Nat) (s : State) (hev : Evolves s0 s) :
    Evolves s0 (setPointer n s) := by
  unfold setPointer
  try dsimp only
  with_reducible repeat' (first
    | assumption | apply evolves_rsetFld | apply evolves_setRec | (simp only [evolves_mk_iff]; apply evolvesTo_self))

theorem evolves_noSpareMedia (m : Nat) (s : State) (hev : Evolves s0 s) :
    Evolves s0 (noSpareMedia m s) := by
  unfold noSpareMedia
  try dsimp only
  with_reducible repeat' (first | assumption | apply evolves_raiseErr)

theorem evolves_copyStart (m : Nat) (s : State) (hev : Evolves s0 s) :
    Evolves s0 (copyStart m s) := by
  unfold copyStart
  try dsimp only
  with_reducible repeat' (first | assumption | apply evolves_leaveRequest | apply evolves_setArray | apply evolves_setPointer)

theorem evolves_rebuildStart (m : Nat) (s : State) (hev : Evolves s0 s) :
    Evolves s0 (rebuildStart m s) := by
  unfold rebuildStart
  try dsimp only
  with_reducible repeat' (first
    | assumption | apply evolves_leaveRequest | apply evolves_setArray | apply evolves_setPointer | apply evolves_noSpareMedia
    | apply evolves_ite | split)

theorem evolves_spareCame (s : State) (hev : Evolves s0 s) :
    Evolves s0 (spareCame s) := by
  unfold spareCame
  try dsimp only
  with_reducible repeat' (first
    | (intro _; try dsimp only) | assumption | apply evolves_rebuildStart | apply evolves_copyStart | apply evolves_setMediaPort
    | (simp only [evolves_mk_iff]; apply evolvesTo_self) | apply evolves_ite | split)

theorem evolves_portFails (p : Nat) (s : State) (hev : Evolves s0 s) :
    Evolves s0 (portFails p s) := by
  unfold portFails
  try dsimp only
  with_reducible repeat' (first
    | (intro _; try dsimp only) | assumption | apply evolves_setMediaPort | apply evolves_raiseErr | apply evolves_noSpareMedia
    | apply evolves_leaveRelease | apply evolves_setArray | apply evolves_setPointer | apply evolves_smartCheck
    | apply evolves_setRec | apply evolves_rebuildStart | (simp only [evolves_mk_iff]; apply evolvesTo_self) | apply evolves_ite
    | split)

theorem evolves_moveEnd (s : State) (hev : Evolves s0 s) :
    Evolves s0 (moveEnd s) := by
  unfold moveEnd
  try dsimp only
  with_reducible repeat' (first
    | assumption | apply evolves_rsetFld | apply evolves_setMediaPort | apply evolves_rsetBit | apply evolves_logEvent
    | apply evolves_setRec | apply evolves_leaveRelease | apply evolves_setArray | apply evolves_setPointer
    | (simp only [evolves_mk_iff]; apply evolvesTo_self) | apply evolves_ite | split)

theorem evolves_issueReads (stripe : Nat) (row : Nat) (y0 : List Nat) (y1 : State) (hev : Evolves s0 y1) :
    Evolves s0 (issueReads stripe row y0 y1).2 := by
  induction y0 generalizing stripe row y1
  all_goals
    unfold issueReads
    try dsimp only
    with_reducible repeat' (first
      | (intro _; try dsimp only) | assumption | apply evolves_emit | apply evolves_setRec | apply_assumption
      | (simp only [evolves_mk_iff]; apply evolvesTo_self) | refine evolves_snd (by assumption) ?_ | split)

theorem evolves_issueWrites (stripe : Nat) (row : Nat) (m : Nat) (data : List Byte) (y0 : List Nat) (y1 : State) (hev : Evolves s0 y1) :
    Evolves s0 (issueWrites stripe row m data y0 y1).2 := by
  induction y0 generalizing stripe row m data y1
  all_goals
    unfold issueWrites
    try dsimp only
    with_reducible repeat' (first
      | assumption | apply evolves_emit | apply evolves_setRec | apply_assumption
      | (simp only [evolves_mk_iff]; apply evolvesTo_self) | refine evolves_snd (by assumption) ?_ | split)

theorem evolves_opWrites (o : RecOp) (s : State) (hev : Evolves s0 s) :
    Evolves s0 (opWrites o s).2 := by
  unfold opWrites
  try dsimp only
  with_reducible repeat' (first
    | (intro _; try dsimp only) | assumption | exact Evolves.refl _ | apply evolves_issueWrites
    | (simp only [evolves_mk_iff]; apply evolvesTo_self) | apply evolves_ite | apply evolves_foldl | apply evolves_foldl_snd
    | apply evolves_foldl_snd2 | refine evolves_snd (by assumption) ?_ | refine evolves_fst (by assumption) ?_
    | refine evolves_snd2 (by assumption) ?_ | split)

/-! ### RecOps -/

theorem evolves_scatterInto (y0 : List (Nat × Nat)) (y1 : List Byte) (y2 : State) (hev : Evolves s0 y2) :
    Evolves s0 (scatterInto y0 y1 y2) := by
  induction y0 generalizing y1 y2
  all_goals
    unfold scatterInto
    try dsimp only
    with_reducible repeat' (first | assumption | apply evolves_memWrite | apply_assumption)

theorem evolves_hostScatter (prp1 : Nat) (prp2 : Nat) (bs : List Byte) (s : State) (hev : Evolves s0 s) :
    Evolves s0 (hostScatter prp1 prp2 bs s) := by
  unfold hostScatter
  try dsimp only
  with_reducible repeat' (first | assumption | apply evolves_scatterInto)

theorem evolves_putCmd (c : NvmeCmd) (s : State) (hev : Evolves s0 s) :
    Evolves s0 (putCmd c s) := by
  unfold putCmd
  try dsimp only
  with_reducible repeat' (first
    | (intro _; try dsimp only) | assumption | apply evolves_setNvme | (simp only [evolves_mk_iff]; apply evolvesTo_self)
    | apply evolves_ite | split)

theorem evolves_dropCmd (id : Nat) (s : State) (hev : Evolves s0 s) :
    Evolves s0 (dropCmd id s) := by
  unfold dropCmd
  try dsimp only
  with_reducible repeat' (first
    | (intro _; try dsimp only) | assumption | apply evolves_setNvme | (simp only [evolves_mk_iff]; apply evolvesTo_self))

theorem evolves_addCmd (c : NvmeCmd) (s : State) (hev : Evolves s0 s) :
    Evolves s0 (addCmd c s) := by
  unfold addCmd
  try dsimp only
  with_reducible repeat' (first | assumption | apply evolves_setNvme | (simp only [evolves_mk_iff]; apply evolvesTo_self))

theorem evolves_writeApply (c : NvmeCmd) (data : List Byte) (s : State) (hev : Evolves s0 s) :
    Evolves s0 (writeApply c data s) := by
  unfold writeApply
  try dsimp only
  with_reducible repeat' (first
    | (intro _; try dsimp only) | assumption | apply evolves_putDirties | apply evolves_nvmeComplete | apply evolves_addCmd
    | (simp only [evolves_mk_iff]; apply evolvesTo_self) | apply evolves_ite | split)

theorem evolves_cmdEnd (c : NvmeCmd) (s : State) (hev : Evolves s0 s) :
    Evolves s0 (cmdEnd c s) := by
  unfold cmdEnd
  try dsimp only
  with_reducible repeat' (first
    | (intro _; try dsimp only) | assumption | apply evolves_dropCmd | apply evolves_nvmeComplete | apply evolves_hostScatter
    | apply evolves_writeApply | (simp only [evolves_mk_iff]; apply evolvesTo_self) | apply evolves_ite | split)

theorem evolves_cmdsPump (y0 : Nat) (y1 : State) (hev : Evolves s0 y1) :
    Evolves s0 (cmdsPump y0 y1) := by
  induction y0 generalizing y1
  all_goals
    unfold cmdsPump
    try dsimp only
    with_reducible repeat' (first
      | (intro _; try dsimp only) | assumption | apply evolves_cmdEnd | apply_assumption
      | (simp only [evolves_mk_iff]; apply evolvesTo_self) | split)

theorem evolves_pumpCmds (s : State) (hev : Evolves s0 s) :
    Evolves s0 (pumpCmds s) := by
  unfold pumpCmds
  try dsimp only
  with_reducible repeat' (first | assumption | apply evolves_cmdsPump)

theorem evolves_replayEnd (s : State) (hev : Evolves s0 s) :
    Evolves s0 (replayEnd s) := by
  unfold replayEnd
  try dsimp only
  with_reducible repeat' (first
    | (intro _; try dsimp only) | assumption | apply evolves_setNvme | (simp only [evolves_mk_iff]; apply evolvesTo_self)
    | apply evolves_ite | split)

theorem evolves_opFails (o : RecOp) (s : State) (hev : Evolves s0 s) :
    Evolves s0 (opFails o s) := by
  unfold opFails
  try dsimp only
  with_reducible repeat' (first
    | (intro _; try dsimp only) | assumption | apply evolves_putCmd | apply evolves_replayEnd
    | (simp only [evolves_mk_iff]; apply evolvesTo_self) | split)

theorem evolves_flushCount (before : Nat) (s : State) (hev : Evolves s0 s) :
    Evolves s0 (flushCount before s) := by
  unfold flushCount
  try dsimp only
  with_reducible repeat' (first | assumption | apply evolves_rset | apply evolves_ite | split)

theorem evolves_opDone (o : RecOp) (s : State) (hev : Evolves s0 s) :
    Evolves s0 (opDone o s) := by
  unfold opDone
  try dsimp only
  with_reducible repeat' (first
    | (intro _; try dsimp only) | assumption | apply evolves_putCmd | apply evolves_showDirty | apply evolves_flushCount
    | apply evolves_setRec | apply evolves_replayEnd | (simp only [evolves_mk_iff]; apply evolvesTo_self) | split)

theorem evolves_opAdvance (y0 : Nat) (y1 : RecOp) (y2 : State) (hev : Evolves s0 y2) :
    Evolves s0 (opAdvance y0 y1 y2) := by
  induction y0 generalizing y1 y2
  all_goals
    unfold opAdvance
    try dsimp only
    with_reducible repeat' (first
      | (intro _; try dsimp only) | assumption | apply evolves_setRec | apply evolves_opFails | apply evolves_issueReads
      | apply evolves_issueWrites | apply evolves_opDone | apply evolves_journalWrite | apply evolves_opWrites | apply_assumption
      | (simp only [evolves_mk_iff]; apply evolvesTo_self) | apply evolves_ite | refine evolves_snd (by assumption) ?_ | split)

theorem evolves_rowNext (stripe : Nat) (row : Nat) (s : State) (hev : Evolves s0 s) :
    Evolves s0 (rowNext stripe row s) := by
  unfold rowNext
  try dsimp only
  with_reducible repeat' (first
    | (intro _; try dsimp only) | assumption | apply evolves_opAdvance | apply evolves_setRec
    | (simp only [evolves_mk_iff]; apply evolvesTo_self) | apply evolves_ite | split)

theorem evolves_opBegin (why : RecWhy) (stripe : Nat) (row : Nat) (unit : Nat) (news : List (Nat × List Byte)) (s : State) (hev : Evolves s0 s) :
    Evolves s0 (opBegin why stripe row unit news s) := by
  unfold opBegin
  try dsimp only
  with_reducible repeat' (first
    | assumption | apply evolves_rowNext | apply evolves_setRec | (simp only [evolves_mk_iff]; apply evolvesTo_self))

theorem evolves_tornReplay (s : State) (hev : Evolves s0 s) :
    Evolves s0 (tornReplay s) := by
  unfold tornReplay
  try dsimp only
  with_reducible repeat' (first
    | (intro _; try dsimp only) | assumption | apply evolves_opBegin | apply evolves_setRec
    | (simp only [evolves_mk_iff]; apply evolvesTo_self) | apply evolves_foldl)

theorem evolves_rowsPump (y0 : Nat) (y1 : State) (hev : Evolves s0 y1) :
    Evolves s0 (rowsPump y0 y1) := by
  induction y0 generalizing y1
  all_goals
    unfold rowsPump
    try dsimp only
    with_reducible repeat' (first
      | (intro _; try dsimp only) | assumption | apply evolves_rowNext | apply_assumption
      | (simp only [evolves_mk_iff]; apply evolvesTo_self) | split)

theorem evolves_pumpRec (s : State) (hev : Evolves s0 s) :
    Evolves s0 (pumpRec s) := by
  unfold pumpRec
  try dsimp only
  with_reducible repeat' (first | assumption | apply evolves_pumpCmds | apply evolves_rowsPump)

theorem evolves_opsLose (p : Nat) (s : State) (hev : Evolves s0 s) :
    Evolves s0 (opsLose p s) := by
  unfold opsLose
  try dsimp only
  with_reducible repeat' (first
    | (intro _; try dsimp only) | assumption | apply evolves_setRec | apply evolves_opAdvance
    | (simp only [evolves_mk_iff]; apply evolvesTo_self) | apply evolves_ite | apply evolves_foldl | split)

theorem evolves_mediaLost (p : Nat) (s : State) (hev : Evolves s0 s) :
    Evolves s0 (mediaLost p s) := by
  unfold mediaLost
  try dsimp only
  with_reducible repeat' (first | assumption | apply evolves_pumpRec | apply evolves_opsLose | apply evolves_portFails)

theorem evolves_drainRow (stripe : Nat) (row : Nat) (ds : List DirtySector) (s : State) (hev : Evolves s0 s) :
    Evolves s0 (drainRow stripe row ds s) := by
  unfold drainRow
  try dsimp only
  with_reducible repeat' (first | (intro _; try dsimp only) | assumption | apply evolves_opBegin)

theorem evolves_poisonDrop (d : DirtySector) (s : State) (hev : Evolves s0 s) :
    Evolves s0 (poisonDrop d s) := by
  unfold poisonDrop
  try dsimp only
  with_reducible repeat' (first
    | (intro _; try dsimp only) | assumption | apply evolves_showDirty | apply evolves_setRec | apply evolves_raiseErr
    | (simp only [evolves_mk_iff]; apply evolvesTo_self))

theorem evolves_drainOnce (s : State) (hev : Evolves s0 s) :
    Evolves s0 (drainOnce s) := by
  unfold drainOnce
  try dsimp only
  with_reducible repeat' (first
    | (intro _; try dsimp only) | assumption | apply evolves_memSee | apply evolves_pumpRec | apply evolves_poisonDrop
    | apply evolves_drainRow | (simp only [evolves_mk_iff]; apply evolvesTo_self) | apply evolves_ite | apply evolves_foldl
    | split)

theorem evolves_writeAdmit (s : State) (hev : Evolves s0 s) :
    Evolves s0 (writeAdmit s) := by
  unfold writeAdmit
  try dsimp only
  with_reducible repeat' (first
    | (intro _; try dsimp only) | assumption | apply evolves_setNvme | apply evolves_pumpRec | apply evolves_writeApply
    | (simp only [evolves_mk_iff]; apply evolvesTo_self) | split)

theorem evolves_holdLimit (e10 : Nat) (s : State) (hev : Evolves s0 s) :
    Evolves s0 (holdLimit e10 s) := by
  unfold holdLimit
  try dsimp only
  with_reducible repeat' (first
    | assumption | apply evolves_rset | apply evolves_raiseInt | apply evolves_smartCheck | apply evolves_raiseErr
    | apply evolves_setRec | (simp only [evolves_mk_iff]; apply evolvesTo_self) | apply evolves_ite | split)

theorem evolves_recFlushBegin (forced : Bool) (s : State) (hev : Evolves s0 s) :
    Evolves s0 (recFlushBegin forced s) := by
  unfold recFlushBegin
  try dsimp only
  with_reducible repeat' (first
    | (intro _; try dsimp only) | assumption | apply evolves_leaveForce | apply evolves_recDrop | apply evolves_setRec
    | apply evolves_leaveEvaluate | apply evolves_leaveRequest | apply evolves_rset | apply evolves_journalNote
    | (simp only [evolves_mk_iff]; apply evolvesTo_self) | apply evolves_ite | apply evolves_foldl | split)

theorem evolves_recFlushEnd (s : State) (hev : Evolves s0 s) :
    Evolves s0 (recFlushEnd s) := by
  unfold recFlushEnd
  try dsimp only
  with_reducible repeat' (first
    | assumption | apply evolves_raiseInt | apply evolves_rset | apply evolves_journalNote | apply evolves_leaveRelease
    | apply evolves_setRec | (simp only [evolves_mk_iff]; apply evolvesTo_self))

theorem evolves_recFlushCut (s : State) (hev : Evolves s0 s) :
    Evolves s0 (recFlushCut s) := by
  unfold recFlushCut
  try dsimp only
  with_reducible repeat' (first
    | assumption | apply evolves_rset | apply evolves_setRec | (simp only [evolves_mk_iff]; apply evolvesTo_self)
    | apply evolves_ite | split)

/-! ### Nvme -/

theorem evolves_arbTake (q : NvmeSq) (cls : Nat) (s : State) (hev : Evolves s0 s) :
    Evolves s0 (arbTake q cls s) := by
  unfold arbTake
  try dsimp only
  with_reducible repeat' (first
    | (intro _; try dsimp only) | assumption | apply evolves_setNvme | (simp only [evolves_mk_iff]; apply evolvesTo_self)
    | apply evolves_ite | split)

theorem evolves_psFetch (q : NvmeSq) (e : Sqe) (s : State) (hev : Evolves s0 s) :
    Evolves s0 (psFetch q e s) := by
  unfold psFetch
  try dsimp only
  with_reducible repeat' (first | assumption | apply evolves_psBegin | apply evolves_ite | split)

theorem evolves_sqTake (q : NvmeSq) (cls : Nat) (k : Nat) (s : State) (hev : Evolves s0 s) :
    Evolves s0 (sqTake q cls k s) := by
  unfold sqTake
  try dsimp only
  with_reducible repeat' (first
    | (intro _; try dsimp only) | assumption | apply evolves_psFetch | apply evolves_putSq | apply evolves_arbTake
    | (simp only [evolves_mk_iff]; apply evolvesTo_self) | apply evolves_foldl)

theorem evolves_rejectBad (y0 : Nat) (y1 : State) (hev : Evolves s0 y1) :
    Evolves s0 (rejectBad y0 y1) := by
  induction y0 generalizing y1
  all_goals
    unfold rejectBad
    try dsimp only
    with_reducible repeat' (first
      | (intro _; try dsimp only) | assumption | apply evolves_nvmeComplete | apply evolves_sqTake | apply_assumption
      | (simp only [evolves_mk_iff]; apply evolvesTo_self) | apply evolves_ite | split)

theorem evolves_rejectAll (s : State) (hev : Evolves s0 s) :
    Evolves s0 (rejectAll s) := by
  unfold rejectAll
  try dsimp only
  with_reducible repeat' (first | assumption | apply evolves_rejectBad)

theorem evolves_nvmeRun (admin : Bool) (op : Nat) (p : State → NvmeSq → Sqe → Bool) (f : NvmeSq → Nat → Sqe → State → State) (s : State) (hf : ∀ (z0 : NvmeSq) (z1 : Nat) (z2 : Sqe) (z3 : State), Evolves s0 z3 → Evolves s0 (f z0 z1 z2 z3)) (hev : Evolves s0 s) :
    Evolves s0 (nvmeRun admin op p f s) := by
  unfold nvmeRun
  try dsimp only
  with_reducible repeat' (first
    | (intro _; try dsimp only) | assumption | apply evolves_rejectAll | apply evolves_pumpRec | apply hf
    | (simp only [evolves_mk_iff]; apply evolvesTo_self) | apply evolves_ite | split)

theorem evolves_nvmeSimple (admin : Bool) (op : Nat) (f : Sqe → State → Nat × Nat × State) (s : State) (hf : ∀ (z0 : Sqe) (z1 : State), Evolves s0 z1 → Evolves s0 (f z0 z1).2.2) (hev : Evolves s0 s) :
    Evolves s0 (nvmeSimple admin op f s) := by
  unfold nvmeSimple
  try dsimp only
  with_reducible repeat' (first
    | (intro _; try dsimp only) | assumption | apply evolves_nvmeRun | apply evolves_sqTake | apply evolves_nvmeComplete
    | apply hf | apply evolves_ite | refine evolves_snd (by assumption) ?_ | split)

/-! ### NvmeCmds -/

theorem evolves_execSqTailDoorbell (queue : Fin 65) (tail : BitVec 16) (s : State) (hev : Evolves s0 s) :
    ∃ t, execSqTailDoorbell queue tail s = .next t ∧ Evolves s0 t := by
  unfold execSqTailDoorbell
  try dsimp only
  refine ⟨_, rfl, ?_⟩
  with_reducible repeat' (first
    | (intro _; try dsimp only) | assumption | apply evolves_rejectAll | apply evolves_putSq
    | (simp only [evolves_mk_iff]; apply evolvesTo_self) | apply evolves_ite | split)

theorem evolves_execCqHeadDoorbell (queue : Fin 65) (head : BitVec 16) (s : State) (hev : Evolves s0 s) :
    ∃ t, execCqHeadDoorbell queue head s = .next t ∧ Evolves s0 t := by
  unfold execCqHeadDoorbell
  try dsimp only
  refine ⟨_, rfl, ?_⟩
  with_reducible repeat' (first
    | (intro _; try dsimp only) | assumption | apply evolves_cqFlush | (simp only [evolves_mk_iff]; apply evolvesTo_self)
    | apply evolves_ite | split)

theorem evolves_controllerClear (s : State) (hev : Evolves s0 s) :
    Evolves s0 (controllerClear s) := by
  unfold controllerClear
  try dsimp only
  with_reducible repeat' (first
    | (intro _; try dsimp only) | assumption | apply evolves_psDiscard | apply evolves_setRec
    | (simp only [evolves_mk_iff]; apply evolvesTo_self))

theorem evolves_execControllerReset (cc : Word) (aqa : Word) (asq : BitVec 64) (acq : BitVec 64) (s : State) (hev : Evolves s0 s) :
    ∃ t, execControllerReset cc aqa asq acq s = .next t ∧ Evolves s0 t := by
  unfold execControllerReset
  try dsimp only
  refine ⟨_, rfl, ?_⟩
  with_reducible repeat' (first
    | (intro _; try dsimp only) | assumption | apply evolves_setNvme | apply evolves_controllerClear
    | (simp only [evolves_mk_iff]; apply evolvesTo_self) | apply evolves_ite | split)

theorem evolves_execInterruptCoalescingExpiry (vector : Fin 65) (s : State) (hev : Evolves s0 s) :
    ∃ t, execInterruptCoalescingExpiry vector s = .next t ∧ Evolves s0 t := by
  unfold execInterruptCoalescingExpiry
  try dsimp only
  refine ⟨_, rfl, ?_⟩
  with_reducible repeat' (first
    | assumption | apply evolves_emit | apply evolves_setNvme | (simp only [evolves_mk_iff]; apply evolvesTo_self)
    | apply evolves_ite | split)

theorem evolves_execCreateIoCq (s : State) (hev : Evolves s0 s) :
    ∃ t, execCreateIoCq s = .next t ∧ Evolves s0 t := by
  unfold execCreateIoCq
  try dsimp only
  refine ⟨_, rfl, ?_⟩
  with_reducible repeat' (first
    | (intro _; try dsimp only) | assumption | apply evolves_nvmeSimple | apply evolves_setNvme
    | (simp only [evolves_mk_iff]; apply evolvesTo_self) | apply evolves_ite | split)

theorem evolves_execCreateIoSq (s : State) (hev : Evolves s0 s) :
    ∃ t, execCreateIoSq s = .next t ∧ Evolves s0 t := by
  unfold execCreateIoSq
  try dsimp only
  refine ⟨_, rfl, ?_⟩
  with_reducible repeat' (first
    | (intro _; try dsimp only) | assumption | apply evolves_nvmeSimple | apply evolves_setNvme
    | (simp only [evolves_mk_iff]; apply evolvesTo_self) | apply evolves_ite | split)

theorem evolves_execDeleteIoSq (s : State) (hev : Evolves s0 s) :
    ∃ t, execDeleteIoSq s = .next t ∧ Evolves s0 t := by
  unfold execDeleteIoSq
  try dsimp only
  refine ⟨_, rfl, ?_⟩
  with_reducible repeat' (first
    | (intro _; try dsimp only) | assumption | apply evolves_nvmeSimple | apply evolves_nvmeComplete | apply evolves_setNvme
    | (simp only [evolves_mk_iff]; apply evolvesTo_self) | apply evolves_ite | apply evolves_foldl | split)

theorem evolves_execDeleteIoCq (s : State) (hev : Evolves s0 s) :
    ∃ t, execDeleteIoCq s = .next t ∧ Evolves s0 t := by
  unfold execDeleteIoCq
  try dsimp only
  refine ⟨_, rfl, ?_⟩
  with_reducible repeat' (first
    | (intro _; try dsimp only) | assumption | apply evolves_nvmeSimple | apply evolves_setNvme
    | (simp only [evolves_mk_iff]; apply evolvesTo_self) | apply evolves_ite | split)

theorem evolves_execGetLogPage (s : State) (hev : Evolves s0 s) :
    ∃ t, execGetLogPage s = .next t ∧ Evolves s0 t := by
  unfold execGetLogPage
  try dsimp only
  refine ⟨_, rfl, ?_⟩
  with_reducible repeat' (first
    | (intro _; try dsimp only) | assumption | apply evolves_nvmeSimple | apply evolves_hostScatter | apply evolves_draw
    | apply evolves_eventPump | apply evolves_setNvme | (simp only [evolves_mk_iff]; apply evolvesTo_self) | apply evolves_ite
    | split)

theorem evolves_execIdentify (s : State) (hev : Evolves s0 s) :
    ∃ t, execIdentify s = .next t ∧ Evolves s0 t := by
  unfold execIdentify
  try dsimp only
  refine ⟨_, rfl, ?_⟩
  with_reducible repeat' (first
    | (intro _; try dsimp only) | assumption | apply evolves_nvmeSimple | apply evolves_hostScatter | apply evolves_ite
    | refine evolves_snd (by assumption) ?_ | split)

theorem evolves_execSetFeatures (s : State) (hev : Evolves s0 s) :
    ∃ t, execSetFeatures s = .next t ∧ Evolves s0 t := by
  unfold execSetFeatures
  try dsimp only
  refine ⟨_, rfl, ?_⟩
  with_reducible repeat' (first
    | (intro _; try dsimp only) | assumption | apply evolves_nvmeSimple | apply evolves_setNvme | apply evolves_smartCheck
    | (simp only [evolves_mk_iff]; apply evolvesTo_self) | apply evolves_ite | split)

theorem evolves_execGetFeatures (s : State) (hev : Evolves s0 s) :
    ∃ t, execGetFeatures s = .next t ∧ Evolves s0 t := by
  unfold execGetFeatures
  try dsimp only
  refine ⟨_, rfl, ?_⟩
  with_reducible repeat' (first | (intro _; try dsimp only) | assumption | apply evolves_nvmeSimple | apply evolves_ite | split)

theorem evolves_execAsynchronousEventRequest (s : State) (hev : Evolves s0 s) :
    ∃ t, execAsynchronousEventRequest s = .next t ∧ Evolves s0 t := by
  unfold execAsynchronousEventRequest
  try dsimp only
  refine ⟨_, rfl, ?_⟩
  with_reducible repeat' (first
    | (intro _; try dsimp only) | assumption | apply evolves_nvmeRun | apply evolves_sqTake | apply evolves_nvmeComplete
    | apply evolves_eventPump | apply evolves_setNvme | (simp only [evolves_mk_iff]; apply evolvesTo_self) | apply evolves_ite
    | split)

theorem evolves_execAbort (s : State) (hev : Evolves s0 s) :
    ∃ t, execAbort s = .next t ∧ Evolves s0 t := by
  unfold execAbort
  try dsimp only
  refine ⟨_, rfl, ?_⟩
  with_reducible repeat' (first
    | (intro _; try dsimp only) | assumption | apply evolves_nvmeRun | apply evolves_sqTake | apply evolves_nvmeComplete
    | apply evolves_putSq | apply evolves_setNvme | apply evolves_dropCmd | apply evolves_addCmd
    | (simp only [evolves_mk_iff]; apply evolvesTo_self) | apply evolves_ite | split)

theorem evolves_dirtyDiscard (v : Nat) (n : Nat) (s : State) (hev : Evolves s0 s) :
    Evolves s0 (dirtyDiscard v n s) := by
  unfold dirtyDiscard
  try dsimp only
  with_reducible repeat' (first
    | (intro _; try dsimp only) | assumption | apply evolves_showDirty | apply evolves_setRec
    | (simp only [evolves_mk_iff]; apply evolvesTo_self))

theorem evolves_nsChanged (s : State) (hev : Evolves s0 s) :
    Evolves s0 (nsChanged s) := by
  unfold nsChanged
  try dsimp only
  with_reducible repeat' (first | assumption | apply evolves_journalNote | apply evolves_nvmeEvent | apply evolves_ite | split)

theorem evolves_nsRemove (n : RecNs) (s : State) (hev : Evolves s0 s) :
    Evolves s0 (nsRemove n s) := by
  unfold nsRemove
  try dsimp only
  with_reducible repeat' (first
    | (intro _; try dsimp only) | assumption | apply evolves_dirtyDiscard | apply evolves_setRec
    | (simp only [evolves_mk_iff]; apply evolvesTo_self))

theorem evolves_nsCreateAt (place : Option Nat) (id : Nat) (size : Nat) (s : State) (hev : Evolves s0 s) :
    Evolves s0 (nsCreateAt place id size s).2.2 := by
  unfold nsCreateAt
  try dsimp only
  with_reducible repeat' (first
    | (intro _; try dsimp only) | assumption | apply evolves_nsChanged | apply evolves_setRec
    | (simp only [evolves_mk_iff]; apply evolvesTo_self) | split)

theorem evolves_nsCreateWith (size : Nat) (cap : Nat) (flbas : Nat) (s : State) (hev : Evolves s0 s) :
    Evolves s0 (nsCreateWith size cap flbas s).2.2 := by
  unfold nsCreateWith
  try dsimp only
  with_reducible repeat' (first
    | (intro _; try dsimp only) | assumption | apply evolves_nsCreateAt | (simp only [evolves_mk_iff]; apply evolvesTo_self)
    | apply evolves_ite | split)

theorem evolves_nsCreate (e : Sqe) (s : State) (hev : Evolves s0 s) : Evolves s0 (nsCreate e s).2.2 :=
  evolves_nsCreateWith _ _ _ _ hev

theorem evolves_nsDelete (e : Sqe) (s : State) (hev : Evolves s0 s) :
    Evolves s0 (nsDelete e s).2.2 := by
  unfold nsDelete
  try dsimp only
  with_reducible repeat' (first
    | (intro _; try dsimp only) | assumption | apply evolves_nsChanged | apply evolves_nsRemove
    | (simp only [evolves_mk_iff]; apply evolvesTo_self) | apply evolves_ite | apply evolves_foldl | split)

theorem evolves_execNamespaceManagement (s : State) (hev : Evolves s0 s) :
    ∃ t, execNamespaceManagement s = .next t ∧ Evolves s0 t := by
  unfold execNamespaceManagement
  try dsimp only
  refine ⟨_, rfl, ?_⟩
  with_reducible repeat' (first
    | (intro _; try dsimp only) | assumption | apply evolves_nvmeSimple | apply evolves_nsCreate | apply evolves_nsDelete
    | apply evolves_ite | split)

theorem evolves_execNamespaceAttachment (s : State) (hev : Evolves s0 s) :
    ∃ t, execNamespaceAttachment s = .next t ∧ Evolves s0 t := by
  unfold execNamespaceAttachment
  try dsimp only
  refine ⟨_, rfl, ?_⟩
  with_reducible repeat' (first
    | (intro _; try dsimp only) | assumption | apply evolves_nvmeSimple | apply evolves_nsChanged | apply evolves_setRec
    | (simp only [evolves_mk_iff]; apply evolvesTo_self) | apply evolves_ite | split)

theorem evolves_eraseStart (s : State) (hev : Evolves s0 s) :
    Evolves s0 (eraseStart s) := by
  unfold eraseStart
  try dsimp only
  with_reducible repeat' (first
    | (intro _; try dsimp only) | assumption | apply evolves_emit | (simp only [evolves_mk_iff]; apply evolvesTo_self)
    | apply evolves_ite | apply evolves_foldl | split)

theorem evolves_execFormatNvm (s : State) (hev : Evolves s0 s) :
    ∃ t, execFormatNvm s = .next t ∧ Evolves s0 t := by
  unfold execFormatNvm
  try dsimp only
  refine ⟨_, rfl, ?_⟩
  with_reducible repeat' (first
    | (intro _; try dsimp only) | assumption | apply evolves_nvmeRun | apply evolves_sqTake | apply evolves_nvmeComplete
    | apply evolves_dirtyDiscard | apply evolves_addCmd | apply evolves_leaveRequest | apply evolves_setRec
    | (simp only [evolves_mk_iff]; apply evolvesTo_self) | apply evolves_ite | split)

theorem evolves_execSanitize (s : State) (hev : Evolves s0 s) :
    ∃ t, execSanitize s = .next t ∧ Evolves s0 t := by
  unfold execSanitize
  try dsimp only
  refine ⟨_, rfl, ?_⟩
  with_reducible repeat' (first
    | (intro _; try dsimp only) | assumption | apply evolves_nvmeSimple | apply evolves_mediaFull | apply evolves_showDirty
    | apply evolves_setRec | apply evolves_leaveRequest | (simp only [evolves_mk_iff]; apply evolvesTo_self) | apply evolves_ite
    | apply evolves_foldl | split)

theorem evolves_checkpoints (y0 : Nat) (y1 : Nat) (y2 : State) (hev : Evolves s0 y2) :
    Evolves s0 (checkpoints y0 y1 y2) := by
  induction y0 generalizing y1 y2
  all_goals
    unfold checkpoints
    try dsimp only
    with_reducible repeat' (first | assumption | apply evolves_journalNote | apply_assumption)

theorem evolves_eraseResume (s : State) (hev : Evolves s0 s) :
    Evolves s0 (eraseResume s) := by
  unfold eraseResume
  try dsimp only
  with_reducible repeat' (first | assumption | apply evolves_leaveRequest | apply evolves_ite | split)

theorem evolves_execSanitizeDone (s : State) (hev : Evolves s0 s) :
    ∃ t, execSanitizeDone s = .next t ∧ Evolves s0 t := by
  unfold execSanitizeDone
  try dsimp only
  refine ⟨_, rfl, ?_⟩
  with_reducible repeat' (first
    | (intro _; try dsimp only) | assumption | apply evolves_eraseResume | apply evolves_leaveRelease | apply evolves_checkpoints
    | apply evolves_rejectAll | apply evolves_nvmeEvent | apply evolves_setRec | apply evolves_journalNote | apply evolves_pumpRec
    | apply evolves_putCmd | (simp only [evolves_mk_iff]; apply evolvesTo_self) | apply evolves_ite | split)

theorem evolves_execFlush (s : State) (hev : Evolves s0 s) :
    ∃ t, execFlush s = .next t ∧ Evolves s0 t := by
  unfold execFlush
  try dsimp only
  refine ⟨_, rfl, ?_⟩
  with_reducible repeat' (first
    | (intro _; try dsimp only) | assumption | apply evolves_nvmeRun | apply evolves_sqTake | apply evolves_nvmeComplete
    | apply evolves_addCmd | (simp only [evolves_mk_iff]; apply evolvesTo_self) | apply evolves_ite | split)

theorem evolves_execWrite (s : State) (hev : Evolves s0 s) :
    ∃ t, execWrite s = .next t ∧ Evolves s0 t := by
  unfold execWrite
  try dsimp only
  refine ⟨_, rfl, ?_⟩
  with_reducible repeat' (first
    | (intro _; try dsimp only) | assumption | apply evolves_nvmeRun | apply evolves_sqTake | apply evolves_nvmeComplete
    | apply evolves_writeApply | apply evolves_rinc | apply evolves_setNvme | (simp only [evolves_mk_iff]; apply evolvesTo_self)
    | apply evolves_ite | split)

theorem evolves_execWriteAdmit (s : State) (hev : Evolves s0 s) :
    ∃ t, execWriteAdmit s = .next t ∧ Evolves s0 t := by
  unfold execWriteAdmit
  try dsimp only
  refine ⟨_, rfl, ?_⟩
  with_reducible repeat' (first | assumption | apply evolves_writeAdmit)

theorem evolves_readSector (id : Nat) (i : Nat) (v : Nat) (s : State) (hev : Evolves s0 s) :
    Evolves s0 (readSector id i v s) := by
  unfold readSector
  try dsimp only
  with_reducible repeat' (first
    | (intro _; try dsimp only) | assumption | apply evolves_memSee | apply evolves_putCmd | apply evolves_raiseErr
    | apply evolves_opBegin | (simp only [evolves_mk_iff]; apply evolvesTo_self) | apply evolves_ite | split)

theorem evolves_readBegin (c : NvmeCmd) (s : State) (hev : Evolves s0 s) :
    Evolves s0 (readBegin c s) := by
  unfold readBegin
  try dsimp only
  with_reducible repeat' (first
    | (intro _; try dsimp only) | assumption | apply evolves_readSector | apply evolves_addCmd
    | (simp only [evolves_mk_iff]; apply evolvesTo_self) | apply evolves_foldl)

theorem evolves_readRun (op : Nat) (s : State) (hev : Evolves s0 s) :
    Evolves s0 (readRun op s) := by
  unfold readRun
  try dsimp only
  with_reducible repeat' (first
    | (intro _; try dsimp only) | assumption | apply evolves_nvmeRun | apply evolves_sqTake | apply evolves_nvmeComplete
    | apply evolves_readBegin | apply evolves_ite | split)

theorem evolves_execRead (s : State) (hev : Evolves s0 s) :
    ∃ t, execRead s = .next t ∧ Evolves s0 t := by
  unfold execRead
  try dsimp only
  refine ⟨_, rfl, ?_⟩
  with_reducible repeat' (first | assumption | apply evolves_readRun)

theorem evolves_execCompare (s : State) (hev : Evolves s0 s) :
    ∃ t, execCompare s = .next t ∧ Evolves s0 t := by
  unfold execCompare
  try dsimp only
  refine ⟨_, rfl, ?_⟩
  with_reducible repeat' (first | assumption | apply evolves_readRun)

theorem evolves_execCompareAndWrite (s : State) (hev : Evolves s0 s) :
    ∃ t, execCompareAndWrite s = .next t ∧ Evolves s0 t := by
  unfold execCompareAndWrite
  try dsimp only
  refine ⟨_, rfl, ?_⟩
  with_reducible repeat' (first
    | (intro _; try dsimp only) | assumption | apply evolves_nvmeRun | apply evolves_nvmeComplete | apply evolves_sqTake
    | apply evolves_readBegin | (simp only [evolves_mk_iff]; apply evolvesTo_self) | apply evolves_ite | split)

theorem evolves_zeroSector (id : Nat) (v : Nat) (s : State) (hev : Evolves s0 s) :
    Evolves s0 (zeroSector id v s) := by
  unfold zeroSector
  try dsimp only
  with_reducible repeat' (first | assumption | apply evolves_opBegin)

theorem evolves_execWriteZeroes (s : State) (hev : Evolves s0 s) :
    ∃ t, execWriteZeroes s = .next t ∧ Evolves s0 t := by
  unfold execWriteZeroes
  try dsimp only
  refine ⟨_, rfl, ?_⟩
  with_reducible repeat' (first
    | (intro _; try dsimp only) | assumption | apply evolves_nvmeRun | apply evolves_sqTake | apply evolves_nvmeComplete
    | apply evolves_zeroSector | apply evolves_addCmd | apply evolves_dirtyDiscard
    | (simp only [evolves_mk_iff]; apply evolvesTo_self) | apply evolves_ite | apply evolves_foldl | split)

theorem evolves_hintRange (v : Nat) (n : Nat) (s : State) (hev : Evolves s0 s) :
    Evolves s0 (hintRange v n s) := by
  unfold hintRange
  try dsimp only
  with_reducible repeat' (first
    | (intro _; try dsimp only) | assumption | apply evolves_emit | apply evolves_ite | apply evolves_foldl | split)

theorem evolves_execDatasetManagement (s : State) (hev : Evolves s0 s) :
    ∃ t, execDatasetManagement s = .next t ∧ Evolves s0 t := by
  unfold execDatasetManagement
  try dsimp only
  refine ⟨_, rfl, ?_⟩
  with_reducible repeat' (first
    | (intro _; try dsimp only) | assumption | apply evolves_nvmeRun | apply evolves_sqTake | apply evolves_nvmeComplete
    | apply evolves_hintRange | (simp only [evolves_mk_iff]; apply evolvesTo_self) | apply evolves_ite | apply evolves_foldl
    | split)

end Sys2Proof.Laws
end

