-- ==== Sys2Proof/Laws/EvolvesCanvas.lean ====
section
/-! SUPPORT. `Evolves` for the canvas, the memory, boot records, colour commands and compression: each operation keeps what the state it starts from has kept. -/

namespace Sys2Proof.Laws

open Sys2Proof.Machine Sys2Proof.Safety

set_option linter.all false

variable {s0 : State}

/-! ### Cnv -/

theorem evolves_dropPicture (b : Nat) (s : State) (hev : Evolves s0 s) :
    Evolves s0 (dropPicture b s) := by
  unfold dropPicture
  try dsimp only
  with_reducible repeat' (first | assumption | apply evolves_bufRelease | apply evolves_rinc)

theorem evolves_takeBuffer (s : State) (hev : Evolves s0 s) :
    Evolves s0 (takeBuffer s).2 := by
  unfold takeBuffer
  try dsimp only
  with_reducible repeat' (first
    | (intro _; try dsimp only) | assumption | apply evolves_dropPicture | (simp only [evolves_mk_iff]; apply evolvesTo_self)
    | apply evolves_ite | split)

theorem evolves_bindBuf (b : Nat) (at16 : Nat) (s : State) (hev : Evolves s0 s) :
    Evolves s0 (bindBuf b at16 s) := by
  unfold bindBuf
  try dsimp only
  with_reducible repeat' (first
    | (intro _; try dsimp only) | assumption | apply evolves_dropPicture | (simp only [evolves_mk_iff]; apply evolvesTo_self)
    | split)

theorem evolves_showLayers (live : List (Nat × Nat × Nat)) (stored : List (Nat × Nat)) (s : State) (hev : Evolves s0 s) :
    Evolves s0 (showLayers live stored s) := by
  unfold showLayers
  try dsimp only
  with_reducible repeat' (first
    | (intro _; try dsimp only) | assumption | apply evolves_rsetBit | apply evolves_rsetFld | apply evolves_setLayer
    | (simp only [evolves_mk_iff]; apply evolvesTo_self) | apply evolves_foldl)

theorem evolves_liveOnly (live : List (Nat × Nat × Nat)) (s : State) (hev : Evolves s0 s) :
    Evolves s0 (liveOnly live s) := by
  unfold liveOnly
  try dsimp only
  with_reducible repeat' (first
    | (intro _; try dsimp only) | assumption | apply evolves_storeDrop | apply evolves_putOt0
    | (simp only [evolves_mk_iff]; apply evolvesTo_self) | apply evolves_ite | apply evolves_foldl | split)

theorem evolves_monTake (seq : Nat) (s : State) (hev : Evolves s0 s) :
    Evolves s0 (monTake seq s).2 := by
  unfold monTake
  try dsimp only
  with_reducible repeat' (first
    | (intro _; try dsimp only) | assumption | apply evolves_raiseErr | apply evolves_rinc | apply evolves_ite | split)

theorem evolves_pictureStart (start : Nat) (s : State) (hev : Evolves s0 s) :
    Evolves s0 (pictureStart start s) := by
  unfold pictureStart
  try dsimp only
  with_reducible repeat' (first
    | (intro _; try dsimp only) | assumption | apply evolves_cnvCommits | apply evolves_takeBuffer | apply evolves_rinc
    | apply evolves_monGone | apply evolves_monTake | apply evolves_liveOnly | apply evolves_showLayers | apply evolves_bindBuf
    | apply evolves_picAbandon | apply evolves_showHostFree | apply evolves_showReady
    | (simp only [evolves_mk_iff]; apply evolvesTo_self) | apply evolves_ite | refine evolves_snd (by assumption) ?_ | split)

theorem evolves_execPictureStart (s : State) (hev : Evolves s0 s) :
    ∃ t, execPictureStart s = .next t ∧ Evolves s0 t := by
  unfold execPictureStart
  refine ⟨_, rfl, ?_⟩
  split
  · exact ⟨hev.code, hev.now, hev.pending, hev.sound⟩
  · split
    · split
      · exact evolves_pictureStart _ _ hev
      · exact hev
    · split
      · exact hev
      · have h1 : ∀ c, Evolves s0 { s with cnv := c } := fun _ => ⟨hev.code, hev.now, hev.pending, hev.sound⟩
        exact evolves_ite (evolves_pictureStart _ _ (h1 _)) (h1 _)

theorem evolves_rowReads (u : Nat → Word) (c : CnvPic) (y : Nat) (s : State) (hev : Evolves s0 s) :
    Evolves s0 (rowReads u c y s) := by
  unfold rowReads
  try dsimp only
  with_reducible repeat' (first
    | (intro _; try dsimp only) | assumption | apply evolves_memSee | apply evolves_ite | apply evolves_foldl | split)

theorem evolves_monLine (c : CnvPic) (u : Nat → Word) (y : Nat) (s : State) (hev : Evolves s0 s) :
    Evolves s0 (monLine c u y s) := by
  unfold monLine
  try dsimp only
  with_reducible repeat' (first
    | (intro _; try dsimp only) | assumption | apply evolves_memWrite | (simp only [evolves_mk_iff]; apply evolvesTo_self)
    | apply evolves_ite | split)

theorem evolves_composeRow (c : CnvPic) (s : State) (hev : Evolves s0 s) :
    Evolves s0 (composeRow c s) := by
  unfold composeRow
  try dsimp only
  with_reducible repeat' (first
    | (intro _; try dsimp only) | assumption | apply evolves_rowReads | apply evolves_picAbandon | apply evolves_raiseErr
    | apply evolves_rinc | apply evolves_memWrite | apply evolves_showReady | apply evolves_monLine | apply evolves_showHostFree
    | apply evolves_sweepOt0 | (simp only [evolves_mk_iff]; apply evolvesTo_self) | apply evolves_ite | apply evolves_foldl
    | split)

theorem evolves_execRowCompose (s : State) (hev : Evolves s0 s) :
    ∃ t, execRowCompose s = .next t ∧ Evolves s0 t := by
  unfold execRowCompose
  try dsimp only
  refine ⟨_, rfl, ?_⟩
  with_reducible repeat' (first
    | (intro _; try dsimp only) | assumption | apply evolves_composeRow | (simp only [evolves_mk_iff]; apply evolvesTo_self)
    | split)

theorem evolves_execMapValidate (who : Requester) (value : Word) (s : State) (hev : Evolves s0 s) :
    ∃ t, execMapValidate who value s = .next t ∧ Evolves s0 t := by
  unfold execMapValidate
  try dsimp only
  refine ⟨_, rfl, ?_⟩
  with_reducible repeat' (first
    | (intro _; try dsimp only) | assumption | apply evolves_writeReg | apply evolves_raiseErr | apply evolves_setMapState
    | (simp only [evolves_mk_iff]; apply evolvesTo_self) | apply evolves_ite | split)

theorem evolves_execMapValidateDone (bank : Fin 2) (s : State) (hev : Evolves s0 s) :
    ∃ t, execMapValidateDone bank s = .next t ∧ Evolves s0 t := by
  unfold execMapValidateDone
  try dsimp only
  refine ⟨_, rfl, ?_⟩
  with_reducible repeat' (first
    | (intro _; try dsimp only) | assumption | apply evolves_raiseInt | apply evolves_memSee | apply evolves_rinc
    | apply evolves_raiseErr | apply evolves_rset | apply evolves_setMapState | apply evolves_memWake
    | (simp only [evolves_mk_iff]; apply evolvesTo_self) | apply evolves_ite | apply evolves_foldl
    | refine evolves_snd (by assumption) ?_ | split)

theorem evolves_scanPoison (n : Nat) (sc : CnvScan) (s : State) (hev : Evolves s0 s) :
    Evolves s0 (scanPoison n sc s).2 := by
  unfold scanPoison
  try dsimp only
  with_reducible repeat' (first
    | assumption | apply evolves_rinc | apply evolves_raiseErr | (simp only [evolves_mk_iff]; apply evolvesTo_self)
    | apply evolves_ite | split)

theorem evolves_scanView (u : Nat → Word) (e : MapEntry) (k : List F32) (g : List F32) (acc : CnvScan × List (F32 × F32 × F32) × State) (v : Nat) (hev : Evolves s0 acc.2.2) :
    Evolves s0 (scanView u e k g acc v).2.2 := by
  unfold scanView
  try dsimp only
  with_reducible repeat' (first
    | (intro _; try dsimp only) | assumption | apply evolves_scanPoison | apply evolves_memUe | apply evolves_memWake
    | apply evolves_rinc | apply evolves_tlkPix | apply evolves_foldl | refine evolves_snd (by assumption) ?_ | split)

theorem evolves_putScan (sc : CnvScan) (s : State) (hev : Evolves s0 s) :
    Evolves s0 (putScan sc s) := by
  unfold putScan
  try dsimp only
  with_reducible repeat' (first | assumption | (simp only [evolves_mk_iff]; apply evolvesTo_self))

theorem evolves_scanNext (sc : CnvScan) (n : Nat) (s : State) (hev : Evolves s0 s) :
    Evolves s0 (scanNext sc n s) := by
  unfold scanNext
  try dsimp only
  with_reducible repeat' (first | assumption | apply evolves_putScan | (simp only [evolves_mk_iff]; apply evolvesTo_self))

theorem evolves_scanEntry (sc : CnvScan) (s : State) (hev : Evolves s0 s) :
    Evolves s0 (scanEntry sc s) := by
  unfold scanEntry
  try dsimp only
  with_reducible repeat' (first
    | (intro _; try dsimp only) | assumption | exact Evolves.refl _ | apply evolves_putScan | apply evolves_scanPoison
    | apply evolves_memSee | apply evolves_scanNext | apply evolves_rinc | apply evolves_scanView
    | (simp only [evolves_mk_iff]; apply evolvesTo_self) | apply evolves_ite | apply evolves_foldl | apply evolves_foldl_snd
    | apply evolves_foldl_snd2 | refine evolves_snd (by assumption) ?_ | refine evolves_fst (by assumption) ?_
    | refine evolves_snd2 (by assumption) ?_ | split)

theorem evolves_scanBegin (buf : Nat) (at16 : Nat) (b : Option Nat) (s : State) (hev : Evolves s0 s) :
    Evolves s0 (scanBegin buf at16 b s) := by
  unfold scanBegin
  try dsimp only
  with_reducible repeat' (first
    | (intro _; try dsimp only) | assumption | apply evolves_scheduleAhead | apply evolves_tlkRelease | apply evolves_scanEntry
    | apply evolves_ite | apply evolves_foldl | split)

theorem evolves_execTileScan (s : State) (hev : Evolves s0 s) :
    ∃ t, execTileScan s = .next t ∧ Evolves s0 t := by
  unfold execTileScan
  try dsimp only
  refine ⟨_, rfl, ?_⟩
  with_reducible repeat' (first
    | (intro _; try dsimp only) | assumption | apply evolves_scanEntry | apply evolves_scanBegin
    | (simp only [evolves_mk_iff]; apply evolvesTo_self) | apply evolves_ite | split)

theorem evolves_passOwed (at16 : Nat) (use : List (Nat × Word)) (s : State) (hev : Evolves s0 s) :
    Evolves s0 (passOwed at16 use s) := by
  unfold passOwed
  try dsimp only
  with_reducible repeat' (first
    | (intro _; try dsimp only) | assumption | apply evolves_setPho | (simp only [evolves_mk_iff]; apply evolvesTo_self)
    | apply evolves_ite | split)

theorem evolves_instantPast (at16 : Nat) (b : Option Nat) (s : State) (hev : Evolves s0 s) :
    Evolves s0 (instantPast at16 b s) := by
  unfold instantPast
  try dsimp only
  with_reducible repeat' (first
    | (intro _; try dsimp only) | assumption | apply evolves_passOwed | (simp only [evolves_mk_iff]; apply evolvesTo_self)
    | apply evolves_ite | split)

theorem evolves_launchMiss (at16 : Nat) (b : Option Nat) (s : State) (hev : Evolves s0 s) :
    Evolves s0 (launchMiss at16 b s) := by
  unfold launchMiss
  try dsimp only
  with_reducible repeat' (first
    | (intro _; try dsimp only) | assumption | apply evolves_instantPast | apply evolves_raiseInt | apply evolves_raiseErr
    | apply evolves_rinc | apply evolves_dropPicture | apply evolves_bindBuf | (simp only [evolves_mk_iff]; apply evolvesTo_self)
    | apply evolves_ite | split)

theorem evolves_holdSkipped (at16 : Nat) (s : State) (hev : Evolves s0 s) :
    Evolves s0 (holdSkipped at16 s) := by
  unfold holdSkipped
  try dsimp only
  with_reducible repeat' (first
    | assumption | apply evolves_instantPast | apply evolves_rinc | (simp only [evolves_mk_iff]; apply evolvesTo_self))

theorem evolves_execDispatchDeadline (s : State) (hev : Evolves s0 s) :
    ∃ t, execDispatchDeadline s = .next t ∧ Evolves s0 t := by
  unfold execDispatchDeadline
  try dsimp only
  refine ⟨_, rfl, ?_⟩
  with_reducible repeat' (first
    | (intro _; try dsimp only) | assumption | apply evolves_holdSkipped | apply evolves_launchMiss
    | (simp only [evolves_mk_iff]; apply evolvesTo_self) | apply evolves_ite | split)

theorem evolves_monPublish (buf : Nat) (at16 : Nat) (s : State) (hev : Evolves s0 s) :
    Evolves s0 (monPublish buf at16 s) := by
  unfold monPublish
  try dsimp only
  with_reducible repeat' (first
    | (intro _; try dsimp only) | assumption | apply evolves_memWrite | apply evolves_rset | apply evolves_raiseInt
    | apply evolves_sourceVector | (simp only [evolves_mk_iff]; apply evolvesTo_self) | split)

theorem evolves_launchSend (sc : CnvScan) (s : State) (hev : Evolves s0 s) :
    Evolves s0 (launchSend sc s) := by
  unfold launchSend
  try dsimp only
  with_reducible repeat' (first
    | (intro _; try dsimp only) | assumption | apply evolves_tlkLaunch | apply evolves_rsetBit | apply evolves_rset
    | apply evolves_rsetLong | apply evolves_rinc | apply evolves_monPublish | apply evolves_passOwed | apply evolves_raiseInt
    | apply evolves_setSelfref | (simp only [evolves_mk_iff]; apply evolvesTo_self) | apply evolves_ite | apply evolves_foldl
    | split)

theorem evolves_instantHeld (at16 : Nat) (b : Option Nat) (s : State) (hev : Evolves s0 s) :
    Evolves s0 (instantHeld at16 b s) := by
  unfold instantHeld
  try dsimp only
  with_reducible repeat' (first
    | (intro _; try dsimp only) | assumption | apply evolves_instantPast | (simp only [evolves_mk_iff]; apply evolvesTo_self)
    | split)

theorem evolves_execLaunch (s : State) (hev : Evolves s0 s) :
    ∃ t, execLaunch s = .next t ∧ Evolves s0 t := by
  unfold execLaunch
  try dsimp only
  refine ⟨_, rfl, ?_⟩
  with_reducible repeat' (first
    | (intro _; try dsimp only) | assumption | apply evolves_instantHeld | apply evolves_holdSkipped | apply evolves_launchMiss
    | apply evolves_launchSend | (simp only [evolves_mk_iff]; apply evolvesTo_self) | apply evolves_ite | split)

theorem evolves_scanStop (s : State) (hev : Evolves s0 s) :
    Evolves s0 (scanStop s) := by
  unfold scanStop
  try dsimp only
  with_reducible repeat' (first
    | (intro _; try dsimp only) | assumption | (simp only [evolves_mk_iff]; apply evolvesTo_self) | split)

theorem evolves_selfrefExit (s : State) (hev : Evolves s0 s) :
    Evolves s0 (selfrefExit s) := by
  unfold selfrefExit
  try dsimp only
  with_reducible repeat' (first
    | (intro _; try dsimp only) | assumption | apply evolves_setSelfref | apply evolves_bindBuf
    | (simp only [evolves_mk_iff]; apply evolvesTo_self) | split)

theorem evolves_selfrefUpdate (s : State) (hev : Evolves s0 s) :
    Evolves s0 (selfrefUpdate s) := by
  unfold selfrefUpdate
  try dsimp only
  with_reducible repeat' (first
    | assumption | apply evolves_setSelfref | apply evolves_scanStop | apply evolves_selfrefExit
    | (simp only [evolves_mk_iff]; apply evolvesTo_self) | apply evolves_ite | split)

theorem evolves_execHostReq (value : Word) (s : State) (hev : Evolves s0 s) :
    ∃ t, execHostReq value s = .next t ∧ Evolves s0 t := by
  unfold execHostReq
  try dsimp only
  refine ⟨_, rfl, ?_⟩
  with_reducible repeat' (first | assumption | apply evolves_selfrefUpdate | apply evolves_writeReg)

theorem evolves_execFwReq (value : Word) (s : State) (hev : Evolves s0 s) :
    ∃ t, execFwReq value s = .next t ∧ Evolves s0 t := by
  unfold execFwReq
  try dsimp only
  refine ⟨_, rfl, ?_⟩
  with_reducible repeat' (first | assumption | apply evolves_selfrefUpdate | apply evolves_writeReg)

theorem evolves_selfrefFrames (s : State) (hev : Evolves s0 s) :
    Evolves s0 (selfrefFrames s) := by
  unfold selfrefFrames
  try dsimp only
  with_reducible repeat' (first
    | (intro _; try dsimp only) | assumption | apply evolves_tlkSelfref | (simp only [evolves_mk_iff]; apply evolvesTo_self)
    | apply evolves_foldl | split)

theorem evolves_execSelfref (s : State) (hev : Evolves s0 s) :
    ∃ t, execSelfref s = .next t ∧ Evolves s0 t := by
  unfold execSelfref
  try dsimp only
  refine ⟨_, rfl, ?_⟩
  with_reducible repeat' (first
    | assumption | apply evolves_selfrefUpdate | apply evolves_setSelfref | apply evolves_selfrefFrames | apply evolves_ite
    | split)

theorem evolves_execCnvLtrRead (who : Requester) (s : State) (hev : Evolves s0 s) :
    ∃ t, execCnvLtrRead who s = .next t ∧ Evolves s0 t := by
  unfold execCnvLtrRead
  try dsimp only
  refine ⟨_, rfl, ?_⟩
  with_reducible repeat' (first | assumption | apply evolves_readOut | apply evolves_rsetFld | apply evolves_ite | split)

/-! ### Mem -/

theorem evolves_memBurst (rank : Nat) (burst : Nat) (write : Bool) (s : State) (hev : Evolves s0 s) :
    Evolves s0 (memBurst rank burst write s) := by
  unfold memBurst
  try dsimp only
  with_reducible repeat' (first | assumption | apply evolves_emit | refine evolves_snd (by assumption) ?_ | split)

theorem evolves_refreshAround (ch : Nat) (rank : Nat) (bank : Nat) (row : Nat) (s : State) (hev : Evolves s0 s) :
    Evolves s0 (refreshAround ch rank bank row s) := by
  unfold refreshAround
  try dsimp only
  with_reducible repeat' (first | assumption | apply evolves_emit | apply evolves_ite | split)

theorem evolves_memAct (rank : Nat) (burst : Nat) (s : State) (hev : Evolves s0 s) :
    Evolves s0 (memAct rank burst s) := by
  unfold memAct
  try dsimp only
  with_reducible repeat' (first
    | assumption | apply evolves_setMemChan | apply evolves_rinc | apply evolves_refreshAround
    | (simp only [evolves_mk_iff]; apply evolvesTo_self) | apply evolves_ite | refine evolves_snd (by assumption) ?_ | split)

theorem evolves_memReadBurst (burst : Nat) (errors : List DqError) (s : State) (hev : Evolves s0 s) :
    Evolves s0 (memReadBurst burst errors s) := by
  unfold memReadBurst
  try dsimp only
  with_reducible repeat' (first
    | (intro _; try dsimp only) | assumption | apply evolves_memCe | apply evolves_memUe | apply evolves_draw
    | apply evolves_memPuts | (simp only [evolves_mk_iff]; apply evolvesTo_self) | apply evolves_ite | split)

theorem evolves_memReadReq (q : MemReq) (s : State) (hev : Evolves s0 s) :
    Evolves s0 (memReadReq q s) := by
  unfold memReadReq
  try dsimp only
  with_reducible repeat' (first | assumption | apply evolves_memReadBurst | apply evolves_memBurst | apply evolves_memAct)

theorem evolves_memWriteReq (q : MemReq) (s : State) (hev : Evolves s0 s) :
    Evolves s0 (memWriteReq q s) := by
  unfold memWriteReq
  try dsimp only
  with_reducible repeat' (first
    | (intro _; try dsimp only) | assumption | apply evolves_memBurst | apply evolves_memAct | apply evolves_memClean
    | apply evolves_memPuts | apply evolves_ite | apply evolves_foldl | split)

theorem evolves_memServe (q : MemReq) (s : State) (hev : Evolves s0 s) :
    Evolves s0 (memServe q s) := by
  unfold memServe
  try dsimp only
  with_reducible repeat' (first
    | assumption | apply evolves_memReadReq | apply evolves_draw | apply evolves_emit | apply evolves_memWriteReq
    | apply evolves_ite | split)

theorem evolves_memRun (ch : Nat) (y0 : Nat) (y1 : State) (hev : Evolves s0 y1) :
    Evolves s0 (memRun ch y0 y1) := by
  induction y0 generalizing ch y1
  all_goals
    unfold memRun
    try dsimp only
    with_reducible repeat' (first
      | (intro _; try dsimp only) | assumption | apply evolves_memServe | apply evolves_setMemChan | apply_assumption
      | (simp only [evolves_mk_iff]; apply evolvesTo_self) | apply evolves_ite | split)

theorem evolves_memEnter (q : MemReq) (s : State) (hev : Evolves s0 s) :
    Evolves s0 (memEnter q s) := by
  unfold memEnter
  try dsimp only
  with_reducible repeat' (first
    | (intro _; try dsimp only) | assumption | apply evolves_memWake | apply evolves_memRun | apply evolves_setMemChan
    | (simp only [evolves_mk_iff]; apply evolvesTo_self))

theorem evolves_memSample (ch : Nat) (s : State) (hev : Evolves s0 s) :
    Evolves s0 (memSample ch s) := by
  unfold memSample
  try dsimp only
  with_reducible repeat' (first
    | (intro _; try dsimp only) | assumption | apply evolves_setMemChan | (simp only [evolves_mk_iff]; apply evolvesTo_self))

theorem evolves_memTick (s : State) (hev : Evolves s0 s) :
    Evolves s0 (memTick s) := by
  unfold memTick
  try dsimp only
  with_reducible repeat' (first
    | (intro _; try dsimp only) | assumption | apply evolves_memSample | apply evolves_memRun | apply evolves_ite
    | apply evolves_foldl | split)

theorem evolves_memDrain (s : State) (hev : Evolves s0 s) :
    Evolves s0 (memDrain s) := by
  unfold memDrain
  try dsimp only
  with_reducible repeat' (first
    | (intro _; try dsimp only) | assumption | apply evolves_memServe | (simp only [evolves_mk_iff]; apply evolvesTo_self)
    | apply evolves_foldl)

theorem evolves_execMemAccess (client : Fin 8 × Nat) (addr : BitVec 48) (write : Option (List Byte)) (mask : BitVec 64) (errors : List DqError) (s : State) (hev : Evolves s0 s) :
    ∃ t, execMemAccess client addr write mask errors s = .next t ∧ Evolves s0 t := by
  unfold execMemAccess
  try dsimp only
  refine ⟨_, rfl, ?_⟩
  with_reducible repeat' (first | assumption | apply evolves_memEnter | apply evolves_ite | split)

theorem evolves_execPatrolScrub (addr : BitVec 48) (errors : List DqError) (s : State) (hev : Evolves s0 s) :
    ∃ t, execPatrolScrub addr errors s = .next t ∧ Evolves s0 t := by
  unfold execPatrolScrub
  try dsimp only
  refine ⟨_, rfl, ?_⟩
  with_reducible repeat' (first
    | assumption | apply evolves_memEnter | (simp only [evolves_mk_iff]; apply evolvesTo_self) | apply evolves_ite | split)

theorem evolves_refreshRun (ch : Nat) (r : Nat) (k : Nat) (s : State) (hev : Evolves s0 s) :
    Evolves s0 (refreshRun ch r k s) := by
  unfold refreshRun
  try dsimp only
  with_reducible repeat' (first
    | (intro _; try dsimp only) | assumption | apply evolves_emit | apply evolves_setMemChan
    | (simp only [evolves_mk_iff]; apply evolvesTo_self) | apply evolves_foldl)

theorem evolves_execRefresh (channel : Fin 12) (rank : Fin 3) (s : State) (hev : Evolves s0 s) :
    ∃ t, execRefresh channel rank s = .next t ∧ Evolves s0 t := by
  unfold execRefresh
  try dsimp only
  refine ⟨_, rfl, ?_⟩
  with_reducible repeat' (first
    | assumption | apply evolves_rinc | apply evolves_setMemChan | apply evolves_refreshRun
    | (simp only [evolves_mk_iff]; apply evolvesTo_self) | apply evolves_ite | split)

theorem evolves_refreshCatchUp (s : State) (hev : Evolves s0 s) :
    Evolves s0 (refreshCatchUp s) := by
  unfold refreshCatchUp
  try dsimp only
  with_reducible repeat' (first | (intro _; try dsimp only) | assumption | apply evolves_refreshRun | apply evolves_foldl)

theorem evolves_execLtrReport (s : State) (hev : Evolves s0 s) :
    ∃ t, execLtrReport s = .next t ∧ Evolves s0 t := by
  unfold execLtrReport
  try dsimp only
  refine ⟨_, rfl, ?_⟩
  with_reducible repeat' (first
    | assumption | apply evolves_rsetFld | apply evolves_memWake | apply evolves_refreshCatchUp | simp only [id]
    | apply evolves_ite | split)

theorem evolves_execMr4Poll (hot : Bool) (s : State) (hev : Evolves s0 s) :
    ∃ t, execMr4Poll hot s = .next t ∧ Evolves s0 t := by
  unfold execMr4Poll
  try dsimp only
  refine ⟨_, rfl, ?_⟩
  with_reducible repeat' (first | assumption | (simp only [evolves_mk_iff]; apply evolvesTo_self) | apply evolves_ite | split)

theorem evolves_execMemSelfrefEntry (s : State) (hev : Evolves s0 s) :
    ∃ t, execMemSelfrefEntry s = .next t ∧ Evolves s0 t := by
  unfold execMemSelfrefEntry
  try dsimp only
  refine ⟨_, rfl, ?_⟩
  with_reducible repeat' (first | (intro _; try dsimp only) | assumption | apply evolves_memSleep | apply evolves_ite | split)

theorem evolves_retrainAsk (s : State) (hev : Evolves s0 s) :
    Evolves s0 (retrainAsk s) := by
  unfold retrainAsk
  try dsimp only
  with_reducible repeat' (first | assumption | apply evolves_leaveRequest | apply evolves_ite | split)

theorem evolves_marginNoted (ch : Nat) (w : Word) (s : State) (hev : Evolves s0 s) :
    Evolves s0 (marginNoted ch w s) := by
  unfold marginNoted
  try dsimp only
  with_reducible repeat' (first
    | (intro _; try dsimp only) | assumption | apply evolves_rset | apply evolves_retrainAsk
    | (simp only [evolves_mk_iff]; apply evolvesTo_self) | split)

theorem evolves_execMarginCheck (channel : Fin 12) (t0 : Byte) (v0 : Byte) (t1 : Byte) (v1 : Byte) (s : State) (hev : Evolves s0 s) :
    ∃ t, execMarginCheck channel t0 v0 t1 v1 s = .next t ∧ Evolves s0 t := by
  unfold execMarginCheck
  try dsimp only
  refine ⟨_, rfl, ?_⟩
  with_reducible repeat' (first | assumption | apply evolves_marginNoted | apply evolves_ite | split)

theorem evolves_retrainGranted (s : State) (hev : Evolves s0 s) :
    Evolves s0 (retrainGranted s) := by
  unfold retrainGranted
  try dsimp only
  with_reducible repeat' (first | assumption | apply evolves_selfrefUpdate | apply evolves_rsetBit)

theorem evolves_regionSave (ch : Nat) (s : State) (hev : Evolves s0 s) :
    Evolves s0 (regionSave ch s) := by
  unfold regionSave
  try dsimp only
  with_reducible repeat' (first | (intro _; try dsimp only) | assumption | (simp only [evolves_mk_iff]; apply evolvesTo_self))

theorem evolves_regionRestore (ch : Nat) (s : State) (hev : Evolves s0 s) : Evolves s0 (regionRestore ch s) := by
  unfold regionRestore
  refine evolves_foldl ⟨hev.code, hev.now, hev.pending, fun h => ?_⟩ fun t e h => evolves_memPut _ _ _ _ h
  have := (sound_iff s).1 (hev.sound h)
  exact (sound_iff _).2 ⟨⟨smCanon_filter _ this.1.1, this.1.2⟩, this.2⟩

theorem evolves_execChannelRetrain (channel : Fin 12) (s : State) (hev : Evolves s0 s) :
    ∃ t, execChannelRetrain channel s = .next t ∧ Evolves s0 t := by
  unfold execChannelRetrain
  try dsimp only
  refine ⟨_, rfl, ?_⟩
  with_reducible repeat' (first
    | (intro _; try dsimp only) | assumption | apply evolves_regionSave | apply evolves_raiseErr | apply evolves_rsetBit
    | apply evolves_memWake | (simp only [evolves_mk_iff]; apply evolvesTo_self) | apply evolves_ite | split)

theorem evolves_execRetrainDone (channel : Fin 12) (t0 : Byte) (v0 : Byte) (t1 : Byte) (v1 : Byte) (s : State) (hev : Evolves s0 s) :
    ∃ t, execRetrainDone channel t0 v0 t1 v1 s = .next t ∧ Evolves s0 t := by
  unfold execRetrainDone
  try dsimp only
  refine ⟨_, rfl, ?_⟩
  with_reducible repeat' (first
    | assumption | apply evolves_rset | apply evolves_rsetBit | apply evolves_regionRestore | apply evolves_logEvent
    | apply evolves_raiseInt | apply evolves_rinc | apply evolves_memRun | apply evolves_leaveRelease
    | apply evolves_selfrefUpdate | (simp only [evolves_mk_iff]; apply evolvesTo_self) | apply evolves_ite | split)

theorem evolves_migEnd (ch : Nat) (s : State) (hev : Evolves s0 s) :
    Evolves s0 (migEnd ch s) := by
  unfold migEnd
  try dsimp only
  with_reducible repeat' (first
    | (intro _; try dsimp only) | assumption | apply evolves_leaveRelease | apply evolves_migStart
    | (simp only [evolves_mk_iff]; apply evolvesTo_self) | apply evolves_ite | split)

theorem evolves_regionCopy (ch : Nat) (slot : Nat) (p : Nat) (errors : RegionErrors) (s : State) (hev : Evolves s0 s) :
    Evolves s0 (regionCopy ch slot p errors s) := by
  unfold regionCopy
  try dsimp only
  with_reducible repeat' (first
    | (intro _; try dsimp only) | assumption | apply evolves_emit | apply evolves_memReadBurst | apply evolves_foldl)

theorem evolves_execMigrationRegion (channel : Fin 12) (copied : Option RegionErrors) (s : State) (hev : Evolves s0 s) :
    ∃ t, execMigrationRegion channel copied s = .next t ∧ Evolves s0 t := by
  unfold execMigrationRegion
  try dsimp only
  refine ⟨_, rfl, ?_⟩
  with_reducible repeat' (first
    | assumption | apply evolves_leaveRequest | apply evolves_migEnd | apply evolves_raiseErr | apply evolves_setMemChan
    | apply evolves_rsetBit | apply evolves_memWake | apply evolves_regionCopy | apply evolves_rsetFld | apply evolves_rset
    | apply evolves_raiseInt | apply evolves_logSubstitution | (simp only [evolves_mk_iff]; apply evolvesTo_self)
    | apply evolves_ite | split)

theorem evolves_memTrain (margins : List Word) (spareBad : List Nat) (s : State) (hev : Evolves s0 s) :
    Evolves s0 (memTrain margins spareBad s).2 := by
  unfold memTrain
  try dsimp only
  with_reducible repeat' (first
    | (intro _; try dsimp only) | assumption | exact Evolves.refl _ | apply evolves_emit | apply evolves_setMemChan
    | apply evolves_draw | apply evolves_raiseErr | apply evolves_rset | (simp only [evolves_mk_iff]; apply evolvesTo_self)
    | apply evolves_ite | apply evolves_foldl | apply evolves_foldl_snd | apply evolves_foldl_snd2
    | refine evolves_snd (by assumption) ?_ | refine evolves_fst (by assumption) ?_ | refine evolves_snd2 (by assumption) ?_
    | split)

/-! ### Boot -/

theorem evolves_rejectImage (slot : Nat) (s : State) (hev : Evolves s0 s) :
    Evolves s0 (rejectImage slot s) := by
  unfold rejectImage
  try dsimp only
  with_reducible repeat' (first
    | (intro _; try dsimp only) | assumption | apply evolves_raiseErr | (simp only [evolves_mk_iff]; apply evolvesTo_self) | split)

theorem evolves_migrateSlot {old seen new seq mask : Nat} {s r : State} (h : Evolves s0 s)
    (e : migrateSlot old seen new seq mask s = some r) : Evolves s0 r := by
  unfold migrateSlot at e
  dsimp only at e
  split at e
  · cases e
  · cases e
    rename_i t ht
    refine evolves_flashProgram _ _ _ ?_
    have : ∀ (f : Option State → Nat → Option State), (∀ a n u, f a n = some u → ∃ t, a = some t ∧ (Evolves s0 t → Evolves s0 u)) →
        ∀ (l : List Nat) a u, l.foldl f a = some u → (∀ t, a = some t → Evolves s0 t) → Evolves s0 u := by
      intro f hf l
      induction l with
      | nil => exact fun a u e ha => ha u e
      | cons n l ih =>
        intro a u e ha
        refine ih _ u e fun t ht => ?_
        obtain ⟨t', h1, h2⟩ := hf _ _ _ ht
        exact h2 (ha t' h1)
    refine this _ ?_ _ _ _ ht fun t ht => ?_
    · intro a n u e
      split at e
      · split at e
        · cases e
          exact ⟨_, rfl, fun h => evolves_flashProgram _ _ _ h⟩
        · cases e
      · cases e
    · cases ht
      exact evolves_flashErase _ _ _ h

/-! ### ClrCmds -/

theorem evolves_execPipelineLine (pipe : Fin 2) (mismatch : Bool) (overrun : BitVec 4) (s : State) (hev : Evolves s0 s) :
    ∃ t, execPipelineLine pipe mismatch overrun s = .next t ∧ Evolves s0 t := by
  unfold execPipelineLine
  try dsimp only
  refine ⟨_, rfl, ?_⟩
  with_reducible repeat' (first
    | (intro _; try dsimp only) | assumption | apply evolves_sliceMismatch | apply evolves_emitLine
    | (simp only [evolves_mk_iff]; apply evolvesTo_self) | apply evolves_ite | split)

theorem evolves_spareRetire (p : Nat) (k : Nat) (s : State) (hev : Evolves s0 s) :
    Evolves s0 (spareRetire p k s) := by
  unfold spareRetire
  try dsimp only
  with_reducible repeat' (first
    | assumption | apply evolves_raiseErr | apply evolves_setSpareState | (simp only [evolves_mk_iff]; apply evolvesTo_self))

theorem evolves_execKnownAnswerTestDone (slicePass : Bool) (sparePass : Bool) (s : State) (hev : Evolves s0 s) :
    ∃ t, execKnownAnswerTestDone slicePass sparePass s = .next t ∧ Evolves s0 t := by
  unfold execKnownAnswerTestDone
  try dsimp only
  refine ⟨_, rfl, ?_⟩
  with_reducible repeat' (first
    | (intro _; try dsimp only) | assumption | apply evolves_setSpareState | apply evolves_spareRetire | apply evolves_setSpareFor
    | apply evolves_rinc | (simp only [evolves_mk_iff]; apply evolvesTo_self) | apply evolves_ite | split)

theorem evolves_spareCheckEn (s : State) (hev : Evolves s0 s) :
    Evolves s0 (spareCheckEn s) := by
  unfold spareCheckEn
  try dsimp only
  with_reducible repeat' (first
    | assumption | apply evolves_setSpareState | (simp only [evolves_mk_iff]; apply evolvesTo_self) | apply evolves_ite | split)

theorem evolves_execClrForce (who : Requester) (value : Word) (s : State) (hev : Evolves s0 s) :
    ∃ t, execClrForce who value s = .next t ∧ Evolves s0 t := by
  unfold execClrForce
  try dsimp only
  refine ⟨_, rfl, ?_⟩
  with_reducible repeat' (first
    | assumption | apply evolves_writeReg | apply evolves_spareCheckEn | apply evolves_raiseErr
    | (simp only [evolves_mk_iff]; apply evolvesTo_self) | apply evolves_ite | split)

theorem evolves_execClrRelease (who : Requester) (value : Word) (s : State) (hev : Evolves s0 s) :
    ∃ t, execClrRelease who value s = .next t ∧ Evolves s0 t := by
  unfold execClrRelease
  try dsimp only
  refine ⟨_, rfl, ?_⟩
  with_reducible repeat' (first
    | assumption | apply evolves_writeReg | apply evolves_spareCheckEn | (simp only [evolves_mk_iff]; apply evolvesTo_self)
    | apply evolves_ite | split)

theorem evolves_darkWrite (who : Requester) (p : Nat) (value : Word) (s : State) (hev : Evolves s0 s) :
    Evolves s0 (darkWrite who p value s) := by
  unfold darkWrite
  try dsimp only
  with_reducible repeat' (first | assumption | apply evolves_writeReg | apply evolves_raiseErr | apply evolves_ite | split)

theorem evolves_execDarkCalStart (who : Requester) (pipe : Fin 2) (value : Word) (s : State) (hev : Evolves s0 s) :
    ∃ t, execDarkCalStart who pipe value s = .next t ∧ Evolves s0 t := by
  unfold execDarkCalStart
  try dsimp only
  refine ⟨_, rfl, ?_⟩
  with_reducible repeat' (first
    | assumption | apply evolves_darkWrite | apply evolves_setClr | apply evolves_setCalState | apply evolves_rset
    | (simp only [evolves_mk_iff]; apply evolvesTo_self) | apply evolves_ite | split)

theorem evolves_calFinish (p : Nat) (w : Nat) (h : Nat) (n : Nat) (s : State) (hev : Evolves s0 s) :
    Evolves s0 (calFinish p w h n s) := by
  unfold calFinish
  try dsimp only
  with_reducible repeat' (first
    | (intro _; try dsimp only) | assumption | apply evolves_rset | apply evolves_setClr | apply evolves_raiseErr
    | apply evolves_setCalState | apply evolves_memWrite | apply evolves_raiseInt
    | (simp only [evolves_mk_iff]; apply evolvesTo_self) | apply evolves_ite | apply evolves_foldl | split)

theorem evolves_execCalDone (pipe : Fin 2) (s : State) (hev : Evolves s0 s) :
    ∃ t, execCalDone pipe s = .next t ∧ Evolves s0 t := by
  unfold execCalDone
  try dsimp only
  refine ⟨_, rfl, ?_⟩
  with_reducible repeat' (first
    | (intro _; try dsimp only) | assumption | apply evolves_memSee | apply evolves_calAbort | apply evolves_calFinish
    | (simp only [evolves_mk_iff]; apply evolvesTo_self) | apply evolves_ite | split)

theorem evolves_execDarkCalCancel (who : Requester) (pipe : Fin 2) (value : Word) (s : State) (hev : Evolves s0 s) :
    ∃ t, execDarkCalCancel who pipe value s = .next t ∧ Evolves s0 t := by
  unfold execDarkCalCancel
  try dsimp only
  refine ⟨_, rfl, ?_⟩
  with_reducible repeat' (first | assumption | apply evolves_darkWrite | apply evolves_calAbort | apply evolves_ite | split)

theorem evolves_execTapPublish (pipe : Fin 2) (s : State) (hev : Evolves s0 s) :
    ∃ t, execTapPublish pipe s = .next t ∧ Evolves s0 t := by
  unfold execTapPublish
  try dsimp only
  refine ⟨_, rfl, ?_⟩
  with_reducible repeat' (first
    | assumption | apply evolves_ringPublish | apply evolves_setClr | (simp only [evolves_mk_iff]; apply evolvesTo_self)
    | refine evolves_snd (by assumption) ?_ | split)

theorem evolves_setLutState (p : Nat) (bank : Nat) (v : Nat) (s : State) (hev : Evolves s0 s) :
    Evolves s0 (setLutState p bank v s) := by
  unfold setLutState
  try dsimp only
  with_reducible repeat' (first | assumption | apply evolves_rsetFld | apply evolves_ite | split)

theorem evolves_execLutLoad (who : Requester) (pipe : Fin 2) (value : Word) (s : State) (hev : Evolves s0 s) :
    ∃ t, execLutLoad who pipe value s = .next t ∧ Evolves s0 t := by
  unfold execLutLoad
  try dsimp only
  refine ⟨_, rfl, ?_⟩
  with_reducible repeat' (first
    | assumption | apply evolves_writeReg | apply evolves_raiseErr | apply evolves_setLutState | apply evolves_setClr
    | (simp only [evolves_mk_iff]; apply evolvesTo_self) | apply evolves_ite | split)

theorem evolves_execLutLoadDone (pipe : Fin 2) (s : State) (hev : Evolves s0 s) :
    ∃ t, execLutLoadDone pipe s = .next t ∧ Evolves s0 t := by
  unfold execLutLoadDone
  try dsimp only
  refine ⟨_, rfl, ?_⟩
  with_reducible repeat' (first
    | (intro _; try dsimp only) | assumption | apply evolves_setClr | apply evolves_memSee | apply evolves_memWake
    | apply evolves_raiseInt | apply evolves_setLutState | apply evolves_raiseErr
    | (simp only [evolves_mk_iff]; apply evolvesTo_self) | apply evolves_ite | refine evolves_snd (by assumption) ?_ | split)

theorem evolves_execOtPublish (pipe : Fin 2) (output : Fin 4) (s : State) (hev : Evolves s0 s) :
    ∃ t, execOtPublish pipe output s = .next t ∧ Evolves s0 t := by
  unfold execOtPublish
  try dsimp only
  refine ⟨_, rfl, ?_⟩
  with_reducible repeat' (first
    | (intro _; try dsimp only) | assumption | apply evolves_setClr | apply evolves_rsetFld | apply evolves_sourceVector
    | apply evolves_raiseInt | (simp only [evolves_mk_iff]; apply evolvesTo_self) | split)

theorem evolves_tableEntry (p : Nat) (t : Nat) (i : Nat) (v : F32) (s : State) (hev : Evolves s0 s) :
    Evolves s0 (tableEntry p t i v s) := by
  unfold tableEntry
  try dsimp only
  with_reducible repeat' (first
    | assumption | apply evolves_setClr | apply evolves_rsetBit | (simp only [evolves_mk_iff]; apply evolvesTo_self)
    | apply evolves_ite | split)

theorem evolves_tableIndexOn (s : State) (hev : Evolves s0 s) :
    Evolves s0 (tableIndexOn s) := by
  unfold tableIndexOn
  try dsimp only
  with_reducible repeat' (first | assumption | apply evolves_rsetFld)

theorem evolves_execTableWrite (who : Requester) (value : Word) (s : State) (hev : Evolves s0 s) :
    ∃ t, execTableWrite who value s = .next t ∧ Evolves s0 t := by
  unfold execTableWrite
  try dsimp only
  refine ⟨_, rfl, ?_⟩
  with_reducible repeat' (first
    | assumption | apply evolves_writeReg | apply evolves_tableIndexOn | apply evolves_raiseErr | apply evolves_setClr
    | apply evolves_tableEntry | (simp only [evolves_mk_iff]; apply evolvesTo_self) | apply evolves_ite | split)

/-! ### Cmp -/

theorem evolves_setLaneRun (k : Nat) (r : Option CmpRun) (s : State) (hev : Evolves s0 s) :
    Evolves s0 (setLaneRun k r s) := by
  unfold setLaneRun
  try dsimp only
  with_reducible repeat' (first
    | assumption | apply evolves_rsetBit | apply evolves_setCmp | (simp only [evolves_mk_iff]; apply evolvesTo_self))

theorem evolves_commitSlots (q : Nat) (y0 : List CmpSlot) (y1 : State) (hev : Evolves s0 y1) :
    Evolves s0 (commitSlots q y0 y1) := by
  induction y0 generalizing q y1
  all_goals
    unfold commitSlots
    try dsimp only
    with_reducible repeat' (first
      | (intro _; try dsimp only) | assumption | apply evolves_psEnd | apply evolves_memWrite | apply evolves_setCmp
      | apply evolves_rset | apply evolves_sourceVector | apply_assumption | (simp only [evolves_mk_iff]; apply evolvesTo_self)
      | apply evolves_ite | split)

theorem evolves_hostComplete (q : Nat) (slot : Nat) (d : List Byte) (status : Nat) (out : Nat) (crc : Nat) (s : State) (hev : Evolves s0 s) :
    Evolves s0 (hostComplete q slot d status out crc s) := by
  unfold hostComplete
  try dsimp only
  with_reducible repeat' (first
    | (intro _; try dsimp only) | assumption | apply evolves_commitSlots | apply evolves_setCmp
    | (simp only [evolves_mk_iff]; apply evolvesTo_self) | apply evolves_ite | split)

theorem evolves_jobReads (r : CmpRun) (s : State) (hev : Evolves s0 s) :
    Evolves s0 (jobReads r s) := by
  unfold jobReads
  try dsimp only
  with_reducible repeat' (first
    | (intro _; try dsimp only) | assumption | apply evolves_memSee | apply evolves_memWake
    | (simp only [evolves_mk_iff]; apply evolvesTo_self) | apply evolves_foldl | split)

theorem evolves_jobEnd (lane : Nat) (failed : Bool) (s : State) (hev : Evolves s0 s) :
    Evolves s0 (jobEnd lane failed s) := by
  unfold jobEnd
  try dsimp only
  with_reducible repeat' (first | assumption | apply evolves_rinc | apply evolves_setLaneRun | apply evolves_ite | split)

theorem evolves_junkBuffer (d : List Byte) (s : State) (hev : Evolves s0 s) :
    Evolves s0 (junkBuffer d s) := by
  unfold junkBuffer
  try dsimp only
  with_reducible repeat' (first | assumption | apply evolves_draw | apply evolves_memWrite | apply evolves_ite | split)

theorem evolves_picGone (c : CasPicture) (s : State) (hev : Evolves s0 s) :
    Evolves s0 (picGone c s) := by
  unfold picGone
  try dsimp only
  with_reducible repeat' (first | (intro _; try dsimp only) | assumption | (simp only [evolves_mk_iff]; apply evolvesTo_self))

theorem evolves_jobFail (lane : Nat) (r : CmpRun) (cause : Nat) (info : Nat) (s : State) (hev : Evolves s0 s) :
    Evolves s0 (jobFail lane r cause info s) := by
  unfold jobFail
  try dsimp only
  with_reducible repeat' (first
    | (intro _; try dsimp only) | assumption | apply evolves_jobEnd | apply evolves_raiseErr | apply evolves_picGone
    | apply evolves_rinc | apply evolves_storeDrop | apply evolves_raiseInt | apply evolves_recDrop | apply evolves_hostComplete
    | apply evolves_junkBuffer | (simp only [evolves_mk_iff]; apply evolvesTo_self) | split)

theorem evolves_cascadeDone (c : CasPicture) (buf : Nat) (data : List Byte) (s : State) (hev : Evolves s0 s) :
    Evolves s0 (cascadeDone c buf data s) := by
  unfold cascadeDone
  try dsimp only
  with_reducible repeat' (first
    | (intro _; try dsimp only) | assumption | apply evolves_picGone | apply evolves_rinc | apply evolves_storeDrop
    | apply evolves_raiseErr | apply evolves_memWrite | apply evolves_storeDone
    | (simp only [evolves_mk_iff]; apply evolvesTo_self) | apply evolves_ite | apply evolves_foldl | split)

theorem evolves_jobCommit (lane : Nat) (r : CmpRun) (out : List Byte) (crc : Nat) (s : State) (hev : Evolves s0 s) :
    Evolves s0 (jobCommit lane r out crc s) := by
  unfold jobCommit
  try dsimp only
  with_reducible repeat' (first
    | (intro _; try dsimp only) | assumption | apply evolves_rset | apply evolves_ringWrite | apply evolves_jobEnd
    | apply evolves_cascadeDone | apply evolves_recAccept | apply evolves_putRecFrame | apply evolves_setCmp
    | apply evolves_hostComplete | apply evolves_memWrite | (simp only [evolves_mk_iff]; apply evolvesTo_self) | apply evolves_ite
    | split)

theorem evolves_execJobDone (lane : Fin 10) (s : State) (hev : Evolves s0 s) :
    ∃ t, execJobDone lane s = .next t ∧ Evolves s0 t := by
  unfold execJobDone
  try dsimp only
  refine ⟨_, rfl, ?_⟩
  with_reducible repeat' (first
    | (intro _; try dsimp only) | assumption | apply evolves_jobReads | apply evolves_jobFail | apply evolves_rsetBit
    | apply evolves_rinc | apply evolves_ringWrite | apply evolves_jobCommit | (simp only [evolves_mk_iff]; apply evolvesTo_self)
    | apply evolves_ite | split)

theorem evolves_execJobResume (lane : Fin 10) (s : State) (hev : Evolves s0 s) :
    ∃ t, execJobResume lane s = .next t ∧ Evolves s0 t := by
  unfold execJobResume
  try dsimp only
  refine ⟨_, rfl, ?_⟩
  with_reducible repeat' (first | assumption | apply evolves_rsetBit | apply evolves_ite | split)

theorem evolves_execPauseTimeout (lane : Fin 10) (s : State) (hev : Evolves s0 s) :
    ∃ t, execPauseTimeout lane s = .next t ∧ Evolves s0 t := by
  unfold execPauseTimeout
  try dsimp only
  refine ⟨_, rfl, ?_⟩
  with_reducible repeat' (first
    | (intro _; try dsimp only) | assumption | apply evolves_rsetBit | apply evolves_raiseInt | apply evolves_jobFail
    | (simp only [evolves_mk_iff]; apply evolvesTo_self) | apply evolves_ite | split)

theorem evolves_execJobStart (deflate : Bool) (s : State) (hev : Evolves s0 s) :
    ∃ t, execJobStart deflate s = .next t ∧ Evolves s0 t := by
  unfold execJobStart
  try dsimp only
  refine ⟨_, rfl, ?_⟩
  with_reducible repeat' (first
    | (intro _; try dsimp only) | assumption | apply evolves_setCmp | apply evolves_setLaneRun | apply evolves_jobFail
    | apply evolves_storeBegin | (simp only [evolves_mk_iff]; apply evolvesTo_self) | apply evolves_ite | split)

theorem evolves_takeDescs (q : Nat) (y0 : Nat) (y1 : State) (hev : Evolves s0 y1) :
    Evolves s0 (takeDescs q y0 y1) := by
  induction y0 generalizing q y1
  all_goals
    unfold takeDescs
    try dsimp only
    with_reducible repeat' (first
      | assumption | apply evolves_raiseInt | apply evolves_raiseErr | apply evolves_setCmp | apply evolves_psBegin
      | apply evolves_rset | apply evolves_cmpSubmit | apply_assumption | (simp only [evolves_mk_iff]; apply evolvesTo_self)
      | apply evolves_ite | split)

theorem evolves_queueRun (q : Nat) (s : State) (hev : Evolves s0 s) :
    Evolves s0 (queueRun q s) := by
  unfold queueRun
  try dsimp only
  with_reducible repeat' (first | assumption | apply evolves_takeDescs | apply evolves_ite | split)

theorem evolves_execJobSubmit (who : Requester) (queue : Fin 4) (value : Word) (s : State) (hev : Evolves s0 s) :
    ∃ t, execJobSubmit who queue value s = .next t ∧ Evolves s0 t := by
  unfold execJobSubmit
  try dsimp only
  refine ⟨_, rfl, ?_⟩
  with_reducible repeat' (first | assumption | apply evolves_writeReg | apply evolves_queueRun | apply evolves_ite | split)

theorem evolves_execSendBind (who : Requester) (stream : Fin 8) (value : Word) (s : State) (hev : Evolves s0 s) :
    ∃ t, execSendBind who stream value s = .next t ∧ Evolves s0 t := by
  unfold execSendBind
  try dsimp only
  refine ⟨_, rfl, ?_⟩
  with_reducible repeat' (first
    | assumption | apply evolves_raiseErr | apply evolves_countSeq | apply evolves_writeReg | apply evolves_ite | split)

end Sys2Proof.Laws
end

