-- ==== Sys2Proof/Laws/EvolvesMotion.lean ====
section
/-! SUPPORT. `Evolves` for counters, debug, motion, heat and the media array: each operation keeps what the state it starts from has kept. -/

namespace Sys2Proof.Laws

open Sys2Proof.Machine Sys2Proof.Safety

set_option linter.all false

variable {s0 : State}

/-! ### Cnt -/

theorem evolves_counterTick (block : Nat) (c : Nat) (s : State) (hev : Evolves s0 s) :
    Evolves s0 (counterTick block c s) := by
  unfold counterTick
  try dsimp only
  with_reducible repeat' (first
    | assumption | apply evolves_setCnt | apply evolves_rset2 | (simp only [evolves_mk_iff]; apply evolvesTo_self)
    | apply evolves_ite | split)

theorem evolves_countersTick (s : State) (hev : Evolves s0 s) :
    Evolves s0 (countersTick s) := by
  unfold countersTick
  try dsimp only
  with_reducible repeat' (first
    | (intro _; try dsimp only) | assumption | apply evolves_draw | apply evolves_counterTick | apply evolves_ite
    | apply evolves_foldl | split)

theorem evolves_counterSelected (block : Nat) (c : Nat) (s : State) (hev : Evolves s0 s) :
    Evolves s0 (counterSelected block c s) := by
  unfold counterSelected
  try dsimp only
  with_reducible repeat' (first
    | assumption | apply evolves_rset2 | apply evolves_setCnt | (simp only [evolves_mk_iff]; apply evolvesTo_self))

theorem evolves_counterSelect (who : Requester) (block : Nat) (c : Nat) (value : Word) (s : State) (hev : Evolves s0 s) :
    Evolves s0 (counterSelect who block c value s) := by
  unfold counterSelect
  try dsimp only
  with_reducible repeat' (first | assumption | apply evolves_writeReg | apply evolves_counterSelected | apply evolves_ite | split)

theorem evolves_execCounterSelect (who : Requester) (block : Fin 18) (counter : Fin 8) (value : Word) (s : State) (hev : Evolves s0 s) :
    ∃ t, execCounterSelect who block counter value s = .next t ∧ Evolves s0 t := by
  unfold execCounterSelect
  try dsimp only
  refine ⟨_, rfl, ?_⟩
  with_reducible repeat' (first | assumption | apply evolves_counterSelect)

theorem evolves_counterClear (who : Requester) (block : Nat) (value : Word) (s : State) (hev : Evolves s0 s) :
    Evolves s0 (counterClear who block value s) := by
  unfold counterClear
  try dsimp only
  with_reducible repeat' (first
    | (intro _; try dsimp only) | assumption | apply evolves_writeReg | apply evolves_rset2 | apply evolves_ite
    | apply evolves_foldl | split)

theorem evolves_execCounterClear (who : Requester) (block : Fin 18) (value : Word) (s : State) (hev : Evolves s0 s) :
    ∃ t, execCounterClear who block value s = .next t ∧ Evolves s0 t := by
  unfold execCounterClear
  try dsimp only
  refine ⟨_, rfl, ?_⟩
  with_reducible repeat' (first | assumption | apply evolves_counterClear)

theorem evolves_snapshotEnable (s : State) (hev : Evolves s0 s) :
    Evolves s0 (snapshotEnable s) := by
  unfold snapshotEnable
  try dsimp only
  with_reducible repeat' (first
    | assumption | apply evolves_setCnt | (simp only [evolves_mk_iff]; apply evolvesTo_self) | apply evolves_ite | split)

theorem evolves_snapshotSkip (cause : Nat) (k : Nat) (s : State) (hev : Evolves s0 s) :
    Evolves s0 (snapshotSkip cause k s) := by
  unfold snapshotSkip
  try dsimp only
  with_reducible repeat' (first
    | assumption | apply evolves_raiseInt | apply evolves_raiseErr | apply evolves_rinc | apply evolves_setCnt
    | (simp only [evolves_mk_iff]; apply evolvesTo_self))

theorem evolves_snapshotTake (k : Nat) (s : State) (hev : Evolves s0 s) :
    Evolves s0 (snapshotTake k s) := by
  unfold snapshotTake
  try dsimp only
  with_reducible repeat' (first
    | (intro _; try dsimp only) | assumption | apply evolves_snapshotSkip | apply evolves_setCnt
    | (simp only [evolves_mk_iff]; apply evolvesTo_self) | apply evolves_ite | split)

theorem evolves_execSnapshot (s : State) (hev : Evolves s0 s) :
    ∃ t, execSnapshot s = .next t ∧ Evolves s0 t := by
  unfold execSnapshot
  try dsimp only
  refine ⟨_, rfl, ?_⟩
  with_reducible repeat' (first
    | assumption | apply evolves_snapshotTake | apply evolves_setCnt | (simp only [evolves_mk_iff]; apply evolvesTo_self)
    | apply evolves_ite | split)

theorem evolves_userUpdate (r : CntRecord) (s : State) (hev : Evolves s0 s) :
    Evolves s0 (userUpdate r s) := by
  unfold userUpdate
  try dsimp only
  with_reducible repeat' (first
    | (intro _; try dsimp only) | assumption | apply evolves_setCnt | (simp only [evolves_mk_iff]; apply evolvesTo_self)
    | apply evolves_foldl)

theorem evolves_snapshotDone (r : CntRecord) (s : State) (hev : Evolves s0 s) :
    Evolves s0 (snapshotDone r s) := by
  unfold snapshotDone
  try dsimp only
  with_reducible repeat' (first
    | assumption | apply evolves_ringWrite | apply evolves_setCnt | apply evolves_raiseInt | apply evolves_rset
    | apply evolves_userUpdate | apply evolves_sourceVector | (simp only [evolves_mk_iff]; apply evolvesTo_self)
    | apply evolves_ite | split)

theorem evolves_execSnapshotRecordDone (s : State) (hev : Evolves s0 s) :
    ∃ t, execSnapshotRecordDone s = .next t ∧ Evolves s0 t := by
  unfold execSnapshotRecordDone
  try dsimp only
  refine ⟨_, rfl, ?_⟩
  with_reducible repeat' (first
    | (intro _; try dsimp only) | assumption | apply evolves_snapshotDone | (simp only [evolves_mk_iff]; apply evolvesTo_self)
    | split)

/-! ### Dbg -/

theorem evolves_setDbg (v : DbgState) (s : State) (hev : Evolves s0 s) :
    Evolves s0 (setDbg v s) := by
  unfold setDbg
  try dsimp only
  with_reducible repeat' (first | assumption | (simp only [evolves_mk_iff]; apply evolvesTo_self))

theorem evolves_tokenBegin (s : State) (hev : Evolves s0 s) :
    Evolves s0 (tokenBegin s) := by
  unfold tokenBegin
  try dsimp only
  with_reducible repeat' (first
    | assumption | apply evolves_raiseErr | apply evolves_rsetBit | apply evolves_setDbg
    | (simp only [evolves_mk_iff]; apply evolvesTo_self) | apply evolves_ite | split)

theorem evolves_tokenVerify (who : Requester) (value : Word) (s : State) (hev : Evolves s0 s) :
    Evolves s0 (tokenVerify who value s) := by
  unfold tokenVerify
  try dsimp only
  with_reducible repeat' (first | assumption | apply evolves_writeReg | apply evolves_tokenBegin | apply evolves_ite | split)

theorem evolves_execTokenVerify (who : Requester) (value : Word) (s : State) (hev : Evolves s0 s) :
    ∃ t, execTokenVerify who value s = .next t ∧ Evolves s0 t := by
  unfold execTokenVerify
  try dsimp only
  refine ⟨_, rfl, ?_⟩
  with_reducible repeat' (first | assumption | apply evolves_tokenVerify)

theorem evolves_tokenEnd (b : List Byte) (key : Nat) (s : State) (hev : Evolves s0 s) :
    Evolves s0 (tokenEnd b key s) := by
  unfold tokenEnd
  try dsimp only
  with_reducible repeat' (first
    | assumption | apply evolves_rsetBit | apply evolves_setDbg | apply evolves_rsetFld | apply evolves_raiseInt
    | apply evolves_raiseErr | (simp only [evolves_mk_iff]; apply evolvesTo_self) | apply evolves_ite | split)

theorem evolves_execTokenVerifyDone (s : State) (hev : Evolves s0 s) :
    ∃ t, execTokenVerifyDone s = .next t ∧ Evolves s0 t := by
  unfold execTokenVerifyDone
  try dsimp only
  refine ⟨_, rfl, ?_⟩
  with_reducible repeat' (first
    | (intro _; try dsimp only) | assumption | apply evolves_tokenEnd | (simp only [evolves_mk_iff]; apply evolvesTo_self) | split)

theorem evolves_execBypass (tdi : List Bool) (s : State) (hev : Evolves s0 s) :
    ∃ t, execBypass tdi s = .next t ∧ Evolves s0 t := by
  unfold execBypass
  try dsimp only
  refine ⟨_, rfl, ?_⟩
  with_reducible repeat' (first
    | assumption | apply evolves_emit | apply evolves_setDbg | (simp only [evolves_mk_iff]; apply evolvesTo_self))

theorem evolves_execIdcode (s : State) (hev : Evolves s0 s) :
    ∃ t, execIdcode s = .next t ∧ Evolves s0 t := by
  unfold execIdcode
  try dsimp only
  refine ⟨_, rfl, ?_⟩
  with_reducible repeat' (first
    | assumption | apply evolves_emit | apply evolves_setDbg | (simp only [evolves_mk_iff]; apply evolvesTo_self))

theorem evolves_execSamplePreload (pins : List Bool) (load : List Bool) (s : State) (hev : Evolves s0 s) :
    ∃ t, execSamplePreload pins load s = .next t ∧ Evolves s0 t := by
  unfold execSamplePreload
  try dsimp only
  refine ⟨_, rfl, ?_⟩
  with_reducible repeat' (first
    | assumption | apply evolves_emit | apply evolves_setDbg | (simp only [evolves_mk_iff]; apply evolvesTo_self))

theorem evolves_execExtest (pins : List Bool) (load : List Bool) (s : State) (hev : Evolves s0 s) :
    ∃ t, execExtest pins load s = .next t ∧ Evolves s0 t := by
  unfold execExtest
  try dsimp only
  refine ⟨_, rfl, ?_⟩
  with_reducible repeat' (first
    | assumption | apply evolves_emit | apply evolves_setDbg | (simp only [evolves_mk_iff]; apply evolvesTo_self))

theorem evolves_execBinnacleHalt (s : State) (hev : Evolves s0 s) :
    ∃ t, execBinnacleHalt s = .next t ∧ Evolves s0 t := by
  unfold execBinnacleHalt
  try dsimp only
  refine ⟨_, rfl, ?_⟩
  with_reducible repeat' (first
    | assumption | apply evolves_setPlt | (simp only [evolves_mk_iff]; apply evolvesTo_self) | apply evolves_ite | split)

theorem evolves_execBinnacleStep (s : State) (hev : Evolves s0 s) :
    ∃ t, execBinnacleStep s = .next t ∧ Evolves s0 t := by
  unfold execBinnacleStep
  try dsimp only
  refine ⟨_, rfl, ?_⟩
  with_reducible repeat' (first | assumption | apply evolves_emit | apply evolves_ite | split)

/-! ### Mot -/

theorem evolves_setAx (a : Nat) (st : Nat) (s : State) (hev : Evolves s0 s) :
    Evolves s0 (setAx a st s) := by
  unfold setAx
  try dsimp only
  with_reducible repeat' (first | assumption | apply evolves_raiseInt | apply evolves_rsetFld | apply evolves_ite | split)

theorem evolves_brakeApply (a : Nat) (s : State) (hev : Evolves s0 s) :
    Evolves s0 (brakeApply a s) := by
  unfold brakeApply
  try dsimp only
  with_reducible repeat' (first
    | assumption | apply evolves_putAx | apply evolves_emit | apply evolves_rsetBit
    | (simp only [evolves_mk_iff]; apply evolvesTo_self) | apply evolves_ite | split)

theorem evolves_brakeRelease (a : Nat) (s : State) (hev : Evolves s0 s) :
    Evolves s0 (brakeRelease a s) := by
  unfold brakeRelease
  try dsimp only
  with_reducible repeat' (first
    | assumption | apply evolves_putAx | apply evolves_emit | apply evolves_rsetBit
    | (simp only [evolves_mk_iff]; apply evolvesTo_self) | apply evolves_ite | split)

theorem evolves_setEn (a : Nat) (high : Bool) (s : State) (hev : Evolves s0 s) :
    Evolves s0 (setEn a high s) := by
  unfold setEn
  try dsimp only
  with_reducible repeat' (first
    | assumption | apply evolves_emit | apply evolves_putAx | (simp only [evolves_mk_iff]; apply evolvesTo_self)
    | apply evolves_ite | split)

theorem evolves_inverterOpen (a : Nat) (s : State) (hev : Evolves s0 s) :
    Evolves s0 (inverterOpen a s) := by
  unfold inverterOpen
  try dsimp only
  with_reducible repeat' (first
    | assumption | apply evolves_emit | apply evolves_putAx | apply evolves_rsetBit
    | (simp only [evolves_mk_iff]; apply evolvesTo_self))

theorem evolves_enterHold (a : Nat) (s : State) (hev : Evolves s0 s) :
    Evolves s0 (enterHold a s) := by
  unfold enterHold
  try dsimp only
  with_reducible repeat' (first
    | assumption | apply evolves_setAx | apply evolves_setEn | apply evolves_inverterOpen | apply evolves_putAx
    | (simp only [evolves_mk_iff]; apply evolvesTo_self))

theorem evolves_enterOff (a : Nat) (s : State) (hev : Evolves s0 s) :
    Evolves s0 (enterOff a s) := by
  unfold enterOff
  try dsimp only
  with_reducible repeat' (first
    | assumption | apply evolves_setAx | apply evolves_brakeApply | apply evolves_setEn | apply evolves_inverterOpen
    | apply evolves_putAx | (simp only [evolves_mk_iff]; apply evolvesTo_self))

theorem evolves_enterDriven (a : Nat) (st : Nat) (s : State) (hev : Evolves s0 s) :
    Evolves s0 (enterDriven a st s) := by
  unfold enterDriven
  try dsimp only
  with_reducible repeat' (first
    | assumption | apply evolves_setAx | apply evolves_brakeRelease | apply evolves_setEn | apply evolves_putAx
    | (simp only [evolves_mk_iff]; apply evolvesTo_self))

theorem evolves_enterRun (a : Nat) (s : State) (hev : Evolves s0 s) :
    Evolves s0 (enterRun a s) := by
  unfold enterRun
  try dsimp only
  with_reducible repeat' (first
    | assumption | apply evolves_enterDriven | apply evolves_putAx | (simp only [evolves_mk_iff]; apply evolvesTo_self))

theorem evolves_axFaults (a : Nat) (bit : Nat) (cause : Nat) (info : Word) (hold : Bool) (s : State) (hev : Evolves s0 s) :
    Evolves s0 (axFaults a bit cause info hold s) := by
  unfold axFaults
  try dsimp only
  with_reducible repeat' (first
    | assumption | apply evolves_raiseErr | apply evolves_raiseInt | apply evolves_rsetBit | apply evolves_enterHold
    | apply evolves_ite | split)

theorem evolves_feedbackLost (a : Nat) (s : State) (hev : Evolves s0 s) :
    Evolves s0 (feedbackLost a s) := by
  unfold feedbackLost
  try dsimp only
  with_reducible repeat' (first | assumption | apply evolves_axFaults | apply evolves_rsetBit | apply evolves_ite | split)

theorem evolves_sourceBad (a : Nat) (kind : Nat) (s : State) (hev : Evolves s0 s) :
    Evolves s0 (sourceBad a kind s) := by
  unfold sourceBad
  try dsimp only
  with_reducible repeat' (first
    | assumption | apply evolves_putAx | apply evolves_feedbackLost | (simp only [evolves_mk_iff]; apply evolvesTo_self)
    | apply evolves_ite | split)

theorem evolves_senseOf (a : Nat) (down : Bool) (s : State) (hev : Evolves s0 s) :
    Evolves s0 (senseOf a down s) := by
  unfold senseOf
  try dsimp only
  with_reducible repeat' (first
    | assumption | apply evolves_putAx | apply evolves_rsetBit | apply evolves_raiseInt
    | (simp only [evolves_mk_iff]; apply evolvesTo_self) | apply evolves_ite | split)

theorem evolves_qeiSample (a : Nat) (na : Bool) (nb : Bool) (s : State) (hev : Evolves s0 s) :
    Evolves s0 (qeiSample a na nb s) := by
  unfold qeiSample
  try dsimp only
  with_reducible repeat' (first
    | assumption | apply evolves_putAx | apply evolves_raiseErr | apply evolves_rinc | apply evolves_sourceBad
    | apply evolves_senseOf | apply evolves_movePos | (simp only [evolves_mk_iff]; apply evolvesTo_self) | apply evolves_ite
    | split)

theorem evolves_indexEdge (a : Nat) (s : State) (hev : Evolves s0 s) :
    Evolves s0 (indexEdge a s) := by
  unfold indexEdge
  try dsimp only
  with_reducible repeat' (first | assumption | apply evolves_rset2)

theorem evolves_sinCosSample (a : Nat) (s : State) (hev : Evolves s0 s) :
    Evolves s0 (sinCosSample a s) := by
  unfold sinCosSample
  try dsimp only
  with_reducible repeat' (first
    | (intro _; try dsimp only) | assumption | apply evolves_sourceBad | apply evolves_raiseErr | apply evolves_putAx
    | apply evolves_rset2 | apply evolves_movePos | (simp only [evolves_mk_iff]; apply evolvesTo_self) | apply evolves_ite | split)

theorem evolves_serialFails (a : Nat) (s : State) (hev : Evolves s0 s) :
    Evolves s0 (serialFails a s) := by
  unfold serialFails
  try dsimp only
  with_reducible repeat' (first
    | assumption | apply evolves_putAx | apply evolves_sourceBad | (simp only [evolves_mk_iff]; apply evolvesTo_self)
    | apply evolves_ite | split)

theorem evolves_serialRead (a : Nat) (started : Bool) (raw : Nat) (alarm : Bool) (stale : Bool) (crc : Nat) (stamp : Nat) (s : State) (hev : Evolves s0 s) :
    Evolves s0 (serialRead a started raw alarm stale crc stamp s) := by
  unfold serialRead
  try dsimp only
  with_reducible repeat' (first
    | (intro _; try dsimp only) | assumption | apply evolves_serialFails | apply evolves_raiseErr | apply evolves_rinc
    | apply evolves_sourceBad | apply evolves_putAx | apply evolves_movePos | (simp only [evolves_mk_iff]; apply evolvesTo_self)
    | apply evolves_ite | split)

theorem evolves_tripCheck (a : Nat) (phase : Nat) (i : F32) (s : State) (hev : Evolves s0 s) :
    Evolves s0 (tripCheck a phase i s) := by
  unfold tripCheck
  try dsimp only
  with_reducible repeat' (first | assumption | apply evolves_axFaults | apply evolves_ite | split)

theorem evolves_filterOutput (chan : Nat) (v : Int) (s : State) (hev : Evolves s0 s) :
    Evolves s0 (filterOutput chan v s) := by
  unfold filterOutput
  try dsimp only
  with_reducible repeat' (first
    | (intro _; try dsimp only) | assumption | apply evolves_rset | apply evolves_axFaults | apply evolves_tripCheck
    | apply evolves_putAx | apply evolves_sinCosSample | (simp only [evolves_mk_iff]; apply evolvesTo_self) | apply evolves_ite
    | apply evolves_foldl | split)

theorem evolves_dsmStill (chan : Nat) (s : State) (hev : Evolves s0 s) :
    Evolves s0 (dsmStill chan s) := by
  unfold dsmStill
  try dsimp only
  with_reducible repeat' (first
    | (intro _; try dsimp only) | assumption | apply evolves_axFaults | apply evolves_putAx
    | (simp only [evolves_mk_iff]; apply evolvesTo_self) | apply evolves_foldl)

theorem evolves_dsmMoves (chan : Nat) (s : State) (hev : Evolves s0 s) :
    Evolves s0 (dsmMoves chan s) := by
  unfold dsmMoves
  try dsimp only
  with_reducible repeat' (first
    | (intro _; try dsimp only) | assumption | apply evolves_putAx | (simp only [evolves_mk_iff]; apply evolvesTo_self)
    | apply evolves_foldl)

theorem evolves_dsmBit (chan : Nat) (s : State) (b : Bool) (hev : Evolves s0 s) :
    Evolves s0 (dsmBit chan s b) := by
  unfold dsmBit
  try dsimp only
  with_reducible repeat' (first
    | assumption | apply evolves_dsmStill | apply evolves_dsmMoves | apply evolves_filterOutput
    | (simp only [evolves_mk_iff]; apply evolvesTo_self) | apply evolves_ite | refine evolves_snd (by assumption) ?_ | split)

theorem evolves_currentBits (a : Nat) (u v : List Bool) (s : State) (hev : Evolves s0 s) :
    Evolves s0 (currentBits a u v s) := by
  unfold currentBits
  with_reducible repeat' (first
    | (intro _; try dsimp only) | assumption | apply evolves_dsmBit | apply evolves_foldl)

theorem evolves_offsetDone (a : Nat) (s : State) (hev : Evolves s0 s) :
    Evolves s0 (offsetDone a s) := by
  unfold offsetDone
  try dsimp only
  with_reducible repeat' (first
    | (intro _; try dsimp only) | assumption | apply evolves_putAx | apply evolves_rset
    | (simp only [evolves_mk_iff]; apply evolvesTo_self) | apply evolves_ite | split)

theorem evolves_motObserved (a : Nat) (ia : F32) (ib : F32) (s : State) (hev : Evolves s0 s) :
    Evolves s0 (motObserved a ia ib s) := by
  unfold motObserved
  try dsimp only
  with_reducible repeat' (first
    | assumption | apply evolves_rset | apply evolves_draw | apply evolves_putAx | apply evolves_movePos
    | (simp only [evolves_mk_iff]; apply evolvesTo_self) | apply evolves_ite | refine evolves_snd (by assumption) ?_ | split)

theorem evolves_currentTick (a : Nat) (s1 : State) (hev : Evolves s0 s1) :
    Evolves s0 (currentTick a s1) := by
  unfold currentTick
  try dsimp only
  with_reducible repeat' (first
    | assumption | apply evolves_emit | apply evolves_rsetBit | apply evolves_putAx | apply evolves_motObserved
    | (simp only [evolves_mk_iff]; apply evolvesTo_self) | apply evolves_ite | refine evolves_snd (by assumption) ?_ | split)

theorem evolves_velocityAxis (a : Nat) (s : State) (hev : Evolves s0 s) : Evolves s0 (velocityAxis a s) := by
  unfold velocityAxis
  extract_lets x d vel s1 s2 y top s3
  have h1 : Evolves s0 s1 := evolves_rset _ _ _ (evolves_putAx _ _ _ hev)
  have h2 : Evolves s0 s2 := evolves_ite h1 (evolves_senseOf _ _ _ h1)
  have h3 : Evolves s0 s3 := by
    unfold s3
    split
    · split
      exact evolves_putAx _ _ _ h2
    · exact h2
  split
  · exact evolves_emit _ _ h3
  · exact h3

theorem evolves_velocityTick (s : State) (hev : Evolves s0 s) :
    Evolves s0 (velocityTick s) := by
  unfold velocityTick
  try dsimp only
  with_reducible repeat' (first
    | (intro _; try dsimp only) | assumption | apply evolves_velocityAxis | apply evolves_ite | apply evolves_foldl | split)

theorem evolves_showQueue (a : Nat) (s : State) (hev : Evolves s0 s) :
    Evolves s0 (showQueue a s) := by
  unfold showQueue
  try dsimp only
  with_reducible repeat' (first | assumption | apply evolves_rset)

theorem evolves_softLimit (a : Nat) (p : Int) (s : State) (hev : Evolves s0 s) : Evolves s0 (softLimit a p s).2 := by
  unfold softLimit
  extract_lets lo hi side x s1 s2
  have h1 : Evolves s0 s1 := evolves_putAx _ _ _ hev
  clear_value s1 side
  refine evolves_pair ?_
  unfold s2
  split
  · split
    · exact h1
    · exact evolves_raiseErr _ _ _ _ h1
  · exact h1

theorem evolves_setpointsDue (a : Nat) (tick : Nat) (s : State) (hev : Evolves s0 s) :
    Evolves s0 (setpointsDue a tick s) := by
  unfold setpointsDue
  try dsimp only
  with_reducible repeat' (first
    | (intro _; try dsimp only) | assumption | apply evolves_showQueue | apply evolves_putAx | apply evolves_raiseInt
    | apply evolves_rinc | (simp only [evolves_mk_iff]; apply evolvesTo_self) | apply evolves_ite | split)

theorem evolves_positionAxis (a tick : Nat) (s : State) (hev : Evolves s0 s) : Evolves s0 (positionAxis a tick s) := by
  unfold positionAxis
  extract_lets t0 ax t1 t2 t3 x top t4
  have h0 : Evolves s0 t0 := by
    unfold t0
    split
    · exact evolves_commitApply _ _ hev
    · exact hev
  clear_value t0
  have h1 : Evolves s0 t1 := evolves_putAx _ _ _ h0
  clear_value t1
  have h2 : Evolves s0 t2 := by
    unfold t2
    split
    · split
      · exact h1
      · split
        rename_i heq
        have h := evolves_snd heq (evolves_softLimit _ _ _ h1)
        extract_lets e
        split
        · exact evolves_axFaults _ _ _ _ _ _ h
        · exact h
    · exact h1
  clear_value t2
  have h3 : Evolves s0 t3 := evolves_setpointsDue _ _ _ h2
  clear_value t3
  have h4 : Evolves s0 t4 := by
    unfold t4
    split
    · exact h3
    · skip
      split
      · exact evolves_putAx _ _ _ h3
      · split
        rename_i heq
        have h := evolves_snd heq (evolves_softLimit _ _ _ h3)
        extract_lets y
        split
        · exact evolves_putAx _ _ _ h
        · exact evolves_putAx _ _ _ h
      · exact h3
  clear_value t4
  split
  · exact evolves_takeLatch _ _ _ h4
  · exact h4

theorem evolves_positionTick (s : State) (hev : Evolves s0 s) :
    Evolves s0 (positionTick s) := by
  unfold positionTick
  try dsimp only
  with_reducible repeat' (first
    | (intro _; try dsimp only) | assumption | apply evolves_positionAxis | apply evolves_ite | apply evolves_foldl | split)

theorem evolves_setpointPush (a : Nat) (s : State) (hev : Evolves s0 s) :
    Evolves s0 (setpointPush a s) := by
  unfold setpointPush
  try dsimp only
  with_reducible repeat' (first
    | (intro _; try dsimp only) | assumption | apply evolves_raiseErr | apply evolves_showQueue | apply evolves_putAx
    | apply evolves_raiseInt | apply evolves_rinc | (simp only [evolves_mk_iff]; apply evolvesTo_self) | apply evolves_ite | split)

theorem evolves_obsLost (a : Nat) (s : State) (hev : Evolves s0 s) :
    Evolves s0 (obsLost a s) := by
  unfold obsLost
  try dsimp only
  with_reducible repeat' (first
    | assumption | apply evolves_axFaults | apply evolves_rsetBit | apply evolves_setAx | apply evolves_inverterOpen
    | apply evolves_putAx | (simp only [evolves_mk_iff]; apply evolvesTo_self) | apply evolves_ite | split)

theorem evolves_reacqPulse (a : Nat) (angle : Nat) (s : State) (hev : Evolves s0 s) :
    Evolves s0 (reacqPulse a angle s) := by
  unfold reacqPulse
  try dsimp only
  with_reducible repeat' (first
    | (intro _; try dsimp only) | assumption | apply evolves_emit | apply evolves_putAx | apply evolves_rinc
    | apply evolves_rsetBit | apply evolves_setAx | (simp only [evolves_mk_iff]; apply evolvesTo_self) | apply evolves_ite | split)

theorem evolves_reacqFail (a : Nat) (s : State) (hev : Evolves s0 s) :
    Evolves s0 (reacqFail a s) := by
  unfold reacqFail
  try dsimp only
  with_reducible repeat' (first | assumption | apply evolves_brakeApply | apply evolves_axFaults | apply evolves_ite | split)

theorem evolves_alignEnd (a : Nat) (s : State) (hev : Evolves s0 s) :
    Evolves s0 (alignEnd a s) := by
  unfold alignEnd
  try dsimp only
  with_reducible repeat' (first
    | assumption | apply evolves_enterHold | apply evolves_raiseErr | apply evolves_rset | apply evolves_putAx
    | (simp only [evolves_mk_iff]; apply evolvesTo_self) | apply evolves_ite | split)

theorem evolves_alignPhase (a : Nat) (s : State) (hev : Evolves s0 s) :
    Evolves s0 (alignPhase a s) := by
  unfold alignPhase
  try dsimp only
  with_reducible repeat' (first
    | assumption | apply evolves_putAx | apply evolves_alignEnd | (simp only [evolves_mk_iff]; apply evolvesTo_self)
    | apply evolves_ite | split)

theorem evolves_cmdRun (a : Nat) (s : State) (hev : Evolves s0 s) :
    Evolves s0 (cmdRun a s) := by
  unfold cmdRun
  try dsimp only
  with_reducible repeat' (first | assumption | apply evolves_raiseErr | apply evolves_enterRun | apply evolves_ite | split)

theorem evolves_cmdHold (a : Nat) (s : State) (hev : Evolves s0 s) :
    Evolves s0 (cmdHold a s) := by
  unfold cmdHold
  try dsimp only
  with_reducible repeat' (first | assumption | apply evolves_enterHold | apply evolves_ite | split)

theorem evolves_cmdOff (a : Nat) (s : State) (hev : Evolves s0 s) :
    Evolves s0 (cmdOff a s) := by
  unfold cmdOff
  try dsimp only
  with_reducible repeat' (first | assumption | apply evolves_enterOff)

theorem evolves_cmdAlign (a : Nat) (s : State) (hev : Evolves s0 s) :
    Evolves s0 (cmdAlign a s) := by
  unfold cmdAlign
  try dsimp only
  with_reducible repeat' (first
    | assumption | apply evolves_enterDriven | apply evolves_putAx | (simp only [evolves_mk_iff]; apply evolvesTo_self)
    | apply evolves_ite | split)

theorem evolves_cmdWrite (who : Requester) (a : Nat) (v : Nat) (f : State → State) (s : State) (hf : ∀ (z0 : State), Evolves s0 z0 → Evolves s0 (f z0)) (hev : Evolves s0 s) :
    Evolves s0 (cmdWrite who a v f s) := by
  unfold cmdWrite
  try dsimp only
  with_reducible repeat' (first
    | (intro _; try dsimp only) | assumption | apply evolves_writeReg | apply hf | apply evolves_ite | split)

theorem evolves_faultClear (who : Requester) (a : Nat) (value : Word) (s : State) (hev : Evolves s0 s) :
    Evolves s0 (faultClear who a value s) := by
  unfold faultClear
  try dsimp only
  with_reducible repeat' (first | assumption | apply evolves_writeReg)

theorem evolves_motAllOff (s : State) (hev : Evolves s0 s) :
    Evolves s0 (motAllOff s) := by
  unfold motAllOff
  try dsimp only
  with_reducible repeat' (first
    | (intro _; try dsimp only) | assumption | apply evolves_enterOff | apply evolves_ite | apply evolves_foldl | split)

theorem evolves_motAllHold (s : State) (hev : Evolves s0 s) :
    Evolves s0 (motAllHold s) := by
  unfold motAllHold
  try dsimp only
  with_reducible repeat' (first
    | (intro _; try dsimp only) | assumption | apply evolves_enterHold | apply evolves_ite | apply evolves_foldl | split)

theorem evolves_motWarmStart (s : State) (hev : Evolves s0 s) :
    Evolves s0 (motWarmStart s) := by
  unfold motWarmStart
  try dsimp only
  with_reducible repeat' (first
    | (intro _; try dsimp only) | assumption | apply evolves_showQueue | apply evolves_putAx | apply evolves_enterRun
    | apply evolves_enterHold | (simp only [evolves_mk_iff]; apply evolvesTo_self) | apply evolves_ite | apply evolves_foldl
    | split)

/-! ### Therm -/

theorem evolves_sensorExclude (k : Nat) (t : Int) (s : State) (hev : Evolves s0 s) :
    Evolves s0 (sensorExclude k t s) := by
  unfold sensorExclude
  try dsimp only
  with_reducible repeat' (first
    | assumption | apply evolves_raiseErr | apply evolves_raiseInt | apply evolves_logEvent | apply evolves_rsetBit)

theorem evolves_sensorTake (k : Nat) (count : Nat) (s : State) (hev : Evolves s0 s) :
    Evolves s0 (sensorTake k count s) := by
  unfold sensorTake
  try dsimp only
  with_reducible repeat' (first
    | assumption | apply evolves_rsetBit | apply evolves_setPlt | apply evolves_rset | apply evolves_sensorExclude
    | (simp only [evolves_mk_iff]; apply evolvesTo_self) | apply evolves_ite | split)

theorem evolves_levelSet (v : Nat) (s : State) (hev : Evolves s0 s) :
    Evolves s0 (levelSet v s) := by
  unfold levelSet
  try dsimp only
  with_reducible repeat' (first
    | (intro _; try dsimp only) | assumption | apply evolves_rinc | apply evolves_rsetFld | apply evolves_raiseInt
    | apply evolves_raiseErr | (simp only [evolves_mk_iff]; apply evolvesTo_self) | apply evolves_ite | split)

theorem evolves_levelChange (v : Nat) (s : State) (hev : Evolves s0 s) :
    Evolves s0 (levelChange v s) := by
  unfold levelChange
  try dsimp only
  with_reducible repeat' (first | assumption | apply evolves_levelSet | apply evolves_logEvent | apply evolves_ite | split)

theorem evolves_levelForce (s : State) (hev : Evolves s0 s) :
    Evolves s0 (levelForce s) := by
  unfold levelForce
  try dsimp only
  with_reducible repeat' (first | assumption | apply evolves_levelChange | apply evolves_ite | split)

theorem evolves_ladderStep (tmax : Int) (s : State) (hev : Evolves s0 s) :
    Evolves s0 (ladderStep tmax s) := by
  unfold ladderStep
  try dsimp only
  with_reducible repeat' (first | assumption | apply evolves_levelForce | apply evolves_levelChange | apply evolves_ite | split)

theorem evolves_warnStep (tmax : Int) (s : State) (hev : Evolves s0 s) :
    Evolves s0 (warnStep tmax s) := by
  unfold warnStep
  try dsimp only
  with_reducible repeat' (first | assumption | apply evolves_raiseInt | apply evolves_rsetBit | apply evolves_ite | split)

theorem evolves_thermGate (s : State) (hev : Evolves s0 s) :
    Evolves s0 (thermGate s) := by
  unfold thermGate
  try dsimp only
  with_reducible repeat' (first
    | assumption | apply evolves_emit | apply evolves_setPlt | (simp only [evolves_mk_iff]; apply evolvesTo_self))

theorem evolves_thermTrip (hot : Nat) (top : Int) (s : State) (hev : Evolves s0 s) :
    Evolves s0 (thermTrip hot top s) := by
  unfold thermTrip
  try dsimp only
  with_reducible repeat' (first
    | assumption | apply evolves_rsetBit | apply evolves_emit | apply evolves_setPlt | apply evolves_motAllHold
    | apply evolves_selfrefFrames | apply evolves_levelSet | apply evolves_raiseErr | apply evolves_logEvent
    | apply evolves_thermGate | apply evolves_recFlushBegin | (simp only [evolves_mk_iff]; apply evolvesTo_self)
    | apply evolves_ite | split)

theorem evolves_thermShow (h : Option (Nat × Int)) (tmax : Int) (s : State) (hev : Evolves s0 s) :
    Evolves s0 (thermShow h tmax s) := by
  unfold thermShow
  try dsimp only
  with_reducible repeat' (first
    | (intro _; try dsimp only) | assumption | apply evolves_rsetBit | apply evolves_rsetFld | apply evolves_setPlt
    | apply evolves_rset | (simp only [evolves_mk_iff]; apply evolvesTo_self) | apply evolves_ite | split)

theorem evolves_thermReading (counts : List Nat) (s : State) (hev : Evolves s0 s) :
    Evolves s0 (thermReading counts s) := by
  unfold thermReading
  try dsimp only
  with_reducible repeat' (first
    | (intro _; try dsimp only) | assumption | apply evolves_sensorTake | apply evolves_warnStep | apply evolves_thermShow
    | apply evolves_ladderStep | apply evolves_thermTrip | apply evolves_draw | apply evolves_smartCheck
    | (simp only [evolves_mk_iff]; apply evolvesTo_self) | apply evolves_ite | apply evolves_foldl | split)

theorem evolves_execSensorReading (counts : List Nat) (s : State) (hev : Evolves s0 s) :
    ∃ t, execSensorReading counts s = .next t ∧ Evolves s0 t := by
  unfold execSensorReading
  try dsimp only
  refine ⟨_, rfl, ?_⟩
  with_reducible repeat' (first | assumption | apply evolves_thermReading | apply evolves_ite | split)

theorem evolves_execPltThermPeakRead (who : Requester) (s : State) (hev : Evolves s0 s) :
    ∃ t, execPltThermPeakRead who s = .next t ∧ Evolves s0 t := by
  unfold execPltThermPeakRead
  try dsimp only
  refine ⟨_, rfl, ?_⟩
  with_reducible repeat' (first
    | assumption | apply evolves_readOut | apply evolves_setPlt | apply evolves_rset
    | (simp only [evolves_mk_iff]; apply evolvesTo_self) | apply evolves_ite | split)

/-! ### RecCmds -/

theorem evolves_execMediaCommandCompletion (port : Fin 5) (tag : Nat) (ok : Bool) (data : List Byte) (s : State) (hev : Evolves s0 s) :
    ∃ t, execMediaCommandCompletion port tag ok data s = .next t ∧ Evolves s0 t := by
  unfold execMediaCommandCompletion
  try dsimp only
  refine ⟨_, rfl, ?_⟩
  with_reducible repeat' (first
    | (intro _; try dsimp only) | assumption | apply evolves_mediaLost | apply evolves_pumpRec | apply evolves_opAdvance
    | apply evolves_setRec | (simp only [evolves_mk_iff]; apply evolvesTo_self) | apply evolves_ite | split)

theorem evolves_execMediaFail (port : Fin 5) (s : State) (hev : Evolves s0 s) :
    ∃ t, execMediaFail port s = .next t ∧ Evolves s0 t := by
  unfold execMediaFail
  try dsimp only
  refine ⟨_, rfl, ?_⟩
  with_reducible repeat' (first | assumption | apply evolves_mediaLost)

theorem evolves_copyWanted (m : Nat) (s : State) (hev : Evolves s0 s) :
    Evolves s0 (copyWanted m s) := by
  unfold copyWanted
  try dsimp only
  with_reducible repeat' (first
    | assumption | apply evolves_copyStart | apply evolves_noSpareMedia | apply evolves_setMediaPort | apply evolves_ite | split)

theorem evolves_execCopyTrigger (port : Fin 5) (used : Byte) (errs : BitVec 16) (critical : Bool) (s : State) (hev : Evolves s0 s) :
    ∃ t, execCopyTrigger port used errs critical s = .next t ∧ Evolves s0 t := by
  unfold execCopyTrigger
  try dsimp only
  refine ⟨_, rfl, ?_⟩
  with_reducible repeat' (first
    | (intro _; try dsimp only) | assumption | apply evolves_rsetFld | apply evolves_copyWanted
    | (simp only [evolves_mk_iff]; apply evolvesTo_self) | apply evolves_ite | split)

theorem evolves_execMediaForce (who : Requester) (value : Word) (s : State) (hev : Evolves s0 s) :
    ∃ t, execMediaForce who value s = .next t ∧ Evolves s0 t := by
  unfold execMediaForce
  try dsimp only
  refine ⟨_, rfl, ?_⟩
  with_reducible repeat' (first
    | assumption | apply evolves_writeReg | apply evolves_copyStart | apply evolves_noSpareMedia | apply evolves_ite | split)

theorem evolves_execMediaMigrationStep (s : State) (hev : Evolves s0 s) :
    ∃ t, execMediaMigrationStep s = .next t ∧ Evolves s0 t := by
  unfold execMediaMigrationStep
  try dsimp only
  refine ⟨_, rfl, ?_⟩
  with_reducible repeat' (first
    | (intro _; try dsimp only) | assumption | apply evolves_leaveRequest | apply evolves_setPointer | apply evolves_emit
    | apply evolves_pumpRec | apply evolves_moveEnd | (simp only [evolves_mk_iff]; apply evolvesTo_self) | apply evolves_ite
    | split)

theorem evolves_execMediaRetiredClear (who : Requester) (value : Word) (s : State) (hev : Evolves s0 s) :
    ∃ t, execMediaRetiredClear who value s = .next t ∧ Evolves s0 t := by
  unfold execMediaRetiredClear
  try dsimp only
  refine ⟨_, rfl, ?_⟩
  with_reducible repeat' (first
    | (intro _; try dsimp only) | assumption | apply evolves_writeReg | apply evolves_setMediaPort | apply evolves_markDrop
    | apply evolves_ite | apply evolves_foldl | split)

theorem evolves_mediaPortFacts (p : Nat) (sectors : Nat) (used : Nat) (errs : Nat) (s : State) (hev : Evolves s0 s) :
    Evolves s0 (mediaPortFacts p sectors used errs s) := by
  unfold mediaPortFacts
  try dsimp only
  with_reducible repeat' (first
    | (intro _; try dsimp only) | assumption | apply evolves_setLane | apply evolves_rsetFld | apply evolves_setRec
    | (simp only [evolves_mk_iff]; apply evolvesTo_self) | apply evolves_foldl)

theorem evolves_mediaSpareUp (p : Nat) (s : State) (hev : Evolves s0 s) :
    Evolves s0 (mediaSpareUp p s) := by
  unfold mediaSpareUp
  try dsimp only
  with_reducible repeat' (first
    | assumption | apply evolves_rsetFld | apply evolves_pumpRec | apply evolves_spareCame | apply evolves_smartCheck
    | apply evolves_setMediaPort | apply evolves_ite | split)

theorem evolves_mediaPortJoin (p : Nat) (s : State) (hev : Evolves s0 s) :
    Evolves s0 (mediaPortJoin p s) := by
  unfold mediaPortJoin
  try dsimp only
  with_reducible repeat' (first
    | (intro _; try dsimp only) | assumption | apply evolves_setMediaPort | apply evolves_mediaSpareUp
    | (simp only [evolves_mk_iff]; apply evolvesTo_self) | apply evolves_ite | split)

theorem evolves_execMediaPortUp (port : Fin 5) (sectors : Nat) (used : Byte) (errs : BitVec 16) (s : State) (hev : Evolves s0 s) :
    ∃ t, execMediaPortUp port sectors used errs s = .next t ∧ Evolves s0 t := by
  unfold execMediaPortUp
  try dsimp only
  refine ⟨_, rfl, ?_⟩
  with_reducible repeat' (first | assumption | apply evolves_mediaPortJoin | apply evolves_mediaPortFacts)

theorem evolves_execDrain (s : State) (hev : Evolves s0 s) :
    ∃ t, execDrain s = .next t ∧ Evolves s0 t := by
  unfold execDrain
  try dsimp only
  refine ⟨_, rfl, ?_⟩
  with_reducible repeat' (first | assumption | apply evolves_drainOnce)

theorem evolves_clipControl (who : Requester) (value : Word) (s : State) (hev : Evolves s0 s) :
    Evolves s0 (clipControl who value s) := by
  unfold clipControl
  try dsimp only
  with_reducible repeat' (first
    | assumption | apply evolves_writeReg | apply evolves_setRec | (simp only [evolves_mk_iff]; apply evolvesTo_self)
    | apply evolves_ite | split)

theorem evolves_execClipArm (who : Requester) (value : Word) (s : State) (hev : Evolves s0 s) :
    ∃ t, execClipArm who value s = .next t ∧ Evolves s0 t := by
  unfold execClipArm
  try dsimp only
  refine ⟨_, rfl, ?_⟩
  with_reducible repeat' (first | assumption | apply evolves_clipControl)

theorem evolves_execClipStop (who : Requester) (value : Word) (s : State) (hev : Evolves s0 s) :
    ∃ t, execClipStop who value s = .next t ∧ Evolves s0 t := by
  unfold execClipStop
  try dsimp only
  refine ⟨_, rfl, ?_⟩
  with_reducible repeat' (first | assumption | apply evolves_clipControl)

/-! ### MotCmds -/

theorem evolves_execCurrentLoopTick (axis : Fin 8) (u v : List Bool) (s : State) (hev : Evolves s0 s) :
    ∃ t, execCurrentLoopTick axis u v s = .next t ∧ Evolves s0 t := by
  unfold execCurrentLoopTick
  try dsimp only
  refine ⟨_, rfl, ?_⟩
  with_reducible repeat' (first
    | (intro _; try dsimp only) | assumption | exact Evolves.refl _ | apply evolves_currentTick | apply evolves_currentBits
    | (simp only [evolves_mk_iff]; apply evolvesTo_self) | apply evolves_ite | apply evolves_foldl | apply evolves_foldl_snd
    | apply evolves_foldl_snd2 | refine evolves_snd (by assumption) ?_ | refine evolves_fst (by assumption) ?_
    | refine evolves_snd2 (by assumption) ?_ | split)

theorem evolves_execVelocityTick (s : State) (hev : Evolves s0 s) :
    ∃ t, execVelocityTick s = .next t ∧ Evolves s0 t := by
  unfold execVelocityTick
  try dsimp only
  refine ⟨_, rfl, ?_⟩
  with_reducible repeat' (first
    | (intro _; try dsimp only) | assumption | exact Evolves.refl _ | apply evolves_velocityTick
    | (simp only [evolves_mk_iff]; apply evolvesTo_self) | apply evolves_ite | apply evolves_foldl | apply evolves_foldl_snd
    | apply evolves_foldl_snd2 | refine evolves_snd (by assumption) ?_ | refine evolves_fst (by assumption) ?_
    | refine evolves_snd2 (by assumption) ?_ | split)

theorem evolves_execPositionTick (s : State) (hev : Evolves s0 s) :
    ∃ t, execPositionTick s = .next t ∧ Evolves s0 t := by
  unfold execPositionTick
  try dsimp only
  refine ⟨_, rfl, ?_⟩
  with_reducible repeat' (first
    | (intro _; try dsimp only) | assumption | exact Evolves.refl _ | apply evolves_positionTick
    | (simp only [evolves_mk_iff]; apply evolvesTo_self) | apply evolves_ite | apply evolves_foldl | apply evolves_foldl_snd
    | apply evolves_foldl_snd2 | refine evolves_snd (by assumption) ?_ | refine evolves_fst (by assumption) ?_
    | refine evolves_snd2 (by assumption) ?_ | split)

theorem evolves_execSerialReadDone (axis : Fin 8) (started : Bool) (raw : BitVec 48) (alarm : Bool) (stale : Bool) (crc : Byte) (stamp : Nat) (s : State) (hev : Evolves s0 s) :
    ∃ t, execSerialReadDone axis started raw alarm stale crc stamp s = .next t ∧ Evolves s0 t := by
  unfold execSerialReadDone
  try dsimp only
  refine ⟨_, rfl, ?_⟩
  with_reducible repeat' (first
    | (intro _; try dsimp only) | assumption | exact Evolves.refl _ | apply evolves_serialRead
    | (simp only [evolves_mk_iff]; apply evolvesTo_self) | apply evolves_ite | apply evolves_foldl | apply evolves_foldl_snd
    | apply evolves_foldl_snd2 | refine evolves_snd (by assumption) ?_ | refine evolves_fst (by assumption) ?_
    | refine evolves_snd2 (by assumption) ?_ | split)

theorem evolves_execQeiEdge (axis : Fin 8) (a : Bool) (b : Bool) (s : State) (hev : Evolves s0 s) :
    ∃ t, execQeiEdge axis a b s = .next t ∧ Evolves s0 t := by
  unfold execQeiEdge
  try dsimp only
  refine ⟨_, rfl, ?_⟩
  with_reducible repeat' (first
    | (intro _; try dsimp only) | assumption | exact Evolves.refl _ | apply evolves_qeiSample
    | (simp only [evolves_mk_iff]; apply evolvesTo_self) | apply evolves_ite | apply evolves_foldl | apply evolves_foldl_snd
    | apply evolves_foldl_snd2 | refine evolves_snd (by assumption) ?_ | refine evolves_fst (by assumption) ?_
    | refine evolves_snd2 (by assumption) ?_ | split)

theorem evolves_execIndexEdge (axis : Fin 8) (s : State) (hev : Evolves s0 s) :
    ∃ t, execIndexEdge axis s = .next t ∧ Evolves s0 t := by
  unfold execIndexEdge
  try dsimp only
  refine ⟨_, rfl, ?_⟩
  with_reducible repeat' (first
    | (intro _; try dsimp only) | assumption | exact Evolves.refl _ | apply evolves_indexEdge
    | (simp only [evolves_mk_iff]; apply evolvesTo_self) | apply evolves_ite | apply evolves_foldl | apply evolves_foldl_snd
    | apply evolves_foldl_snd2 | refine evolves_snd (by assumption) ?_ | refine evolves_fst (by assumption) ?_
    | refine evolves_snd2 (by assumption) ?_ | split)

theorem evolves_execGateFault (axis : Fin 8) (low : Bool) (s : State) (hev : Evolves s0 s) :
    ∃ t, execGateFault axis low s = .next t ∧ Evolves s0 t := by
  unfold execGateFault
  try dsimp only
  refine ⟨_, rfl, ?_⟩
  with_reducible repeat' (first
    | (intro _; try dsimp only) | assumption | apply evolves_putAx | apply evolves_axFaults
    | (simp only [evolves_mk_iff]; apply evolvesTo_self) | apply evolves_ite | split)

theorem evolves_execDsmLost (channel : Fin 36) (s : State) (hev : Evolves s0 s) :
    ∃ t, execDsmLost channel s = .next t ∧ Evolves s0 t := by
  unfold execDsmLost
  try dsimp only
  refine ⟨_, rfl, ?_⟩
  with_reducible repeat' (first
    | (intro _; try dsimp only) | assumption | exact Evolves.refl _ | apply evolves_dsmStill
    | (simp only [evolves_mk_iff]; apply evolvesTo_self) | apply evolves_ite | apply evolves_foldl | apply evolves_foldl_snd
    | apply evolves_foldl_snd2 | refine evolves_snd (by assumption) ?_ | refine evolves_fst (by assumption) ?_
    | refine evolves_snd2 (by assumption) ?_ | split)

theorem evolves_execOffsetCalDone (axis : Fin 8) (s : State) (hev : Evolves s0 s) :
    ∃ t, execOffsetCalDone axis s = .next t ∧ Evolves s0 t := by
  unfold execOffsetCalDone
  try dsimp only
  refine ⟨_, rfl, ?_⟩
  with_reducible repeat' (first
    | (intro _; try dsimp only) | assumption | exact Evolves.refl _ | apply evolves_offsetDone
    | (simp only [evolves_mk_iff]; apply evolvesTo_self) | apply evolves_ite | apply evolves_foldl | apply evolves_foldl_snd
    | apply evolves_foldl_snd2 | refine evolves_snd (by assumption) ?_ | refine evolves_fst (by assumption) ?_
    | refine evolves_snd2 (by assumption) ?_ | split)

theorem evolves_execVoltLimit (axis : Fin 8) (s : State) (hev : Evolves s0 s) :
    ∃ t, execVoltLimit axis s = .next t ∧ Evolves s0 t := by
  unfold execVoltLimit
  try dsimp only
  refine ⟨_, rfl, ?_⟩
  with_reducible repeat' (first | (intro _; try dsimp only) | assumption | apply evolves_axFaults | apply evolves_ite | split)

theorem evolves_execObsLost (axis : Fin 8) (s : State) (hev : Evolves s0 s) :
    ∃ t, execObsLost axis s = .next t ∧ Evolves s0 t := by
  unfold execObsLost
  try dsimp only
  refine ⟨_, rfl, ?_⟩
  with_reducible repeat' (first
    | (intro _; try dsimp only) | assumption | exact Evolves.refl _ | apply evolves_obsLost
    | (simp only [evolves_mk_iff]; apply evolvesTo_self) | apply evolves_ite | apply evolves_foldl | apply evolves_foldl_snd
    | apply evolves_foldl_snd2 | refine evolves_snd (by assumption) ?_ | refine evolves_fst (by assumption) ?_
    | refine evolves_snd2 (by assumption) ?_ | split)

theorem evolves_execReacqPulse (axis : Fin 8) (angle : BitVec 16) (s : State) (hev : Evolves s0 s) :
    ∃ t, execReacqPulse axis angle s = .next t ∧ Evolves s0 t := by
  unfold execReacqPulse
  try dsimp only
  refine ⟨_, rfl, ?_⟩
  with_reducible repeat' (first
    | (intro _; try dsimp only) | assumption | exact Evolves.refl _ | apply evolves_reacqPulse
    | (simp only [evolves_mk_iff]; apply evolvesTo_self) | apply evolves_ite | apply evolves_foldl | apply evolves_foldl_snd
    | apply evolves_foldl_snd2 | refine evolves_snd (by assumption) ?_ | refine evolves_fst (by assumption) ?_
    | refine evolves_snd2 (by assumption) ?_ | split)

theorem evolves_execReacqFail (axis : Fin 8) (s : State) (hev : Evolves s0 s) :
    ∃ t, execReacqFail axis s = .next t ∧ Evolves s0 t := by
  unfold execReacqFail
  try dsimp only
  refine ⟨_, rfl, ?_⟩
  with_reducible repeat' (first
    | (intro _; try dsimp only) | assumption | exact Evolves.refl _ | apply evolves_reacqFail
    | (simp only [evolves_mk_iff]; apply evolvesTo_self) | apply evolves_ite | apply evolves_foldl | apply evolves_foldl_snd
    | apply evolves_foldl_snd2 | refine evolves_snd (by assumption) ?_ | refine evolves_fst (by assumption) ?_
    | refine evolves_snd2 (by assumption) ?_ | split)

theorem evolves_execBrakeDelay (axis : Fin 8) (s : State) (hev : Evolves s0 s) :
    ∃ t, execBrakeDelay axis s = .next t ∧ Evolves s0 t := by
  unfold execBrakeDelay
  try dsimp only
  refine ⟨_, rfl, ?_⟩
  with_reducible repeat' (first | (intro _; try dsimp only) | assumption | apply evolves_brakeApply | apply evolves_ite | split)

theorem evolves_execCmdRun (who : Requester) (axis : Fin 8) (s : State) (hev : Evolves s0 s) :
    ∃ t, execCmdRun who axis s = .next t ∧ Evolves s0 t := by
  unfold execCmdRun
  try dsimp only
  refine ⟨_, rfl, ?_⟩
  with_reducible repeat' (first | assumption | apply evolves_cmdWrite | apply evolves_cmdRun)

theorem evolves_execCmdHold (who : Requester) (axis : Fin 8) (s : State) (hev : Evolves s0 s) :
    ∃ t, execCmdHold who axis s = .next t ∧ Evolves s0 t := by
  unfold execCmdHold
  try dsimp only
  refine ⟨_, rfl, ?_⟩
  with_reducible repeat' (first | assumption | apply evolves_cmdWrite | apply evolves_cmdHold)

theorem evolves_execCmdOff (who : Requester) (axis : Fin 8) (s : State) (hev : Evolves s0 s) :
    ∃ t, execCmdOff who axis s = .next t ∧ Evolves s0 t := by
  unfold execCmdOff
  try dsimp only
  refine ⟨_, rfl, ?_⟩
  with_reducible repeat' (first | assumption | apply evolves_cmdWrite | apply evolves_cmdOff)

theorem evolves_execCmdAlign (who : Requester) (axis : Fin 8) (s : State) (hev : Evolves s0 s) :
    ∃ t, execCmdAlign who axis s = .next t ∧ Evolves s0 t := by
  unfold execCmdAlign
  try dsimp only
  refine ⟨_, rfl, ?_⟩
  with_reducible repeat' (first | assumption | apply evolves_cmdWrite | apply evolves_cmdAlign)

theorem evolves_execAlignPhaseEnd (axis : Fin 8) (s : State) (hev : Evolves s0 s) :
    ∃ t, execAlignPhaseEnd axis s = .next t ∧ Evolves s0 t := by
  unfold execAlignPhaseEnd
  try dsimp only
  refine ⟨_, rfl, ?_⟩
  with_reducible repeat' (first
    | (intro _; try dsimp only) | assumption | exact Evolves.refl _ | apply evolves_alignPhase
    | (simp only [evolves_mk_iff]; apply evolvesTo_self) | apply evolves_ite | apply evolves_foldl | apply evolves_foldl_snd
    | apply evolves_foldl_snd2 | refine evolves_snd (by assumption) ?_ | refine evolves_fst (by assumption) ?_
    | refine evolves_snd2 (by assumption) ?_ | split)

theorem evolves_execSetpointPush (who : Requester) (axis : Fin 8) (value : Word) (s : State) (hev : Evolves s0 s) :
    ∃ t, execSetpointPush who axis value s = .next t ∧ Evolves s0 t := by
  unfold execSetpointPush
  try dsimp only
  refine ⟨_, rfl, ?_⟩
  with_reducible repeat' (first | assumption | apply evolves_writeReg | apply evolves_setpointPush | apply evolves_ite | split)

theorem evolves_execLatchArm (who : Requester) (axis : Fin 8) (value : Word) (s : State) (hev : Evolves s0 s) :
    ∃ t, execLatchArm who axis value s = .next t ∧ Evolves s0 t := by
  unfold execLatchArm
  try dsimp only
  refine ⟨_, rfl, ?_⟩
  with_reducible repeat' (first
    | assumption | apply evolves_writeReg | apply evolves_putAx | (simp only [evolves_mk_iff]; apply evolvesTo_self)
    | apply evolves_ite | split)

theorem evolves_execLatchAt (axis : Fin 8) (s : State) (hev : Evolves s0 s) :
    ∃ t, execLatchAt axis s = .next t ∧ Evolves s0 t := by
  unfold execLatchAt
  try dsimp only
  refine ⟨_, rfl, ?_⟩
  with_reducible repeat' (first
    | (intro _; try dsimp only) | assumption | apply evolves_takeLatch | apply evolves_putAx
    | (simp only [evolves_mk_iff]; apply evolvesTo_self) | apply evolves_ite | split)

theorem evolves_execFaultClear (who : Requester) (axis : Fin 8) (value : Word) (s : State) (hev : Evolves s0 s) :
    ∃ t, execFaultClear who axis value s = .next t ∧ Evolves s0 t := by
  unfold execFaultClear
  try dsimp only
  refine ⟨_, rfl, ?_⟩
  with_reducible repeat' (first | assumption | apply evolves_faultClear)

theorem evolves_execFilterOutput (channel : Fin 36) (bits : List Bool) (s : State) (hev : Evolves s0 s) :
    ∃ t, execFilterOutput channel bits s = .next t ∧ Evolves s0 t := by
  unfold execFilterOutput
  try dsimp only
  refine ⟨_, rfl, ?_⟩
  with_reducible repeat' (first
    | (intro _; try dsimp only) | assumption | exact Evolves.refl _ | apply evolves_dsmBit
    | (simp only [evolves_mk_iff]; apply evolvesTo_self) | apply evolves_ite | apply evolves_foldl | apply evolves_foldl_snd
    | apply evolves_foldl_snd2 | refine evolves_snd (by assumption) ?_ | refine evolves_fst (by assumption) ?_
    | refine evolves_snd2 (by assumption) ?_ | split)

end Sys2Proof.Laws
end

