-- ==== Sys2Proof/Laws/EvolvesReset.lean ====
section
/-! SUPPORT. `Evolves` for resets, the hold-up supervisor and power-leave commands: each operation keeps what the state it starts from has kept. -/

namespace Sys2Proof.Laws

open Sys2Proof.Machine Sys2Proof.Safety

set_option linter.all false

variable {s0 : State}

/-! ### Reset -/

theorem evolves_causeFirst (b : Nat) (s : State) (hev : Evolves s0 s) :
    Evolves s0 (causeFirst b s) := by
  unfold causeFirst
  try dsimp only
  with_reducible repeat' (first | assumption | apply evolves_rset)

theorem evolves_causeAdd (b : Nat) (s : State) (hev : Evolves s0 s) :
    Evolves s0 (causeAdd b s) := by
  unfold causeAdd
  try dsimp only
  with_reducible repeat' (first | assumption | apply evolves_rsetBit | apply evolves_ite | split)

theorem evolves_startFails (s : State) (hev : Evolves s0 s) :
    Evolves s0 (startFails s) := by
  unfold startFails
  try dsimp only
  with_reducible repeat' (first
    | assumption | apply evolves_rset | apply evolves_raiseInt | apply evolves_raiseErr | apply evolves_setPlt
    | (simp only [evolves_mk_iff]; apply evolvesTo_self) | apply evolves_ite | split)

theorem evolves_failBy (b : Nat) (s : State) (hev : Evolves s0 s) :
    Evolves s0 (failBy b s) := by
  unfold failBy
  try dsimp only
  with_reducible repeat' (first | assumption | apply evolves_startFails | apply evolves_ite | split)

theorem evolves_warmRegs (s : State) (h : Evolves s0 s) : Evolves s0 (warmRegs s) := by
  unfold warmRegs
  refine evolves_foldl ⟨h.code, h.now, h.pending, fun hs => ?_⟩ fun t a ht => ?_
  · have := (sound_iff s).1 (h.sound hs)
    exact (sound_iff _).2 ⟨this.1, smCanon_nil, smCanon_nil⟩
  · dsimp only
    split
    · exact evolves_uset _ _ _ (evolves_rset _ _ _ ht)
    · exact evolves_rset _ _ _ ht

theorem evolves_discardWork (s : State) (hev : Evolves s0 s) :
    Evolves s0 (discardWork s) := by
  unfold discardWork
  try dsimp only
  with_reducible repeat' (first
    | (intro _; try dsimp only) | assumption | apply evolves_recDrop | apply evolves_audAbandon | apply evolves_psDiscard
    | (simp only [evolves_mk_iff]; apply evolvesTo_self) | apply evolves_foldl)

theorem evolves_warmBegin (b : Nat) (s : State) (hev : Evolves s0 s) :
    Evolves s0 (warmBegin b s) := by
  unfold warmBegin
  try dsimp only
  with_reducible repeat' (first
    | assumption | apply evolves_failBy | apply evolves_causeFirst | apply evolves_discardWork | apply evolves_selfrefUpdate
    | apply evolves_rsetBit | apply evolves_setPlt | (simp only [evolves_mk_iff]; apply evolvesTo_self))

theorem evolves_motReset (s : State) (hev : Evolves s0 s) :
    Evolves s0 (motReset s) := by
  unfold motReset
  try dsimp only
  with_reducible repeat' (first
    | (intro _; try dsimp only) | assumption | apply evolves_emit | apply evolves_putAx
    | (simp only [evolves_mk_iff]; apply evolvesTo_self) | apply evolves_ite | apply evolves_foldl | split)

theorem evolves_clrReset (s : State) (hev : Evolves s0 s) :
    Evolves s0 (clrReset s) := by
  unfold clrReset
  try dsimp only
  with_reducible repeat' (first
    | (intro _; try dsimp only) | assumption | apply evolves_rsetFld | apply evolves_setClr
    | (simp only [evolves_mk_iff]; apply evolvesTo_self) | apply evolves_ite | apply evolves_foldl | split)

theorem evolves_lanReset (s : State) (hev : Evolves s0 s) :
    Evolves s0 (lanReset s) := by
  unfold lanReset
  try dsimp only
  with_reducible repeat' (first
    | (intro _; try dsimp only) | assumption | apply evolves_setSpareOf | apply evolves_emit
    | (simp only [evolves_mk_iff]; apply evolvesTo_self) | apply evolves_ite | apply evolves_foldl | split)

theorem evolves_tlkReset (s : State) (hev : Evolves s0 s) :
    Evolves s0 (tlkReset s) := by
  unfold tlkReset
  try dsimp only
  with_reducible repeat' (first
    | (intro _; try dsimp only) | assumption | apply evolves_setTlkCount | (simp only [evolves_mk_iff]; apply evolvesTo_self)
    | apply evolves_ite | apply evolves_foldl | split)

theorem evolves_coreReset (s : State) (hev : Evolves s0 s) :
    Evolves s0 (coreReset s) := by
  unfold coreReset
  try dsimp only
  with_reducible repeat' (first
    | (intro _; try dsimp only) | assumption | apply evolves_setSelfref | apply evolves_selfrefFrames | apply evolves_memSleep
    | apply evolves_memDrain | apply evolves_controllerClear | apply evolves_tlkReset | apply evolves_lanReset
    | apply evolves_clrReset | apply evolves_motReset | apply evolves_rsetBit | apply evolves_warmRegs | apply evolves_emit
    | (simp only [evolves_mk_iff]; apply evolvesTo_self) | apply evolves_ite | split)

theorem evolves_coldReset (s : State) (h : Evolves s0 s) : Evolves s0 (coldReset s) := by
  unfold coldReset
  have h0 := evolves_recFlushCut s h
  refine evolves_emit _ _ (evolves_rsetFld _ _ _ _ _ (evolves_foldl ⟨h0.code, h0.now, h0.pending, fun hs => ?_⟩ fun t a ht => ?_))
  · have := (sound_iff _).1 (h0.sound hs)
    exact (sound_iff _).2 ⟨⟨(rfl : Memory.wf [] = true), this.1.2⟩, smCanon_nil, smCanon_nil⟩
  · exact evolves_rset _ _ _ ht

theorem evolves_flushBegin (s : State) (hev : Evolves s0 s) :
    Evolves s0 (flushBegin s) := by
  unfold flushBegin
  try dsimp only
  with_reducible repeat' (first
    | (intro _; try dsimp only) | assumption | apply evolves_discardWork | apply evolves_recFlushBegin | apply evolves_emit
    | apply evolves_setPlt | (simp only [evolves_mk_iff]; apply evolvesTo_self))

theorem evolves_coldGo (b : Nat) (s : State) (hev : Evolves s0 s) :
    Evolves s0 (coldGo b s) := by
  unfold coldGo
  try dsimp only
  with_reducible repeat' (first | assumption | apply evolves_coldReset | apply evolves_flushBegin | apply evolves_ite | split)

theorem evolves_recognise (b : Nat) (s : State) (hev : Evolves s0 s) :
    Evolves s0 (recognise b s) := by
  unfold recognise
  try dsimp only
  with_reducible repeat' (first
    | (intro _; try dsimp only) | assumption | apply evolves_coldGo | apply evolves_failBy | apply evolves_causeFirst
    | apply evolves_warmBegin | apply evolves_causeAdd | apply evolves_coldReset
    | (simp only [evolves_mk_iff]; apply evolvesTo_self) | apply evolves_ite | split)

theorem evolves_execPowerOn (s : State) (hev : Evolves s0 s) :
    ∃ t, execPowerOn s = .next t ∧ Evolves s0 t := by
  unfold execPowerOn
  try dsimp only
  refine ⟨_, rfl, ?_⟩
  with_reducible repeat' (first | assumption | apply evolves_coldReset | apply evolves_causeFirst | apply evolves_ite | split)

theorem evolves_execBrownOutCore (s : State) (hev : Evolves s0 s) :
    ∃ t, execBrownOutCore s = .next t ∧ Evolves s0 t := by
  unfold execBrownOutCore
  try dsimp only
  refine ⟨_, rfl, ?_⟩
  with_reducible repeat' (first | assumption | apply evolves_recognise)

theorem evolves_execBrownOutAon (s : State) (hev : Evolves s0 s) :
    ∃ t, execBrownOutAon s = .next t ∧ Evolves s0 t := by
  unfold execBrownOutAon
  try dsimp only
  refine ⟨_, rfl, ?_⟩
  with_reducible repeat' (first | assumption | apply evolves_recognise)

theorem evolves_railFail (s : State) (hev : Evolves s0 s) :
    Evolves s0 (railFail s) := by
  unfold railFail
  try dsimp only
  with_reducible repeat' (first | assumption | apply evolves_recognise | apply evolves_ite | split)

theorem evolves_execRailPowerFail (s : State) (hev : Evolves s0 s) :
    ∃ t, execRailPowerFail s = .next t ∧ Evolves s0 t := by
  unfold execRailPowerFail
  try dsimp only
  refine ⟨_, rfl, ?_⟩
  with_reducible repeat' (first | assumption | apply evolves_railFail)

theorem evolves_execRstN (s : State) (hev : Evolves s0 s) :
    ∃ t, execRstN s = .next t ∧ Evolves s0 t := by
  unfold execRstN
  try dsimp only
  refine ⟨_, rfl, ?_⟩
  with_reducible repeat' (first | assumption | apply evolves_recognise)

theorem evolves_execRstNHeld (s : State) (hev : Evolves s0 s) :
    ∃ t, execRstNHeld s = .next t ∧ Evolves s0 t := by
  unfold execRstNHeld
  try dsimp only
  refine ⟨_, rfl, ?_⟩
  with_reducible repeat' (first | assumption | apply evolves_recognise | apply evolves_ite | split)

theorem evolves_execBinnacleWatchdog (s : State) (hev : Evolves s0 s) :
    ∃ t, execBinnacleWatchdog s = .next t ∧ Evolves s0 t := by
  unfold execBinnacleWatchdog
  try dsimp only
  refine ⟨_, rfl, ?_⟩
  with_reducible repeat' (first | assumption | apply evolves_recognise | apply evolves_ite | split)

theorem evolves_execHostWatchdog (s : State) (hev : Evolves s0 s) :
    ∃ t, execHostWatchdog s = .next t ∧ Evolves s0 t := by
  unfold execHostWatchdog
  try dsimp only
  refine ⟨_, rfl, ?_⟩
  with_reducible repeat' (first | assumption | apply evolves_recognise | apply evolves_ite | split)

theorem evolves_wdogWrite (who : Requester) (addr : Nat) (value : Word) (s : State) (hev : Evolves s0 s) :
    Evolves s0 (wdogWrite who addr value s).2 := by
  unfold wdogWrite
  try dsimp only
  with_reducible repeat' (first | assumption | apply evolves_writeReg)

theorem evolves_kickBin (who : Requester) (value : Word) (s : State) (hev : Evolves s0 s) :
    Evolves s0 (kickBin who value s) := by
  unfold kickBin
  try dsimp only
  with_reducible repeat' (first
    | assumption | apply evolves_wdogWrite | apply evolves_setPlt | (simp only [evolves_mk_iff]; apply evolvesTo_self)
    | apply evolves_ite | refine evolves_snd (by assumption) ?_ | split)

theorem evolves_kickHost (who : Requester) (value : Word) (s : State) (hev : Evolves s0 s) :
    Evolves s0 (kickHost who value s) := by
  unfold kickHost
  try dsimp only
  with_reducible repeat' (first
    | assumption | apply evolves_wdogWrite | apply evolves_setPlt | (simp only [evolves_mk_iff]; apply evolvesTo_self)
    | apply evolves_ite | refine evolves_snd (by assumption) ?_ | split)

theorem evolves_execWdogBinKick (who : Requester) (value : Word) (s : State) (hev : Evolves s0 s) :
    ∃ t, execWdogBinKick who value s = .next t ∧ Evolves s0 t := by
  unfold execWdogBinKick
  try dsimp only
  refine ⟨_, rfl, ?_⟩
  with_reducible repeat' (first | assumption | apply evolves_kickBin)

theorem evolves_execWdogHostKick (who : Requester) (value : Word) (s : State) (hev : Evolves s0 s) :
    ∃ t, execWdogHostKick who value s = .next t ∧ Evolves s0 t := by
  unfold execWdogHostKick
  try dsimp only
  refine ⟨_, rfl, ?_⟩
  with_reducible repeat' (first | assumption | apply evolves_kickHost)

theorem evolves_execStartTimer (s : State) (hev : Evolves s0 s) :
    ∃ t, execStartTimer s = .next t ∧ Evolves s0 t := by
  unfold execStartTimer
  try dsimp only
  refine ⟨_, rfl, ?_⟩
  with_reducible repeat' (first | assumption | apply evolves_recognise | apply evolves_ite | split)

theorem evolves_startSucceeds (s : State) (hev : Evolves s0 s) :
    Evolves s0 (startSucceeds s) := by
  unfold startSucceeds
  try dsimp only
  with_reducible repeat' (first
    | (intro _; try dsimp only) | assumption | apply evolves_rsetFld | apply evolves_rset | apply evolves_setPlt
    | apply evolves_bootChange | apply evolves_rsetBit | apply evolves_raiseInt
    | (simp only [evolves_mk_iff]; apply evolvesTo_self) | apply evolves_ite | split)

theorem evolves_startWrite (who : Requester) (value : Word) (s : State) (hev : Evolves s0 s) :
    Evolves s0 (startWrite who value s) := by
  unfold startWrite
  try dsimp only
  with_reducible repeat' (first
    | assumption | apply evolves_writeReg | apply evolves_startSucceeds | apply evolves_recognise | apply evolves_ite | split)

theorem evolves_execStartOk (who : Requester) (value : Word) (s : State) (hev : Evolves s0 s) :
    ∃ t, execStartOk who value s = .next t ∧ Evolves s0 t := by
  unfold execStartOk
  try dsimp only
  refine ⟨_, rfl, ?_⟩
  with_reducible repeat' (first | assumption | apply evolves_startWrite)

theorem evolves_execStartFail (who : Requester) (value : Word) (s : State) (hev : Evolves s0 s) :
    ∃ t, execStartFail who value s = .next t ∧ Evolves s0 t := by
  unfold execStartFail
  try dsimp only
  refine ⟨_, rfl, ?_⟩
  with_reducible repeat' (first | assumption | apply evolves_startWrite)

theorem evolves_resetRequest (who : Requester) (value : Word) (s : State) (hev : Evolves s0 s) :
    Evolves s0 (resetRequest who value s) := by
  unfold resetRequest
  try dsimp only
  with_reducible repeat' (first
    | assumption | apply evolves_writeReg | apply evolves_raiseErr | apply evolves_recognise | apply evolves_ite | split)

theorem evolves_execSoftwareWarmReset (who : Requester) (value : Word) (s : State) (hev : Evolves s0 s) :
    ∃ t, execSoftwareWarmReset who value s = .next t ∧ Evolves s0 t := by
  unfold execSoftwareWarmReset
  try dsimp only
  refine ⟨_, rfl, ?_⟩
  with_reducible repeat' (first | assumption | apply evolves_resetRequest)

theorem evolves_execSoftwareColdReset (who : Requester) (value : Word) (s : State) (hev : Evolves s0 s) :
    ∃ t, execSoftwareColdReset who value s = .next t ∧ Evolves s0 t := by
  unfold execSoftwareColdReset
  try dsimp only
  refine ⟨_, rfl, ?_⟩
  with_reducible repeat' (first | assumption | apply evolves_resetRequest)

theorem evolves_debugRegister (who : Requester) (value : Word) (s : State) (hev : Evolves s0 s) :
    Evolves s0 (debugRegister who value s) := by
  unfold debugRegister
  try dsimp only
  with_reducible repeat' (first | assumption | apply evolves_writeReg | apply evolves_recognise | apply evolves_ite | split)

theorem evolves_debugRequest (who : Requester) (value : Word) (s : State) (hev : Evolves s0 s) :
    Evolves s0 (debugRequest who value s) := by
  unfold debugRequest
  try dsimp only
  with_reducible repeat' (first | assumption | apply evolves_recognise | apply evolves_debugRegister | apply evolves_ite | split)

theorem evolves_execDebugRequest (who : Requester) (value : Word) (s : State) (hev : Evolves s0 s) :
    ∃ t, execDebugRequest who value s = .next t ∧ Evolves s0 t := by
  unfold execDebugRequest
  try dsimp only
  refine ⟨_, rfl, ?_⟩
  with_reducible repeat' (first | assumption | apply evolves_debugRequest)

theorem evolves_execClockFailure (s : State) (hev : Evolves s0 s) :
    ∃ t, execClockFailure s = .next t ∧ Evolves s0 t := by
  unfold execClockFailure
  try dsimp only
  refine ⟨_, rfl, ?_⟩
  with_reducible repeat' (first | assumption | apply evolves_recognise)

theorem evolves_execBinnacleLockup (s : State) (hev : Evolves s0 s) :
    ∃ t, execBinnacleLockup s = .next t ∧ Evolves s0 t := by
  unfold execBinnacleLockup
  try dsimp only
  refine ⟨_, rfl, ?_⟩
  with_reducible repeat' (first | assumption | apply evolves_recognise)

theorem evolves_execFabricDeadlock (s : State) (hev : Evolves s0 s) :
    ∃ t, execFabricDeadlock s = .next t ∧ Evolves s0 t := by
  unfold execFabricDeadlock
  try dsimp only
  refine ⟨_, rfl, ?_⟩
  with_reducible repeat' (first | assumption | apply evolves_recognise)

theorem evolves_deadReckoningWrite (who : Requester) (value : Word) (s : State) (hev : Evolves s0 s) :
    Evolves s0 (deadReckoningWrite who value s) := by
  unfold deadReckoningWrite
  try dsimp only
  with_reducible repeat' (first
    | assumption | apply evolves_writeReg | apply evolves_raiseErr | apply evolves_recognise | apply evolves_rset
    | apply evolves_setPlt | (simp only [evolves_mk_iff]; apply evolvesTo_self) | apply evolves_ite | split)

theorem evolves_execDeadReckoningExit (who : Requester) (value : Word) (s : State) (hev : Evolves s0 s) :
    ∃ t, execDeadReckoningExit who value s = .next t ∧ Evolves s0 t := by
  unfold execDeadReckoningExit
  try dsimp only
  refine ⟨_, rfl, ?_⟩
  with_reducible repeat' (first | assumption | apply evolves_deadReckoningWrite)

theorem evolves_execCoreReset (s : State) (hev : Evolves s0 s) :
    ∃ t, execCoreReset s = .next t ∧ Evolves s0 t := by
  unfold execCoreReset
  try dsimp only
  refine ⟨_, rfl, ?_⟩
  with_reducible repeat' (first | assumption | apply evolves_coreReset | apply evolves_leaveForce | apply evolves_ite | split)

theorem evolves_retentionLoss (s : State) (hev : Evolves s0 s) :
    Evolves s0 (retentionLoss s) := by
  unfold retentionLoss
  try dsimp only
  with_reducible repeat' (first
    | (intro _; try dsimp only) | assumption | apply evolves_rset | apply evolves_setPlt | apply evolves_rsetFld
    | (simp only [evolves_mk_iff]; apply evolvesTo_self) | apply evolves_ite | apply evolves_foldl | split)

theorem evolves_execRetentionLoss (s : State) (hev : Evolves s0 s) :
    ∃ t, execRetentionLoss s = .next t ∧ Evolves s0 t := by
  unfold execRetentionLoss
  try dsimp only
  refine ⟨_, rfl, ?_⟩
  with_reducible repeat' (first | assumption | apply evolves_retentionLoss)

/-! ### Hold -/

theorem evolves_setOutcome (v : Nat) (s : State) (hev : Evolves s0 s) :
    Evolves s0 (setOutcome v s) := by
  unfold setOutcome
  try dsimp only
  with_reducible repeat' (first | assumption | apply evolves_rsetFld)

theorem evolves_holdCause (b : Nat) (s : State) (hev : Evolves s0 s) :
    Evolves s0 (holdCause b s) := by
  unfold holdCause
  try dsimp only
  with_reducible repeat' (first | assumption | apply evolves_causeFirst | apply evolves_causeAdd | apply evolves_ite | split)

theorem evolves_setTest (t : HoldTest) (s : State) (hev : Evolves s0 s) :
    Evolves s0 (setTest t s) := by
  unfold setTest
  try dsimp only
  with_reducible repeat' (first | assumption | apply evolves_setPlt | (simp only [evolves_mk_iff]; apply evolvesTo_self))

theorem evolves_testDiscard (v1 : Option Nat) (v2 : Option Nat) (s : State) (hev : Evolves s0 s) :
    Evolves s0 (testDiscard v1 v2 s) := by
  unfold testDiscard
  try dsimp only
  with_reducible repeat' (first
    | (intro _; try dsimp only) | assumption | apply evolves_draw | apply evolves_raiseErr | apply evolves_setTest
    | (simp only [evolves_mk_iff]; apply evolvesTo_self) | split)

theorem evolves_testOpen (s : State) (hev : Evolves s0 s) :
    Evolves s0 (testOpen s) := by
  unfold testOpen
  try dsimp only
  with_reducible repeat' (first | assumption | apply evolves_emit)

theorem evolves_testLost (s : State) (hev : Evolves s0 s) :
    Evolves s0 (testLost s) := by
  unfold testLost
  try dsimp only
  with_reducible repeat' (first
    | (intro _; try dsimp only) | assumption | apply evolves_testDiscard | apply evolves_testOpen
    | (simp only [evolves_mk_iff]; apply evolvesTo_self) | split)

theorem evolves_testStart (s : State) (hev : Evolves s0 s) :
    Evolves s0 (testStart s) := by
  unfold testStart
  try dsimp only
  with_reducible repeat' (first | assumption | apply evolves_emit | apply evolves_setTest | apply evolves_ite | split)

theorem evolves_execHoldTest (s : State) (hev : Evolves s0 s) :
    ∃ t, execHoldTest s = .next t ∧ Evolves s0 t := by
  unfold execHoldTest
  try dsimp only
  refine ⟨_, rfl, ?_⟩
  with_reducible repeat' (first | assumption | apply evolves_testStart)

theorem evolves_holdTestWrite (who : Requester) (value : Word) (s : State) (hev : Evolves s0 s) :
    Evolves s0 (holdTestWrite who value s) := by
  unfold holdTestWrite
  try dsimp only
  with_reducible repeat' (first | assumption | apply evolves_writeReg | apply evolves_testStart | apply evolves_ite | split)

theorem evolves_execHoldTestNow (who : Requester) (value : Word) (s : State) (hev : Evolves s0 s) :
    ∃ t, execHoldTestNow who value s = .next t ∧ Evolves s0 t := by
  unfold execHoldTestNow
  try dsimp only
  refine ⟨_, rfl, ?_⟩
  with_reducible repeat' (first | assumption | apply evolves_holdTestWrite)

theorem evolves_execHoldTestDischarge (vOc : Nat) (v1 : Nat) (s : State) (hev : Evolves s0 s) :
    ∃ t, execHoldTestDischarge vOc v1 s = .next t ∧ Evolves s0 t := by
  unfold execHoldTestDischarge
  try dsimp only
  refine ⟨_, rfl, ?_⟩
  with_reducible repeat' (first | assumption | apply evolves_emit | apply evolves_setTest | apply evolves_ite | split)

theorem evolves_testPass (c : Nat) (esr : Nat) (s : State) (hev : Evolves s0 s) :
    Evolves s0 (testPass c esr s) := by
  unfold testPass
  try dsimp only
  with_reducible repeat' (first
    | assumption | apply evolves_draw | apply evolves_rset | apply evolves_setTest | apply evolves_ite | split)

theorem evolves_execHoldTestDone (v2 : Nat) (s : State) (hev : Evolves s0 s) :
    ∃ t, execHoldTestDone v2 s = .next t ∧ Evolves s0 t := by
  unfold execHoldTestDone
  try dsimp only
  refine ⟨_, rfl, ?_⟩
  with_reducible repeat' (first
    | (intro _; try dsimp only) | assumption | apply evolves_testOpen | apply evolves_testDiscard | apply evolves_testPass
    | (simp only [evolves_mk_iff]; apply evolvesTo_self) | apply evolves_ite | split)

theorem evolves_energySet (e : Nat) (s : State) (hev : Evolves s0 s) :
    Evolves s0 (energySet e s) := by
  unfold energySet
  try dsimp only
  with_reducible repeat' (first
    | assumption | apply evolves_holdLimit | apply evolves_raiseInt | apply evolves_setPlt | apply evolves_rset
    | (simp only [evolves_mk_iff]; apply evolvesTo_self) | apply evolves_ite | split)

theorem evolves_execHoldEnergyUpdate (v : Nat) (s : State) (hev : Evolves s0 s) :
    ∃ t, execHoldEnergyUpdate v s = .next t ∧ Evolves s0 t := by
  unfold execHoldEnergyUpdate
  try dsimp only
  refine ⟨_, rfl, ?_⟩
  with_reducible repeat' (first | assumption | apply evolves_draw | apply evolves_energySet | apply evolves_ite | split)

theorem evolves_motBrakeNow (s : State) (hev : Evolves s0 s) :
    Evolves s0 (motBrakeNow s) := by
  unfold motBrakeNow
  try dsimp only
  with_reducible repeat' (first
    | (intro _; try dsimp only) | assumption | apply evolves_brakeApply | apply evolves_motAllHold | apply evolves_ite
    | apply evolves_foldl | split)

theorem evolves_lossStops (s : State) (hev : Evolves s0 s) :
    Evolves s0 (lossStops s) := by
  unfold lossStops
  try dsimp only
  with_reducible repeat' (first
    | (intro _; try dsimp only) | assumption | apply evolves_leaveWithdraw | apply evolves_leaveRelease
    | (simp only [evolves_mk_iff]; apply evolvesTo_self) | apply evolves_ite | apply evolves_foldl | split)

theorem evolves_mainLoss (s : State) (hev : Evolves s0 s) :
    Evolves s0 (mainLoss s) := by
  unfold mainLoss
  try dsimp only
  with_reducible repeat' (first
    | assumption | apply evolves_raiseInt | apply evolves_rsetBit | apply evolves_setOutcome | apply evolves_testLost
    | apply evolves_setPlt | apply evolves_motBrakeNow | apply evolves_lossStops | apply evolves_selfrefFrames
    | apply evolves_recFlushBegin | (simp only [evolves_mk_iff]; apply evolvesTo_self) | apply evolves_ite | split)

theorem evolves_execMainPowerLoss (s : State) (hev : Evolves s0 s) :
    ∃ t, execMainPowerLoss s = .next t ∧ Evolves s0 t := by
  unfold execMainPowerLoss
  try dsimp only
  refine ⟨_, rfl, ?_⟩
  with_reducible repeat' (first | assumption | apply evolves_mainLoss)

theorem evolves_mainReturns (s : State) (hev : Evolves s0 s) :
    Evolves s0 (mainReturns s) := by
  unfold mainReturns
  try dsimp only
  with_reducible repeat' (first
    | assumption | apply evolves_raiseInt | apply evolves_rsetBit | apply evolves_setOutcome | apply evolves_ite | split)

theorem evolves_execMainPowerGood (s : State) (hev : Evolves s0 s) :
    ∃ t, execMainPowerGood s = .next t ∧ Evolves s0 t := by
  unfold execMainPowerGood
  try dsimp only
  refine ⟨_, rfl, ?_⟩
  with_reducible repeat' (first | assumption | apply evolves_mainReturns)

theorem evolves_storeOut (s : State) (hev : Evolves s0 s) :
    Evolves s0 (storeOut s) := by
  unfold storeOut
  try dsimp only
  with_reducible repeat' (first
    | assumption | apply evolves_rsetBit | apply evolves_setOutcome | apply evolves_recFlushCut | apply evolves_coldReset
    | apply evolves_holdCause | apply evolves_setPlt | (simp only [evolves_mk_iff]; apply evolvesTo_self) | apply evolves_ite
    | split)

theorem evolves_execStoreExhausted (s : State) (hev : Evolves s0 s) :
    ∃ t, execStoreExhausted s = .next t ∧ Evolves s0 t := by
  unfold execStoreExhausted
  try dsimp only
  refine ⟨_, rfl, ?_⟩
  with_reducible repeat' (first | assumption | apply evolves_storeOut)

theorem evolves_flushEnds (s : State) (hev : Evolves s0 s) :
    Evolves s0 (flushEnds s) := by
  unfold flushEnds
  try dsimp only
  with_reducible repeat' (first
    | assumption | apply evolves_recFlushEnd | apply evolves_setPlt | apply evolves_setOutcome | apply evolves_thermGate
    | apply evolves_coldReset | apply evolves_holdCause | apply evolves_memSleep
    | (simp only [evolves_mk_iff]; apply evolvesTo_self) | apply evolves_ite | split)

theorem evolves_execFlushDone (s : State) (hev : Evolves s0 s) :
    ∃ t, execFlushDone s = .next t ∧ Evolves s0 t := by
  unfold execFlushDone
  try dsimp only
  refine ⟨_, rfl, ?_⟩
  with_reducible repeat' (first | assumption | apply evolves_flushEnds | apply evolves_ite | split)

/-! ### LeaveCmds -/

theorem evolves_unitStarted (n : Nat) (s : State) (hev : Evolves s0 s) :
    Evolves s0 (unitStarted n s) := by
  unfold unitStarted
  try dsimp only
  with_reducible repeat' (first
    | assumption | apply evolves_siuStartPort | apply evolves_lanEnablePort | apply evolves_tlkLinkUp | apply evolves_tlkTraining
    | apply evolves_selfrefUpdate | apply evolves_rsetBit | apply evolves_casStart | apply evolves_casPortStart
    | apply evolves_codCtxStart | apply evolves_ite | split)

theorem evolves_startUnits (before : State) (s : State) (hev : Evolves s0 s) :
    Evolves s0 (startUnits before s) := by
  unfold startUnits
  try dsimp only
  with_reducible repeat' (first
    | (intro _; try dsimp only) | assumption | apply evolves_unitStarted | apply evolves_ite | apply evolves_foldl | split)

theorem evolves_startOps (before : State) (s : State) (hev : Evolves s0 s) :
    Evolves s0 (startOps before s) := by
  unfold startOps
  try dsimp only
  with_reducible repeat' (first
    | (intro _; try dsimp only) | assumption | apply evolves_eraseStart | apply evolves_retrainGranted | apply evolves_migStart
    | apply evolves_sweepRun | apply evolves_ite | split)

theorem evolves_leaveStep (s : State) (hev : Evolves s0 s) :
    Evolves s0 (leaveStep s) := by
  unfold leaveStep
  try dsimp only
  with_reducible repeat' (first | assumption | apply evolves_startOps | apply evolves_startUnits | apply evolves_leaveEvaluate)

theorem evolves_execLeaveEvaluate (s : State) (hev : Evolves s0 s) :
    ∃ t, execLeaveEvaluate s = .next t ∧ Evolves s0 t := by
  unfold execLeaveEvaluate
  try dsimp only
  refine ⟨_, rfl, ?_⟩
  with_reducible repeat' (first | assumption | apply evolves_leaveStep)

theorem evolves_execLeaveTimeout (s : State) (hev : Evolves s0 s) :
    ∃ t, execLeaveTimeout s = .next t ∧ Evolves s0 t := by
  unfold execLeaveTimeout
  try dsimp only
  refine ⟨_, rfl, ?_⟩
  with_reducible repeat' (first | (intro _; try dsimp only) | assumption | apply evolves_leaveExpire | apply evolves_foldl)

theorem evolves_execLeaveBudgetWrite (who : Requester) (value : Word) (s : State) (hev : Evolves s0 s) :
    ∃ t, execLeaveBudgetWrite who value s = .next t ∧ Evolves s0 t := by
  unfold execLeaveBudgetWrite
  try dsimp only
  refine ⟨_, rfl, ?_⟩
  with_reducible repeat' (first
    | assumption | apply evolves_writeReg | apply evolves_withdrawTo | (simp only [evolves_mk_iff]; apply evolvesTo_self)
    | apply evolves_ite | split)

end Sys2Proof.Laws
end

