-- ==== Sys2Proof/Laws/EvolvesPages.lean ====
section
/-! SUPPORT. `Evolves` for register pages of every block, the start, and what every tick sends: each operation keeps what the state it starts from has kept. -/

namespace Sys2Proof.Laws

open Sys2Proof.Machine Sys2Proof.Safety

set_option linter.all false

variable {s0 : State}

/-! ### PageOps -/

theorem evolves_phoIdleCommit (n : Nat) (s : State) (hev : Evolves s0 s) :
    Evolves s0 (phoIdleCommit n s) := by
  unfold phoIdleCommit
  try dsimp only
  with_reducible repeat' (first
    | assumption | apply evolves_commitApply | apply evolves_refAbort | apply evolves_setPho
    | (simp only [evolves_mk_iff]; apply evolvesTo_self) | apply evolves_ite | split)

theorem evolves_commitNow (n : Nat) (s : State) (hev : Evolves s0 s) :
    Evolves s0 (commitNow n s) := by
  unfold commitNow
  try dsimp only
  with_reducible repeat' (first
    | (intro _; try dsimp only) | assumption | apply evolves_siuCommit | apply evolves_clrCommit | apply evolves_cnvCommit
    | apply evolves_phoIdleCommit | apply evolves_codCommit | apply evolves_commitApply
    | (simp only [evolves_mk_iff]; apply evolvesTo_self) | apply evolves_ite | split)

theorem evolves_shadowWrite (who : Requester) (n : Nat) (value : Word) (s : State) (hev : Evolves s0 s) :
    Evolves s0 (shadowWrite who n value s) := by
  unfold shadowWrite
  try dsimp only
  with_reducible repeat' (first
    | assumption | apply evolves_writeReg | apply evolves_rsetBit | apply evolves_commitNow | apply evolves_ite | split)

theorem evolves_intStatWrite (who : Requester) (n : Nat) (value : Word) (s : State) (hev : Evolves s0 s) :
    Evolves s0 (intStatWrite who n value s) := by
  unfold intStatWrite
  try dsimp only
  with_reducible repeat' (first
    | assumption | apply evolves_writeWord | apply evolves_clearStat | apply evolves_setCasPort | apply evolves_psRegister
    | apply evolves_resignal | (simp only [evolves_mk_iff]; apply evolvesTo_self) | apply evolves_ite | split)

theorem evolves_intSetWrite (who : Requester) (n : Nat) (value : Word) (s : State) (hev : Evolves s0 s) :
    Evolves s0 (intSetWrite who n value s) := by
  unfold intSetWrite
  try dsimp only
  with_reducible repeat' (first | assumption | apply evolves_writeReg | apply evolves_latchStat | apply evolves_ite | split)

theorem evolves_intEnWrite (who : Requester) (n : Nat) (value : Word) (s : State) (hev : Evolves s0 s) :
    Evolves s0 (intEnWrite who n value s) := by
  unfold intEnWrite
  try dsimp only
  with_reducible repeat' (first
    | assumption | apply evolves_writeWord | apply evolves_psRegister | apply evolves_resignal | apply evolves_rset
    | apply evolves_ite | split)

theorem evolves_codLoadShow (s : State) (hev : Evolves s0 s) :
    Evolves s0 (codLoadShow s) := by
  unfold codLoadShow
  try dsimp only
  with_reducible repeat' (first | assumption | apply evolves_rset)

theorem evolves_enableRises (n : Nat) (before : State) (s : State) (hev : Evolves s0 s) :
    Evolves s0 (enableRises n before s) := by
  unfold enableRises
  try dsimp only
  with_reducible repeat' (first
    | (intro _; try dsimp only) | assumption | apply evolves_raiseErr | apply evolves_rsetBit | apply evolves_codLoadShow
    | apply evolves_startUnits | apply evolves_leaveRequest | apply evolves_queueRun | apply evolves_ite | apply evolves_foldl
    | split)

theorem evolves_enableFalls (n : Nat) (s : State) (hev : Evolves s0 s) :
    Evolves s0 (enableFalls n s) := by
  unfold enableFalls
  try dsimp only
  with_reducible repeat' (first
    | (intro _; try dsimp only) | assumption | apply evolves_leaveWithdraw | apply evolves_codLoadShow | apply evolves_ite
    | apply evolves_foldl | split)

theorem evolves_idleFalls (n : Nat) (s : State) (hev : Evolves s0 s) :
    Evolves s0 (idleFalls n s) := by
  unfold idleFalls
  try dsimp only
  with_reducible repeat' (first | assumption | apply evolves_rsetBit | apply evolves_ite | split)

theorem evolves_ctrlApply (n : Nat) (value : Word) (s : State) (hev : Evolves s0 s) :
    Evolves s0 (ctrlApply n value s) := by
  unfold ctrlApply
  try dsimp only
  with_reducible repeat' (first
    | assumption | apply evolves_idleFalls | apply evolves_rsetFld | apply evolves_enableRises | apply evolves_rset
    | apply evolves_enableFalls | apply evolves_ite | split)

theorem evolves_resetBegins (b : Nat) (s : State) (hev : Evolves s0 s) :
    Evolves s0 (resetBegins b s) := by
  unfold resetBegins
  try dsimp only
  with_reducible repeat' (first
    | (intro _; try dsimp only) | assumption | apply evolves_calAbort | apply evolves_refAbort | apply evolves_motAllOff
    | apply evolves_audAbandon | (simp only [evolves_mk_iff]; apply evolvesTo_self) | apply evolves_foldl | split)

theorem evolves_blockResetAsk (n : Nat) (s : State) (hev : Evolves s0 s) :
    Evolves s0 (blockResetAsk n s) := by
  unfold blockResetAsk
  try dsimp only
  with_reducible repeat' (first
    | assumption | apply evolves_resetBegins | apply evolves_raiseErr | (simp only [evolves_mk_iff]; apply evolvesTo_self)
    | apply evolves_ite | split)

theorem evolves_ctrlWrite (who : Requester) (n : Nat) (value : Word) (s : State) (hev : Evolves s0 s) :
    Evolves s0 (ctrlWrite who n value s) := by
  unfold ctrlWrite
  try dsimp only
  with_reducible repeat' (first
    | assumption | apply evolves_writeReg | apply evolves_blockResetAsk | apply evolves_ctrlApply | apply evolves_ite | split)

theorem evolves_blockErase (b : Nat) (s : State) (h : Evolves s0 s) : Evolves s0 (blockErase b s) := by
  unfold blockErase
  refine evolves_foldl ⟨h.code, h.now, h.pending, fun hs => ?_⟩ fun t a ht => evolves_rset _ _ _ ht
  have := (sound_iff s).1 (h.sound hs)
  exact (sound_iff _).2 ⟨this.1, smCanon_filter _ this.2.1, smCanon_filter _ this.2.2⟩

theorem evolves_clrBlockReset (before : State) (s : State) (hev : Evolves s0 s) :
    Evolves s0 (clrBlockReset before s) := by
  unfold clrBlockReset
  try dsimp only
  with_reducible repeat' (first
    | (intro _; try dsimp only) | assumption | apply evolves_setLutState | (simp only [evolves_mk_iff]; apply evolvesTo_self)
    | apply evolves_foldl | split)

theorem evolves_blockForget (b : Nat) (before : State) (s : State) (hev : Evolves s0 s) :
    Evolves s0 (blockForget b before s) := by
  unfold blockForget
  try dsimp only
  with_reducible repeat' (first
    | (intro _; try dsimp only) | assumption | apply evolves_clrBlockReset | apply evolves_rsetFld | apply evolves_setRec
    | (simp only [evolves_mk_iff]; apply evolvesTo_self) | split)

theorem evolves_blockLeave (b : Nat) (s : State) (hev : Evolves s0 s) :
    Evolves s0 (blockLeave b s) := by
  unfold blockLeave
  try dsimp only
  with_reducible repeat' (first
    | (intro _; try dsimp only) | assumption | apply evolves_leaveRelease | apply evolves_leaveWithdraw
    | (simp only [evolves_mk_iff]; apply evolvesTo_self) | apply evolves_ite | apply evolves_foldl | split)

theorem evolves_blockResetEnds (b : Nat) (s : State) (hev : Evolves s0 s) :
    Evolves s0 (blockResetEnds b s) := by
  unfold blockResetEnds
  try dsimp only
  with_reducible repeat' (first
    | assumption | apply evolves_blockForget | apply evolves_blockErase | apply evolves_blockLeave
    | (simp only [evolves_mk_iff]; apply evolvesTo_self) | apply evolves_ite | split)

theorem evolves_unitIdles (n : Nat) (s : State) (hev : Evolves s0 s) :
    Evolves s0 (unitIdles n s) := by
  unfold unitIdles
  try dsimp only
  with_reducible repeat' (first
    | (intro _; try dsimp only) | assumption | apply evolves_rsetBit | apply evolves_leaveRelease | apply evolves_codLoadShow
    | apply evolves_ite | apply evolves_foldl | split)

/-! ### TlkCmds -/

theorem evolves_execQuerySend (port : Fin 16) (s : State) (hev : Evolves s0 s) :
    ∃ t, execQuerySend port s = .next t ∧ Evolves s0 t := by
  unfold execQuerySend
  try dsimp only
  refine ⟨_, rfl, ?_⟩
  with_reducible repeat' (first | assumption | apply evolves_querySend)

theorem evolves_execReply (port : Fin 16) (packet : Packet) (rtt : Nat) (s : State) (hev : Evolves s0 s) :
    ∃ t, execReply port packet rtt s = .next t ∧ Evolves s0 t := by
  unfold execReply
  try dsimp only
  refine ⟨_, rfl, ?_⟩
  with_reducible repeat' (first | assumption | apply evolves_replyFrame | apply evolves_ite | split)

theorem evolves_execReplyTimeout (port : Fin 16) (s : State) (hev : Evolves s0 s) :
    ∃ t, execReplyTimeout port s = .next t ∧ Evolves s0 t := by
  unfold execReplyTimeout
  try dsimp only
  refine ⟨_, rfl, ?_⟩
  with_reducible repeat' (first
    | (intro _; try dsimp only) | assumption | apply evolves_queryTimedOut | apply evolves_setTlk
    | (simp only [evolves_mk_iff]; apply evolvesTo_self) | apply evolves_ite | split)

theorem evolves_execTempQuery (port : Fin 16) (s : State) (hev : Evolves s0 s) :
    ∃ t, execTempQuery port s = .next t ∧ Evolves s0 t := by
  unfold execTempQuery
  try dsimp only
  refine ⟨_, rfl, ?_⟩
  with_reducible repeat' (first | assumption | apply evolves_askLater | apply evolves_ite | split)

theorem evolves_execEchoRemeasure (port : Fin 16) (s : State) (hev : Evolves s0 s) :
    ∃ t, execEchoRemeasure port s = .next t ∧ Evolves s0 t := by
  unfold execEchoRemeasure
  try dsimp only
  refine ⟨_, rfl, ?_⟩
  with_reducible repeat' (first
    | assumption | apply evolves_ask | apply evolves_setTlk | (simp only [evolves_mk_iff]; apply evolvesTo_self)
    | apply evolves_ite | split)

theorem evolves_execStatusProbe (port : Fin 16) (s : State) (hev : Evolves s0 s) :
    ∃ t, execStatusProbe port s = .next t ∧ Evolves s0 t := by
  unfold execStatusProbe
  try dsimp only
  refine ⟨_, rfl, ?_⟩
  with_reducible repeat' (first | assumption | apply evolves_ask | apply evolves_ite | split)

theorem evolves_execEnum (who : Requester) (port : Fin 16) (value : Word) (s : State) (hev : Evolves s0 s) :
    ∃ t, execEnum who port value s = .next t ∧ Evolves s0 t := by
  unfold execEnum
  try dsimp only
  refine ⟨_, rfl, ?_⟩
  with_reducible repeat' (first | assumption | apply evolves_writeReg | apply evolves_tlkEnumerate | apply evolves_ite | split)

theorem evolves_execResume (who : Requester) (port : Fin 16) (value : Word) (s : State) (hev : Evolves s0 s) :
    ∃ t, execResume who port value s = .next t ∧ Evolves s0 t := by
  unfold execResume
  try dsimp only
  refine ⟨_, rfl, ?_⟩
  with_reducible repeat' (first
    | assumption | apply evolves_writeReg | apply evolves_askAssign | apply evolves_resumeEnd | apply evolves_ite | split)

theorem evolves_hostAsk (p : Nat) (config : Bool) (value : Word) (s : State) (hev : Evolves s0 s) :
    Evolves s0 (hostAsk p config value s) := by
  unfold hostAsk
  try dsimp only
  with_reducible repeat' (first | assumption | apply evolves_askLater | apply evolves_rsetBit)

theorem evolves_execHostQuery (who : Requester) (port : Fin 16) (value : Word) (s : State) (hev : Evolves s0 s) :
    ∃ t, execHostQuery who port value s = .next t ∧ Evolves s0 t := by
  unfold execHostQuery
  try dsimp only
  refine ⟨_, rfl, ?_⟩
  with_reducible repeat' (first
    | assumption | apply evolves_writeReg | apply evolves_raiseErr | apply evolves_hostAsk | apply evolves_ite | split)

theorem evolves_execHostConfig (who : Requester) (port : Fin 16) (value : Word) (s : State) (hev : Evolves s0 s) :
    ∃ t, execHostConfig who port value s = .next t ∧ Evolves s0 t := by
  unfold execHostConfig
  try dsimp only
  refine ⟨_, rfl, ?_⟩
  with_reducible repeat' (first
    | assumption | apply evolves_writeReg | apply evolves_raiseErr | apply evolves_hostAsk | apply evolves_ite | split)

theorem evolves_execScheduleResend (port : Fin 16) (s : State) (hev : Evolves s0 s) :
    ∃ t, execScheduleResend port s = .next t ∧ Evolves s0 t := by
  unfold execScheduleResend
  try dsimp only
  refine ⟨_, rfl, ?_⟩
  with_reducible repeat' (first | assumption | apply evolves_sendSchedule | apply evolves_draw | apply evolves_ite | split)

/-! ### Pages -/

theorem evolves_outState (s : State) (o : Host.Outcome State Fault Refusal) (h : ∃ t, o = .next t ∧ Evolves s0 t) :
    Evolves s0 (outState s o) := by
  obtain ⟨t, rfl, h⟩ := h
  exact h

theorem evolves_onIndex (i : Option (Fin n)) (f : Fin n → State) (rest : State) (hf : ∀ (z0 : Fin n), Evolves s0 (f z0)) (hrest : Evolves s0 rest) (hev : Evolves s0 rest) :
    Evolves s0 (onIndex i f rest) := by
  unfold onIndex
  try dsimp only
  with_reducible repeat' (first
    | (intro _; try dsimp only) | assumption | apply hf | apply hrest | (simp only [evolves_mk_iff]; apply evolvesTo_self) | split)

theorem evolves_thermThrWrite (who : Requester) (value : Word) (s : State) (hev : Evolves s0 s) :
    Evolves s0 (thermThrWrite who value s) := by
  unfold thermThrWrite
  try dsimp only
  with_reducible repeat' (first
    | assumption | apply evolves_raiseErr | apply evolves_countSeq | apply evolves_writeReg | apply evolves_ite | split)

theorem evolves_queueWrite (who : Requester) (q : Nat) (value : Word) (s : State) (hev : Evolves s0 s) :
    Evolves s0 (queueWrite who q value s) := by
  unfold queueWrite
  try dsimp only
  with_reducible repeat' (first
    | assumption | apply evolves_writeReg | apply evolves_queueRun | apply evolves_setCmp
    | (simp only [evolves_mk_iff]; apply evolvesTo_self) | apply evolves_ite | split)

theorem evolves_wireWrite (who : Requester) (p : Nat) (value : Word) (before : State) (hev : Evolves s0 before) :
    Evolves s0 (wireWrite who p value before) := by
  unfold wireWrite
  try dsimp only
  with_reducible repeat' (first
    | (intro _; try dsimp only) | assumption | apply evolves_writeReg | apply evolves_setSpareOf | apply evolves_laneDown
    | apply evolves_laneWake | apply evolves_ite | apply evolves_foldl | split)

theorem evolves_writeLow (who : Requester) (addr : Nat) (v : Word) (s : State) (rest : State) (hs : Evolves s0 s) (hev : Evolves s0 rest) :
    Evolves s0 (writeLow who addr v s rest) := by
  unfold writeLow
  try dsimp only
  with_reducible repeat' (first
    | (intro _; try dsimp only) | assumption | apply evolves_resetRequest | apply evolves_startWrite | apply evolves_kickBin
    | apply evolves_kickHost | apply evolves_deadReckoningWrite | apply evolves_writeReg | apply evolves_rsetBit
    | apply evolves_outState | apply evolves_execFwSlotWrite | apply evolves_execSettingsSlotWrite | apply evolves_flashCommand
    | apply evolves_execLeaveBudgetWrite | apply evolves_thermThrWrite | apply evolves_levelForce | apply evolves_holdTestWrite
    | apply evolves_execClrForce | apply evolves_execClrRelease | apply evolves_execTableWrite | apply evolves_onIndex
    | apply evolves_execDarkCalStart | apply evolves_execDarkCalCancel | apply evolves_execLutLoad | apply evolves_setClr
    | apply evolves_setSiu | apply hs | (simp only [evolves_mk_iff]; apply evolvesTo_self) | apply evolves_ite | split)

theorem evolves_writeMid (who : Requester) (addr : Nat) (v : Word) (s : State) (rest : State) (hs : Evolves s0 s) (hev : Evolves s0 rest) :
    Evolves s0 (writeMid who addr v s rest) := by
  unfold writeMid
  try dsimp only
  with_reducible repeat' (first
    | (intro _; try dsimp only) | assumption | apply evolves_outState | apply evolves_execMapValidate
    | apply evolves_selfrefUpdate | apply evolves_writeReg | apply evolves_execRefCaptureStart
    | apply evolves_execRefCaptureCancel | apply evolves_electWritten | apply evolves_execMsgSend | apply evolves_execTaiSet
    | apply evolves_onIndex | apply evolves_execEnum | apply evolves_execResume | apply evolves_execHostConfig
    | apply evolves_execHostQuery | apply evolves_execRetrain | apply evolves_execLanForce | apply evolves_execLanRelease
    | apply evolves_wireWrite | apply evolves_execRetiredClear | apply evolves_ceCheck | apply evolves_execSendBind
    | apply evolves_queueWrite | apply evolves_execJobSubmit | apply hs | apply evolves_ite | apply evolves_foldl | split)

theorem evolves_axisCommand (who : Requester) (a : Fin 8) (v : Word) (s : State) (hev : Evolves s0 s) :
    Evolves s0 (axisCommand who a v s) := by
  unfold axisCommand
  try dsimp only
  with_reducible repeat' (first
    | assumption | apply evolves_outState | apply evolves_execCmdRun | apply evolves_execCmdHold | apply evolves_execCmdOff
    | apply evolves_execCmdAlign | apply evolves_writeReg | apply evolves_ite | split)

theorem evolves_onIndexHigh {α : Type} (i : Option α) (f : α → State) (rest : State) (hf : ∀ k, Evolves s0 (f k))
    (h : Evolves s0 rest) : Evolves s0 (writeHigh.onIndex i f rest) := by
  unfold writeHigh.onIndex
  split
  · exact hf _
  · exact h

theorem evolves_writeHigh (who : Requester) (addr : Nat) (v : Word) (s : State) (rest : State) (hs : Evolves s0 s) (hev : Evolves s0 rest) :
    Evolves s0 (writeHigh who addr v s rest) := by
  unfold writeHigh
  try dsimp only
  with_reducible repeat' (first
    | (intro _; try dsimp only) | assumption | apply evolves_outState | apply evolves_execMediaForce
    | apply evolves_execMediaRetiredClear | apply evolves_clipControl | apply evolves_writeReg | apply evolves_snapshotEnable
    | apply evolves_psControl | apply evolves_setCnt | apply evolves_tokenVerify | apply evolves_debugRegister
    | apply evolves_onIndex | apply evolves_axisCommand | apply evolves_execSetpointPush | apply evolves_execLatchArm
    | apply evolves_execFaultClear | apply evolves_audCommand | apply evolves_execTwiGo | apply evolves_execTgtTxPush
    | apply evolves_counterSelect | apply evolves_counterClear | apply hs | apply evolves_onIndexHigh
    | (simp only [evolves_mk_iff]; apply evolvesTo_self) | apply evolves_ite | split)

theorem evolves_writeHeader (who : Requester) (addr : Nat) (v : Word) (s : State) (hev : Evolves s0 s) :
    Evolves s0 (writeHeader who addr v s) := by
  unfold writeHeader
  try dsimp only
  with_reducible repeat' (first
    | assumption | apply evolves_ctrlWrite | apply evolves_intEnWrite | apply evolves_intStatWrite | apply evolves_intSetWrite
    | apply evolves_shadowWrite | apply evolves_writeReg | apply evolves_ite | split)

theorem evolves_badAccess (addr : Nat) (s : State) (hev : Evolves s0 s) :
    Evolves s0 (badAccess addr s) := by
  unfold badAccess
  try dsimp only
  with_reducible repeat' (first | assumption | apply evolves_raiseErr)

theorem evolves_writeAny (who : Requester) (addr : Nat) (v : Word) (s : State) (hev : Evolves s0 s) :
    Evolves s0 (writeAny who addr v s) := by
  unfold writeAny
  try dsimp only
  with_reducible repeat' (first
    | assumption | apply evolves_badAccess | apply evolves_writeHeader | apply evolves_writeReg | apply evolves_writeLow
    | apply evolves_writeMid | apply evolves_writeHigh | apply evolves_ite | split)

theorem evolves_readAny (who : Requester) (addr : Nat) (s : State) (hev : Evolves s0 s) :
    Evolves s0 (readAny who addr s) := by
  unfold readAny
  try dsimp only
  with_reducible repeat' (first
    | (intro _; try dsimp only) | assumption | apply evolves_emit | apply evolves_badAccess | apply evolves_outState
    | apply evolves_execCnvLtrRead | apply evolves_execPhoPwrPeakRead | apply evolves_execPltThermPeakRead | apply evolves_onIndex
    | apply evolves_execTgtRxPop | apply evolves_readOut | apply evolves_latchRead | apply evolves_tableIndexOn
    | apply evolves_rsetFld | apply evolves_setLanLane | (simp only [evolves_mk_iff]; apply evolvesTo_self) | apply evolves_ite
    | split)

theorem evolves_execRegWrite (who : Requester) (addr : Nat) (value : Word) (s : State) (hev : Evolves s0 s) :
    ∃ t, execRegWrite who addr value s = .next t ∧ Evolves s0 t := by
  unfold execRegWrite
  try dsimp only
  refine ⟨_, rfl, ?_⟩
  with_reducible repeat' (first | assumption | apply evolves_writeAny)

theorem evolves_execBadAccess (who : Requester) (addr : Nat) (bytes : Nat) (write : Option (BitVec 64)) (s : State) (hev : Evolves s0 s) :
    ∃ t, execBadAccess who addr bytes write s = .next t ∧ Evolves s0 t := by
  unfold execBadAccess
  try dsimp only
  refine ⟨_, rfl, ?_⟩
  with_reducible repeat' (first
    | (intro _; try dsimp only) | assumption | apply evolves_writeAny | apply evolves_readAny | apply evolves_badAccess
    | apply evolves_emit | apply evolves_ite | apply evolves_foldl | split)

theorem evolves_execLoWordRead (who : Requester) (addr : Nat) (s : State) (hev : Evolves s0 s) :
    ∃ t, execLoWordRead who addr s = .next t ∧ Evolves s0 t := by
  unfold execLoWordRead
  try dsimp only
  refine ⟨_, rfl, ?_⟩
  with_reducible repeat' (first | assumption | apply evolves_readAny)

theorem evolves_execHiWordWrite (who : Requester) (addr : Nat) (value : Word) (s : State) (hev : Evolves s0 s) :
    ∃ t, execHiWordWrite who addr value s = .next t ∧ Evolves s0 t := by
  unfold execHiWordWrite
  try dsimp only
  refine ⟨_, rfl, ?_⟩
  with_reducible repeat' (first | assumption | apply evolves_writeAny)

theorem evolves_execEnable (who : Requester) (page : Fin 288) (value : Word) (s : State) (hev : Evolves s0 s) :
    ∃ t, execEnable who page value s = .next t ∧ Evolves s0 t := by
  unfold execEnable
  try dsimp only
  refine ⟨_, rfl, ?_⟩
  with_reducible repeat' (first | assumption | apply evolves_ctrlWrite)

theorem evolves_execIdleReq (who : Requester) (page : Fin 288) (value : Word) (s : State) (hev : Evolves s0 s) :
    ∃ t, execIdleReq who page value s = .next t ∧ Evolves s0 t := by
  unfold execIdleReq
  try dsimp only
  refine ⟨_, rfl, ?_⟩
  with_reducible repeat' (first | assumption | apply evolves_ctrlWrite)

theorem evolves_execUnitIdle (page : Fin 288) (s : State) (hev : Evolves s0 s) :
    ∃ t, execUnitIdle page s = .next t ∧ Evolves s0 t := by
  unfold execUnitIdle
  try dsimp only
  refine ⟨_, rfl, ?_⟩
  with_reducible repeat' (first | assumption | apply evolves_unitIdles)

theorem evolves_execBlkRst (who : Requester) (page : Fin 288) (value : Word) (s : State) (hev : Evolves s0 s) :
    ∃ t, execBlkRst who page value s = .next t ∧ Evolves s0 t := by
  unfold execBlkRst
  try dsimp only
  refine ⟨_, rfl, ?_⟩
  with_reducible repeat' (first | assumption | apply evolves_ctrlWrite)

theorem evolves_execBlockResetDone (block : Fin 18) (s : State) (hev : Evolves s0 s) :
    ∃ t, execBlockResetDone block s = .next t ∧ Evolves s0 t := by
  unfold execBlockResetDone
  try dsimp only
  refine ⟨_, rfl, ?_⟩
  with_reducible repeat' (first | assumption | apply evolves_blockResetEnds)

theorem evolves_execCommit (who : Requester) (page : Fin 288) (value : Word) (s : State) (hev : Evolves s0 s) :
    ∃ t, execCommit who page value s = .next t ∧ Evolves s0 t := by
  unfold execCommit
  try dsimp only
  refine ⟨_, rfl, ?_⟩
  with_reducible repeat' (first | assumption | apply evolves_shadowWrite)

theorem evolves_execPgIntStatClear (who : Requester) (page : Fin 288) (value : Word) (s : State) (hev : Evolves s0 s) :
    ∃ t, execPgIntStatClear who page value s = .next t ∧ Evolves s0 t := by
  unfold execPgIntStatClear
  try dsimp only
  refine ⟨_, rfl, ?_⟩
  with_reducible repeat' (first | assumption | apply evolves_intStatWrite)

theorem evolves_execPgIntSet (who : Requester) (page : Fin 288) (value : Word) (s : State) (hev : Evolves s0 s) :
    ∃ t, execPgIntSet who page value s = .next t ∧ Evolves s0 t := by
  unfold execPgIntSet
  try dsimp only
  refine ⟨_, rfl, ?_⟩
  with_reducible repeat' (first | assumption | apply evolves_intSetWrite)

theorem evolves_execPgIntEnWrite (who : Requester) (page : Fin 288) (value : Word) (s : State) (hev : Evolves s0 s) :
    ∃ t, execPgIntEnWrite who page value s = .next t ∧ Evolves s0 t := by
  unfold execPgIntEnWrite
  try dsimp only
  refine ⟨_, rfl, ?_⟩
  with_reducible repeat' (first | assumption | apply evolves_intEnWrite)

theorem evolves_execMsixUnmask (vector : Fin 2048) (s : State) (hev : Evolves s0 s) :
    ∃ t, execMsixUnmask vector s = .next t ∧ Evolves s0 t := by
  unfold execMsixUnmask
  try dsimp only
  refine ⟨_, rfl, ?_⟩
  with_reducible repeat' (first
    | assumption | apply evolves_emit | (simp only [evolves_mk_iff]; apply evolvesTo_self) | apply evolves_ite | split)

theorem evolves_execLock (who : Requester) (value : Word) (s : State) (hev : Evolves s0 s) :
    ∃ t, execLock who value s = .next t ∧ Evolves s0 t := by
  unfold execLock
  try dsimp only
  refine ⟨_, rfl, ?_⟩
  with_reducible repeat' (first | assumption | apply evolves_writeAny)

theorem evolves_execJtagRegisterAccess (addr : Nat) (isWrite : Bool) (value : Word) (s : State) (hev : Evolves s0 s) :
    ∃ t, execJtagRegisterAccess addr isWrite value s = .next t ∧ Evolves s0 t := by
  unfold execJtagRegisterAccess
  try dsimp only
  refine ⟨_, rfl, ?_⟩
  with_reducible repeat' (first | assumption | apply evolves_writeAny | apply evolves_readAny | apply evolves_ite | split)

/-! ### Start -/

theorem evolves_setStep (k : Nat) (s : State) (hev : Evolves s0 s) :
    Evolves s0 (setStep k s) := by
  unfold setStep
  try dsimp only
  with_reducible repeat' (first | assumption | apply evolves_raiseInt | apply evolves_rsetFld)

theorem evolves_startLosses (s : State) (hev : Evolves s0 s) :
    Evolves s0 (startLosses s) := by
  unfold startLosses
  try dsimp only
  with_reducible repeat' (first
    | assumption | apply evolves_draw | apply evolves_logEvent | apply evolves_setPlt
    | (simp only [evolves_mk_iff]; apply evolvesTo_self) | apply evolves_ite | split)

theorem evolves_bistRepair (x : Nat × Bool × Nat) (s : State) (hev : Evolves s0 s) :
    Evolves s0 (bistRepair x s) := by
  unfold bistRepair
  try dsimp only
  with_reducible repeat' (first
    | assumption | apply evolves_logEvent | apply evolves_sramNoSpare | apply evolves_setPlt
    | (simp only [evolves_mk_iff]; apply evolvesTo_self) | apply evolves_ite | refine evolves_snd (by assumption) ?_ | split)

theorem evolves_sramStart (bist : List (Nat × Bool × Nat)) (s : State) (hev : Evolves s0 s) :
    Evolves s0 (sramStart bist s) := by
  unfold sramStart
  try dsimp only
  with_reducible repeat' (first
    | (intro _; try dsimp only) | assumption | apply evolves_bistRepair | apply evolves_setPlt
    | (simp only [evolves_mk_iff]; apply evolvesTo_self) | apply evolves_ite | apply evolves_foldl | split)

theorem evolves_drawChallenge (s : State) (hev : Evolves s0 s) :
    Evolves s0 (drawChallenge s) := by
  unfold drawChallenge
  try dsimp only
  with_reducible repeat' (first | assumption | apply evolves_draw | apply evolves_rset2)

theorem evolves_startOpens (facts : StartFacts) (s : State) (hev : Evolves s0 s) :
    Evolves s0 (startOpens facts s) := by
  unfold startOpens
  try dsimp only
  with_reducible repeat' (first
    | assumption | apply evolves_emit | apply evolves_setPlt | apply evolves_startLosses | apply evolves_logEvent
    | apply evolves_drawChallenge | apply evolves_sramStart | (simp only [evolves_mk_iff]; apply evolvesTo_self)
    | apply evolves_ite | split)

theorem evolves_fabricOpens (s : State) (hev : Evolves s0 s) :
    Evolves s0 (fabricOpens s) := by
  unfold fabricOpens
  try dsimp only
  with_reducible repeat' (first | assumption | apply evolves_setPlt | (simp only [evolves_mk_iff]; apply evolvesTo_self))

theorem evolves_drEnter (fallback : Nat) (s : State) (hev : Evolves s0 s) :
    Evolves s0 (drEnter fallback s) := by
  unfold drEnter
  try dsimp only
  with_reducible repeat' (first
    | assumption | apply evolves_fabricOpens | apply evolves_setPlt | apply evolves_rsetFld | apply evolves_rsetBit
    | apply evolves_controllerClear | apply evolves_motAllOff | apply evolves_memSleep | apply evolves_recFlushBegin
    | apply evolves_memWake | apply evolves_logEvent | apply evolves_raiseErr | apply evolves_raiseInt
    | (simp only [evolves_mk_iff]; apply evolvesTo_self) | apply evolves_ite | split)

theorem evolves_slotStarts (slot : Nat) (kept : Bool) (r : BootRec) (s : State) (hev : Evolves s0 s) :
    Evolves s0 (slotStarts slot kept r s) := by
  unfold slotStarts
  try dsimp only
  with_reducible repeat' (first
    | (intro _; try dsimp only) | assumption | apply evolves_logEvent | apply evolves_fabricOpens | apply evolves_setPlt
    | apply evolves_rset | apply evolves_setStep | apply evolves_rsetFld | apply evolves_raiseErr
    | (simp only [evolves_mk_iff]; apply evolvesTo_self) | apply evolves_ite | split)

theorem evolves_markIncompat (slot : Nat) (r : BootRec) (s : State) (hev : Evolves s0 s) :
    Evolves s0 (markIncompat slot r s) := by
  unfold markIncompat
  try dsimp only
  with_reducible repeat' (first
    | assumption | apply evolves_recognise | apply evolves_bootWrite | (simp only [evolves_mk_iff]; apply evolvesTo_self)
    | apply evolves_ite | split)

theorem evolves_settingsReady (slot : Nat) (r : BootRec) (s : State) (hev : Evolves s0 s) :
    Evolves s0 (settingsReady slot r s).2 := by
  unfold settingsReady
  try dsimp only
  with_reducible repeat' (first
    | (intro _; try dsimp only) | assumption | apply evolves_rset | apply evolves_bootWrite | apply evolves_flashErase
    | refine evolves_migrateSlot ?_ (by assumption) | (simp only [evolves_mk_iff]; apply evolvesTo_self) | apply evolves_ite
    | split)

theorem evolves_chartChoice (balls : Nat) (s : State) (hev : Evolves s0 s) :
    Evolves s0 (chartChoice balls s).2.2 := by
  unfold chartChoice
  try dsimp only
  with_reducible repeat' (first | assumption | apply evolves_rset | apply evolves_ite | split)

theorem evolves_chartActive (n : Nat) (source : Nat) (balls : Nat) (role : Nat) (schema : Nat) (s : State) (hev : Evolves s0 s) :
    Evolves s0 (chartActive n source balls role schema s) := by
  unfold chartActive
  try dsimp only
  with_reducible repeat' (first
    | assumption | apply evolves_rset | apply evolves_logEvent | apply evolves_setPlt
    | (simp only [evolves_mk_iff]; apply evolvesTo_self) | apply evolves_ite | split)

theorem evolves_recordApply (a : Nat) (v : Word) (s : State) (hev : Evolves s0 s) :
    Evolves s0 (recordApply a v s).2 := by
  unfold recordApply
  try dsimp only
  with_reducible repeat' (first | assumption | apply evolves_writeAny)

theorem evolves_recordsApply (warm : Bool) (i : Nat) (rs : List (Nat × Word)) (s : State) (h : Evolves s0 s) :
    Evolves s0 (recordsApply warm i rs s).2 := by
  induction rs generalizing i s with
  | nil => exact h
  | cons e rs ih =>
    obtain ⟨a, v⟩ := e
    rw [recordsApply.eq_2]
    split
    · exact ih _ _ h
    · split
      rename_i bad t heq
      have ht : Evolves s0 t := evolves_snd heq (evolves_recordApply _ _ _ h)
      split
      · exact ht
      · exact ih _ _ ht

theorem evolves_pagesCommit (rs : List (Nat × Word)) (s : State) (hev : Evolves s0 s) :
    Evolves s0 (pagesCommit rs s) := by
  unfold pagesCommit
  try dsimp only
  with_reducible repeat' (first
    | (intro _; try dsimp only) | assumption | apply evolves_shadowWrite | apply evolves_ite | apply evolves_foldl | split)

theorem evolves_unitsStart (role : Nat) (rs : List (Nat × Word)) (s : State) (hev : Evolves s0 s) :
    Evolves s0 (unitsStart role rs s) := by
  unfold unitsStart
  try dsimp only
  with_reducible repeat' (first | (intro _; try dsimp only) | assumption | apply evolves_ctrlWrite | apply evolves_foldl)

theorem evolves_markRestore (m : SpareMark) (s : State) (hev : Evolves s0 s) :
    Evolves s0 (markRestore m s) := by
  unfold markRestore
  try dsimp only
  with_reducible repeat' (first
    | (intro _; try dsimp only) | assumption | apply evolves_rsetFld | apply evolves_rsetBit | apply evolves_setSpareOf
    | apply evolves_emit | apply evolves_setSpareState | apply evolves_setSpareFor
    | (simp only [evolves_mk_iff]; apply evolvesTo_self) | apply evolves_ite | split)

theorem evolves_lanesRecheck (s : State) (hev : Evolves s0 s) :
    Evolves s0 (lanesRecheck s) := by
  unfold lanesRecheck
  try dsimp only
  with_reducible repeat' (first
    | (intro _; try dsimp only) | assumption | apply evolves_setLane | apply evolves_ite | apply evolves_foldl | split)

theorem evolves_recReplay (bad : List Nat) (s : State) (hev : Evolves s0 s) :
    Evolves s0 (recReplay bad s) := by
  unfold recReplay
  try dsimp only
  with_reducible repeat' (first
    | (intro _; try dsimp only) | assumption | apply evolves_raiseErr | apply evolves_setPlt | apply evolves_logEvent
    | (simp only [evolves_mk_iff]; apply evolvesTo_self) | apply evolves_ite | apply evolves_foldl | split)

theorem evolves_startGivesUp (cause : Nat) (info : Nat) (s : State) (hev : Evolves s0 s) :
    Evolves s0 (startGivesUp cause info s) := by
  unfold startGivesUp
  try dsimp only
  with_reducible repeat' (first | assumption | apply evolves_recognise | apply evolves_raiseErr)

theorem evolves_startServices (facts : StartFacts) (role : Nat) (rs : List (Nat × Word)) (s : State) (hev : Evolves s0 s) :
    Evolves s0 (startServices facts role rs s) := by
  unfold startServices
  try dsimp only
  with_reducible repeat' (first
    | assumption | apply evolves_tornReplay | apply evolves_recReplay | apply evolves_rsetFld | apply evolves_motWarmStart
    | apply evolves_motAllOff | apply evolves_setStep | apply evolves_eraseResume | apply evolves_unitsStart | apply evolves_ite
    | split)

theorem evolves_startRecords (facts : StartFacts) (role : Nat) (rs : List (Nat × Word)) (s : State) (hev : Evolves s0 s) :
    Evolves s0 (startRecords facts role rs s) := by
  unfold startRecords
  try dsimp only
  with_reducible repeat' (first
    | (intro _; try dsimp only) | assumption | exact Evolves.refl _ | apply evolves_recordsApply | apply evolves_setStep
    | apply evolves_startGivesUp | apply evolves_startServices | apply evolves_rsetBit | apply evolves_pagesCommit
    | (simp only [evolves_mk_iff]; apply evolvesTo_self) | apply evolves_ite | apply evolves_foldl | apply evolves_foldl_snd
    | apply evolves_foldl_snd2 | refine evolves_snd (by assumption) ?_ | refine evolves_fst (by assumption) ?_
    | refine evolves_snd2 (by assumption) ?_ | split)

theorem evolves_startLinks (facts : StartFacts) (role : Nat) (rs : List (Nat × Word)) (s : State) (hev : Evolves s0 s) :
    Evolves s0 (startLinks facts role rs s) := by
  unfold startLinks
  try dsimp only
  with_reducible repeat' (first
    | (intro _; try dsimp only) | assumption | apply evolves_markRestore | apply evolves_memTrain | apply evolves_setStep
    | apply evolves_startRecords | apply evolves_memWake | apply evolves_lanesRecheck | apply evolves_ite | apply evolves_foldl
    | refine evolves_snd (by assumption) ?_ | split)

theorem evolves_firmwareStarts (facts : StartFacts) (slot : Nat) (r : BootRec) (s : State) (hev : Evolves s0 s) :
    Evolves s0 (firmwareStarts facts slot r s) := by
  unfold firmwareStarts
  try dsimp only
  with_reducible repeat' (first
    | (intro _; try dsimp only) | assumption | apply evolves_chartChoice | apply evolves_settingsReady
    | apply evolves_markIncompat | apply evolves_chartActive | apply evolves_writeAny | apply evolves_startLinks
    | apply evolves_startGivesUp | (simp only [evolves_mk_iff]; apply evolvesTo_self) | apply evolves_ite | apply evolves_foldl
    | refine evolves_snd (by assumption) ?_ | split)

theorem evolves_rejectLooked (warm : Bool) (intact : Bool) (r : BootRec) (s : State) (hev : Evolves s0 s) :
    Evolves s0 (rejectLooked warm intact r s) := by
  unfold rejectLooked
  try dsimp only
  with_reducible repeat' (first | (intro _; try dsimp only) | assumption | apply evolves_rejectImage | apply evolves_foldl)

theorem evolves_startRun (facts : StartFacts) (s : State) (hev : Evolves s0 s) :
    Evolves s0 (startRun facts s) := by
  unfold startRun
  try dsimp only
  with_reducible repeat' (first
    | (intro _; try dsimp only) | assumption | apply evolves_startOpens | apply evolves_drEnter | apply evolves_rejectLooked
    | apply evolves_bootWrite | apply evolves_firmwareStarts | apply evolves_slotStarts
    | (simp only [evolves_mk_iff]; apply evolvesTo_self) | apply evolves_ite | refine evolves_snd (by assumption) ?_ | split)

theorem evolves_execRstNRelease (facts : StartFacts) (s : State) (hev : Evolves s0 s) :
    ∃ t, execRstNRelease facts s = .next t ∧ Evolves s0 t := by
  unfold execRstNRelease
  try dsimp only
  refine ⟨_, rfl, ?_⟩
  with_reducible repeat' (first | assumption | apply evolves_startRun | apply evolves_ite | split)

/-! ### Streams -/

theorem evolves_siuSlot (align : Bool) (p : Nat) (s : State) (hev : Evolves s0 s) :
    Evolves s0 (siuSlot align p s) := by
  unfold siuSlot
  try dsimp only
  with_reducible repeat' (first
    | (intro _; try dsimp only) | assumption | apply evolves_siuAlignSend | apply evolves_sendCodeword | apply evolves_emit
    | apply evolves_ite | apply evolves_foldl | split)

theorem evolves_tileSlot (align : Bool) (p : Nat) (s : State) (hev : Evolves s0 s) :
    Evolves s0 (tileSlot align p s) := by
  unfold tileSlot
  try dsimp only
  with_reducible repeat' (first | assumption | apply evolves_tileAlignSend | apply evolves_tileSend | apply evolves_ite | split)

theorem evolves_casSlot (slot : Nat) (p : Nat) (s : State) (hev : Evolves s0 s) :
    Evolves s0 (casSlot slot p s) := by
  unfold casSlot
  try dsimp only
  with_reducible repeat' (first | assumption | apply evolves_alignSend | apply evolves_sendAck | apply evolves_ite | split)

theorem evolves_streamsTick (s : State) (hev : Evolves s0 s) :
    Evolves s0 (streamsTick s) := by
  unfold streamsTick
  try dsimp only
  with_reducible repeat' (first
    | (intro _; try dsimp only) | assumption | apply evolves_casSlot | apply evolves_tileSlot | apply evolves_siuSlot
    | apply evolves_ite | apply evolves_foldl | split)

end Sys2Proof.Laws
end

