-- ==== Sys2Proof/Laws/Fec.lean ====
section
/-! SUPPORT. The encoder's table is the generator polynomial of RS(544,514). -/

namespace Sys2Proof.Laws

open Sys2Proof.Machine

/-- Row `b` packs the generator's coefficients below its highest, the highest first, each times x^b. -/
theorem rsRows_generator :
    rsRows = (upto 10).map fun b => (rsGenerator.take 30).foldl (fun acc c => 1024 * acc + gfMul (2 ^ b) c) 0 := by
  decide +kernel

/-- The generator vanishes at α^0 to α^29. -/
theorem rsGenerator_roots : ((upto 30).all fun j => gfEval rsGenerator (gfAlpha j) == 0) = true := by
  decide +kernel

end Sys2Proof.Laws
end

