-- ==== Sys2Proof/Laws/Memory.lean ====
section
/-! SUPPORT. The two memories: a read after a write, the bytes a write leaves alone, and the canonical form that every write keeps. -/

namespace Sys2Proof.Laws

open Sys2Proof.Machine Sys2Proof.Safety

variable (s : State) (host : Bool)

theorem memByte_memPut (a : Nat) (b : Byte) (host' : Bool) (a' : Nat) :
    memByte (memPut host a b s) host' a' = if host' = host ∧ a' = a then b else memByte s host' a' := by
  unfold memByte memPut
  cases host <;> cases host' <;> simp only [Bool.false_eq_true, if_false, if_true, false_and, true_and, reduceCtorEq]
  · by_cases h : a' = a
    · subst h; simp
    · rw [if_neg h]; exact smGet_smSet_other _ _ _ _ h
  · by_cases h : a' = a
    · subst h; simp
    · rw [if_neg h]; exact smGet_smSet_other _ _ _ _ h

/-- Bytes stored from `a` upwards: those in the range hold them, the rest of both memories stays. -/
theorem memByte_memPuts (a : Nat) (bs : List Byte) (host' : Bool) (a' : Nat) :
    memByte (memPuts host a bs s) host' a' =
      if host' = host ∧ a ≤ a' ∧ a' < a + bs.length then nth 0#8 bs (a' - a) else memByte s host' a' := by
  induction bs generalizing a s with
  | nil =>
    rw [if_neg]
    · rfl
    · rintro ⟨_, h1, h2⟩
      simp at h2
      omega
  | cons b bs ih =>
    show memByte (memPuts host (a + 1) bs (memPut host a b s)) host' a' = _
    rw [ih, memByte_memPut]
    by_cases hh : host' = host
    · by_cases h0 : a' = a
      · subst h0
        rw [if_neg (by omega), if_pos ⟨hh, rfl⟩, if_pos ⟨hh, Nat.le_refl _, by simp⟩]
        simp [nth]
      · by_cases h1 : a + 1 ≤ a' ∧ a' < a + 1 + bs.length
        · rw [if_pos ⟨hh, h1⟩, if_pos ⟨hh, by omega, by simp; omega⟩, show a' - a = (a' - (a + 1)) + 1 by omega]
          rfl
        · rw [if_neg (fun h => h1 h.2), if_neg (fun h => h0 h.2), if_neg]
          rintro ⟨_, h2, h3⟩
          simp at h3
          omega
    · rw [if_neg (fun h => hh h.1), if_neg (fun h => hh h.1), if_neg (fun h => hh h.1)]

@[simp] theorem memByte_memClean (a k : Nat) (host' : Bool) (a' : Nat) : memByte (memClean host a k s) host' a' = memByte s host' a' := by
  unfold memClean
  split <;> rfl

theorem memByte_memWrite (a : Nat) (bs : List Byte) (host' : Bool) (a' : Nat) :
    memByte (memWrite host a bs s) host' a' =
      if host' = host ∧ a ≤ a' ∧ a' < a + bs.length then nth 0#8 bs (a' - a) else memByte s host' a' := by
  unfold memWrite
  dsimp only
  split
  · rename_i h
    subst h
    exact memByte_memPuts ..
  · split
    · rename_i h
      rw [List.isEmpty_iff.1 h, if_neg fun h => by simp at h; omega]
    · rename_i h _
      have e : ∀ l : List Nat, memByte (l.foldl (fun s b => memUe b s) (memWake s)) host' a' = memByte s host' a' := fun l => by
        unfold memByte
        simp [memUes_others]
      obtain rfl := Bool.not_eq_true _ ▸ h
      rw [memByte_memClean, memByte_memPuts, e]

theorem memRead_length (k a : Nat) : (memRead s host k a).length = k := by
  induction k generalizing a with
  | zero => rfl
  | succ k ih => simp [memRead, ih]

theorem memRead_congr {s t : State} (k a : Nat) (h : ∀ i, i < k → memByte t host (a + i) = memByte s host (a + i)) :
    memRead t host k a = memRead s host k a := by
  induction k generalizing a with
  | zero => rfl
  | succ k ih =>
    unfold memRead
    rw [show memByte t host a = memByte s host a from h 0 (by omega),
      ih (a + 1) fun i hi => by have := h (i + 1) (by omega); rwa [show a + (i + 1) = a + 1 + i by omega] at this]

/-- What is written is read back. -/
theorem memRead_memWrite (a : Nat) (bs : List Byte) : memRead (memWrite host a bs s) host bs.length a = bs := by
  have key : ∀ (cs : List Byte) (b : Nat) (t : State), (∀ i, i < cs.length → memByte t host (b + i) = nth 0#8 cs i) →
      memRead t host cs.length b = cs := by
    intro cs
    induction cs with
    | nil => intros; rfl
    | cons c cs ih =>
      intro b t h
      show memByte t host b :: memRead t host cs.length (b + 1) = c :: cs
      rw [show memByte t host b = c from h 0 (by simp),
        ih (b + 1) t fun i hi => by have := h (i + 1) (by simp; omega); rwa [show b + (i + 1) = b + 1 + i by omega] at this]
  refine key bs a _ fun i hi => ?_
  rw [memByte_memWrite, if_pos ⟨rfl, by omega, by omega⟩, Nat.add_sub_cancel_left]

/-! ### The canonical form -/

/-- Both memories keep their canonical form when one byte is stored. -/
theorem wf_memPut (a : Nat) (b : Byte) (h : memoriesWf s = true) : memoriesWf (memPut host a b s) = true := by
  unfold memoriesWf at h ⊢
  rw [Bool.and_eq_true] at h ⊢
  unfold memPut
  split
  · exact ⟨h.1, smCanon_smSet a b h.2⟩
  · exact ⟨smCanon_smSet a b h.1, h.2⟩

theorem wf_memPuts (a : Nat) (bs : List Byte) (h : memoriesWf s = true) : memoriesWf (memPuts host a bs s) = true := by
  induction bs generalizing a s with
  | nil => exact h
  | cons b bs ih => exact ih _ _ (wf_memPut s host a b h)

theorem wf_memClean (a k : Nat) (h : memoriesWf s = true) : memoriesWf (memClean host a k s) = true := by
  unfold memClean
  split <;> exact h

theorem wf_memWrite (a : Nat) (bs : List Byte) (h : memoriesWf s = true) : memoriesWf (memWrite host a bs s) = true := by
  unfold memWrite
  dsimp only
  split
  · exact wf_memPuts _ _ _ _ h
  · split
    · exact h
    · refine wf_memClean _ _ _ _ (wf_memPuts _ _ _ _ ?_)
      unfold memoriesWf at h ⊢
      simpa [memUes_others] using h

theorem wf_ringWrite (base size off : Nat) (bs : List Byte) (h : memoriesWf s = true) :
    memoriesWf (ringWrite host base size off bs s) = true := by
  unfold ringWrite
  split
  · exact wf_memWrite _ _ _ _ h
  · exact wf_memWrite _ _ _ _ (wf_memWrite _ _ _ _ h)

theorem wf_reset : memoriesWf State.reset = true := rfl

end Sys2Proof.Laws
end

