-- ==== Sys2Proof/Laws/Writes.lean ====
section
/-! SUPPORT. What a register write and a register read do besides the word they touch, for a requester whose accesses are not being sampled. -/

namespace Sys2Proof.Laws

open Sys2Proof.Machine

variable (s : State)

/-- Register accesses are not being sampled (R403: bit 1 of CNT_PS_CTRL). -/
def PsOff (s : State) : Prop := rbit s R.CNT_PS_CTRL 1 = false

theorem psOff_congr {s t : State} (h : rget t R.CNT_PS_CTRL = rget s R.CNT_PS_CTRL) : PsOff s → PsOff t := by
  unfold PsOff rbit
  rw [h]
  exact id

theorem psRegister_off (who : Requester) (w : Bool) (addr : Nat) (h : PsOff s) : psRegister who w addr s = s := by
  unfold psRegister psTakes
  rw [show rbit s R.CNT_PS_CTRL 1 = false from h]
  split <;> rfl

theorem readOut_off (who : Requester) (addr : Nat) (v : Word) (h : PsOff s) : readOut who addr v s = emit (.readData who v) s := by
  unfold readOut
  dsimp only
  split
  · exact psRegister_off _ _ _ _ h
  · rfl

/-- What a write's fields leave: the state, but for E_RANGE and E_LOCKED of the page. -/
theorem applyFields_ind (P : State → Prop) (n off : Nat) (v : Word) (busy lock : Bool) (open_ : FieldDesc → Bool) (skip : Word)
    (hr : ∀ c i t, P t → P (raiseErr n c i t)) (fs : List FieldDesc) (acc : Word × State) (h : P acc.2) :
    P (fs.foldl (applyField n off v busy lock open_ skip) acc).2 := by
  have hc : ∀ (f : FieldDesc) (acc : Word × State), P acc.2 → P (storeChecked n off v f acc).2 := by
    intro f acc h
    unfold storeChecked
    split
    · exact h
    · exact hr _ _ _ h
  induction fs generalizing acc with
  | nil => exact h
  | cons f fs ih =>
    refine ih _ ?_
    unfold applyField
    split
    · exact h
    · split
      · split <;> exact h
      · exact h
      · exact h
      · split
        · exact h
        · exact hc _ _ h
      · split
        · exact hr _ _ _ h
        · exact hc _ _ h
      · exact hc _ _ h
      · exact hc _ _ h

/-- The words a write of `addr` may store: the words of its quantity, and what its page's header counts and reports. -/
def WriteMay (addr a : Nat) : Prop :=
  ¬ Plain a ∨ a = R.PLT_DROPPED_WRITES ∨ (∃ r w k, regAt addr = some (r, w) ∧ k < max 1 r.words ∧ a = addr - 4 * w + 4 * k) ∨ a = addr

/-- Whatever holds of the state, and is kept by stores to the words of `WriteMay`, by errors and by held words, holds after a wide write. -/
theorem writeWide_ind (P : State → Prop) (n addr : Nat) (v : Word) (r : RegDesc) (w : Nat) (lock : Bool) (s : State) (h0 : P s)
    (hs : ∀ k x t, k < r.words → P t → P (rset (addr - 4 * w + 4 * k) x t)) (hr : ∀ n c i t, P t → P (raiseErr n c i t))
    (hh : ∀ l t, P t → P { t with held := l }) : P (writeWide n addr v r w lock s) := by
  have hstore : ∀ x m k t, k + m ≤ r.words → P t → P (storeWords (addr - 4 * w) x m k t) := by
    intro x m
    induction m with
    | zero => exact fun _ _ _ h => h
    | succ m ih => exact fun k t hk h => ih _ _ (by omega) (hs _ _ _ (by omega) h)
  have hdrop : ∀ m k t, P t → P (dropHeld (addr - 4 * w) m k t) := by
    intro m
    induction m with
    | zero => exact fun _ _ h => h
    | succ m ih => exact fun k t h => ih _ _ (hh _ _ h)
  unfold writeWide
  split
  · exact h0
  · dsimp only
    split
    · exact h0
    · split
      · exact hr _ _ _ _ h0
      · split
        · exact hh _ _ h0
        · split
          · exact hstore _ _ _ _ (by omega) (hdrop _ _ _ h0)
          · exact hr _ _ _ _ (hdrop _ _ _ h0)

/-- Whatever holds of the state, and is kept by stores to the words of `WriteMay`, by errors and by held words, holds after a write. -/
theorem writeWord_ind (P : State → Prop) (who : Requester) (addr : Nat) (v skip : Word) (s : State) (h0 : P s)
    (hs : ∀ a x t, WriteMay addr a → P t → P (rset a x t)) (hr : ∀ n c i t, P t → P (raiseErr n c i t))
    (hh : ∀ l t, P t → P { t with held := l }) : P (writeWord who addr v skip s) := by
  have hseq : ∀ n t, P t → P (countSeq n t) := by
    intro n t h
    refine hs _ _ _ (.inl ?_) h
    unfold Plain hdrSeq pageBase
    omega
  have hdrop : ∀ t, P t → P (dropWrite t) := fun t h => hs _ _ _ (.inr (.inl rfl)) h
  unfold writeWord
  dsimp only
  split
  · unfold untaken
    split
    · exact hdrop _ h0
    · split
      · exact hdrop _ h0
      · exact h0
  · split
    · exact hr _ _ _ _ h0
    · split
      · exact hseq _ _ h0
      · rename_i r w hreg
        have h1 : ∀ b : Bool, P (if b = true then raiseErr (pageOf addr) causeCommitBusy (w32 (addr % 0x1000)) s else s) := by
          intro b
          split
          · exact hr _ _ _ _ h0
          · exact h0
        generalize (commitPending s (pageOf addr) && anyShadowed r) = busy
        have h2 := h1 busy
        revert h2
        generalize (if busy = true then raiseErr (pageOf addr) causeCommitBusy (w32 (addr % 0x1000)) s else s) = s0
        intro h2
        split
        · exact h2
        · split
          · exact writeWide_ind P _ _ _ _ _ _ _ (hseq _ _ h2)
              (fun k x t hk h => hs _ _ _ (.inr (.inr (.inl ⟨r, w, k, hreg, by omega, rfl⟩))) h) hr hh
          · exact hs _ _ _ (.inr (.inr (.inr rfl))) (applyFields_ind P _ _ _ _ _ _ _ (fun c i t ht => hr _ _ _ _ ht) _ _ (hseq _ _ h2))

/-- Every other word stays. -/
theorem rget_writeWord_other (who : Requester) (addr : Nat) (v skip : Word) {a : Nat} (h : ¬ WriteMay addr a) :
    rget (writeWord who addr v skip s) a = rget s a := by
  have hp : Plain a := Classical.byContradiction fun g => h (.inl g)
  refine writeWord_ind (fun t => rget t a = rget s a) who addr v skip s rfl ?_ ?_ ?_
  · intro b x t hb ht
    rw [rget_rset_other _ _ (by rintro rfl; exact h hb), ht]
  · intro n c i t ht
    rw [rget_raiseErr_plain _ _ _ _ hp, ht]
  · exact fun _ _ ht => ht

/-- A write by a requester that is not sampled. -/
theorem writeReg_off (who : Requester) (addr : Nat) (v skip : Word) (h : PsOff s) (hm : ¬ WriteMay addr R.CNT_PS_CTRL) :
    writeReg who addr v skip s = writeWord who addr v skip s := by
  unfold writeReg
  dsimp only
  split
  · exact psRegister_off _ _ _ _ (psOff_congr (rget_writeWord_other s who addr v skip hm) h)
  · rfl

/-- The register at an offset, if any, is one word wide. -/
def oneWord (addr : Nat) : Bool :=
  match regAt addr with
  | some (r, w) => w == 0 && decide (r.words ≤ 1)
  | none => true

/-- Words that a write of a one-word register leaves alone. -/
theorem not_writeMay {addr a : Nat} (h1 : oneWord addr = true) (hp : Plain a) (hd : a ≠ R.PLT_DROPPED_WRITES) (ha : a ≠ addr) :
    ¬ WriteMay addr a := by
  rintro (h | h | ⟨r, w, k, hr, hk, e⟩ | h)
  · exact h hp
  · exact hd h
  · unfold oneWord at h1
    rw [hr] at h1
    simp at h1
    exact ha (by omega)
  · exact ha h

/-- A write of a one-word register, not sampled, leaves every other plain word. -/
theorem rget_writeReg_off (who : Requester) (addr : Nat) (v skip : Word) {a : Nat} (h : PsOff s) (h1 : oneWord addr = true)
    (hps : addr ≠ R.CNT_PS_CTRL) (hp : Plain a) (hd : a ≠ R.PLT_DROPPED_WRITES) (ha : a ≠ addr) :
    rget (writeReg who addr v skip s) a = rget s a := by
  rw [writeReg_off s who addr v skip h (not_writeMay h1 (plain_of_body (by decide)) (by decide) hps.symm)]
  exact rget_writeWord_other s who addr v skip (not_writeMay h1 hp hd ha)

/-! ### Fields that a write leaves alone -/

@[simp] theorem writeWord_others (who : Requester) (addr : Nat) (v skip : Word) :
    (writeWord who addr v skip s).code = s.code ∧ (writeWord who addr v skip s).now = s.now ∧
    (writeWord who addr v skip s).meridian = s.meridian ∧ (writeWord who addr v skip s).inUse = s.inUse ∧
    (writeWord who addr v skip s).latch = s.latch ∧ (writeWord who addr v skip s).resetting = s.resetting ∧
    (writeWord who addr v skip s).warmBegun = s.warmBegun ∧ (writeWord who addr v skip s).fabricOpen = s.fabricOpen ∧
    (writeWord who addr v skip s).msixOn = s.msixOn ∧ (writeWord who addr v skip s).drawn = s.drawn ∧
    (writeWord who addr v skip s).mem = s.mem ∧ (writeWord who addr v skip s).hostMem = s.hostMem ∧
    (writeWord who addr v skip s).poison = s.poison ∧ (writeWord who addr v skip s).leaveQueue = s.leaveQueue ∧
    (writeWord who addr v skip s).leaveGrants = s.leaveGrants ∧ (writeWord who addr v skip s).logQueue = s.logQueue ∧
    (writeWord who addr v skip s).logLost = s.logLost ∧ (writeWord who addr v skip s).logLostFirst = s.logLostFirst ∧
    (writeWord who addr v skip s).logLostLast = s.logLostLast ∧ (writeWord who addr v skip s).siu = s.siu ∧
    (writeWord who addr v skip s).clr = s.clr ∧ (writeWord who addr v skip s).clrSpare = s.clrSpare ∧
    (writeWord who addr v skip s).cnv = s.cnv ∧ (writeWord who addr v skip s).pho = s.pho ∧
    (writeWord who addr v skip s).tlk = s.tlk ∧ (writeWord who addr v skip s).tlkLastId = s.tlkLastId ∧
    (writeWord who addr v skip s).warmStart = s.warmStart ∧ (writeWord who addr v skip s).cas = s.cas ∧
    (writeWord who addr v skip s).lan = s.lan ∧ (writeWord who addr v skip s).lanRelease = s.lanRelease ∧
    (writeWord who addr v skip s).pcie = s.pcie ∧ (writeWord who addr v skip s).memCtl = s.memCtl ∧
    (writeWord who addr v skip s).cmp = s.cmp ∧ (writeWord who addr v skip s).recorder = s.recorder ∧
    (writeWord who addr v skip s).cod = s.cod ∧ (writeWord who addr v skip s).mot = s.mot ∧
    (writeWord who addr v skip s).sinc = s.sinc ∧ (writeWord who addr v skip s).aud = s.aud ∧
    (writeWord who addr v skip s).audGood = s.audGood ∧ (writeWord who addr v skip s).twi = s.twi ∧
    (writeWord who addr v skip s).plt = s.plt ∧ (writeWord who addr v skip s).cnt = s.cnt ∧
    (writeWord who addr v skip s).dbg = s.dbg ∧ (writeWord who addr v skip s).stopped = s.stopped ∧
    (writeWord who addr v skip s).taiPending = s.taiPending ∧ (writeWord who addr v skip s).tLast = s.tLast ∧
    (writeWord who addr v skip s).pending = s.pending := by
  have key : ∀ (P : State → Prop), P s → (∀ a v t, P t → P (rset a v t)) → (∀ n c i t, P t → P (raiseErr n c i t)) →
      (∀ h t, P t → P { t with held := h }) → P (writeWord who addr v skip s) :=
    fun P h0 hs hr hh => writeWord_ind P who addr v skip s h0 (fun a x t _ h => hs a x t h) hr hh
  and_intros
  · exact key (fun t => t.code = s.code) rfl (fun _ _ _ h => h) (fun n c i t h => by simpa using h) (fun _ _ h => h)
  · exact key (fun t => t.now = s.now) rfl (fun _ _ _ h => h) (fun n c i t h => by simpa using h) (fun _ _ h => h)
  · exact key (fun t => t.meridian = s.meridian) rfl (fun _ _ _ h => h) (fun n c i t h => by simpa using h) (fun _ _ h => h)
  · exact key (fun t => t.inUse = s.inUse) rfl (fun _ _ _ h => h) (fun n c i t h => by simpa using h) (fun _ _ h => h)
  · exact key (fun t => t.latch = s.latch) rfl (fun _ _ _ h => h) (fun n c i t h => by simpa using h) (fun _ _ h => h)
  · exact key (fun t => t.resetting = s.resetting) rfl (fun _ _ _ h => h) (fun n c i t h => by simpa using h) (fun _ _ h => h)
  · exact key (fun t => t.warmBegun = s.warmBegun) rfl (fun _ _ _ h => h) (fun n c i t h => by simpa using h) (fun _ _ h => h)
  · exact key (fun t => t.fabricOpen = s.fabricOpen) rfl (fun _ _ _ h => h) (fun n c i t h => by simpa using h) (fun _ _ h => h)
  · exact key (fun t => t.msixOn = s.msixOn) rfl (fun _ _ _ h => h) (fun n c i t h => by simpa using h) (fun _ _ h => h)
  · exact key (fun t => t.drawn = s.drawn) rfl (fun _ _ _ h => h) (fun n c i t h => by simpa using h) (fun _ _ h => h)
  · exact key (fun t => t.mem = s.mem) rfl (fun _ _ _ h => h) (fun n c i t h => by simpa using h) (fun _ _ h => h)
  · exact key (fun t => t.hostMem = s.hostMem) rfl (fun _ _ _ h => h) (fun n c i t h => by simpa using h) (fun _ _ h => h)
  · exact key (fun t => t.poison = s.poison) rfl (fun _ _ _ h => h) (fun n c i t h => by simpa using h) (fun _ _ h => h)
  · exact key (fun t => t.leaveQueue = s.leaveQueue) rfl (fun _ _ _ h => h) (fun n c i t h => by simpa using h) (fun _ _ h => h)
  · exact key (fun t => t.leaveGrants = s.leaveGrants) rfl (fun _ _ _ h => h) (fun n c i t h => by simpa using h) (fun _ _ h => h)
  · exact key (fun t => t.logQueue = s.logQueue) rfl (fun _ _ _ h => h) (fun n c i t h => by simpa using h) (fun _ _ h => h)
  · exact key (fun t => t.logLost = s.logLost) rfl (fun _ _ _ h => h) (fun n c i t h => by simpa using h) (fun _ _ h => h)
  · exact key (fun t => t.logLostFirst = s.logLostFirst) rfl (fun _ _ _ h => h) (fun n c i t h => by simpa using h) (fun _ _ h => h)
  · exact key (fun t => t.logLostLast = s.logLostLast) rfl (fun _ _ _ h => h) (fun n c i t h => by simpa using h) (fun _ _ h => h)
  · exact key (fun t => t.siu = s.siu) rfl (fun _ _ _ h => h) (fun n c i t h => by simpa using h) (fun _ _ h => h)
  · exact key (fun t => t.clr = s.clr) rfl (fun _ _ _ h => h) (fun n c i t h => by simpa using h) (fun _ _ h => h)
  · exact key (fun t => t.clrSpare = s.clrSpare) rfl (fun _ _ _ h => h) (fun n c i t h => by simpa using h) (fun _ _ h => h)
  · exact key (fun t => t.cnv = s.cnv) rfl (fun _ _ _ h => h) (fun n c i t h => by simpa using h) (fun _ _ h => h)
  · exact key (fun t => t.pho = s.pho) rfl (fun _ _ _ h => h) (fun n c i t h => by simpa using h) (fun _ _ h => h)
  · exact key (fun t => t.tlk = s.tlk) rfl (fun _ _ _ h => h) (fun n c i t h => by simpa using h) (fun _ _ h => h)
  · exact key (fun t => t.tlkLastId = s.tlkLastId) rfl (fun _ _ _ h => h) (fun n c i t h => by simpa using h) (fun _ _ h => h)
  · exact key (fun t => t.warmStart = s.warmStart) rfl (fun _ _ _ h => h) (fun n c i t h => by simpa using h) (fun _ _ h => h)
  · exact key (fun t => t.cas = s.cas) rfl (fun _ _ _ h => h) (fun n c i t h => by simpa using h) (fun _ _ h => h)
  · exact key (fun t => t.lan = s.lan) rfl (fun _ _ _ h => h) (fun n c i t h => by simpa using h) (fun _ _ h => h)
  · exact key (fun t => t.lanRelease = s.lanRelease) rfl (fun _ _ _ h => h) (fun n c i t h => by simpa using h) (fun _ _ h => h)
  · exact key (fun t => t.pcie = s.pcie) rfl (fun _ _ _ h => h) (fun n c i t h => by simpa using h) (fun _ _ h => h)
  · exact key (fun t => t.memCtl = s.memCtl) rfl (fun _ _ _ h => h) (fun n c i t h => by simpa using h) (fun _ _ h => h)
  · exact key (fun t => t.cmp = s.cmp) rfl (fun _ _ _ h => h) (fun n c i t h => by simpa using h) (fun _ _ h => h)
  · exact key (fun t => t.recorder = s.recorder) rfl (fun _ _ _ h => h) (fun n c i t h => by simpa using h) (fun _ _ h => h)
  · exact key (fun t => t.cod = s.cod) rfl (fun _ _ _ h => h) (fun n c i t h => by simpa using h) (fun _ _ h => h)
  · exact key (fun t => t.mot = s.mot) rfl (fun _ _ _ h => h) (fun n c i t h => by simpa using h) (fun _ _ h => h)
  · exact key (fun t => t.sinc = s.sinc) rfl (fun _ _ _ h => h) (fun n c i t h => by simpa using h) (fun _ _ h => h)
  · exact key (fun t => t.aud = s.aud) rfl (fun _ _ _ h => h) (fun n c i t h => by simpa using h) (fun _ _ h => h)
  · exact key (fun t => t.audGood = s.audGood) rfl (fun _ _ _ h => h) (fun n c i t h => by simpa using h) (fun _ _ h => h)
  · exact key (fun t => t.twi = s.twi) rfl (fun _ _ _ h => h) (fun n c i t h => by simpa using h) (fun _ _ h => h)
  · exact key (fun t => t.plt = s.plt) rfl (fun _ _ _ h => h) (fun n c i t h => by simpa using h) (fun _ _ h => h)
  · exact key (fun t => t.cnt = s.cnt) rfl (fun _ _ _ h => h) (fun n c i t h => by simpa using h) (fun _ _ h => h)
  · exact key (fun t => t.dbg = s.dbg) rfl (fun _ _ _ h => h) (fun n c i t h => by simpa using h) (fun _ _ h => h)
  · exact key (fun t => t.stopped = s.stopped) rfl (fun _ _ _ h => h) (fun n c i t h => by simpa using h) (fun _ _ h => h)
  · exact key (fun t => t.taiPending = s.taiPending) rfl (fun _ _ _ h => h) (fun n c i t h => by simpa using h) (fun _ _ h => h)
  · exact key (fun t => t.tLast = s.tLast) rfl (fun _ _ _ h => h) (fun n c i t h => by simpa using h) (fun _ _ h => h)
  · exact key (fun t => t.pending = s.pending) rfl (fun _ _ _ h => h) (fun n c i t h => by simpa using h) (fun _ _ h => h)

theorem psWrite_others (o : PsOpen) (latency : Nat) :
    (psWrite o latency s).code = s.code ∧ (psWrite o latency s).now = s.now ∧ (psWrite o latency s).meridian = s.meridian ∧
    (psWrite o latency s).inUse = s.inUse ∧ (psWrite o latency s).held = s.held ∧ (psWrite o latency s).latch = s.latch ∧
    (psWrite o latency s).resetting = s.resetting ∧ (psWrite o latency s).warmBegun = s.warmBegun ∧
    (psWrite o latency s).fabricOpen = s.fabricOpen ∧ (psWrite o latency s).msixOn = s.msixOn ∧
    (psWrite o latency s).drawn = s.drawn ∧ (psWrite o latency s).leaveGrants = s.leaveGrants ∧
    (psWrite o latency s).logQueue = s.logQueue ∧ (psWrite o latency s).logLost = s.logLost ∧
    (psWrite o latency s).logLostFirst = s.logLostFirst ∧ (psWrite o latency s).logLostLast = s.logLostLast ∧
    (psWrite o latency s).siu = s.siu ∧ (psWrite o latency s).clr = s.clr ∧ (psWrite o latency s).clrSpare = s.clrSpare ∧
    (psWrite o latency s).cnv = s.cnv ∧ (psWrite o latency s).pho = s.pho ∧ (psWrite o latency s).tlk = s.tlk ∧
    (psWrite o latency s).tlkLastId = s.tlkLastId ∧ (psWrite o latency s).warmStart = s.warmStart ∧
    (psWrite o latency s).cas = s.cas ∧ (psWrite o latency s).lan = s.lan ∧ (psWrite o latency s).lanRelease = s.lanRelease ∧
    (psWrite o latency s).pcie = s.pcie ∧ (psWrite o latency s).cmp = s.cmp ∧ (psWrite o latency s).recorder = s.recorder ∧
    (psWrite o latency s).cod = s.cod ∧ (psWrite o latency s).mot = s.mot ∧ (psWrite o latency s).sinc = s.sinc ∧
    (psWrite o latency s).aud = s.aud ∧ (psWrite o latency s).audGood = s.audGood ∧ (psWrite o latency s).twi = s.twi ∧
    (psWrite o latency s).plt = s.plt ∧ (psWrite o latency s).dbg = s.dbg ∧ (psWrite o latency s).stopped = s.stopped ∧
    (psWrite o latency s).taiPending = s.taiPending ∧ (psWrite o latency s).tLast = s.tLast ∧
    (psWrite o latency s).pending = s.pending := by
  unfold psWrite
  split
  · simp [rinc]
  · simp

@[simp] theorem psRegister_others (who : Requester) (w : Bool) (addr : Nat) :
    (psRegister who w addr s).code = s.code ∧ (psRegister who w addr s).now = s.now ∧
    (psRegister who w addr s).meridian = s.meridian ∧ (psRegister who w addr s).inUse = s.inUse ∧
    (psRegister who w addr s).held = s.held ∧ (psRegister who w addr s).latch = s.latch ∧
    (psRegister who w addr s).resetting = s.resetting ∧ (psRegister who w addr s).warmBegun = s.warmBegun ∧
    (psRegister who w addr s).fabricOpen = s.fabricOpen ∧ (psRegister who w addr s).msixOn = s.msixOn ∧
    (psRegister who w addr s).leaveGrants = s.leaveGrants ∧ (psRegister who w addr s).logQueue = s.logQueue ∧
    (psRegister who w addr s).logLost = s.logLost ∧ (psRegister who w addr s).logLostFirst = s.logLostFirst ∧
    (psRegister who w addr s).logLostLast = s.logLostLast ∧ (psRegister who w addr s).siu = s.siu ∧
    (psRegister who w addr s).clr = s.clr ∧ (psRegister who w addr s).clrSpare = s.clrSpare ∧
    (psRegister who w addr s).cnv = s.cnv ∧ (psRegister who w addr s).pho = s.pho ∧ (psRegister who w addr s).tlk = s.tlk ∧
    (psRegister who w addr s).tlkLastId = s.tlkLastId ∧ (psRegister who w addr s).warmStart = s.warmStart ∧
    (psRegister who w addr s).cas = s.cas ∧ (psRegister who w addr s).lan = s.lan ∧
    (psRegister who w addr s).lanRelease = s.lanRelease ∧ (psRegister who w addr s).pcie = s.pcie ∧
    (psRegister who w addr s).cmp = s.cmp ∧ (psRegister who w addr s).recorder = s.recorder ∧
    (psRegister who w addr s).cod = s.cod ∧ (psRegister who w addr s).mot = s.mot ∧ (psRegister who w addr s).sinc = s.sinc ∧
    (psRegister who w addr s).aud = s.aud ∧ (psRegister who w addr s).audGood = s.audGood ∧
    (psRegister who w addr s).twi = s.twi ∧ (psRegister who w addr s).plt = s.plt ∧ (psRegister who w addr s).dbg = s.dbg ∧
    (psRegister who w addr s).stopped = s.stopped ∧ (psRegister who w addr s).taiPending = s.taiPending ∧
    (psRegister who w addr s).tLast = s.tLast ∧ (psRegister who w addr s).pending = s.pending := by
  have ht : (psTakes s 1).2 = s ∨ ∃ v, (psTakes s 1).2 = setCnt v s := by
    unfold psTakes
    split
    · exact .inl rfl
    · exact .inr ⟨_, rfl⟩
  unfold psRegister
  split
  · simp only [and_self]
  · split
    rename_i k t e
    rw [e] at ht
    rcases ht with h | ⟨v, h⟩ <;> dsimp only at h <;> subst h <;> split <;> simp [psWrite_others]

@[simp] theorem writeReg_others (who : Requester) (addr : Nat) (v skip : Word) :
    (writeReg who addr v skip s).code = s.code ∧ (writeReg who addr v skip s).now = s.now ∧
    (writeReg who addr v skip s).meridian = s.meridian ∧ (writeReg who addr v skip s).inUse = s.inUse ∧
    (writeReg who addr v skip s).latch = s.latch ∧ (writeReg who addr v skip s).resetting = s.resetting ∧
    (writeReg who addr v skip s).warmBegun = s.warmBegun ∧ (writeReg who addr v skip s).fabricOpen = s.fabricOpen ∧
    (writeReg who addr v skip s).msixOn = s.msixOn ∧ (writeReg who addr v skip s).leaveGrants = s.leaveGrants ∧
    (writeReg who addr v skip s).logQueue = s.logQueue ∧ (writeReg who addr v skip s).logLost = s.logLost ∧
    (writeReg who addr v skip s).logLostFirst = s.logLostFirst ∧ (writeReg who addr v skip s).logLostLast = s.logLostLast ∧
    (writeReg who addr v skip s).siu = s.siu ∧ (writeReg who addr v skip s).clr = s.clr ∧
    (writeReg who addr v skip s).clrSpare = s.clrSpare ∧ (writeReg who addr v skip s).cnv = s.cnv ∧
    (writeReg who addr v skip s).pho = s.pho ∧ (writeReg who addr v skip s).tlk = s.tlk ∧
    (writeReg who addr v skip s).tlkLastId = s.tlkLastId ∧ (writeReg who addr v skip s).warmStart = s.warmStart ∧
    (writeReg who addr v skip s).cas = s.cas ∧ (writeReg who addr v skip s).lan = s.lan ∧
    (writeReg who addr v skip s).lanRelease = s.lanRelease ∧ (writeReg who addr v skip s).pcie = s.pcie ∧
    (writeReg who addr v skip s).cmp = s.cmp ∧ (writeReg who addr v skip s).recorder = s.recorder ∧
    (writeReg who addr v skip s).cod = s.cod ∧ (writeReg who addr v skip s).mot = s.mot ∧
    (writeReg who addr v skip s).sinc = s.sinc ∧ (writeReg who addr v skip s).aud = s.aud ∧
    (writeReg who addr v skip s).audGood = s.audGood ∧ (writeReg who addr v skip s).twi = s.twi ∧
    (writeReg who addr v skip s).plt = s.plt ∧ (writeReg who addr v skip s).dbg = s.dbg ∧
    (writeReg who addr v skip s).stopped = s.stopped ∧ (writeReg who addr v skip s).taiPending = s.taiPending ∧
    (writeReg who addr v skip s).tLast = s.tLast ∧ (writeReg who addr v skip s).pending = s.pending := by
  unfold writeReg
  dsimp only
  split <;> simp

@[simp] theorem readOut_others (who : Requester) (addr : Nat) (v : Word) :
    (readOut who addr v s).code = s.code ∧ (readOut who addr v s).now = s.now ∧ (readOut who addr v s).meridian = s.meridian ∧
    (readOut who addr v s).inUse = s.inUse ∧ (readOut who addr v s).held = s.held ∧ (readOut who addr v s).latch = s.latch ∧
    (readOut who addr v s).resetting = s.resetting ∧ (readOut who addr v s).warmBegun = s.warmBegun ∧
    (readOut who addr v s).fabricOpen = s.fabricOpen ∧ (readOut who addr v s).msixOn = s.msixOn ∧
    (readOut who addr v s).leaveGrants = s.leaveGrants ∧ (readOut who addr v s).logQueue = s.logQueue ∧
    (readOut who addr v s).logLost = s.logLost ∧ (readOut who addr v s).logLostFirst = s.logLostFirst ∧
    (readOut who addr v s).logLostLast = s.logLostLast ∧ (readOut who addr v s).siu = s.siu ∧
    (readOut who addr v s).clr = s.clr ∧ (readOut who addr v s).clrSpare = s.clrSpare ∧ (readOut who addr v s).cnv = s.cnv ∧
    (readOut who addr v s).pho = s.pho ∧ (readOut who addr v s).tlk = s.tlk ∧ (readOut who addr v s).tlkLastId = s.tlkLastId ∧
    (readOut who addr v s).warmStart = s.warmStart ∧ (readOut who addr v s).cas = s.cas ∧ (readOut who addr v s).lan = s.lan ∧
    (readOut who addr v s).lanRelease = s.lanRelease ∧ (readOut who addr v s).pcie = s.pcie ∧
    (readOut who addr v s).cmp = s.cmp ∧ (readOut who addr v s).recorder = s.recorder ∧ (readOut who addr v s).cod = s.cod ∧
    (readOut who addr v s).mot = s.mot ∧ (readOut who addr v s).sinc = s.sinc ∧ (readOut who addr v s).aud = s.aud ∧
    (readOut who addr v s).audGood = s.audGood ∧ (readOut who addr v s).twi = s.twi ∧ (readOut who addr v s).plt = s.plt ∧
    (readOut who addr v s).dbg = s.dbg ∧ (readOut who addr v s).stopped = s.stopped ∧
    (readOut who addr v s).taiPending = s.taiPending ∧ (readOut who addr v s).tLast = s.tLast ∧
    (readOut who addr v s).pending = s.pending := by
  unfold readOut
  dsimp only
  split <;> simp

end Sys2Proof.Laws
end

