-- ==== Sys2Proof/Machine/Balls.lean ====
section
/-! DEFINITION. The balls and what the integrator supplies: ball groups, rails, drive presets, hold-up dividers, and the levels of the balls that follow the state (R352, R409 to R415, R417). -/

namespace Sys2Proof.Machine

/-- How many balls each group of R409 has, in the table's order. -/
def ballGroups : List (String × Nat) :=
  [("DDR5 A-F", 852), ("DDR5 G-L", 852), ("Lanes 0-45", 184), ("Lanes 46-73", 112), ("Lane clocks", 14),
   ("PCIe control", 6), ("Motion", 133), ("Audio", 13), ("Two-wire", 8), ("Flash", 12), ("JTAG", 5), ("Test", 16),
   ("System", 31), ("Analogue sense", 4), ("Supplies", 592), ("Ground", 647)]

/-- Every ball of the array. -/
def ballCount : Nat := ballGroups.foldl (fun a g => a + g.2) 0

/-- One rail of R410: voltages in units of 0.1 mV, currents in mA; a rail without a brown-out level holds 0 there. -/
structure Rail where
  nominal : Nat
  low : Nat
  high : Nat
  maxCurrent : Nat
  typCurrent : Nat
  powerGood : Nat
  brownOut : Nat
  deriving DecidableEq, Repr

/-- VDD_CORE, VDD_LANE, VDD_LANE_H, VDDQ, VDD_PLL, VDD_IO18, VDD_IO33, VDD_AON (R410). -/
def rails : List Rail :=
  [⟨7500, 7275, 7725, 140000, 94700, 7000, 6600⟩, ⟨8000, 7760, 8240, 20000, 16000, 7400, 0⟩,
   ⟨12000, 11640, 12360, 5000, 4000, 11000, 0⟩, ⟨11000, 10670, 11330, 6000, 5000, 10000, 0⟩,
   ⟨9000, 8730, 9270, 400, 300, 8300, 0⟩, ⟨18000, 17100, 18900, 500, 300, 16200, 0⟩,
   ⟨33000, 31350, 34650, 30, 20, 29700, 0⟩, ⟨8000, 7760, 8240, 20, 10, 7400, 7000⟩]

/-- What a VDD_AON voltage, in 0.1 mV, keeps: the retention registers hold from 0.55 V up (R356, R410). -/
def aonRetains (v : Nat) : Bool := decide (5500 ≤ v)

/-- The rating, in mA, that the VDD_CORE regulator needs for a TOTAL (R412). -/
def coreRating (total : Nat) : Nat := 30000 + 500 * satTo 220 total

/-- Pre-cursor and post-cursor of a transmit preset, in 0.1 dB (R415). -/
def drivePreset (n : Nat) : Int × Int :=
  nth (0, 0) [(0, 0), (0, -20), (0, -40), (0, -60), (0, -80), (-20, 0), (-20, -20), (-20, -40), (-20, -60), (-40, -40), (-40, -80)] n

/-- The de-emphasis lane `i` of LAN page `p` drives with: the preset its partner asked for in the training blocks (R222, R415). -/
def laneDrive (s : State) (p i : Nat) : Int × Int := drivePreset (rfld s (R.LAN_L_EQ p i) 3 0)

/-- The source voltage, in mV, behind a reading of MAIN_V or HOLD_V in µV: both dividers are 1/32 (R417). -/
def dividedMv (uv : Nat) : Nat := uv * 32 / 1000

/-- INT_N[0] and INT_N[1] are driven low: during a cold reset both are released; during a warm reset only a kept motion fault drives INT_N[1] (R352). -/
def intBall (s : State) (k : Nat) : Bool :=
  if s.plt.phase = .running then (if k = 0 then intN0Low s else intN1Low s)
  else decide (k = 1) && !s.plt.cold && intN1Low s

/-- THERMTRIP_N is low from a trip until the power cycle, whatever resets run (R352, R380). -/
def thermTripBall (s : State) : Bool := s.plt.trip

/-- PPS_OUT: low through a cold reset; through a warm one it runs from the kept counter (R352). -/
def ppsBall (s : State) : Bool := !(decide (s.plt.phase ≠ .running) && s.plt.cold) && ppsOut s

/-- TMUX[m], low in every reset (R352, R404). -/
def tmuxLevel (s : State) (m : Nat) : Bool := tmuxBall s m

end Sys2Proof.Machine
end

