-- ==== Sys2Proof/WellFormed.lean ====
section
/-! DEFINITION. Which commands are well formed: the lengths and ranges their operands must have. A meaning is total all the same. -/

namespace Sys2Proof

/-- A word offset of BAR0 (R28, R29): aligned, inside the 32 MiB window. -/
def barWord (addr : Nat) : Bool := decide (addr % 4 = 0 ∧ addr < 2 ^ 25)

/-- A packet's header block lies in its codewords (R52). -/
def packetOk (p : Packet) : Bool := decide (p.first ≤ p.pos / 20 ∧ p.pos / 20 < p.first + p.codewords.length)

/-- A flit has 46 payload bytes (R188). -/
def flitOk (f : Flit) : Bool := decide (f.payload.length = 46)

/-- A two-wire transfer reads at most 64 bytes (R342). -/
def twiEndOk : TwiEnd → Bool
  | .ok read => decide (read.length ≤ 64)
  | .addrNack => true
  | .dataNack _ => true
  | .arbByte _ _ => true
  | .arbRestart => true
  | .arbStop => true

/-- Training margins come one word per channel (R245, R246). -/
def factsOk (f : StartFacts) : Bool := decide (f.margins.length ≤ 12)

/-- Operand checks, per command. -/
def wellFormed (i : Instr) : Bool :=
  match i with
  | .regWrite _ addr _ => barWord addr
  | .badAccess _ _ bytes _ => decide (bytes ≤ 8)
  | .loWordRead _ addr => barWord addr
  | .hiWordWrite _ addr _ => barWord addr
  | .enable _ _ _ => true
  | .idleReq _ _ _ => true
  | .unitIdle _ => true
  | .blkRst _ _ _ => true
  | .blockResetDone _ => true
  | .commit _ _ _ => true
  | .pgIntStatClear _ _ _ => true
  | .pgIntSet _ _ _ => true
  | .pgIntEnWrite _ _ _ => true
  | .msixUnmask _ => true
  | .sof _ packet => packetOk packet
  | .line _ packet _ _ => packetOk packet
  | .eof _ packet => packetOk packet
  | .metaPacket _ packet => packetOk packet
  | .echo _ => true
  | .echoReply _ packet => packetOk packet
  | .echoTimeout _ => true
  | .trigger _ => true
  | .lateLine _ => true
  | .lateFrame _ => true
  | .padLinesDone _ => true
  | .alignmentCodeword _ _ _ _ _ => true
  | .alignmentLost _ _ => true
  | .t0Publish _ => true
  | .pipelineLine _ _ _ => true
  | .knownAnswerTestDone _ _ => true
  | .clrForce _ _ => true
  | .clrRelease _ _ => true
  | .darkCalStart _ _ _ => true
  | .calDone _ => true
  | .darkCalCancel _ _ _ => true
  | .tapPublish _ => true
  | .lutLoad _ _ _ => true
  | .lutLoadDone _ => true
  | .otPublish _ _ => true
  | .tableWrite _ _ => true
  | .pictureStart => true
  | .rowCompose => true
  | .mapValidate _ _ => true
  | .mapValidateDone _ => true
  | .tileScan => true
  | .dispatchDeadline => true
  | .launch => true
  | .hostReq _ => true
  | .fwReq _ => true
  | .selfref => true
  | .ltrReport => true
  | .cnvLtrRead _ => true
  | .passBegin => true
  | .passClose => true
  | .refCaptureStart _ _ => true
  | .refCaptureCancel _ _ => true
  | .refCaptureTimeout => true
  | .refCaptureWriteDone => true
  | .phoPwrPeakRead _ => true
  | .querySend _ => true
  | .reply _ packet _ => packetOk packet
  | .replyTimeout _ => true
  | .tempQuery _ => true
  | .echoRemeasure _ => true
  | .statusProbe _ => true
  | .enum _ _ _ => true
  | .resume _ _ _ => true
  | .hostQuery _ _ _ => true
  | .hostConfig _ _ _ => true
  | .signalDetect _ _ => true
  | .trainingBlock _ _ _ levels => decide (levels.length = 256)
  | .trainTimeout _ _ => true
  | .fomWindow _ _ _ => true
  | .linkLoss _ _ => true
  | .tileSpareCheckTimeout _ => true
  | .lanForce _ _ _ => true
  | .lanRelease _ _ _ => true
  | .retiredClear _ _ _ => true
  | .retrain _ _ _ => true
  | .align _ flit _ _ => flitOk flit
  | .idle _ flit => flitOk flit
  | .discover _ flit => flitOk flit
  | .discoverSend _ => true
  | .isolated => true
  | .announce _ flit => flitOk flit
  | .announceSend _ => true
  | .lodestarDrop => true
  | .topo _ flit _ => flitOk flit
  | .topoSend => true
  | .sync _ flit => flitOk flit
  | .syncSend => true
  | .pdelayReq _ flit _ => flitOk flit
  | .pdelayReqSend _ => true
  | .pdelayResp _ flit _ _ => flitOk flit
  | .lanemap _ flit _ _ _ => flitOk flit
  | .pic _ flit => flitOk flit
  | .msg _ flit => flitOk flit
  | .picSend _ => true
  | .msgSend _ _ => true
  | .retryTimeout _ => true
  | .holdover => true
  | .taiSet _ _ => true
  | .ppsIn => true
  | .ppsMissing => true
  | .ref10mLoss => true
  | .memAccess _ _ write _ _ => write.all fun data => data.length == 64
  | .patrolScrub _ _ => true
  | .refresh _ _ => true
  | .mr4Poll _ => true
  | .memSelfrefEntry => true
  | .marginCheck _ _ _ _ _ => true
  | .channelRetrain _ => true
  | .retrainDone _ _ _ _ _ => true
  | .migrationRegion _ _ => true
  | .jobSubmit _ _ _ => true
  | .jobStart _ => true
  | .jobDone _ => true
  | .jobResume _ => true
  | .pauseTimeout _ => true
  | .sendBind _ _ _ => true
  | .codPictureStart => true
  | .codRow _ => true
  | .codPictureDone => true
  | .stallTimeout => true
  | .sqTailDoorbell _ _ => true
  | .cqHeadDoorbell _ _ => true
  | .deleteIoSq => true
  | .createIoSq => true
  | .getLogPage => true
  | .deleteIoCq => true
  | .createIoCq => true
  | .identify => true
  | .abort => true
  | .setFeatures => true
  | .getFeatures => true
  | .asynchronousEventRequest => true
  | .namespaceManagement => true
  | .namespaceAttachment => true
  | .formatNvm => true
  | .sanitize => true
  | .sanitizeDone => true
  | .flush => true
  | .write => true
  | .writeAdmit => true
  | .read => true
  | .compare => true
  | .compareAndWrite => true
  | .writeZeroes => true
  | .datasetManagement => true
  | .drain => true
  | .flushDone => true
  | .clipArm _ _ => true
  | .clipStop _ _ => true
  | .mediaFail _ => true
  | .copyTrigger _ _ _ _ => true
  | .mediaForce _ _ => true
  | .mediaMigrationStep => true
  | .mediaRetiredClear _ _ => true
  | .currentLoopTick _ _ _ => true
  | .velocityTick => true
  | .positionTick => true
  | .serialReadDone _ _ _ _ _ _ _ => true
  | .qeiEdge _ _ _ => true
  | .indexEdge _ => true
  | .gateFault _ _ => true
  | .dsmLost _ => true
  | .offsetCalDone _ => true
  | .voltLimit _ => true
  | .obsLost _ => true
  | .reacqPulse _ _ => true
  | .reacqFail _ => true
  | .brakeDelay _ => true
  | .cmdRun _ _ => true
  | .cmdHold _ _ => true
  | .cmdOff _ _ => true
  | .cmdAlign _ _ => true
  | .alignPhaseEnd _ => true
  | .setpointPush _ _ _ => true
  | .latchArm _ _ _ => true
  | .latchAt _ => true
  | .faultClear _ _ _ => true
  | .audArm _ _ _ => true
  | .audStop _ _ _ => true
  | .audFrame _ _ _ bits => decide (bits.length ≤ 513)
  | .audClockLoss _ => true
  | .dcoUpdate => true
  | .twiGo _ _ _ _ _ => true
  | .twiTransferDone _ result => twiEndOk result
  | .twiRetry _ => true
  | .stretchTimeout _ => true
  | .busStuck _ _ _ => true
  | .targetAddressed _ bytes count => decide (bytes.length = 0 ∨ count = 0)
  | .tgtStretchExpiry _ => true
  | .tgtTxPush _ _ _ => true
  | .tgtRxPop _ _ => true
  | .powerOn => true
  | .brownOutCore => true
  | .brownOutAon => true
  | .rstN => true
  | .rstNHeld => true
  | .binnacleWatchdog => true
  | .hostWatchdog => true
  | .wdogBinKick _ _ => true
  | .wdogHostKick _ _ => true
  | .startTimer => true
  | .softwareWarmReset _ _ => true
  | .softwareColdReset _ _ => true
  | .debugRequest _ _ => true
  | .clockFailure => true
  | .binnacleLockup => true
  | .fabricDeadlock => true
  | .deadReckoningExit _ _ => true
  | .coreReset => true
  | .rstNRelease facts => factsOk facts
  | .startOk _ _ => true
  | .startFail _ _ => true
  | .fwSlotWrite _ _ => true
  | .settingsSlotWrite _ _ => true
  | .bootRecordWritten => true
  | .flashRead _ _ => true
  | .flashProgram _ _ => true
  | .flashErase _ _ => true
  | .flashDone _ => true
  | .lock _ _ => true
  | .leaveEvaluate => true
  | .leaveTimeout => true
  | .leaveBudgetWrite _ _ => true
  | .sensorReading counts => decide (counts.length = 32)
  | .pltThermPeakRead _ => true
  | .mainPowerLoss => true
  | .mainPowerGood => true
  | .storeExhausted => true
  | .logRecordWrite _ => true
  | .sramCorrectedError _ _ => true
  | .holdTestNow _ _ => true
  | .holdTest => true
  | .holdTestDischarge vOc v1 => decide (vOc ≤ 40960000 ∧ v1 ≤ 40960000)
  | .holdTestDone v2 => decide (v2 ≤ 40960000)
  | .holdEnergyUpdate v => decide (v ≤ 40960000)
  | .counterSelect _ _ _ _ => true
  | .counterClear _ _ _ => true
  | .snapshot => true
  | .snapshotRecordDone => true
  | .tokenVerify _ _ => true
  | .tokenVerifyDone => true
  | .bypass _ => true
  | .idcode => true
  | .samplePreload pins load => decide (pins.length = load.length)
  | .extest pins load => decide (pins.length = load.length)
  | .jtagRegisterAccess addr _ _ => barWord addr
  | .binnacleHalt => true
  | .binnacleStep => true
  | .scheduleResend _ => true
  | .quarantineExpiry => true
  | .controllerReset _ _ _ _ => true
  | .interruptCoalescingExpiry _ => true
  | .mediaCommandCompletion _ _ _ data => decide (data.length = 0 ∨ data.length = 4096)
  | .mediaPortUp _ _ _ _ => true
  | .filterOutput _ _ => true
  | .busFree _ _ _ => true
  | .railPowerFail => true
  | .retentionLoss => true
  | .ref10mRestored => true

end Sys2Proof
end

