-- ==== Sys2Proof/Tests/Slice0.lean ====
section
/-! SUPPORT. The author's own tests: ill-formed commands that the checks refuse, and for every statement with hypotheses a
state and operands that meet all of them. -/

namespace Sys2Proof.Tests

open Sys2Proof Sys2Proof.Machine Sys2Proof.Safety

set_option Elab.async false

/-- A small state: right after reset, with these register words. -/
def st (ws : List (Nat × Word)) : State := ws.foldl (fun s e => rset e.1 e.2 s) State.reset

/-- The outcome is a next state. -/
def goesOn (o : Host.Outcome State Fault Refusal) : Bool := match o with | .next _ => true | _ => false

/-! ### Ill-formed commands -/

/-- A flit and a packet of the right and of a wrong length. -/
def flitOf (n : Nat) : Flit := { h0 := 0#32, h1 := 0#32, h2 := 0#32, h3 := 0#32, payload := List.replicate n 0#8, crc := 0#16 }
def packetOf (n : Nat) : Packet := { first := 0, pos := 20 * n, codewords := [0#5440, 0#5440] }

theorem test_wf_register_address : wellFormed (.regWrite .host 2 0#32) = false ∧ wellFormed (.loWordRead .host (2 ^ 25)) = false ∧
    wellFormed (.hiWordWrite .host 1 0#32) = false ∧ wellFormed (.jtagRegisterAccess 3 false 0#32) = false ∧
    wellFormed (.regWrite .host 4 0#32) = true := by decide

theorem test_wf_access_width : wellFormed (.badAccess .host 0 16 (some 0)) = false ∧ wellFormed (.badAccess .host 2 8 (some 0)) = true := by decide

theorem test_wf_packet : wellFormed (.sof 0 (packetOf 2)) = false ∧ wellFormed (.line 0 (packetOf 3) false false) = false ∧
    wellFormed (.eof 0 (packetOf 2)) = false ∧ wellFormed (.metaPacket 0 (packetOf 2)) = false ∧
    wellFormed (.echoReply 0 (packetOf 2)) = false ∧ wellFormed (.reply 0 (packetOf 2) 0) = false ∧
    wellFormed (.sof 0 (packetOf 1)) = true := by decide

theorem test_wf_flit : wellFormed (.idle 0 (flitOf 45)) = false ∧ wellFormed (.discover 0 (flitOf 47)) = false ∧
    wellFormed (.announce 0 (flitOf 0)) = false ∧ wellFormed (.topo 0 (flitOf 0) true) = false ∧
    wellFormed (.sync 0 (flitOf 0)) = false ∧ wellFormed (.pdelayReq 0 (flitOf 0) 0) = false ∧
    wellFormed (.pdelayResp 0 (flitOf 0) 0 0) = false ∧ wellFormed (.lanemap 0 (flitOf 0) true 0 0) = false ∧
    wellFormed (.pic 0 (flitOf 0)) = false ∧ wellFormed (.msg 0 (flitOf 0)) = false ∧ wellFormed (.align 0 (flitOf 45) 0 true) = false ∧
    wellFormed (.idle 0 (flitOf 46)) = true := by decide

theorem test_wf_memory : wellFormed (.memAccess (0, 0) 0 (some []) 0 []) = false ∧ wellFormed (.memAccess (0, 0) 0 (some [1#8]) 0 []) = false ∧
    wellFormed (.memAccess (0, 0) 0 (some (List.replicate 64 0#8)) 0 []) = true := by decide

theorem test_wf_audio : wellFormed (.audFrame 0 0 0 (List.replicate 514 true)) = false := by decide +kernel

theorem test_wf_two_wire : wellFormed (.twiTransferDone 0 (.ok (List.replicate 65 0#8))) = false ∧
    wellFormed (.targetAddressed 0 [1#8] 1) = false := by decide

theorem test_wf_start : wellFormed (.rstNRelease { balls := 0, bodyIntact := true, bist := [], margins := List.replicate 13 0#32, spareBad := [], badJournal := [] }) = false := by
  decide

theorem test_wf_sensors : wellFormed (.sensorReading [1, 2, 3]) = false ∧ wellFormed (.sensorReading (List.replicate 32 800)) = true := by decide

theorem test_wf_hold_up : wellFormed (.holdTestDischarge 40960001 0) = false ∧ wellFormed (.holdTestDischarge 0 40960001) = false ∧
    wellFormed (.holdTestDone 40960001) = false ∧ wellFormed (.holdEnergyUpdate 40960001) = false := by decide

theorem test_wf_scan : wellFormed (.samplePreload [true] []) = false ∧ wellFormed (.extest [] [true]) = false := by decide

theorem test_wf_media : wellFormed (.mediaCommandCompletion 0 0 true [1#8]) = false := by decide

theorem test_wf_training : wellFormed (.trainingBlock 0 0 3 []) = false := by decide


theorem test_StepRunsFrontCommand_meets :
  let s : State := { State.reset with pending := [.ppsIn, .leaveEvaluate] }
  s.pending = .ppsIn :: [.leaveEvaluate] := by
  decide +kernel

theorem test_IdleStep_meets :
  State.reset.pending = [] := by
  decide +kernel

theorem test_SoundStep_meets :
  let s : State := { State.reset with pending := [.leaveEvaluate] }
  Sound s ∧ goesOn (step s) = true := by
  dsimp only [Sound, SamplingOff]
  decide +kernel

theorem test_WriteTakesFieldsByAccess_meets :
  let s : State := State.reset
  let addr := R.PLT_LEAVE_WAIT_MAX
  pageTakes addr s = true ∧ debugClosed s addr = false ∧ commitPending s (pageOf addr) = false ∧
    (match regAt addr with | some (r, 0) => decide (r.words = 1) && r.fields.any (fun f => f.acc == .rw) | _ => false) = true := by
  decide +kernel

theorem test_ReservedBitsIgnored_meets :
  let addr := R.PLT_LEAVE_WAIT_MAX
  0x040 ≤ addr % 0x1000 ∧ liveWord State.reset addr = none ∧ (match regAt addr with | some (r, 0) => decide (r.words = 1) && r.fields.all (fun f => getBits 0xFFFF0005#32 f.hi f.lo == getBits 5#32 f.hi f.lo) | _ => false) = true := by
  decide +kernel

theorem test_AbsentPagesReadZero_meets :
  let s : State := { State.reset with code := .wall }
  R.CLR_WB 0 0 % 4 = 0 ∧ R.CLR_WB 0 0 < 0x2000000 ∧ pageThere s (pageOf (R.CLR_WB 0 0)) = false ∧
    blockPagesM1 (blockOfPage (pageOf 0x5040)) < pageOf 0x5040 % 16 ∧ (0x120000 : Nat) ≤ 0x1FFFFFC := by
  decide +kernel

theorem test_MessagesSignalRequests_rise :
  let s : State := { st [(hdrIntEn 16, 2#32)] with msixOn := [16] }
  pageThere s 16 = true ∧ pageRequest s 16 = false ∧ pageRequest (latchStat 16 2#32 s) 16 = true ∧ 16 ∈ s.msixOn := by
  decide +kernel

theorem test_MessagesSignalRequests_masked :
  let s : State := st [(hdrIntEn 16, 2#32)]
  pageThere s 16 = true ∧ pageRequest s 16 = false ∧ pageRequest (latchStat 16 2#32 s) 16 = true ∧ 16 ∉ s.msixOn := by
  decide +kernel

theorem test_MessagesSignalRequests_write :
  let s : State := { st [(hdrIntEn 16, 2#32), (hdrIntStat 16, 6#32)] with msixOn := [16] }
  let page : Fin 288 := 16
  SamplingOff s ∧ goesOn (execPgIntStatClear .host page 4#32 s) = true ∧ pageTakes (hdrIntStat page.val) s = true := by
  dsimp only [Sound, SamplingOff]
  decide +kernel

theorem test_ErrorAndCountRegisters_first :
  pageThere State.reset 16 = true ∧ rbit State.reset (hdrIntStat 16) 0 = false := by
  decide +kernel

theorem test_ErrorAndCountRegisters_later :
  let s := raiseErr 16 3 0x40#32 State.reset
  pageThere s 16 = true ∧ rbit s (hdrIntStat 16) 0 = true := by
  decide +kernel

theorem test_ErrorAndCountRegisters_write :
  let s : State := State.reset
  let addr := R.PLT_LEAVE_WAIT_MAX
  0x040 ≤ addr % 0x1000 ∧ pageTakes addr s = true ∧ debugClosed s addr = false ∧ commitPending s (pageOf addr) = false := by
  decide +kernel

theorem test_CommitIsAllOrNothing_meets :
  Sound (st [(R.CLR_WB 0 0, 0x3F800000#32), (hdrShadow (pg 3 0), 2#32)]) := by
  dsimp only [Sound, SamplingOff]
  decide +kernel

theorem test_WarmResetDiscardsStaged_meets :
  let s : State := { State.reset with plt := { State.reset.plt with phase := .quiesce } }
  s.plt.phase = .quiesce ∧ shadowedAddr (R.CLR_WB 0 0) = true ∧
    (match regAt (R.CLR_WB 0 0) with | some (r, 0) => decide (r.words = 1) && allShadowed r | _ => false) = true := by
  decide +kernel

theorem test_LeaveStaysInBudget_meets :
  let s : State := { st [(R.PLT_LEAVE_BUDGET, 0x00140064#32)] with leaveQueue := [{ n := 4, at_ := 0 }] }
  (∀ w ∈ s.leaveQueue, w.n < 32) ∧ grantedSum s ≤ rfld s R.PLT_LEAVE_BUDGET 8 0 := by
  decide +kernel

theorem test_ForceHoldsLevel_meets :
  let s : State := st [(R.PLT_THERM_CTRL, 0x00070000#32)]
  thermRuns s = true ∧ rbit s R.PLT_THERM_CTRL 16 = true := by
  decide +kernel

theorem test_MeridianNeverGoesBack_meets :
  SamplingOff State.reset ∧ goesOn (execPpsIn State.reset) = true ∧ State.reset.pending = [] ∧ goesOn (step State.reset) = true := by
  dsimp only [Sound, SamplingOff]
  decide +kernel

theorem test_PageCommandsAct_1_regWrite_meets :
  let who := Requester.host
  let addr := R.PHO_T_AMB
  let v := 45#32
  let r := ((regAt (R.PHO_T_AMB)).get (by decide +kernel)).1
  let f := (((regAt (R.PHO_T_AMB)).get (by decide +kernel)).1.fields.head (by decide +kernel))
  let s := st []
  (rbit s R.CNT_PS_CTRL 1 = false) ∧ (addr % 4 = 0) ∧ (64 ≤ addr % 0x1000) ∧ (pageTakes addr s = true) ∧ ((blockOfPage (pageOf addr) = 5 ∨ blockOfPage (pageOf addr) = 10 ∨ blockOfPage (pageOf addr) = 12)) ∧ (addr ≠ R.PHO_REF_CTRL) ∧ (regAt addr = some (r, 0)) ∧ (r.words = 1) ∧ (f ∈ r.fields) ∧ ((f.acc = .rw ∨ (f.acc = .rws ∧ commitPending s (pageOf addr) = false) ∨ (f.acc = .rwl ∧ locked s = false))) ∧ ((commitPending s (pageOf addr) = true → allShadowed r = false)) ∧ (inRange f.check (getBits v f.hi f.lo) = true) := by decide +kernel

theorem test_PageCommandsAct_2_badAccess_meets :
  let who := Requester.host
  let addr := 0x42
  let n := 4
  let w := (none : Option (BitVec 64))
  let s := st []
  (accessGood addr n = false) ∧ ((rbit s (hdrIntStat (pg 1 0)) 0 = false)) := by decide +kernel

theorem test_PageCommandsAct_3_badAccess_meets :
  let who := Requester.host
  let addr := pageBase (pg 5 0) + 0x60
  let w := (some 0x100001000#64 : Option (BitVec 64))
  let s := st []
  (accessGood addr 8 = true) := by decide +kernel

theorem test_PageCommandsAct_4_loWordRead_meets :
  let who := Requester.host
  let addr := R.CMP_SEND_BASE 1
  let m := 1
  let s := st [(R.CMP_SEND_BASE 1, 7#32), (R.CMP_SEND_BASE 1 + 4, 9#32)]
  (rbit s R.CNT_PS_CTRL 1 = false) ∧ (addr % 4 = 0) ∧ (64 ≤ addr % 0x1000) ∧ (pageTakes addr s = true) ∧ (latchPlace addr = some (0, m)) ∧ (0 < m) := by decide +kernel

theorem test_PageCommandsAct_5_hiWordWrite_meets :
  let who := Requester.host
  let addr := R.PHO_BANK0 + 4
  let v := 1#32
  let r := ((regAt (R.PHO_BANK0 + 4)).get (by decide +kernel)).1
  let f := (((regAt (R.PHO_BANK0)).get (by decide +kernel)).1.fields.head (by decide +kernel))
  let s := { st [] with held := [(R.PHO_BANK0, 0x1000#32)] }
  (rbit s R.CNT_PS_CTRL 1 = false) ∧ (addr % 4 = 0) ∧ (64 ≤ addr % 0x1000) ∧ (pageTakes addr s = true) ∧ ((blockOfPage (pageOf addr) = 5 ∨ blockOfPage (pageOf addr) = 10 ∨ blockOfPage (pageOf addr) = 12)) ∧ (regAt addr = some (r, 1)) ∧ (r.words = 2) ∧ (r.fields = [f]) ∧ (f.acc ≠ .ro) ∧ ((f.acc = .rwl → locked s = false)) ∧ (commitPending s (pageOf addr) = false) ∧ (inRange f.check ((heldWord s (addr - 4)).toNat + getBits v f.hi 0 * 2 ^ 32) = true) := by decide +kernel

theorem test_PageCommandsAct_6_enable_meets :
  let who := Requester.host
  let page := (⟨pg 6 2, by decide⟩ : Fin 288)
  let v := 1#32
  let s := st []
  (rbit s R.CNT_PS_CTRL 1 = false) ∧ (pageTakes (hdrCtrl page) s = true) ∧ (bitAt v 2 = false) ∧ (bitAt v 0 = true) ∧ (blockOfPage page ≠ 1) ∧ (blockOfPage page ≠ 3) ∧ (blockOfPage page ≠ 12) := by decide +kernel

theorem test_PageCommandsAct_7_idleReq_meets :
  let who := Requester.host
  let page := (⟨pg 6 2, by decide⟩ : Fin 288)
  let v := 3#32
  let s := st [(hdrCtrl (pg 6 2), 1#32)]
  (rbit s R.CNT_PS_CTRL 1 = false) ∧ (pageTakes (hdrCtrl page) s = true) ∧ (bitAt v 2 = false) ∧ (bitAt v 1 = true) ∧ (bitAt v 0 = enabled s page) := by decide +kernel

theorem test_PageCommandsAct_8_unitIdle_meets :
  let page := (⟨pg 6 2, by decide⟩ : Fin 288)
  let s := st [(hdrCtrl (pg 6 2), 3#32)]
  (blockOfPage page ≠ 1) ∧ (pageThere s page = true) ∧ (blockResetting s page = false) ∧ ((enabled s page = false ∨ idleReq s page = true)) ∧ (pageBusy s page = false) := by decide +kernel

theorem test_PageCommandsAct_9_blkRst_meets :
  let who := Requester.host
  let page := (⟨pg 6 2, by decide⟩ : Fin 288)
  let v := 4#32
  let s := st [(hdrStatus (pg 6 2), 1#32)]
  (rbit s R.CNT_PS_CTRL 1 = false) ∧ (pageTakes (hdrCtrl page) s = true) ∧ (bitAt v 2 = true) ∧ (idleRead s page = true) := by decide +kernel

theorem test_PageCommandsAct_10_blockResetDone_meets :
  let b := (5 : Fin 18)
  let s := { st [(hdrIntEn (pg 6 2), 5#32)] with resetting := [6] }
  (s.resetting.contains (b.val + 1) = true) := by decide +kernel

theorem test_PageCommandsAct_11_commit_meets :
  let who := Requester.host
  let page := (⟨pg 14 1, by decide⟩ : Fin 288)
  let v := 1#32
  let s := st [(hdrStatus (pg 14 1), 0#32), (hdrCtrl (pg 14 1), 1#32)]
  (rbit s R.CNT_PS_CTRL 1 = false) ∧ (pageTakes (hdrShadow page) s = true) ∧ (bitAt v 0 = true) ∧ (hasShadow page = true) ∧ (commitPending s page = false) ∧ (idleRead s page = false) := by decide +kernel

theorem test_PageCommandsAct_12_commit_meets :
  let who := Requester.host
  let page := (⟨pg 14 1, by decide⟩ : Fin 288)
  let v := 1#32
  let s := st [(R.MOT_AX_POS_MAX 0, 7#32), (hdrStatus (pg 14 1), 1#32), (hdrStatus (pg 14 0), 1#32)]
  (rbit s R.CNT_PS_CTRL 1 = false) ∧ (pageTakes (hdrShadow page) s = true) ∧ (bitAt v 0 = true) ∧ (hasShadow page = true) ∧ (commitPending s page = false) ∧ (idleRead s page = true) ∧ (blockOfPage page = 14) ∧ (registersWf s = true) := by decide +kernel

theorem test_PageCommandsAct_13_pgIntStatClear_meets :
  let who := Requester.host
  let page := (⟨pg 6 2, by decide⟩ : Fin 288)
  let v := 1#32
  let s := st [(hdrIntStat (pg 6 2), 3#32), (hdrErrCode (pg 6 2), 9#32)]
  (rbit s R.CNT_PS_CTRL 1 = false) ∧ (pageTakes (hdrIntStat page) s = true) := by decide +kernel

theorem test_PageCommandsAct_14_pgIntSet_meets :
  let who := Requester.host
  let page := (⟨pg 6 2, by decide⟩ : Fin 288)
  let v := 0xFFFFFFFF#32
  let s := st []
  (rbit s R.CNT_PS_CTRL 1 = false) ∧ (pageTakes (hdrIntStat page) s = true) := by decide +kernel

theorem test_PageCommandsAct_15_pgIntEnWrite_meets :
  let who := Requester.host
  let page := (⟨pg 6 2, by decide⟩ : Fin 288)
  let v := 0xFFFFFFFF#32
  let s := st []
  (rbit s R.CNT_PS_CTRL 1 = false) ∧ (pageTakes (hdrIntEn page) s = true) := by decide +kernel

theorem test_PageCommandsAct_17_lock_meets :
  let who := Requester.host
  let v := 1#32
  let s := st []
  (rbit s R.CNT_PS_CTRL 1 = false) ∧ (pageTakes R.PLT_LOCK s = true) ∧ (bitAt v 0 = true) := by decide +kernel

theorem test_SensorPortActs_1_sof_meets :
  let k := ({ first := 0, pos := 0, codewords := packetCodewords (withHeaderCrc [1#32, 9#32, 0x1000F#32, 0#32, 0#32, 0#32, 0#32]) ([]) } : Packet)
  let p := (0 : Fin 2)
  let s := { st [(hdrCtrl (pg 2 0), 1#32), (R.SIU_PORT 0, 3#32)] with siu := [{}, {}], leaveGrants := [{ n := 2, at_ := 0, ramp := 0 }], inUse := [(R.SIU_LINECFG 0, 0x1000F#32)] }
  let r := siuPacket s p k
  (s.siu.length = 2) ∧ (portUp s p = true) ∧ (siuPacket s p k = r) ∧ (headerHolds r = true) ∧ (pktType r = 1) ∧ (pktLength r = 0) ∧ (siuTakes s p = true) ∧ ((siuAt s p).frame = none) ∧ (commitPending s (pg 2 p) = false) ∧ (clrUnable s p = false) ∧ (decimates s p = false) ∧ (getBits (hword 2 r) 15 0 = ufld s (R.SIU_LINECFG p) 15 0) ∧ (getBits (hword 2 r) 31 16 = ufld s (R.SIU_LINECFG p) 29 16) ∧ (getBits (hword 3 r) 1 0 = ufld s (R.SIU_LINECFG p) 31 30) := by decide +kernel

theorem test_SensorPortActs_2_line_meets :
  let f := ({ id := 7, sof := 5, bridgeTs := 0, width := 16, height := 2, depth := 0, lastStamp := 0 } : SiuFrame)
  let k := ({ first := 0, pos := 0, codewords := packetCodewords (withHeaderCrc [0x10002#32, 7#32, 0x000F0000#32, 0#32, 0#32, 0#32, w32 (crc32 (List.replicate 32 3#8))]) (List.replicate 32 3#8) } : Packet)
  let p := (0 : Fin 2)
  let s := { st [(hdrCtrl (pg 2 0), 1#32), (R.SIU_PORT 0, 3#32)] with siu := [{ frame := some { id := 7, sof := 5, bridgeTs := 0, width := 16, height := 2, depth := 0, lastStamp := 0 } }, {}], leaveGrants := [{ n := 2, at_ := 0, ramp := 0 }] }
  let r := siuPacket s p k
  (s.siu.length = 2) ∧ (portUp s p = true) ∧ (siuPacket s p k = r) ∧ (headerHolds r = true) ∧ (pktType r = 2) ∧ (pktLength r = (f.width * depthBits f.depth + 255) / 256) ∧ (r.payload.length = 32 * pktLength r) ∧ (memberFrame s p r = some f) ∧ ((siuAt s p).frame = some f) ∧ (lineIsLate s p f = false) ∧ (f.lines.length < f.height) ∧ (f.next = f.lines.length) ∧ (getBits (hword 2 r) 15 0 = f.lines.length) ∧ (getBits (hword 2 r) 31 16 + 1 = f.width) ∧ (r.payloadLost = false) ∧ (crc32 r.payload = (hword 6 r).toNat) := by decide +kernel

theorem test_SensorPortActs_3_eof_meets :
  let f := ({ id := 7, sof := 5, bridgeTs := 0, width := 16, height := 2, depth := 0, lastStamp := 0, passed := 2, lines := [[], []] } : SiuFrame)
  let k := ({ first := 0, pos := 0, codewords := packetCodewords (withHeaderCrc [3#32, 7#32, 2#32, 0#32, 0#32, 0#32, 0#32]) ([]) } : Packet)
  let p := (0 : Fin 2)
  let s := { st [(hdrCtrl (pg 2 0), 1#32), (R.SIU_PORT 0, 3#32)] with siu := [{ frame := some { id := 7, sof := 5, bridgeTs := 0, width := 16, height := 2, depth := 0, lastStamp := 0, passed := 2, lines := [[], []] } }, {}], leaveGrants := [{ n := 2, at_ := 0, ramp := 0 }] }
  let r := siuPacket s p k
  (s.siu.length = 2) ∧ (portUp s p = true) ∧ (siuPacket s p k = r) ∧ (headerHolds r = true) ∧ (pktType r = 3) ∧ (pktLength r = 0) ∧ (memberFrame s p r = some f) ∧ (f.height ≤ f.lines.length) ∧ (getBits (hword 3 r) 7 0 = 0) ∧ (getBits (hword 2 r) 15 0 = f.passed % 65536) := by decide +kernel

theorem test_SensorPortActs_4_metaPacket_meets :
  let k := ({ first := 0, pos := 0, codewords := packetCodewords (withHeaderCrc [0x10004#32, 7#32, 0#32, 0#32, 0#32, 0#32, 0#32]) (List.replicate 32 3#8) } : Packet)
  let p := (0 : Fin 2)
  let s := { st [(hdrCtrl (pg 2 0), 1#32), (R.SIU_PORT 0, 3#32)] with siu := [{ frame := some { id := 7, sof := 5, bridgeTs := 0, width := 16, height := 2, depth := 0, lastStamp := 0 } }, {}], leaveGrants := [{ n := 2, at_ := 0, ramp := 0 }] }
  let r := siuPacket s p k
  (s.siu.length = 2) ∧ (portUp s p = true) ∧ (siuPacket s p k = r) ∧ (headerHolds r = true) ∧ (pktType r = 4) ∧ (1 ≤ pktLength r) ∧ (pktLength r ≤ 128) ∧ (r.payload.length = 32 * pktLength r) ∧ ((memberFrame s p r).isSome = true) ∧ (r.payloadLost = false) := by decide +kernel

theorem test_SensorPortActs_5_echo_meets :
  let p := (0 : Fin 2)
  let s := { st [(hdrCtrl (pg 2 0), 1#32), (R.SIU_PORT 0, 3#32)] with siu := [{}, {}], leaveGrants := [{ n := 2, at_ := 0, ramp := 0 }] }
  (s.siu.length = 2) ∧ (portUp s p = true) := by decide +kernel

theorem test_SensorPortActs_6_echoReply_meets :
  let k := ({ first := 0, pos := 0, codewords := packetCodewords (withHeaderCrc [5#32, 7#32, 3#32, 0#32, 0#32, 0#32, 0#32]) ([]) } : Packet)
  let a := 5
  let p := (0 : Fin 2)
  let s := { st [(hdrCtrl (pg 2 0), 1#32), (R.SIU_PORT 0, 3#32)] with siu := [{ echoOut := some (7, 5) }, {}], leaveGrants := [{ n := 2, at_ := 0, ramp := 0 }], meridian := 100 * 2 ^ 32 }
  let r := siuPacket s p k
  (s.siu.length = 2) ∧ (portUp s p = true) ∧ (siuPacket s p k = r) ∧ (headerHolds r = true) ∧ (pktType r = 5) ∧ (pktLength r = 0) ∧ (siuQuiet s p = false) ∧ ((siuAt s p).echoOut = some (pktFrame r, a)) ∧ (merNow s - a ≤ 6553600000) := by decide +kernel

theorem test_SensorPortActs_7_echoTimeout_meets :
  let p := (0 : Fin 2)
  let s := { st [(hdrCtrl (pg 2 0), 1#32), (R.SIU_PORT 0, 3#32)] with siu := [{ echoOut := some (7, 5) }, {}], leaveGrants := [{ n := 2, at_ := 0, ramp := 0 }] }
  (s.siu.length = 2) := by decide +kernel

theorem test_SensorPortActs_8_trigger_meets :
  let p := (0 : Fin 2)
  let s := { st [(hdrCtrl (pg 2 0), 1#32), (R.SIU_PORT 0, 3#32), (R.SIU_TRIG_CTRL 0, 1#32), (R.SIU_TRIG_FIRST 0, 9#32)] with siu := [{}, {}], leaveGrants := [{ n := 2, at_ := 0, ramp := 0 }] }
  (s.siu.length = 2) ∧ (portUp s p = true) ∧ (rbit s (R.SIU_TRIG_CTRL p) 0 = true) ∧ (merNow s + rfld s (R.SIU_TRIG_CTRL p) 16 1 * 65536000 ≤ trigInstant s p (siuAt s p).nextTrig) := by decide +kernel

theorem test_SensorPortActs_9_lateLine_meets :
  let f := ({ id := 7, sof := 5, bridgeTs := 0, width := 16, height := 2, depth := 0, lastStamp := 0 } : SiuFrame)
  let p := (0 : Fin 2)
  let s := { st [(hdrCtrl (pg 2 0), 1#32), (R.SIU_PORT 0, 3#32)] with siu := [{ frame := some { id := 7, sof := 5, bridgeTs := 0, width := 16, height := 2, depth := 0, lastStamp := 0 } }, {}], leaveGrants := [{ n := 2, at_ := 0, ramp := 0 }] }
  (s.siu.length = 2) ∧ ((siuAt s p).frame = some f) ∧ (f.closing = false) ∧ (f.lines.length < f.height) ∧ (ubit s (R.SIU_POLICY p) 2 = false) := by decide +kernel

theorem test_SensorPortActs_10_lateFrame_meets :
  let p := (0 : Fin 2)
  let s := { st [(hdrCtrl (pg 2 0), 1#32), (R.SIU_PORT 0, 3#32)] with siu := [{ sofSeen := true }, {}], leaveGrants := [{ n := 2, at_ := 0, ramp := 0 }] }
  (s.siu.length = 2) ∧ (portUp s p = true) ∧ (siuQuiet s p = false) ∧ ((siuAt s p).sofSeen = true) ∧ ((siuAt s p).lateRaised = false) ∧ (pageThere s (pg 2 p) = true) ∧ (rbit s (hdrIntStat (pg 2 p)) 0 = false) := by decide +kernel

theorem test_SensorPortActs_11_padLinesDone_meets :
  let f := ({ id := 7, sof := 5, bridgeTs := 0, width := 16, height := 2, depth := 0, lastStamp := 0, closing := true } : SiuFrame)
  let p := (0 : Fin 2)
  let s := { st [(hdrCtrl (pg 2 0), 1#32), (R.SIU_PORT 0, 3#32)] with siu := [{ frame := some { id := 7, sof := 5, bridgeTs := 0, width := 16, height := 2, depth := 0, lastStamp := 0, closing := true } }, {}], leaveGrants := [{ n := 2, at_ := 0, ramp := 0 }] }
  (s.siu.length = 2) ∧ ((siuAt s p).frame = some f) ∧ (f.closing = true) := by decide +kernel

theorem test_SensorPortActs_12_alignmentCodeword_meets :
  let i := (1 : Fin 5)
  let c := alignCodeword 1 77
  let skew := 60
  let clean := true
  let l := 1
  let n := 77
  let p := (0 : Fin 2)
  let s := { st [(hdrCtrl (pg 2 0), 1#32), (R.SIU_PORT 0, 0xF02#32)] with siu := [{}, {}], leaveGrants := [{ n := 2, at_ := 0, ramp := 0 }] }
  (s.siu.length = 2) ∧ (portState s p = 2) ∧ (i.val < 4) ∧ ((siuAt s p).lanes.length = 4) ∧ ((siuAt s p).back = none) ∧ (alignRead c = some (l, n)) ∧ (l = logicalLane s 0 (5 * p + i)) ∧ (rfld s (R.SIU_PORT p) 15 8 ≠ l) := by decide +kernel

theorem test_SensorPortActs_13_alignmentCodeword_meets :
  let c := alignCodeword 129 77
  let skew := 60
  let clean := true
  let l := 1
  let n := 77
  let p := (0 : Fin 2)
  let s := { st [(hdrCtrl (pg 2 0), 1#32), (R.SIU_PORT 0, 0x102#32)] with siu := [{}, {}], leaveGrants := [{ n := 2, at_ := 0, ramp := 0 }] }
  (s.siu.length = 2) ∧ (portState s p = 2) ∧ (l < 4) ∧ ((siuAt s p).lanes.length = 4) ∧ ((siuAt s p).back = none) ∧ (alignRead c = some (l + 128, n)) ∧ (rfld s (R.SIU_PORT p) 15 8 = l) := by decide +kernel

theorem test_SensorPortActs_14_alignmentLost_meets :
  let l := 1#4
  let p := (0 : Fin 2)
  let s := { st [(hdrCtrl (pg 2 0), 1#32), (R.SIU_PORT 0, 3#32)] with siu := [{ lanes := [(3, 3, 3), (3, 3, 3), (3, 3, 3), (3, 3, 3)] }, {}], leaveGrants := [{ n := 2, at_ := 0, ramp := 0 }] }
  (s.siu.length = 2) ∧ (portUp s p = true) ∧ (l ≠ 0#4) := by decide +kernel

theorem test_SensorPortActs_15_t0Publish_meets :
  let e := ({ start := 64, len := 128, frameId := 1, void := false, published := true } : Reserved)
  let es := ([] : List Reserved)
  let p := (0 : Fin 2)
  let s := { st [(hdrCtrl (pg 2 0), 1#32), (R.SIU_PORT 0, 3#32)] with siu := [{ ring := { size := 4096, held := [{ start := 64, len := 128, frameId := 1, void := false, published := true }] } }, {}], leaveGrants := [{ n := 2, at_ := 0, ramp := 0 }] }
  (s.siu.length = 2) ∧ (ringNext (siuAt s p).ring.held = some (e, es)) := by decide +kernel

theorem test_ColourCommandsAct_1_pipelineLine_meets :
  let f := ({ id := 7, sof := 5, width := 2, height := 2, use := [], lines := [[1, 2], [3, 4]], due := [false, false, false, false], live := [false, false, false, false] } : ClrFrame)
  let p := (0 : Fin 2)
  let s := { st [] with clr := [{ frames := [{ id := 7, sof := 5, width := 2, height := 2, use := [], lines := [[1, 2], [3, 4]], due := [false, false, false, false], live := [false, false, false, false] }] }, {}] }
  (s.clr.length = 2) ∧ ((clrAt s p).frames = [f]) ∧ (lineReady f p = true) ∧ (f.dev.length + 1 < f.height) ∧ (nth false f.live 0 = false) ∧ (s.poison = []) := by decide +kernel

theorem test_ColourCommandsAct_2_knownAnswerTestDone_meets :
  let x := ((0, 3) : Nat × Nat)
  let p := (0 : Fin 2)
  let s := { st [(R.CLR_SPARE, 1#32)] with clr := [{}, {}], clrSpare := { testing := some (0, 3) } }
  (s.clr.length = 2) ∧ (s.clrSpare.testing = some x) := by decide +kernel

theorem test_ColourCommandsAct_3_knownAnswerTestDone_meets :
  let x := ((0, 3) : Nat × Nat)
  let p := (0 : Fin 2)
  let s := { st [(R.CLR_SPARE, 1#32)] with clr := [{}, {}], clrSpare := { testing := some (0, 3) } }
  (s.clr.length = 2) ∧ (s.clrSpare.testing = some x) := by decide +kernel

theorem test_ColourCommandsAct_4_clrForce_meets :
  let who := Requester.host
  let v := 0x1500000#32
  let p := (0 : Fin 2)
  let s := { st [] with clr := [{}, {}] }
  (s.clr.length = 2) ∧ (rbit s R.CNT_PS_CTRL 1 = false) ∧ (pageTakes R.CLR_SPARE s = true) ∧ (bitAt v 24 = true) ∧ ((spareState s = 0 ∨ spareState s = 4)) ∧ (s.clrSpare.take = none) := by decide +kernel

theorem test_ColourCommandsAct_5_clrRelease_meets :
  let who := Requester.host
  let v := 0x2000000#32
  let p := (0 : Fin 2)
  let s := { st [(R.CLR_SPARE, 2#32)] with clr := [{}, {}] }
  (s.clr.length = 2) ∧ (rbit s R.CNT_PS_CTRL 1 = false) ∧ (pageTakes R.CLR_SPARE s = true) ∧ (bitAt v 25 = true) ∧ (spareState s = 2) := by decide +kernel

theorem test_ColourCommandsAct_6_darkCalStart_meets :
  let who := Requester.host
  let v := 0x100#32
  let p := (0 : Fin 2)
  let s := { st [] with clr := [{}, {}] }
  (s.clr.length = 2) ∧ (rbit s R.CNT_PS_CTRL 1 = false) ∧ (pageTakes (R.CLR_DARK_CTRL p) s = true) ∧ (bitAt v 8 = true) ∧ (calState s p = 0) := by decide +kernel

theorem test_ColourCommandsAct_7_calDone_meets :
  let c := ({ target := 1, taken := 1 } : ClrCal)
  let p := (0 : Fin 2)
  let s := { st [(R.CLR_DARK_CTRL 0, 0x10000#32)] with clr := [{ cal := some { target := 1, taken := 1 } }, {}] }
  (s.clr.length = 2) ∧ ((clrAt s p).cal = some c) ∧ (c.target ≤ c.taken) ∧ (memPoisoned s false (4 * (ufld s (R.SIU_LINECFG p) 15 0 + 1) * (ufld s (R.SIU_LINECFG p) 29 16 + 1)) (rnat2 s (R.CLR_CAL_SCRATCH p)) = false) := by decide +kernel

theorem test_ColourCommandsAct_8_darkCalCancel_meets :
  let who := Requester.host
  let v := 0x200#32
  let p := (0 : Fin 2)
  let s := { st [(R.CLR_DARK_CTRL 0, 0x10000#32)] with clr := [{ cal := some { target := 1, taken := 0 } }, {}] }
  (s.clr.length = 2) ∧ (rbit s R.CNT_PS_CTRL 1 = false) ∧ (pageTakes (R.CLR_DARK_CTRL p) s = true) ∧ (bitAt v 9 = true) ∧ (calState s p ≠ 0) := by decide +kernel

theorem test_ColourCommandsAct_9_tapPublish_meets :
  let e := ({ start := 64, len := 128, frameId := 1, void := false, published := true } : Reserved)
  let es := ([] : List Reserved)
  let p := (0 : Fin 2)
  let s := { st [] with clr := [{ ring := { size := 4096, held := [{ start := 64, len := 128, frameId := 1, void := false, published := true }] } }, {}] }
  (s.clr.length = 2) ∧ (ringNext (clrAt s p).ring.held = some (e, es)) := by decide +kernel

theorem test_ColourCommandsAct_10_lutLoad_meets :
  let who := Requester.host
  let v := 3#32
  let p := (0 : Fin 2)
  let s := { st [] with clr := [{}, {}] }
  (s.clr.length = 2) ∧ (rbit s R.CNT_PS_CTRL 1 = false) ∧ (pageTakes (R.CLR_LUT_LOAD p) s = true) ∧ (bitAt v 0 = true) ∧ (ufld s (R.CLR_LUT_CTRL p) 1 1 ≠ getBits v 1 1) ∧ (commitPending s (pg 3 (3 + p)) = false) ∧ ((clrAt s p).loading = none) := by decide +kernel

theorem test_ColourCommandsAct_11_lutLoadDone_meets :
  let p := (0 : Fin 2)
  let s := { st [] with clr := [{ loading := some 1 }, {}] }
  (s.clr.length = 2) ∧ ((clrAt s p).loading ≠ none) := by decide +kernel

theorem test_ColourCommandsAct_12_otPublish_meets :
  let n := (2 : Fin 4)
  let b := (⟨2, 3, 5⟩ : OtBuffer)
  let p := (0 : Fin 2)
  let s := { st [] with clr := [{ otWait := [⟨1, 4, 0⟩, ⟨2, 3, 5⟩] }, {}] }
  (s.clr.length = 2) ∧ ((clrAt s p).otWait.find? (·.output == n.val) = some b) := by decide +kernel

theorem test_ColourCommandsAct_13_tableWrite_meets :
  let who := Requester.host
  let v := 0x3C00#32
  let p := (0 : Fin 2)
  let s := { st [(R.CLR_TW_SEL, 2#32)] with clr := [{}, {}], held := [(R.CLR_TW_DATA, 0x3C003C00#32)] }
  (s.clr.length = 2) ∧ (rbit s R.CNT_PS_CTRL 1 = false) ∧ (pageTakes (R.CLR_TW_DATA + 4) s = true) ∧ (rfld s R.CLR_TW_SEL 3 1 = 1) ∧ (ufld s (R.CLR_LUT_CTRL (rfld s R.CLR_TW_SEL 0 0)) 1 1 = 0) ∧ (commitPending s (pg 3 (3 + rfld s R.CLR_TW_SEL 0 0)) = false) ∧ ((clrAt s (rfld s R.CLR_TW_SEL 0 0)).loading = none) ∧ (rfld s R.CLR_TW_INDEX 18 0 < 274625) ∧ (f16IsFinite (p48R (((heldWord s R.CLR_TW_DATA).toNat + v.toNat * 2 ^ 32) % 2 ^ 48)) = true) ∧ (f16IsFinite (p48G (((heldWord s R.CLR_TW_DATA).toNat + v.toNat * 2 ^ 32) % 2 ^ 48)) = true) ∧ (f16IsFinite (p48B (((heldWord s R.CLR_TW_DATA).toNat + v.toNat * 2 ^ 32) % 2 ^ 48)) = true) := by decide +kernel

theorem test_CanvasCommandsAct_1_pictureStart_meets :
  let a := 0
  let s := { st [(hdrCtrl (pg 4 0), 1#32)] with cnv := { storeNews := true }, leaveGrants := [{ n := 4, at_ := 0, ramp := 0 }], inUse := [(R.CNV_WF_PERIOD, 0x3F6B0000#32), (R.CNV_WF_PERIOD + 4, 0x40#32), (R.CNV_SCHED, 0#32)] }
  (cnvRuns s = true) ∧ (ufld s R.CNV_SCHED 1 0 = 0) ∧ (composeDue s = some a) ∧ (composeNews s = true) := by decide +kernel

theorem test_CanvasCommandsAct_2_pictureStart_meets :
  let a := 5
  let s := { st [(hdrCtrl (pg 4 0), 1#32)] with cnv := { paceSof := some 5 }, leaveGrants := [{ n := 4, at_ := 0, ramp := 0 }], inUse := [(R.CNV_SCHED, 1#32)] }
  (cnvRuns s = true) ∧ (ufld s R.CNV_SCHED 1 0 ≠ 0) ∧ (s.cnv.paceSof = some a) := by decide +kernel

theorem test_CanvasCommandsAct_3_rowCompose_meets :
  let c := ({ seq := 3, buf := 0, start := 0, live := [], stored := [], use := [(R.CNV_CANVAS_WH, 0x1000F#32)], mon := none } : CnvPic)
  let s := { st [(hdrCtrl (pg 4 0), 1#32)] with cnv := { pics := [{ seq := 3, buf := 0, start := 0, live := [], stored := [], use := [(R.CNV_CANVAS_WH, 0x1000F#32)], mon := none }] }, leaveGrants := [{ n := 4, at_ := 0, ramp := 0 }] }
  (s.cnv.bufs.length = 2) ∧ (c.buf < 2) ∧ (s.cnv.pics = [c]) ∧ (rowReady s (useOf c.use) c c.next = true) ∧ (rowPoisoned s (useOf c.use) c c.next = false) ∧ (c.next + 1 < canvasH (useOf c.use)) := by decide +kernel

theorem test_CanvasCommandsAct_4_mapValidate_meets :
  let who := Requester.host
  let v := 0x30#32
  let s := st []
  (rbit s R.CNT_PS_CTRL 1 = false) ∧ (pageTakes R.CNV_MAP_CTRL s = true) ∧ (bitAt v 4 = true) ∧ (enabled s (pg 4 0) = false) ∧ (commitPending s (pg 4 2) = false) ∧ (mapState s (getBits v 5 5) ≠ 1) := by decide +kernel

theorem test_CanvasCommandsAct_5_mapValidateDone_meets :
  let b := (0 : Fin 2)
  let s := { st [(hdrCtrl (pg 4 0), 1#32), (R.CNV_MAP_CTRL, 0x100#32)] with cnv := { atCheck := [[], []] }, leaveGrants := [{ n := 4, at_ := 0, ramp := 0 }] }
  (s.cnv.atCheck.length = 2) ∧ (mapState s b = 1) := by decide +kernel

theorem test_CanvasCommandsAct_6_tileScan_meets :
  let a := 1000000000000
  let b := (some 1 : Option Nat)
  let k := 1
  let s := { st [(hdrCtrl (pg 4 0), 1#32)] with cnv := { bounds := [{ buf := 1, at16 := 1000000000000 }] }, leaveGrants := [{ n := 4, at_ := 0, ramp := 0 }] }
  (nextLaunch s = some (a, b)) ∧ (launchBuf s b = some k) ∧ (s.cnv.scan = none) ∧ (scanMayStart s a b = true) := by decide +kernel

theorem test_CanvasCommandsAct_7_dispatchDeadline_meets :
  let a := 0
  let b := (none : Option Nat)
  let s := { st [(hdrCtrl (pg 4 0), 1#32)] with cnv := {  }, leaveGrants := [{ n := 4, at_ := 0, ramp := 0 }], inUse := [(R.CNV_WF_PERIOD, 0x3F6B0000#32), (R.CNV_WF_PERIOD + 4, 0x40#32), (R.CNV_SCHED, 0#32)] }
  (nextLaunch s = some (a, b)) ∧ (launchBuf s b = none) ∧ (deadline (launchUse s b) a ≤ merNow s) ∧ (scanAllowed s a = true) := by decide +kernel

theorem test_CanvasCommandsAct_8_launch_meets :
  let a := 1000000000000
  let b := (some 1 : Option Nat)
  let k := 1
  let c := ({ buf := 1, at16 := 1000000000000, bound := true, id := 9, done := true } : CnvScan)
  let s := { st [(hdrCtrl (pg 4 0), 1#32)] with cnv := { bounds := [{ buf := 1, at16 := 1000000000000 }], scan := some { buf := 1, at16 := 1000000000000, bound := true, id := 9, done := true } }, leaveGrants := [{ n := 4, at_ := 0, ramp := 0 }] }
  (nextLaunch s = some (a, b)) ∧ (launchBuf s b = some k) ∧ (scanAllowed s a = true) ∧ (merNow s + leadTime (launchUse s b) ≤ a) ∧ (s.cnv.scan = some c) ∧ (c.at16 = a) ∧ (c.buf = k) ∧ (c.bound = b.isSome) ∧ (c.done = true) := by decide +kernel

theorem test_CanvasCommandsAct_9_hostReq_meets :
  let v := 1#32
  let s := { st [(hdrCtrl (pg 4 0), 1#32)] with cnv := {  }, leaveGrants := [{ n := 4, at_ := 0, ramp := 0 }] }
  (rbit s R.CNT_PS_CTRL 1 = false) ∧ (pageTakes R.CNV_SELFREF s = true) ∧ (bitAt v 0 = true) ∧ (selfrefState s = 0) := by decide +kernel

theorem test_CanvasCommandsAct_10_fwReq_meets :
  let v := 2#32
  let s := { st [(hdrCtrl (pg 4 0), 1#32)] with cnv := {  }, leaveGrants := [{ n := 4, at_ := 0, ramp := 0 }] }
  (rbit s R.CNT_PS_CTRL 1 = false) ∧ (pageTakes R.CNV_SELFREF s = true) ∧ (bitAt v 1 = true) ∧ (selfrefState s = 0) := by decide +kernel

theorem test_CanvasCommandsAct_11_selfref_meets :
  let s := { st [(hdrCtrl (pg 4 0), 1#32), (R.CNV_SELFREF, 0x101#32)] with cnv := {  }, leaveGrants := [{ n := 4, at_ := 0, ramp := 0 }] }
  (selfrefState s = 1) ∧ (s.cnv.scan = none) ∧ (selfrefAsked s = true) := by decide +kernel

theorem test_CanvasCommandsAct_13_cnvLtrRead_meets :
  let who := Requester.host
  let s := { st [(hdrCtrl (pg 4 0), 1#32), (R.CNV_LTR, 0x50009#32)] with cnv := {  }, leaveGrants := [{ n := 4, at_ := 0, ramp := 0 }] }
  (rbit s R.CNT_PS_CTRL 1 = false) ∧ (pageTakes R.CNV_LTR s = true) := by decide +kernel

theorem test_PhotometryActs_1_passBegin_meets :
  let a := 1000000000000
  let b := (some 1 : Option Nat)
  let s := { st [(hdrCtrl (pg 4 0), 1#32), (hdrCtrl (pg 5 0), 1#32)] with cnv := { bounds := [{ buf := 1, at16 := 1000000000000 }] }, pho := {  }, leaveGrants := [{ n := 4, at_ := 0, ramp := 0 }, { n := 5, at_ := 0, ramp := 0 }] }
  (s.pho.pass = none) ∧ (phoRuns s = true) ∧ (s.pho.owed = []) ∧ (nextLaunch s = some (a, b)) ∧ (passDue s a b = true) := by decide +kernel

theorem test_PhotometryActs_2_passBegin_meets :
  let a := 5
  let u := ([] : List (Nat × Word))
  let os := ([(9, [])] : List (Nat × List (Nat × Word)))
  let s := { st [(hdrCtrl (pg 4 0), 1#32), (hdrCtrl (pg 5 0), 1#32)] with cnv := {  }, pho := { owed := [(5, []), (9, [])] }, leaveGrants := [{ n := 4, at_ := 0, ramp := 0 }, { n := 5, at_ := 0, ramp := 0 }] }
  (s.pho.pass = none) ∧ (phoRuns s = true) ∧ (s.pho.owed = (a, u) :: os) := by decide +kernel

theorem test_PhotometryActs_3_passClose_meets :
  let p := ({ at16 := 5, bank := 0, tiles := [], weights := [], sums := some (1, false, []) } : PhoPass)
  let s := { st [(hdrCtrl (pg 4 0), 1#32), (hdrCtrl (pg 5 0), 1#32)] with cnv := {  }, pho := { pass := some { at16 := 5, bank := 0, tiles := [], weights := [], sums := some (1, false, []) } }, leaveGrants := [{ n := 4, at_ := 0, ramp := 0 }, { n := 5, at_ := 0, ramp := 0 }] }
  (s.pho.pass = some p) ∧ (passGone s p = false) ∧ ((passSums s p).isSome = true) := by decide +kernel

theorem test_PhotometryActs_4_refCaptureStart_meets :
  let who := Requester.host
  let v := 0x301#32
  let s := { st [(hdrCtrl (pg 4 0), 1#32), (hdrCtrl (pg 5 0), 1#32)] with cnv := {  }, pho := { steadyRun := 4 }, leaveGrants := [{ n := 4, at_ := 0, ramp := 0 }, { n := 5, at_ := 0, ramp := 0 }] }
  (rbit s R.CNT_PS_CTRL 1 = false) ∧ (pageTakes R.PHO_REF_CTRL s = true) ∧ (bitAt v 0 = true) ∧ (refState s = 0) := by decide +kernel

theorem test_PhotometryActs_5_refCaptureCancel_meets :
  let who := Requester.host
  let v := 2#32
  let s := { st [(hdrCtrl (pg 4 0), 1#32), (hdrCtrl (pg 5 0), 1#32), (R.PHO_REF_CTRL, 4#32)] with cnv := {  }, pho := {  }, leaveGrants := [{ n := 4, at_ := 0, ramp := 0 }, { n := 5, at_ := 0, ramp := 0 }] }
  (rbit s R.CNT_PS_CTRL 1 = false) ∧ (pageTakes R.PHO_REF_CTRL s = true) ∧ (bitAt v 1 = true) ∧ (refState s ≠ 0) := by decide +kernel

theorem test_PhotometryActs_6_refCaptureTimeout_meets :
  let s := { st [(hdrCtrl (pg 4 0), 1#32), (hdrCtrl (pg 5 0), 1#32), (R.PHO_REF_CTRL, 4#32)] with cnv := {  }, pho := {  }, leaveGrants := [{ n := 4, at_ := 0, ramp := 0 }, { n := 5, at_ := 0, ramp := 0 }] }
  (refState s = 1) := by decide +kernel

theorem test_PhotometryActs_7_refCaptureWriteDone_meets :
  let s := { st [(hdrCtrl (pg 4 0), 1#32), (hdrCtrl (pg 5 0), 1#32), (R.PHO_REF_CTRL, 8#32)] with cnv := {  }, pho := {  }, leaveGrants := [{ n := 4, at_ := 0, ramp := 0 }, { n := 5, at_ := 0, ramp := 0 }] }
  (refState s = 2) := by decide +kernel

theorem test_PhotometryActs_8_phoPwrPeakRead_meets :
  let who := Requester.host
  let s := { st [(hdrCtrl (pg 4 0), 1#32), (hdrCtrl (pg 5 0), 1#32), (R.PHO_PWR_PEAK, 7#32)] with cnv := {  }, pho := {  }, leaveGrants := [{ n := 4, at_ := 0, ramp := 0 }, { n := 5, at_ := 0, ramp := 0 }] }
  (rbit s R.CNT_PS_CTRL 1 = false) ∧ (pageTakes R.PHO_PWR_PEAK s = true) := by decide +kernel

theorem test_TilePortActs_1_querySend_meets :
  let q := ({ kind := 4, dst := 3, bcast := false, why := .probe } : TlkQuery)
  let qs := ([] : List TlkQuery)
  let p := (0 : Fin 16)
  let s := { st [(hdrCtrl (pg 6 0), 1#32), (R.TLK_PORT_STATE 0, 0x50003#32), (R.LAN_L_STATE 1 0, 4#32)] with tlk := { waiting := [{ kind := 4, dst := 3, bcast := false, why := .probe }] } :: List.replicate 15 {}, leaveGrants := [{ n := 6, at_ := 0, ramp := 0 }] }
  (s.tlk.length = 16) ∧ ((tlkAt s p).asked = none) ∧ ((tlkAt s p).waiting = q :: qs) ∧ (q.bcast = false) ∧ (q.config = false) ∧ (2 ≤ tlkState s p) ∧ ((tlkAt s p).readyAt ≤ s.now) ∧ (tlkLaneUp s p = true) := by decide +kernel

theorem test_TilePortActs_2_querySend_meets :
  let q := ({ kind := 3, dst := 0x1FFF, bcast := true, why := .temp } : TlkQuery)
  let qs := ([] : List TlkQuery)
  let p := (0 : Fin 16)
  let s := { st [(hdrCtrl (pg 6 0), 1#32), (R.TLK_PORT_STATE 0, 0x50003#32), (R.LAN_L_STATE 1 0, 4#32)] with tlk := { waiting := [{ kind := 3, dst := 0x1FFF, bcast := true, why := .temp }] } :: List.replicate 15 {}, leaveGrants := [{ n := 6, at_ := 0, ramp := 0 }], mem := [(20, 1#8)] }
  (s.tlk.length = 16) ∧ ((tlkAt s p).asked = none) ∧ ((tlkAt s p).waiting = q :: qs) ∧ (q.bcast = true) ∧ (q.config = false) ∧ (q.assign = false) ∧ (((upto (tlkCount s p)).filter (chainSensor s p)) ≠ []) ∧ (2 ≤ tlkState s p) ∧ ((tlkAt s p).readyAt ≤ s.now) ∧ (tlkLaneUp s p = true) ∧ (s.poison = []) := by decide +kernel

theorem test_TilePortActs_3_querySend_meets :
  let q := ({ kind := 0x81, dst := 3, bcast := false, why := .host, config := true } : TlkQuery)
  let qs := ([] : List TlkQuery)
  let p := (0 : Fin 16)
  let s := { st [(hdrCtrl (pg 6 0), 1#32), (R.TLK_PORT_STATE 0, 0x50003#32), (R.LAN_L_STATE 1 0, 4#32)] with tlk := { waiting := [{ kind := 0x81, dst := 3, bcast := false, why := .host, config := true }] } :: List.replicate 15 {}, leaveGrants := [{ n := 6, at_ := 0, ramp := 0 }] }
  (s.tlk.length = 16) ∧ ((tlkAt s p).asked = none) ∧ ((tlkAt s p).waiting = q :: qs) ∧ (q.bcast = false) ∧ (q.config = true) ∧ (2 ≤ tlkState s p) ∧ ((tlkAt s p).readyAt ≤ s.now) ∧ (tlkLaneUp s p = true) := by decide +kernel

theorem test_TilePortActs_4_reply_meets :
  let q := ({ kind := 4, dst := 3, bcast := false, why := .probe, tag := 9, due := 99999 } : TlkQuery)
  let k := ({ first := 0, pos := 0, codewords := packetCodewords (withHeaderCrc [0x20#32, 3#32, 4#32, 9#32, 0#32, 0#32, 0#32]) ([]) } : Packet)
  let rtt := 100
  let r := rxPacket false k.first k.pos k.codewords
  let p := (0 : Fin 16)
  let s := { st [(hdrCtrl (pg 6 0), 1#32), (R.TLK_PORT_STATE 0, 0x50003#32), (R.LAN_L_STATE 1 0, 4#32)] with tlk := { asked := some { kind := 4, dst := 3, bcast := false, why := .probe, tag := 9, due := 99999 } } :: List.replicate 15 {}, leaveGrants := [{ n := 6, at_ := 0, ramp := 0 }] }
  (s.tlk.length = 16) ∧ (2 ≤ tlkState s p) ∧ (rxPacket false k.first k.pos k.codewords = r) ∧ (headerHolds r = true) ∧ (pktType r = 0x20) ∧ (pktLength r = 0) ∧ ((tlkAt s p).asked = some q) ∧ (q.bcast = false) ∧ (q.why = .probe) ∧ (s.now ≤ q.due) ∧ (getBits (hword 3 r) 15 0 = q.tag) ∧ (getBits (hword 2 r) 7 0 = q.kind) ∧ (getBits (hword 1 r) 12 0 = q.dst) := by decide +kernel

theorem test_TilePortActs_5_replyTimeout_meets :
  let q := ({ kind := 2, dst := 3, bcast := false, why := .echo } : TlkQuery)
  let p := (0 : Fin 16)
  let s := { st [(hdrCtrl (pg 6 0), 1#32), (R.TLK_PORT_STATE 0, 0x50003#32), (R.LAN_L_STATE 1 0, 4#32)] with tlk := { asked := some { kind := 2, dst := 3, bcast := false, why := .echo } } :: List.replicate 15 {}, leaveGrants := [{ n := 6, at_ := 0, ramp := 0 }] }
  (s.tlk.length = 16) ∧ ((tlkAt s p).asked = some q) ∧ (q.why = .echo) ∧ (q.due ≤ s.now) := by decide +kernel

theorem test_TilePortActs_6_tempQuery_meets :
  let p := (0 : Fin 16)
  let s := { st [(hdrCtrl (pg 6 0), 1#32), (R.TLK_PORT_STATE 0, 0x50003#32), (R.LAN_L_STATE 1 0, 4#32), (R.TLK_TEMP_CTRL 0, 5#32)] with tlk := {} :: List.replicate 15 {}, leaveGrants := [{ n := 6, at_ := 0, ramp := 0 }] }
  (s.tlk.length = 16) ∧ (rfld s (R.TLK_TEMP_CTRL p) 15 0 ≠ 0) ∧ (tlkState s p = 3) := by decide +kernel

theorem test_TilePortActs_7_echoRemeasure_meets :
  let p := (0 : Fin 16)
  let s := { st [(hdrCtrl (pg 6 0), 1#32), (R.TLK_PORT_STATE 0, 0x50003#32), (R.LAN_L_STATE 1 0, 4#32), (R.TLK_PORT_CTRL 0, 8#32)] with tlk := { echoNext := 7 } :: List.replicate 15 {}, leaveGrants := [{ n := 6, at_ := 0, ramp := 0 }] }
  (s.tlk.length = 16) ∧ (rbit s (R.TLK_PORT_CTRL p) 3 = true) ∧ (tlkState s p = 3) ∧ (0 < tlkCount s p) := by decide +kernel

theorem test_TilePortActs_8_statusProbe_meets :
  let p := (0 : Fin 16)
  let s := { st [(hdrCtrl (pg 6 0), 1#32), (R.TLK_PORT_STATE 0, 0x50003#32), (R.LAN_L_STATE 1 0, 4#32), (R.TLK_PORT_CTRL 0, 4#32)] with tlk := {} :: List.replicate 15 {}, leaveGrants := [{ n := 6, at_ := 0, ramp := 0 }] }
  (s.tlk.length = 16) ∧ (rbit s (R.TLK_PORT_CTRL p) 2 = true) ∧ (tlkState s p = 3) ∧ (0 < tlkCount s p) := by decide +kernel

theorem test_TilePortActs_9_enum_meets :
  let who := Requester.host
  let v := 1#32
  let p := (0 : Fin 16)
  let s := { st [(hdrCtrl (pg 6 0), 1#32), (R.TLK_PORT_STATE 0, 0x50003#32), (R.LAN_L_STATE 1 0, 4#32)] with tlk := {} :: List.replicate 15 {}, leaveGrants := [{ n := 6, at_ := 0, ramp := 0 }] }
  (s.tlk.length = 16) ∧ (rbit s R.CNT_PS_CTRL 1 = false) ∧ (pageTakes (R.TLK_PORT_CTRL p) s = true) ∧ (bitAt v 0 = true) ∧ (tlkRuns s p = true) ∧ (tlkLaneUp s p = true) := by decide +kernel

theorem test_TilePortActs_10_resume_meets :
  let who := Requester.host
  let v := 2#32
  let p := (0 : Fin 16)
  let s := { st [(hdrCtrl (pg 6 0), 1#32), (R.TLK_PORT_STATE 0, 0x50003#32), (R.LAN_L_STATE 1 0, 4#32)] with tlk := {} :: List.replicate 15 {}, leaveGrants := [{ n := 6, at_ := 0, ramp := 0 }] }
  (s.tlk.length = 16) ∧ (rbit s R.CNT_PS_CTRL 1 = false) ∧ (pageTakes (R.TLK_PORT_CTRL p) s = true) ∧ (bitAt v 1 = true) ∧ (tlkState s p = 3) ∧ (rfld s (R.TLK_REACH p) 13 0 < 8192) := by decide +kernel

theorem test_TilePortActs_11_hostQuery_meets :
  let who := Requester.host
  let v := 0x80020004#32
  let p := (0 : Fin 16)
  let s := { st [(hdrCtrl (pg 6 0), 1#32), (R.TLK_PORT_STATE 0, 0x50003#32), (R.LAN_L_STATE 1 0, 4#32)] with tlk := {} :: List.replicate 15 {}, leaveGrants := [{ n := 6, at_ := 0, ramp := 0 }] }
  (s.tlk.length = 16) ∧ (rbit s R.CNT_PS_CTRL 1 = false) ∧ (pageTakes (R.TLK_HQ_CTRL p) s = true) ∧ (bitAt v 31 = true) ∧ (bitAt v 24 = false) ∧ (bitAt v 15 = false) ∧ (hostWaiting s p = false) := by decide +kernel

theorem test_TilePortActs_12_hostConfig_meets :
  let who := Requester.host
  let v := 0x81810004#32
  let p := (0 : Fin 16)
  let s := { st [(hdrCtrl (pg 6 0), 1#32), (R.TLK_PORT_STATE 0, 0x50003#32), (R.LAN_L_STATE 1 0, 4#32)] with tlk := {} :: List.replicate 15 {}, leaveGrants := [{ n := 6, at_ := 0, ramp := 0 }] }
  (s.tlk.length = 16) ∧ (rbit s R.CNT_PS_CTRL 1 = false) ∧ (pageTakes (R.TLK_HQ_CTRL p) s = true) ∧ (bitAt v 31 = true) ∧ (bitAt v 24 = true) ∧ (0x80 ≤ getBits v 23 16) ∧ (hostWaiting s p = false) := by decide +kernel

theorem test_TilePortActs_13_scheduleResend_meets :
  let p := (0 : Fin 16)
  let s := { st [(hdrCtrl (pg 6 0), 1#32), (R.TLK_PORT_STATE 0, 0x50003#32), (R.LAN_L_STATE 1 0, 4#32)] with tlk := { slots := [1] } :: List.replicate 15 {}, leaveGrants := [{ n := 6, at_ := 0, ramp := 0 }] }
  (s.tlk.length = 16) ∧ (tlkRuns s p = true) ∧ (tlkState s p = 3) ∧ ((tlkAt s p).slots ≠ []) := by decide +kernel

theorem test_CascadeLinkActs_1_align_meets :
  let port := (1 : Fin 4)
  let flit := ({ h0 := 0x1#32, h1 := 0x7#32, h2 := 0x0#32, h3 := 0x8#32, payload := let b : List Byte := [0xC5#8, 0x3A#8, 0x5C#8, 0xA3#8, 9#8]; b ++ List.replicate (46 - b.length) 0#8, crc := BitVec.ofNat 16 (flitCrc (flitBody 0x1#32 0x7#32 0x0#32 0x8#32 (let b : List Byte := [0xC5#8, 0x3A#8, 0x5C#8, 0xA3#8, 9#8]; b ++ List.replicate (46 - b.length) 0#8))) } : Flit)
  let skew := 500
  let clean := true
  let s := { st [(hdrCtrl (pg 7 4), 1#32), (hdrCtrl (pg 7 1), 1#32), (hdrCtrl (pg 7 2), 1#32), (R.CAS_ID, 0x4005#32), (R.CAS_PORT_STATE 1, 0x80070003#32)] with cas := { ports := [{}, { deskewed := true }, {}, {}] }, leaveGrants := [{ n := 7, at_ := 0, ramp := 0 }] }
  (alignHolds flit = true) ∧ (casPortRuns (flitIn port 1 flit s).1 port = true) ∧ (2 ≤ casState (flitIn port 1 flit s).1 port) ∧ ((casAt (flitIn port 1 flit s).1 port).spare = none) ∧ ((casAt (flitIn port 1 flit s).1 port).back = none) ∧ (((flitIn port 1 flit s).1).cas.ports.length = 4) := by decide +kernel

theorem test_CascadeLinkActs_2_idle_meets :
  let port := (1 : Fin 4)
  let flit := ({ h0 := 0x0#32, h1 := 0x7#32, h2 := 0x0#32, h3 := 0x500#32, payload := let b : List Byte := []; b ++ List.replicate (46 - b.length) 0#8, crc := BitVec.ofNat 16 (flitCrc (flitBody 0x0#32 0x7#32 0x0#32 0x500#32 (let b : List Byte := []; b ++ List.replicate (46 - b.length) 0#8))) } : Flit)
  let s := { st [(hdrCtrl (pg 7 4), 1#32), (hdrCtrl (pg 7 1), 1#32), (hdrCtrl (pg 7 2), 1#32), (R.CAS_ID, 0x4005#32), (R.CAS_PORT_STATE 1, 0x80070003#32)] with cas := { ports := [{}, { deskewed := true }, {}, {}] }, leaveGrants := [{ n := 7, at_ := 0, ramp := 0 }] }
  ((flitIn port 0 flit s).2 = true) ∧ (bitAt flit.h2 29 = false) ∧ ((casAt s port).queue0 = []) ∧ ((casAt s port).queue1 = []) ∧ ((casAt s port).queue2 = []) ∧ (s.cas.ports.length = 4) := by decide +kernel

theorem test_CascadeLinkActs_3_discover_meets :
  let port := (1 : Fin 4)
  let flit := ({ h0 := 0x2#32, h1 := 0x7#32, h2 := 0x0#32, h3 := 0x3#32, payload := let b : List Byte := [9#8, 0#8, 1#8]; b ++ List.replicate (46 - b.length) 0#8, crc := BitVec.ofNat 16 (flitCrc (flitBody 0x2#32 0x7#32 0x0#32 0x3#32 (let b : List Byte := [9#8, 0#8, 1#8]; b ++ List.replicate (46 - b.length) 0#8))) } : Flit)
  let s := { st [(hdrCtrl (pg 7 4), 1#32), (hdrCtrl (pg 7 1), 1#32), (hdrCtrl (pg 7 2), 1#32), (R.CAS_ID, 0x4005#32), (R.CAS_PORT_STATE 1, 0x2#32)] with cas := { ports := [{}, { deskewed := true }, {}, {}] }, leaveGrants := [{ n := 7, at_ := 0, ramp := 0 }] }
  ((flitIn port 2 flit s).2 = true) := by decide +kernel

theorem test_CascadeLinkActs_4_discoverSend_meets :
  let port := (1 : Fin 4)
  let s := { st [(hdrCtrl (pg 7 4), 1#32), (hdrCtrl (pg 7 1), 1#32), (hdrCtrl (pg 7 2), 1#32), (R.CAS_ID, 0x4005#32), (R.CAS_PORT_STATE 1, 0x2#32)] with cas := { ports := [{}, { deskewed := true }, {}, {}] }, leaveGrants := [{ n := 7, at_ := 0, ramp := 0 }] }
  (casPortRuns s port = true) ∧ (2 ≤ casState s port) ∧ (hasPartner s port = false) := by decide +kernel

theorem test_CascadeLinkActs_5_isolated_meets :
  let s := { st [(hdrCtrl (pg 7 4), 1#32), (hdrCtrl (pg 7 1), 1#32), (hdrCtrl (pg 7 2), 1#32), (R.CAS_ID, 0x4005#32), (R.CAS_PORT_STATE 1, 0x2#32), (R.CAS_ELECT, 0x10001#32)] with cas := { ports := [{}, { deskewed := true }, {}, {}] }, leaveGrants := [{ n := 7, at_ := 0, ramp := 0 }] }
  (casRuns s = true) ∧ ((∀ p : Fin 4, hasPartner s p = false)) ∧ (casDevState s ≠ 1) := by decide +kernel

theorem test_CascadeLinkActs_6_announce_meets :
  let port := (1 : Fin 4)
  let flit := ({ h0 := 0x6#32, h1 := 0x7#32, h2 := 0x0#32, h3 := 0x24#32, payload := let b : List Byte := List.replicate 36 1#8; b ++ List.replicate (46 - b.length) 0#8, crc := BitVec.ofNat 16 (flitCrc (flitBody 0x6#32 0x7#32 0x0#32 0x24#32 (let b : List Byte := List.replicate 36 1#8; b ++ List.replicate (46 - b.length) 0#8))) } : Flit)
  let s := { st [(hdrCtrl (pg 7 4), 1#32), (hdrCtrl (pg 7 1), 1#32), (hdrCtrl (pg 7 2), 1#32), (R.CAS_ID, 0x4005#32), (R.CAS_PORT_STATE 1, 0x80070003#32)] with cas := { ports := [{}, { deskewed := true }, {}, {}] }, leaveGrants := [{ n := 7, at_ := 0, ramp := 0 }] }
  ((flitIn port 6 flit s).2 = true) ∧ (hasPartner (flitIn port 6 flit s).1 port = true) ∧ (s.cas.ports.length = 4) := by decide +kernel

theorem test_CascadeLinkActs_7_announceSend_meets :
  let port := (1 : Fin 4)
  let s := { st [(hdrCtrl (pg 7 4), 1#32), (hdrCtrl (pg 7 1), 1#32), (hdrCtrl (pg 7 2), 1#32), (R.CAS_ID, 0x4005#32), (R.CAS_PORT_STATE 1, 0x80070003#32)] with cas := { ports := [{}, { deskewed := true }, {}, {}], lodestar := some 5 }, leaveGrants := [{ n := 7, at_ := 0, ramp := 0 }] }
  (casHears s port = true) ∧ (hasPartner s port = true) := by decide +kernel

theorem test_CascadeLinkActs_8_lodestarDrop_meets :
  let l := 9
  let s := { st [(hdrCtrl (pg 7 4), 1#32), (hdrCtrl (pg 7 1), 1#32), (hdrCtrl (pg 7 2), 1#32), (R.CAS_ID, 0x4005#32), (R.CAS_PORT_STATE 1, 0x80070003#32)] with cas := { ports := [{}, { deskewed := true, heard := some { lodestar := 9, cand := 1, root := false, epochValid := false, prio := 0, steps := 0, standby := none, annSeq := 0, breaks := 0, taiOfs := 0, maxt := 0, subId := 0, subCand := 0, subPrio := 0 } }, {}, {}], lodestar := some 9, rootPort := some 1 }, leaveGrants := [{ n := 7, at_ := 0, ramp := 0 }] }
  (s.cas.lodestar = some l) ∧ (l ≠ casId s) := by decide +kernel

theorem test_CascadeLinkActs_9_topo_meets :
  let port := (1 : Fin 4)
  let flit := ({ h0 := 0x88#32, h1 := 0x7#32, h2 := 0x0#32, h3 := 0x0#32, payload := let b : List Byte := []; b ++ List.replicate (46 - b.length) 0#8, crc := BitVec.ofNat 16 (flitCrc (flitBody 0x88#32 0x7#32 0x0#32 0x0#32 (let b : List Byte := []; b ++ List.replicate (46 - b.length) 0#8))) } : Flit)
  let change := true
  let s := { st [(hdrCtrl (pg 7 4), 1#32), (hdrCtrl (pg 7 1), 1#32), (hdrCtrl (pg 7 2), 1#32), (R.CAS_ID, 0x4005#32), (R.CAS_PORT_STATE 1, 0x80070003#32)] with cas := { ports := [{}, { deskewed := true }, {}, {}] }, leaveGrants := [{ n := 7, at_ := 0, ramp := 0 }] }
  ((flitIn port 8 flit s).2 = true) ∧ ((acceptFlit port flit (flitIn port 8 flit s).1).2 = true) := by decide +kernel

theorem test_CascadeLinkActs_10_topoSend_meets :
  let p := 1
  let s := { st [(hdrCtrl (pg 7 4), 1#32), (hdrCtrl (pg 7 1), 1#32), (hdrCtrl (pg 7 2), 1#32), (R.CAS_ID, 0x4005#32), (R.CAS_PORT_STATE 1, 0x80070003#32)] with cas := { ports := [{}, { deskewed := true }, {}, {}] }, leaveGrants := [{ n := 7, at_ := 0, ramp := 0 }] }
  (casRuns s = true) ∧ (p < 4) ∧ (forwardPorts s = [p]) ∧ ((casAt s p).queue0 = []) ∧ ((casAt s p).queue1 = []) ∧ ((casAt s p).queue2 = []) ∧ (0 < credit (casAt s p) 0) ∧ ((casAt s p).unacked.length < 2048) ∧ (s.cas.ports.length = 4) ∧ (s.cas.leaving = []) := by decide +kernel

theorem test_CascadeLinkActs_11_lanemap_meets :
  let port := (1 : Fin 4)
  let flit := ({ h0 := 0x5#32, h1 := 0x7#32, h2 := 0x0#32, h3 := 0x0#32, payload := let b : List Byte := []; b ++ List.replicate (46 - b.length) 0#8, crc := BitVec.ofNat 16 (flitCrc (flitBody 0x5#32 0x7#32 0x0#32 0x0#32 (let b : List Byte := []; b ++ List.replicate (46 - b.length) 0#8))) } : Flit)
  let lane := (2 : Fin 4)
  let start := 9#32
  let k := 0
  let s := { st [(hdrCtrl (pg 7 4), 1#32), (hdrCtrl (pg 7 1), 1#32), (hdrCtrl (pg 7 2), 1#32), (R.CAS_ID, 0x4005#32), (R.CAS_PORT_STATE 1, 0x80070003#32), (R.LAN_SPARE_WIRE 2, 0x101#32)] with cas := { ports := [{}, { deskewed := true }, {}, {}] }, leaveGrants := [{ n := 7, at_ := 0, ramp := 0 }] }
  ((flitIn port 5 flit s).2 = true) ∧ (casSpare (flitIn port 5 flit s).1 port (fun j => decide (spareStateOf (flitIn port 5 flit s).1 2 j = 0)) = some k) ∧ ((casAt (flitIn port 5 flit s).1 port).spare = none) ∧ ((flitIn port 5 flit s).1.cas.ports.length = 4) := by decide +kernel

theorem test_CascadeLinkActs_12_retryTimeout_meets :
  let port := (1 : Fin 4)
  let s := { st [(hdrCtrl (pg 7 4), 1#32), (hdrCtrl (pg 7 1), 1#32), (hdrCtrl (pg 7 2), 1#32), (R.CAS_ID, 0x4005#32), (R.CAS_PORT_STATE 1, 0x80070003#32)] with cas := { ports := [{}, { deskewed := true, unacked := [(3, { uid := 1, origin := none, h0 := 0x519#32, h1 := 0#32, h2 := 0#32, h3 := 0#32, payload := [] })] }, {}, {}] }, leaveGrants := [{ n := 7, at_ := 0, ramp := 0 }] }
  (casPortRuns s port = true) ∧ (2 ≤ casState s port) ∧ ((casAt s port).unacked ≠ []) ∧ ((casAt s port).resends < 16) ∧ (s.cas.ports.length = 4) := by decide +kernel

theorem test_MeridianEventsAct_1_holdover_meets :
  let s := st [(R.MER_STATE, 2#32), (R.MER_FREQ, 5#32)]
  (isLodestar s = false) ∧ ((merState s = 1 ∨ merState s = 2)) := by decide +kernel

theorem test_MeridianEventsAct_2_taiSet_meets :
  let who := Requester.host
  let v := 0#32
  let s := st [(R.MER_STATE, 0x200#32), (R.MER_PPS_CTRL, 1#32)]
  (rbit s R.CNT_PS_CTRL 1 = false) ∧ (pageTakes (R.MER_TAI_SET + 8) s = true) ∧ (isLodestar s = true) ∧ (rbit s R.MER_PPS_CTRL 0 = true) := by decide +kernel

theorem test_MeridianEventsAct_3_taiSet_meets :
  let who := Requester.host
  let v := 1#32
  let s := st [(R.MER_STATE, 0x200#32)]
  (rbit s R.CNT_PS_CTRL 1 = false) ∧ (pageTakes (R.MER_TAI_SET + 8) s = true) ∧ (isLodestar s = true) ∧ (rbit s R.MER_PPS_CTRL 0 = false) ∧ (epochValid s = false) := by decide +kernel

theorem test_MeridianEventsAct_4_ppsIn_meets :
  let s := st [(R.MER_PPS_CTRL, 1#32)]
  (rbit s R.MER_PPS_CTRL 0 = true) ∧ (s.taiPending = false) := by decide +kernel

theorem test_MeridianEventsAct_5_ppsMissing_meets :
  let s := st [(R.MER_PPS_CTRL, 1#32), (R.MER_REF_STATE, 2#32)]
  (rbit s R.MER_PPS_CTRL 0 = true) ∧ (rbit s R.MER_REF_STATE 1 = true) ∧ (pageThere s (pg 8 1) = true) ∧ (rbit s (hdrIntStat (pg 8 1)) 0 = false) := by decide +kernel

theorem test_MeridianEventsAct_6_ref10mLoss_meets :
  let s := st [(R.MER_REF_STATE, 1#32)]
  (rbit s R.MER_REF_STATE 0 = true) ∧ (pageThere s (pg 8 1) = true) ∧ (rbit s (hdrIntStat (pg 8 1)) 0 = false) := by decide +kernel

theorem test_CascadeTimeAndMessagesAct_1_sync_meets :
  let port := (1 : Fin 4)
  let flit := ({ h0 := 0x87#32, h1 := 0x7#32, h2 := 0x0#32, h3 := 0x18#32, payload := let b : List Byte := List.replicate 22 0#8 ++ [9#8, 0#8]; b ++ List.replicate (46 - b.length) 0#8, crc := BitVec.ofNat 16 (flitCrc (flitBody 0x87#32 0x7#32 0x0#32 0x18#32 (let b : List Byte := List.replicate 22 0#8 ++ [9#8, 0#8]; b ++ List.replicate (46 - b.length) 0#8))) } : Flit)
  let s := { st [(hdrCtrl (pg 7 4), 1#32), (hdrCtrl (pg 7 1), 1#32), (hdrCtrl (pg 7 2), 1#32), (R.CAS_ID, 0x4005#32), (R.CAS_PORT_STATE 1, 0x80070003#32)] with cas := { ports := [{}, { deskewed := true }, {}, {}], lodestar := some 9, rootPort := some 1 }, leaveGrants := [{ n := 7, at_ := 0, ramp := 0 }] }
  ((flitIn port 7 flit s).2 = true) ∧ ((acceptFlit port flit (flitIn port 7 flit s).1).2 = true) ∧ ((acceptFlit port flit (flitIn port 7 flit s).1).1.cas.rootPort = some port.val) ∧ ((acceptFlit port flit (flitIn port 7 flit s).1).1.cas.lodestar = some (leNat (((flBytes flit ++ List.replicate 46 0#8).drop 22).take 2) % 2 ^ 14)) := by decide +kernel

theorem test_CascadeTimeAndMessagesAct_2_syncSend_meets :
  let s := { st [(hdrCtrl (pg 7 4), 1#32), (hdrCtrl (pg 7 1), 1#32), (hdrCtrl (pg 7 2), 1#32), (R.CAS_ID, 0x4005#32), (R.CAS_PORT_STATE 1, 0x80070004#32), (R.MER_STATE, 0x200#32)] with cas := { ports := [{}, { deskewed := true }, {}, {}] }, leaveGrants := [{ n := 7, at_ := 0, ramp := 0 }] }
  (casRuns s = true) ∧ (isLodestar s = true) := by decide +kernel

theorem test_CascadeTimeAndMessagesAct_3_pdelayReq_meets :
  let port := (1 : Fin 4)
  let flit := ({ h0 := 0x3#32, h1 := 0x7#32, h2 := 0x0#32, h3 := 0x0#32, payload := let b : List Byte := []; b ++ List.replicate (46 - b.length) 0#8, crc := BitVec.ofNat 16 (flitCrc (flitBody 0x3#32 0x7#32 0x0#32 0x0#32 (let b : List Byte := []; b ++ List.replicate (46 - b.length) 0#8))) } : Flit)
  let tag := 7#16
  let s := { st [(hdrCtrl (pg 7 4), 1#32), (hdrCtrl (pg 7 1), 1#32), (hdrCtrl (pg 7 2), 1#32), (R.CAS_ID, 0x4005#32), (R.CAS_PORT_STATE 1, 0x80070003#32)] with cas := { ports := [{}, { deskewed := true }, {}, {}] }, leaveGrants := [{ n := 7, at_ := 0, ramp := 0 }] }
  ((flitIn port 3 flit s).2 = true) := by decide +kernel

theorem test_CascadeTimeAndMessagesAct_4_pdelayReqSend_meets :
  let port := (1 : Fin 4)
  let s := { st [(hdrCtrl (pg 7 4), 1#32), (hdrCtrl (pg 7 1), 1#32), (hdrCtrl (pg 7 2), 1#32), (R.CAS_ID, 0x4005#32), (R.CAS_PORT_STATE 1, 0x80070003#32)] with cas := { ports := [{}, { deskewed := true }, {}, {}] }, leaveGrants := [{ n := 7, at_ := 0, ramp := 0 }] }
  (casHears s port = true) ∧ (hasPartner s port = true) ∧ (s.cas.ports.length = 4) := by decide +kernel

theorem test_CascadeTimeAndMessagesAct_5_pdelayResp_meets :
  let port := (1 : Fin 4)
  let flit := ({ h0 := 0x4#32, h1 := 0x7#32, h2 := 0x0#32, h3 := 0x0#32, payload := let b : List Byte := []; b ++ List.replicate (46 - b.length) 0#8, crc := BitVec.ofNat 16 (flitCrc (flitBody 0x4#32 0x7#32 0x0#32 0x0#32 (let b : List Byte := []; b ++ List.replicate (46 - b.length) 0#8))) } : Flit)
  let tag := 7#16
  let turn := 3#64
  let sent := 1
  let s := { st [(hdrCtrl (pg 7 4), 1#32), (hdrCtrl (pg 7 1), 1#32), (hdrCtrl (pg 7 2), 1#32), (R.CAS_ID, 0x4005#32), (R.CAS_PORT_STATE 1, 0x80070003#32)] with cas := { ports := [{}, { deskewed := true, pdOut := some (7, 1) }, {}, {}] }, leaveGrants := [{ n := 7, at_ := 0, ramp := 0 }] }
  ((flitIn port 4 flit s).2 = true) ∧ ((casAt (flitIn port 4 flit s).1 port).pdOut = some (tag.toNat, sent)) ∧ ((flitIn port 4 flit s).1.cas.ports.length = 4) := by decide +kernel

set_option maxRecDepth 100000 in
theorem test_CascadeTimeAndMessagesAct_6_pic_meets :
  let port := (1 : Fin 4)
  let flit := ({ h0 := 0x519#32, h1 := 0x7#32, h2 := 0x3#32, h3 := 0x0#32, payload := let b : List Byte := []; b ++ List.replicate (46 - b.length) 0#8, crc := BitVec.ofNat 16 (flitCrc (flitBody 0x519#32 0x7#32 0x3#32 0x0#32 (let b : List Byte := []; b ++ List.replicate (46 - b.length) 0#8))) } : Flit)
  let s := { st [(hdrCtrl (pg 7 4), 1#32), (hdrCtrl (pg 7 1), 1#32), (hdrCtrl (pg 7 2), 1#32), (R.CAS_ID, 0x4005#32), (R.CAS_PORT_STATE 1, 0x80070003#32)] with cas := { ports := [{}, { deskewed := true }, {}, {}], gens := [(7, 1)] }, leaveGrants := [{ n := 7, at_ := 0, ramp := 0 }] }
  ((flitIn port 9 flit s).2 = true) ∧ ((acceptFlit port flit (flitIn port 9 flit s).1).2 = true) ∧ ((flBcast flit = true ∨ flDst flit = casId s)) ∧ (flClass flit = 1) ∧ (flLast flit = false) := by
  refine ⟨?_, ?_, ?_, ?_, ?_⟩ <;> first | decide +kernel | rfl

set_option maxRecDepth 100000 in
theorem test_CascadeTimeAndMessagesAct_7_msg_meets :
  let port := (1 : Fin 4)
  let flit := ({ h0 := 0x52A#32, h1 := 0x7#32, h2 := 0x3#32, h3 := 0x0#32, payload := let b : List Byte := []; b ++ List.replicate (46 - b.length) 0#8, crc := BitVec.ofNat 16 (flitCrc (flitBody 0x52A#32 0x7#32 0x3#32 0x0#32 (let b : List Byte := []; b ++ List.replicate (46 - b.length) 0#8))) } : Flit)
  let s := { st [(hdrCtrl (pg 7 4), 1#32), (hdrCtrl (pg 7 1), 1#32), (hdrCtrl (pg 7 2), 1#32), (R.CAS_ID, 0x4005#32), (R.CAS_PORT_STATE 1, 0x80070003#32)] with cas := { ports := [{}, { deskewed := true }, {}, {}], gens := [(7, 1)] }, leaveGrants := [{ n := 7, at_ := 0, ramp := 0 }] }
  ((flitIn port 10 flit s).2 = true) ∧ ((acceptFlit port flit (flitIn port 10 flit s).1).2 = true) ∧ ((flBcast flit = true ∨ flDst flit = casId s)) ∧ (flClass flit = 2) ∧ (flLast flit = false) := by
  refine ⟨?_, ?_, ?_, ?_, ?_⟩ <;> first | decide +kernel | rfl

set_option maxRecDepth 100000 in
theorem test_CascadeTimeAndMessagesAct_8_msg_meets :
  let port := (1 : Fin 4)
  let flit := ({ h0 := 0x56A#32, h1 := 0x7#32, h2 := 0x3#32, h3 := 0x0#32, payload := let b : List Byte := []; b ++ List.replicate (46 - b.length) 0#8, crc := BitVec.ofNat 16 (flitCrc (flitBody 0x56A#32 0x7#32 0x3#32 0x0#32 (let b : List Byte := []; b ++ List.replicate (46 - b.length) 0#8))) } : Flit)
  let s := { st [(hdrCtrl (pg 7 4), 1#32), (hdrCtrl (pg 7 1), 1#32), (hdrCtrl (pg 7 2), 1#32), (R.CAS_ID, 0x4005#32), (R.CAS_PORT_STATE 1, 0x80070003#32), (R.CAS_MSG_RX_COUNT, 4#32), (R.CAS_MSG_RX, 0x1000#32)] with cas := { ports := [{}, { deskewed := true }, {}, {}], gens := [(7, 1)] }, leaveGrants := [{ n := 7, at_ := 0, ramp := 0 }] }
  ((flitIn port 10 flit s).2 = true) ∧ ((acceptFlit port flit (flitIn port 10 flit s).1).2 = true) ∧ ((flBcast flit = true ∨ flDst flit = casId s)) ∧ (flClass flit = 2) ∧ (flLast flit = true) ∧ (rfld s R.CAS_MSG_RX_COUNT 11 0 ≠ 0) ∧ ((rfld s R.CAS_MSG_RX_WR 11 0 + 1) % rfld s R.CAS_MSG_RX_COUNT 11 0 ≠ rfld s R.CAS_MSG_RX_RD 11 0) := by
  refine ⟨?_, ?_, ?_, ?_, ?_, ?_, ?_⟩ <;> first | decide +kernel | rfl

theorem test_CascadeTimeAndMessagesAct_9_picSend_meets :
  let k := (2 : Fin 8)
  let s := { st [(hdrCtrl (pg 7 4), 1#32), (hdrCtrl (pg 7 1), 1#32), (hdrCtrl (pg 7 2), 1#32), (R.CAS_ID, 0x4005#32), (R.CAS_PORT_STATE 1, 0x80070003#32), (R.CAS_TXS_CTRL 2, 3#32), (R.CMP_SEND_SIZE 2, 4096#32), (sendWr 2, 128#32)] with cas := { ports := [{}, { deskewed := true }, {}, {}] }, leaveGrants := [{ n := 7, at_ := 0, ramp := 0 }] }
  (casRuns s = true) ∧ (rbit s (R.CAS_TXS_CTRL k) 0 = true) ∧ (rnat s (R.CMP_SEND_SIZE k) ≠ 0) ∧ (rnat s (sendRd k) ≠ rnat s (sendWr k)) ∧ (onItsWay s (.stream k) = false) ∧ (s.poison = []) := by decide +kernel

theorem test_CascadeTimeAndMessagesAct_10_msgSend_meets :
  let who := Requester.host
  let v := 1#32
  let n := 4
  let s := { st [(hdrCtrl (pg 7 4), 1#32), (hdrCtrl (pg 7 1), 1#32), (hdrCtrl (pg 7 2), 1#32), (R.CAS_ID, 0x4005#32), (R.CAS_PORT_STATE 1, 0x80070003#32), (R.CAS_MSG_TX_COUNT, 4#32)] with cas := { ports := [{}, { deskewed := true }, {}, {}] }, leaveGrants := [{ n := 7, at_ := 0, ramp := 0 }] }
  (rbit s R.CNT_PS_CTRL 1 = false) ∧ (pageTakes R.CAS_MSG_TX_WR s = true) ∧ (casRuns s = true) ∧ (rfld s R.CAS_MSG_TX_COUNT 11 0 = n) ∧ (s.cas.taken < n) ∧ ((s.cas.taken + 1) % n = getBits v 11 0) ∧ (s.cas.taken ≠ getBits v 11 0) := by decide +kernel

theorem test_CascadeTimeAndMessagesAct_11_quarantineExpiry_meets :
  let m := ({ cls := 2, dst := 9, bcast := false, seq := 1, chunks := [[1#8]], done := .entry } : CasMessage)
  let s := { st [(hdrCtrl (pg 7 4), 1#32), (hdrCtrl (pg 7 1), 1#32), (hdrCtrl (pg 7 2), 1#32), (R.CAS_ID, 0x4005#32), (R.CAS_PORT_STATE 1, 0x80070003#32)] with cas := { ports := [{}, { deskewed := true }, {}, {}], waiting := [{ cls := 2, dst := 9, bcast := false, seq := 1, chunks := [[1#8]], done := .entry }] }, leaveGrants := [{ n := 7, at_ := 0, ramp := 0 }] }
  (casRuns s = true) ∧ (s.cas.waiting = [m]) ∧ (quarantined s m.seq = false) ∧ (routePorts s m.bcast m.dst none ≠ []) := by decide +kernel

theorem test_LaneCommandsAct_1_signalDetect_meets :
  let p := (2 : Fin 5)
  let i := (3 : Fin 20)
  let s := st [(R.LAN_L_STATE 2 3, 1#32)]
  (p.val < 3) ∧ (laneThere s p i = true) ∧ (laneState s p i = 1) := by decide +kernel

theorem test_LaneCommandsAct_2_trainingBlock_meets :
  let p := (1 : Fin 3)
  let i := (3 : Fin 18)
  let l0 := 3
  let levels := ((encodeLevels 0 (let b := [0xE4#8, 0x1B#8, 0xB1#8, 0x4E#8, 3#8, 0#8, 7#8] ++ List.replicate 55 0#8; b ++ leBytes 2 (crc16 b))).map fun x : Int => -x : List Int)
  let b := (let b := [0xE4#8, 0x1B#8, 0xB1#8, 0x4E#8, 3#8, 0#8, 7#8] ++ List.replicate 55 0#8; b ++ leBytes 2 (crc16 b))
  let n := true
  let s := st [(R.LAN_L_STATE 1 3, 2#32)]
  (laneThere s p i = true) ∧ (n = !hasMarker (decodeLevels (l0 :: levels))) ∧ (b = (if n then decodeLevels ((l0 :: levels).map fun l => -l) else decodeLevels (l0 :: levels))) ∧ (blockHolds b = true) ∧ (laneState s p i = 2) := by decide +kernel

theorem test_LaneCommandsAct_3_trainingBlock_meets :
  let p := (1 : Fin 3)
  let i := (3 : Fin 18)
  let l0 := 3
  let levels := ((encodeLevels 0 (let b := [0xE4#8, 0x1B#8, 0xB1#8, 0x4E#8, 3#8, 0#8, 7#8] ++ List.replicate 55 0#8; b ++ leBytes 2 (crc16 b))).map fun x : Int => -x : List Int)
  let b := (let b := [0xE4#8, 0x1B#8, 0xB1#8, 0x4E#8, 3#8, 0#8, 7#8] ++ List.replicate 55 0#8; b ++ leBytes 2 (crc16 b))
  let n := true
  let s := st [(R.LAN_L_STATE 1 3, 0xB#32)]
  (laneThere s p i = true) ∧ (n = rbit s (R.LAN_L_STATE p i) 3) ∧ (b = (if n then decodeLevels ((l0 :: levels).map fun l => -l) else decodeLevels (l0 :: levels))) ∧ (blockHolds b = true) ∧ (laneState s p i = 3) := by decide +kernel

theorem test_LaneCommandsAct_4_trainTimeout_meets :
  let p := (1 : Fin 3)
  let i := (3 : Fin 18)
  let s := st [(R.LAN_L_STATE 1 3, 2#32)]
  (laneThere s p i = true) ∧ (1 ≤ laneState s p i) ∧ (laneState s p i ≤ 3) := by decide +kernel

theorem test_LaneCommandsAct_5_fomWindow_meets :
  let p := (1 : Fin 5)
  let i := (3 : Fin 20)
  let sums := some (500, 3000000000)
  let s := st [(R.LAN_L_STATE 1 3, 2#32)]
  (laneThere s p i = true) := by decide +kernel

theorem test_LaneCommandsAct_6_linkLoss_meets :
  let p := (1 : Fin 5)
  let i := (3 : Fin 20)
  let s := st [(R.LAN_L_STATE 1 3, 2#32)]
  (laneThere s p i = true) ∧ (laneState s p i ≠ 4) ∧ (laneState s p i ≠ 6) := by decide +kernel

theorem test_LaneCommandsAct_7_linkLoss_meets :
  let p := (3 : Fin 5)
  let i := (3 : Fin 20)
  let s := st [(R.LAN_L_STATE 3 3, 4#32)]
  (laneThere s p i = true) ∧ (laneState s p i = 4) ∧ (3 ≤ p.val) := by decide +kernel

theorem test_LaneCommandsAct_8_tileSpareCheckTimeout_meets :
  let k := (1 : Fin 2)
  let s := st [(R.LAN_SPARE_STATE 1, 0x2000#32), (R.LAN_L_STATE 1 17, 2#32)]
  (spareStateOf s 1 k = 1) ∧ (spareLaneFor s 1 k < 16) := by decide +kernel

theorem test_LaneCommandsAct_9_lanForce_meets :
  let who := Requester.host
  let p := (1 : Fin 3)
  let v := 0x302#32
  let i := 3
  let k := 0
  let s := st [(R.LAN_SPARE_WIRE 1, 0x103#32)]
  (rbit s R.CNT_PS_CTRL 1 = false) ∧ (pageTakes (R.LAN_SPARE_CTRL p) s = true) ∧ (bitAt v 1 = true) ∧ (spareNamed (writeReg who (R.LAN_SPARE_CTRL p) v 0#32 s) p v = some (k, i)) ∧ (substRuns s p i = false) ∧ (spareFree s p k i = true) ∧ ((p.val = 0 → portState s (lanePort s p i) = 3 ∧ (siuAt s (lanePort s p i)).spare = none)) ∧ ((p.val = 2 → 2 ≤ casState s (lanePort s p i) ∧ (casAt s (lanePort s p i)).spare = none)) := by decide +kernel

theorem test_LaneCommandsAct_10_lanRelease_meets :
  let who := Requester.host
  let p := (1 : Fin 3)
  let v := 0x304#32
  let k := 0
  let i := 3
  let s := st [(R.LAN_SPARE_WIRE 1, 0x103#32), (R.LAN_SPARE_STATE 1, 0x43#32)]
  (rbit s R.CNT_PS_CTRL 1 = false) ∧ (pageTakes (R.LAN_SPARE_CTRL p) s = true) ∧ (bitAt v 2 = true) ∧ (spareNamed (writeReg who (R.LAN_SPARE_CTRL p) v 0#32 s) p v = some (k, i)) ∧ (spareStateOf s p k = 2) := by decide +kernel

theorem test_LaneCommandsAct_11_retiredClear_meets :
  let who := Requester.host
  let p := (1 : Fin 5)
  let v := 8#32
  let i := 3
  let s := st [(R.LAN_RETIRED 1, 8#32), (R.LAN_L_STATE 1 3, 6#32)]
  (rbit s R.CNT_PS_CTRL 1 = false) ∧ (pageTakes (R.LAN_RETIRED p) s = true) ∧ (i < lanCount p) ∧ (laneRetired s p i = true) ∧ (laneState s p i = 6) ∧ (bitAt v i = true) := by decide +kernel

theorem test_LaneCommandsAct_12_retrain_meets :
  let who := Requester.host
  let port := (1 : Fin 4)
  let v := 2#32
  let s := st [(R.LAN_L_STATE 2 5, 4#32), (R.CAS_PORT_STATE 1, 2#32)]
  (rbit s R.CNT_PS_CTRL 1 = false) ∧ (pageTakes (R.CAS_PORT_CTRL port) s = true) ∧ (bitAt v 1 = true) := by decide +kernel

theorem test_MemoryCommandsAct_1_memAccess_meets :
  let g := (2 : Fin 8)
  let c := 5
  let a := 0x1040#48
  let d := List.replicate 64 7#8
  let m := 0xFF00FF#64
  let e := ([(3, 9)] : List DqError)
  let s := { st [(R.MEM_CFG, 0x2#32), (R.MEM_STATE, 0#32)] with memCtl := {  } }
  (a.toNat < memBytes s) ∧ (s.memCtl.queue = []) ∧ (chanHeld s (memPlace s (a.toNat / 64)).1 = false) ∧ (nth 0 (memChan s (memPlace s (a.toNat / 64)).1).busy ((a.toNat / 64) % 2) ≤ s.now * 1000) ∧ ((symbolsHit e ≤ 12 ∨ m = BitVec.allOnes 64)) := by decide +kernel

theorem test_MemoryCommandsAct_2_memAccess_meets :
  let g := (2 : Fin 8)
  let c := 5
  let a := 0x1040#48
  let m := 0#64
  let e := ([(3, 9)] : List DqError)
  let s := { st [(R.MEM_CFG, 0x2#32), (R.MEM_STATE, 0#32)] with memCtl := {  }, mem := [(4160, 5#8)] }
  (a.toNat < memBytes s) ∧ (s.memCtl.queue = []) ∧ (chanHeld s (memPlace s (a.toNat / 64)).1 = false) ∧ (nth 0 (memChan s (memPlace s (a.toNat / 64)).1).busy ((a.toNat / 64) % 2) ≤ s.now * 1000) ∧ (s.poison.contains (a.toNat / 64) = false) ∧ (symbolsHit e ≤ 4) := by decide +kernel

theorem test_MemoryCommandsAct_3_memAccess_meets :
  let g := (2 : Fin 8)
  let c := 5
  let a := 0x1040#48
  let m := 0#64
  let e := ([(3, 9)] : List DqError)
  let s := { st [(R.MEM_CFG, 0x2#32), (R.MEM_STATE, 0#32)] with memCtl := {  }, poison := [65] }
  (a.toNat < memBytes s) ∧ (s.memCtl.queue = []) ∧ (chanHeld s (memPlace s (a.toNat / 64)).1 = false) ∧ (nth 0 (memChan s (memPlace s (a.toNat / 64)).1).busy ((a.toNat / 64) % 2) ≤ s.now * 1000) ∧ (s.poison.contains (a.toNat / 64) = true) := by decide +kernel

theorem test_MemoryCommandsAct_4_patrolScrub_meets :
  let a := 0x1340#48
  let e := ([(3, 9)] : List DqError)
  let s := { st [(R.MEM_CFG, 0x2#32), (R.MEM_STATE, 0#32)] with memCtl := { scrubAt := 77 } }
  (memBytes s ≠ 0) ∧ (rbit s R.MEM_STATE 0 = false) ∧ (s.memCtl.queue = []) ∧ (chanHeld s (memPlace s (s.memCtl.scrubAt % (memBytes s / 64))).1 = false) ∧ (nth 0 (memChan s (memPlace s (s.memCtl.scrubAt % (memBytes s / 64))).1).busy ((s.memCtl.scrubAt % (memBytes s / 64)) % 2) ≤ s.now * 1000) ∧ (s.poison.contains (s.memCtl.scrubAt % (memBytes s / 64)) = false) ∧ (0 < symbolsHit e) ∧ (symbolsHit e ≤ 4) ∧ (a.toNat / 64 = (s.memCtl.scrubAt % (memBytes s / 64))) := by decide +kernel

theorem test_MemoryCommandsAct_5_patrolScrub_meets :
  let a := 0x1380#48
  let e := ([(3, 9)] : List DqError)
  let s := { st [(R.MEM_CFG, 0x2#32), (R.MEM_STATE, 0#32)] with memCtl := { scrubAt := 77 } }
  (memBytes s ≠ 0) ∧ (rbit s R.MEM_STATE 0 = false) ∧ (s.memCtl.queue = []) ∧ (chanHeld s (memPlace s (s.memCtl.scrubAt % (memBytes s / 64))).1 = false) ∧ (nth 0 (memChan s (memPlace s (s.memCtl.scrubAt % (memBytes s / 64))).1).busy ((s.memCtl.scrubAt % (memBytes s / 64)) % 2) ≤ s.now * 1000) ∧ (s.poison.contains (s.memCtl.scrubAt % (memBytes s / 64)) = false) ∧ (a.toNat / 64 ≠ (s.memCtl.scrubAt % (memBytes s / 64))) := by decide +kernel

theorem test_MemoryCommandsAct_6_refresh_meets :
  let c := (0 : Fin 12)
  let r := (0 : Fin 3)
  let s := { st [(R.MEM_CFG, 0x2#32), (R.MEM_STATE, 0#32), (R.CNV_LTR, 9#32)] with memCtl := { chans := { postponed := [2, 0, 0] } :: List.replicate 11 {} } }
  (s.memCtl.chans.length = 12) ∧ (c.val < memChannels s) ∧ ((r.val < 2 ∨ rbit s R.MEM_CFG 10 = true)) ∧ (rbit s R.MEM_STATE 0 = false) ∧ (rfld s R.CNV_LTR 15 0 ≠ 0) ∧ (nth 0 (memChan s c).nextRefresh r ≤ s.now) ∧ ((memChan s c).postponed.length = 3) ∧ ((memChan s c).nextRefresh.length = 3) := by decide +kernel

theorem test_MemoryCommandsAct_7_refresh_meets :
  let c := (0 : Fin 12)
  let r := (0 : Fin 3)
  let s := { st [(R.MEM_CFG, 0x2#32), (R.MEM_STATE, 0#32), (R.CNV_LTR, 0#32)] with memCtl := { chans := { postponed := [2, 0, 0] } :: List.replicate 11 {} } }
  (s.memCtl.chans.length = 12) ∧ (c.val < memChannels s) ∧ ((r.val < 2 ∨ rbit s R.MEM_CFG 10 = true)) ∧ (rbit s R.MEM_STATE 0 = false) ∧ (rfld s R.CNV_LTR 15 0 = 0) ∧ (nth 0 (memChan s c).nextRefresh r ≤ s.now) ∧ (nth 0 (memChan s c).postponed r < 4) ∧ ((memChan s c).postponed.length = 3) := by decide +kernel

theorem test_MemoryCommandsAct_9_marginCheck_meets :
  let c := (1 : Fin 12)
  let a := 2#8
  let b := 32#8
  let d := 32#8
  let e := 32#8
  let s := { st [(R.MEM_CFG, 0x2#32), (R.MEM_STATE, 0#32), (R.MEM_MARGIN_TRAIN 1, 0x20202020#32)] with memCtl := {  } }
  (c.val < memChannels s) ∧ (s.memCtl.retrain.contains c.val = false) ∧ (chanHeld s c = false) := by decide +kernel

theorem test_MemoryCommandsAct_10_channelRetrain_meets :
  let c := (1 : Fin 12)
  let s := { st [(R.MEM_CFG, 0x2#32), (R.MEM_STATE, 0#32), (R.CNV_SELFREF, 0x200#32)] with memCtl := { retrain := [1] }, leaveGrants := [{ n := 25, at_ := 0, ramp := 0 }] }
  (granted s 25 = true) ∧ (selfrefState s = 2) ∧ (s.memCtl.retrain.head? = some c.val) ∧ (rfld s R.MEM_STATE 27 16 = 0) := by decide +kernel

theorem test_MemoryCommandsAct_11_retrainDone_meets :
  let c := (1 : Fin 12)
  let a := 2#8
  let b := 32#8
  let d := 32#8
  let e := 32#8
  let s := { st [(R.MEM_CFG, 0x2#32), (R.MEM_STATE, 0#32), (R.MEM_STATE, 0x20000#32)] with memCtl := { retrain := [1] } }
  (chanHeld s c = true) ∧ (s.memCtl.queue = []) := by decide +kernel

theorem test_MemoryCommandsAct_12_memSelfrefEntry_meets :
  let s := { st [(R.MEM_CFG, 0x2#32), (R.MEM_STATE, 0#32), (R.CNV_LTR, 9#32)] with memCtl := {  } }
  (2 < rfld s R.CNV_LTR 15 0) ∧ (s.memCtl.queue = []) ∧ (rfld s R.MEM_STATE 27 16 = 0) ∧ ((∀ c : Fin 12, rbit s (R.MEM_MIG c) 24 = false)) ∧ (0 < memChannels s) := by decide +kernel

theorem test_MemoryCommandsAct_13_migrationRegion_meets :
  let e := ([(5, [(3, 9)])] : RegionErrors)
  let c := (1 : Fin 12)
  let s := { st [(R.MEM_CFG, 0x2#32), (R.MEM_STATE, 0#32), (R.MEM_MIG 1, 0x1000005#32)] with memCtl := {  }, leaveGrants := [{ n := 26, at_ := 0, ramp := 0 }] }
  (rbit s (R.MEM_MIG c) 24 = true) ∧ (granted s 26 = true) ∧ (chanHeld s c = false) ∧ (s.memCtl.migNext ≤ s.now) ∧ (rfld s (R.MEM_MIG c) 21 0 + 1 < rankMapped s / 4096) := by decide +kernel

theorem test_MemoryCommandsAct_14_migrationRegion_meets :
  let e := ([(5, [(3, 9)])] : RegionErrors)
  let c := (1 : Fin 12)
  let s := { st [(R.MEM_CFG, 0x2#32), (R.MEM_STATE, 0#32), (R.MEM_MIG 1, 0x13FFFFF#32)] with memCtl := {  }, leaveGrants := [{ n := 26, at_ := 0, ramp := 0 }] }
  (rbit s (R.MEM_MIG c) 24 = true) ∧ (granted s 26 = true) ∧ (chanHeld s c = false) ∧ (s.memCtl.migNext ≤ s.now) ∧ (rankMapped s / 4096 ≤ rfld s (R.MEM_MIG c) 21 0 + 1) := by decide +kernel

theorem test_CompressionActs_1_jobSubmit_meets :
  let who := Requester.host
  let q := (1 : Fin 4)
  let v := 1#32
  let s := { st [(hdrCtrl (pg 11 1), 1#32), (R.CMP_Q_CTRL 1, 1#32), (R.CMP_Q_COUNT 1, 8#32), (R.CMP_Q_BASE 1, 0x1000#32)] with hostMem := [(0x1000, 3#8)] }
  (s.cmp.lanes.length = 10) ∧ (rbit s R.CNT_PS_CTRL 1 = false) ∧ (pageTakes (R.CMP_Q_WR q) s = true) ∧ (rbit s (R.CMP_Q_CTRL q) 0 = true) ∧ (enabled s (pg 11 1) = true) ∧ (idleReq s (pg 11 1) = false) ∧ (rfld s (R.CMP_Q_COUNT q) 12 0 ≠ 0) ∧ ((rfld s (R.CMP_Q_RD q) 11 0 + 1) % rfld s (R.CMP_Q_COUNT q) 12 0 = getBits v 11 0) ∧ (rfld s (R.CMP_Q_RD q) 11 0 ≠ getBits v 11 0) ∧ (s.cmp.stopped.contains q.val = false) ∧ (descOk (memRead s true 64 (rnat2 s (R.CMP_Q_BASE q) + 64 * rfld s (R.CMP_Q_RD q) 11 0)) = true) := by decide +kernel

theorem test_CompressionActs_2_jobStart_meets :
  let k := 8
  let j := ({ order := 5, user := .host 1 0, deflate := true, bytes := [3#8] } : CmpJob)
  let q := 1
  let i := 0
  let s := { st [(hdrCtrl (pg 11 0), 1#32)] with cmp := { waiting := [{ order := 5, user := .host 1 0, deflate := true, bytes := [3#8] }] }, leaveGrants := [{ n := 20, at_ := 0, ramp := 0 }] }
  (s.cmp.lanes.length = 10) ∧ (freeLane s true = some k) ∧ (nextJob s true = some j) ∧ (j.user = .host q i) ∧ (descOp j.bytes ≠ 0) := by decide +kernel

theorem test_CompressionActs_3_jobDone_meets :
  let l := (9 : Fin 10)
  let r := ({ job := { order := 1, user := .host 1 0, deflate := true, bytes := [2#8] ++ List.replicate 39 0#8 ++ [0xFF#8, 0xFF#8, 0#8, 0#8] } } : CmpRun)
  let q := 1
  let i := 0
  let o := deflate 0 []
  let c := 0
  let s := { st [] with cmp := { lanes := List.replicate 9 none ++ [some { job := { order := 1, user := .host 1 0, deflate := true, bytes := [2#8] ++ List.replicate 39 0#8 ++ [0xFF#8, 0xFF#8, 0#8, 0#8] } }] } }
  (s.cmp.lanes.length = 10) ∧ (laneRun s l = some r) ∧ (lanePaused s l = false) ∧ (r.job.user = .host q i) ∧ (descRing r.job.bytes = false) ∧ (jobOutput l r s = .ok o c) ∧ (o.length ≤ jobSpace s r.job) := by decide +kernel

theorem test_CompressionActs_4_jobResume_meets :
  let l := (0 : Fin 10)
  let s := { st [(R.CMP_LANE_STATE, 0x10000#32)] with cmp := { lanes := some { job := { order := 1, user := .host 1 0, bytes := [3#8] } } :: List.replicate 9 none } }
  (s.cmp.lanes.length = 10) ∧ (lanePaused s l = true) ∧ (pausedRoom s l = true) := by decide +kernel

theorem test_CompressionActs_5_pauseTimeout_meets :
  let l := (0 : Fin 10)
  let r := ({ job := { order := 1, user := .host 1 0, bytes := [2#8, 2#8] ++ List.replicate 38 0#8 ++ [0xFF#8, 0xFF#8, 0#8, 0#8] } } : CmpRun)
  let q := 1
  let i := 0
  let s := { st [(R.CMP_LANE_STATE, 0x10000#32), (R.CMP_Q_ORING_SIZE 1, 4096#32), (R.CMP_Q_ORING_WR 1, 4032#32)] with cmp := { lanes := some { job := { order := 1, user := .host 1 0, bytes := [2#8, 2#8] ++ List.replicate 38 0#8 ++ [0xFF#8, 0xFF#8, 0#8, 0#8] } } :: List.replicate 9 none } }
  (s.cmp.lanes.length = 10) ∧ (laneRun s l = some r) ∧ (lanePaused s l = true) ∧ (pausedRoom s l = false) ∧ (r.job.user = .host q i) := by decide +kernel

theorem test_CompressionActs_6_sendBind_meets :
  let who := Requester.host
  let k := (3 : Fin 8)
  let v := 5#32
  let s := { st [] with inUse := [(R.CNV_LYR_CTRL 2, 1#32)] }
  (s.cmp.lanes.length = 10) ∧ (rbit s R.CNT_PS_CTRL 1 = false) ∧ (pageTakes (R.CMP_SEND_CTRL k) s = true) ∧ ((bitAt v 0 = false ∨ layerOn s (getBits v 3 1) = true)) := by decide +kernel

theorem test_CoderActs_1_codPictureStart_meets :
  let c := (1 : Fin 4)
  let x := ({ kind := 0, id := 3, flags := 0, sof := 9, poc := 0 } : CodItem)
  let s := { st [(hdrCtrl (pg 12 2), 1#32)] with cod := { ctxs := [{}, { gop := [{ kind := 0, id := 3, flags := 0, sof := 9, poc := 0 }] }, {}, {}] }, leaveGrants := [{ n := 9, at_ := 0, ramp := 0 }] }
  (s.cod.cur = none) ∧ (blockResetting s (pg 12 0) = false) ∧ (codWaiting s c = some x) ∧ ((∀ k : Fin 4, k ≠ c → codRuns s k = false)) := by decide +kernel

theorem test_CoderActs_2_codRow_meets :
  let b := true
  let p := ({ ctx := 1, item := { kind := 0, id := 3, flags := 0, sof := 9, poc := 0 }, fresh := true, a := 100000, u := 50 } : CodPic)
  let s := { st [] with cod := { cur := some { ctx := 1, item := { kind := 0, id := 3, flags := 0, sof := 9, poc := 0 }, fresh := true, a := 100000, u := 50 } }, inUse := [(R.COD_CTX_SIZE 1, 0x3F003F#32), (R.COD_CTX_OUT_SIZE 1, 0x1000000#32)] }
  (s.cod.cur = some p) ∧ (p.row < hCtu (uget s) p.ctx.val) ∧ (rowBound (uget s) p.ctx.val ≤ outFree s p.ctx.val p) := by decide +kernel

theorem test_CoderActs_3_codPictureDone_meets :
  let p := ({ ctx := 1, item := { kind := 0, id := 3, flags := 0, sof := 9, poc := 0 }, fresh := true, a := 100000, u := 50, row := 1 } : CodPic)
  let s := { st [] with cod := { cur := some { ctx := 1, item := { kind := 0, id := 3, flags := 0, sof := 9, poc := 0 }, fresh := true, a := 100000, u := 50, row := 1 } }, inUse := [(R.COD_CTX_SIZE 1, 0x3F003F#32), (R.COD_CTX_OUT_SIZE 1, 0x1000000#32)] }
  (s.cod.cur = some p) ∧ (hCtu (uget s) p.ctx.val ≤ p.row) ∧ (ctxMode (uget s) p.ctx.val ≠ 0) := by decide +kernel

theorem test_CoderActs_4_stallTimeout_meets :
  let p := ({ ctx := 1, item := { kind := 0, id := 3, flags := 0, sof := 9, poc := 0 }, fresh := true, a := 100000, u := 50, stalled := true } : CodPic)
  let s := { st [] with cod := { cur := some { ctx := 1, item := { kind := 0, id := 3, flags := 0, sof := 9, poc := 0 }, fresh := true, a := 100000, u := 50, stalled := true } }, inUse := [(R.COD_CTX_SIZE 1, 0x3F003F#32), (R.COD_CTX_OUT_SIZE 1, 0x1000000#32)] }
  (s.cod.cur = some p) ∧ (p.stalled = true) := by decide +kernel

theorem test_NvmeAdminCommandsAct_1_sqTailDoorbell_meets :
  let q := (0 : Fin 65)
  let tail := 2#16
  let x := ({ id := 0, base := 4096, size := 4, cq := 0, prio := 0, head := 0, tail := 1 } : NvmeSq)
  let s := { st [(hdrCtrl (pg 13 0), 1#32)] with hostMem := [(4096, 6#8), (4098, 9#8)], recorder := { nvme := { cc := 1#32, ready := true, sqs := [({ id := 0, base := 4096, size := 4, cq := 0, prio := 0, head := 0, tail := 1 } : NvmeSq)], cqs := [({ id := 0, base := 8192, size := 4, vector := 0, ien := true } : NvmeCq)] } } }
  (sqOf s q = some x) ∧ (tail.toNat < x.size) := by decide +kernel

theorem test_NvmeAdminCommandsAct_2_cqHeadDoorbell_meets :
  let q := (0 : Fin 65)
  let head := 0#16
  let x := ({ id := 0, base := 8192, size := 4, vector := 0, ien := true } : NvmeCq)
  let s := { st [(hdrCtrl (pg 13 0), 1#32)] with hostMem := [(4096, 6#8), (4098, 9#8)], recorder := { nvme := { cc := 1#32, ready := true, sqs := [({ id := 0, base := 4096, size := 4, cq := 0, prio := 0, head := 0, tail := 1 } : NvmeSq)], cqs := [({ id := 0, base := 8192, size := 4, vector := 0, ien := true } : NvmeCq)] } } }
  (cqOf s q = some x) ∧ (head.toNat < x.size) := by decide +kernel

theorem test_NvmeAdminCommandsAct_3_controllerReset_meets :
  let cc := 1#32
  let aqa := 0x30003#32
  let asq := 0x1000#64
  let acq := 0x2000#64
  let s := st []
  (bitAt cc 0 = true) ∧ (bitAt (nv s).cc 0 = false) := by decide +kernel

theorem test_NvmeAdminCommandsAct_4_controllerReset_meets :
  let cc := 0#32
  let aqa := 0#32
  let asq := 0#64
  let acq := 0#64
  let s := { st [(hdrCtrl (pg 13 0), 1#32)] with hostMem := [(4096, 6#8), (4098, 9#8)], recorder := { nvme := { cc := 1#32, ready := true, sqs := [({ id := 0, base := 4096, size := 4, cq := 0, prio := 0, head := 0, tail := 1 } : NvmeSq)], cqs := [({ id := 0, base := 8192, size := 4, vector := 0, ien := true } : NvmeCq)] } } }
  (bitAt cc 0 = false) ∧ (bitAt (nv s).cc 0 = true) := by decide +kernel

theorem test_NvmeAdminCommandsAct_5_interruptCoalescingExpiry_meets :
  let v := (1 : Fin 65)
  let s := { st [(hdrCtrl (pg 13 0), 1#32)] with hostMem := [(4096, 6#8), (4098, 9#8)], recorder := { nvme := { cc := 1#32, ready := true, sqs := [({ id := 0, base := 4096, size := 4, cq := 0, prio := 0, head := 0, tail := 1 } : NvmeSq)], cqs := [({ id := 0, base := 8192, size := 4, vector := 0, ien := true } : NvmeCq)], heldInts := [(1, 3)] } } }
  (smGet 0 (nv s).heldInts v.val ≠ 0) := by decide +kernel

theorem test_NvmeAdminCommandsAct_6_createIoCq_meets :
  let q := ({ id := 0, base := 4096, size := 4, cq := 0, prio := 0, head := 0, tail := 1 } : NvmeSq)
  let k := 0
  let e := ({ op := 5, fuse := 0, cid := 9, nsid := 0, prp1 := 12288, prp2 := 0, d10 := 458754, d11 := 131075, d12 := 0, d13 := 0 } : Sqe)
  let s := { st [(hdrCtrl (pg 13 0), 1#32)] with hostMem := [(4096, 5#8), (4098, 9#8), (4121, 48#8), (4136, 2#8), (4138, 7#8), (4140, 3#8), (4142, 2#8)], recorder := { nvme := { cc := 1#32, ready := true, sqs := [({ id := 0, base := 4096, size := 4, cq := 0, prio := 0, head := 0, tail := 1 } : NvmeSq)], cqs := [({ id := 0, base := 8192, size := 4, vector := 0, ien := true } : NvmeCq)] } } }
  (nvmeNext s = some (q, k, e)) ∧ (q.id = 0) ∧ (e.fuse = 0) ∧ (e.op = 5) ∧ (1 ≤ e.d10 % 65536) ∧ (e.d10 % 65536 ≤ 64) ∧ (cqOf s (e.d10 % 65536) = none) ∧ (1 ≤ e.d10 / 65536) ∧ (e.d10 / 65536 ≤ 4095) ∧ (e.d11 % 2 = 1) ∧ (e.prp1 % 4096 = 0) ∧ (e.d11 / 65536 ≤ 64) := by decide +kernel

theorem test_NvmeAdminCommandsAct_7_createIoSq_meets :
  let q := ({ id := 0, base := 4096, size := 4, cq := 0, prio := 0, head := 0, tail := 1 } : NvmeSq)
  let k := 0
  let e := ({ op := 1, fuse := 0, cid := 9, nsid := 0, prp1 := 12288, prp2 := 0, d10 := 458754, d11 := 131075, d12 := 0, d13 := 0 } : Sqe)
  let s := { st [(hdrCtrl (pg 13 0), 1#32)] with hostMem := [(4096, 1#8), (4098, 9#8), (4121, 48#8), (4136, 2#8), (4138, 7#8), (4140, 3#8), (4142, 2#8)], recorder := { nvme := { cc := 1#32, ready := true, sqs := [({ id := 0, base := 4096, size := 4, cq := 0, prio := 0, head := 0, tail := 1 } : NvmeSq)], cqs := [({ id := 0, base := 8192, size := 4, vector := 0, ien := true } : NvmeCq), { id := 2, base := 0x5000, size := 4, vector := 2, ien := true }] } } }
  (nvmeNext s = some (q, k, e)) ∧ (q.id = 0) ∧ (e.fuse = 0) ∧ (e.op = 1) ∧ (1 ≤ e.d10 % 65536) ∧ (e.d10 % 65536 ≤ 64) ∧ (sqOf s (e.d10 % 65536) = none) ∧ (1 ≤ e.d10 / 65536) ∧ (e.d10 / 65536 ≤ 4095) ∧ (e.d11 % 2 = 1) ∧ (e.prp1 % 4096 = 0) ∧ (1 ≤ e.d11 / 65536) ∧ (e.d11 / 65536 ≤ 64) ∧ ((cqOf s (e.d11 / 65536)).isSome = true) := by decide +kernel

theorem test_NvmeAdminCommandsAct_8_deleteIoSq_meets :
  let q := ({ id := 0, base := 4096, size := 4, cq := 0, prio := 0, head := 0, tail := 1 } : NvmeSq)
  let k := 0
  let e := ({ op := 0, fuse := 0, cid := 9, nsid := 0, prp1 := 0, prp2 := 0, d10 := 2, d11 := 0, d12 := 0, d13 := 0 } : Sqe)
  let s := { st [(hdrCtrl (pg 13 0), 1#32)] with hostMem := [(4098, 9#8), (4136, 2#8)], recorder := { nvme := { cc := 1#32, ready := true, sqs := [({ id := 0, base := 4096, size := 4, cq := 0, prio := 0, head := 0, tail := 1 } : NvmeSq), { id := 2, base := 0x6000, size := 4, cq := 1, prio := 0 }], cqs := [({ id := 0, base := 8192, size := 4, vector := 0, ien := true } : NvmeCq)] } } }
  (nvmeNext s = some (q, k, e)) ∧ (q.id = 0) ∧ (e.fuse = 0) ∧ (e.op = 0) ∧ (e.d10 % 65536 ≠ 0) ∧ ((sqOf s (e.d10 % 65536)).isSome = true) := by decide +kernel

theorem test_NvmeAdminCommandsAct_9_deleteIoCq_meets :
  let q := ({ id := 0, base := 4096, size := 4, cq := 0, prio := 0, head := 0, tail := 1 } : NvmeSq)
  let k := 0
  let e := ({ op := 4, fuse := 0, cid := 9, nsid := 0, prp1 := 0, prp2 := 0, d10 := 2, d11 := 0, d12 := 0, d13 := 0 } : Sqe)
  let s := { st [(hdrCtrl (pg 13 0), 1#32)] with hostMem := [(4096, 4#8), (4098, 9#8), (4136, 2#8)], recorder := { nvme := { cc := 1#32, ready := true, sqs := [({ id := 0, base := 4096, size := 4, cq := 0, prio := 0, head := 0, tail := 1 } : NvmeSq)], cqs := [({ id := 0, base := 8192, size := 4, vector := 0, ien := true } : NvmeCq), { id := 2, base := 0x5000, size := 4, vector := 2, ien := true }] } } }
  (nvmeNext s = some (q, k, e)) ∧ (q.id = 0) ∧ (e.fuse = 0) ∧ (e.op = 4) ∧ (e.d10 % 65536 ≠ 0) ∧ ((cqOf s (e.d10 % 65536)).isSome = true) ∧ ((∀ x ∈ (nv s).sqs, x.cq ≠ e.d10 % 65536)) := by decide +kernel

theorem test_NvmeAdminCommandsAct_10_setFeatures_meets :
  let q := ({ id := 0, base := 4096, size := 4, cq := 0, prio := 0, head := 0, tail := 1 } : NvmeSq)
  let k := 0
  let e := ({ op := 9, fuse := 0, cid := 9, nsid := 0, prp1 := 0, prp2 := 0, d10 := 6, d11 := 0, d12 := 0, d13 := 0 } : Sqe)
  let s := { st [(hdrCtrl (pg 13 0), 1#32)] with hostMem := [(4096, 9#8), (4098, 9#8), (4136, 6#8)], recorder := { nvme := { cc := 1#32, ready := true, sqs := [({ id := 0, base := 4096, size := 4, cq := 0, prio := 0, head := 0, tail := 1 } : NvmeSq)], cqs := [({ id := 0, base := 8192, size := 4, vector := 0, ien := true } : NvmeCq)] } } }
  (nvmeNext s = some (q, k, e)) ∧ (q.id = 0) ∧ (e.fuse = 0) ∧ (e.op = 9) ∧ (e.d10 % 256 = 6) ∧ (e.d10 < 2 ^ 31) := by decide +kernel

theorem test_NvmeAdminCommandsAct_11_asynchronousEventRequest_meets :
  let q := ({ id := 0, base := 4096, size := 4, cq := 0, prio := 0, head := 0, tail := 1 } : NvmeSq)
  let k := 0
  let e := ({ op := 12, fuse := 0, cid := 9, nsid := 0, prp1 := 0, prp2 := 0, d10 := 0, d11 := 0, d12 := 0, d13 := 0 } : Sqe)
  let s := { st [(hdrCtrl (pg 13 0), 1#32)] with hostMem := [(4096, 12#8), (4098, 9#8)], recorder := { nvme := { cc := 1#32, ready := true, sqs := [({ id := 0, base := 4096, size := 4, cq := 0, prio := 0, head := 0, tail := 1 } : NvmeSq)], cqs := [({ id := 0, base := 8192, size := 4, vector := 0, ien := true } : NvmeCq)] } } }
  (nvmeNext s = some (q, k, e)) ∧ (q.id = 0) ∧ (e.fuse = 0) ∧ (e.op = 12) ∧ ((nv s).aers.length < 4) ∧ ((nv s).events = []) := by decide +kernel

theorem test_NvmeAdminCommandsAct_12_abort_meets :
  let q := ({ id := 0, base := 4096, size := 4, cq := 0, prio := 0, head := 0, tail := 1 } : NvmeSq)
  let k := 0
  let e := ({ op := 8, fuse := 0, cid := 9, nsid := 0, prp1 := 0, prp2 := 0, d10 := 458754, d11 := 0, d12 := 0, d13 := 0 } : Sqe)
  let x := ({ id := 2, base := 0x6000, size := 4, cq := 1, prio := 0 } : NvmeSq)
  let s := { st [(hdrCtrl (pg 13 0), 1#32)] with hostMem := [(4096, 8#8), (4098, 9#8), (4136, 2#8), (4138, 7#8)], recorder := { nvme := { cc := 1#32, ready := true, sqs := [({ id := 0, base := 4096, size := 4, cq := 0, prio := 0, head := 0, tail := 1 } : NvmeSq), { id := 2, base := 0x6000, size := 4, cq := 1, prio := 0 }], cqs := [({ id := 0, base := 8192, size := 4, vector := 0, ien := true } : NvmeCq)], writeWait := [{ id := 0, sq := 2, cid := 7, op := 1, nsid := 1, v := 0, n := 1, prp1 := 0, prp2 := 0 }] } } }
  (nvmeNext s = some (q, k, e)) ∧ (q.id = 0) ∧ (e.fuse = 0) ∧ (e.op = 8) ∧ (e.d10 % 65536 ≠ 0) ∧ (sqOf s (e.d10 % 65536) = some x) ∧ ((∀ i ∈ sqSlots x, (sqeAt s x i).cid ≠ e.d10 / 65536)) ∧ ((nv s).aers = []) ∧ ((∀ c ∈ (nv s).cmds, c.op ≠ 0x108)) ∧ ((nv s).writeWait.any (fun (c : NvmeCmd) => c.sq == e.d10 % 65536 && c.cid == e.d10 / 65536) = true) := by decide +kernel

set_option maxRecDepth 100000 in
theorem test_NvmeAdminCommandsAct_13_namespaceManagement_meets :
  let q := ({ id := 0, base := 4096, size := 4, cq := 0, prio := 0, head := 0, tail := 1 } : NvmeSq)
  let k := 0
  let e := ({ op := 13, fuse := 0, cid := 9, nsid := 0, prp1 := 12288, prp2 := 0, d10 := 0, d11 := 0, d12 := 0, d13 := 0 } : Sqe)
  let nid := 1
  let g := 0
  let s := { st [(hdrCtrl (pg 13 0), 1#32), (R.REC_MEDIA_MAP, 0x43210#32)] with hostMem := [(4096, 13#8), (4098, 9#8), (4121, 48#8), (12290, 4#8), (12298, 4#8)], recorder := { nvme := { cc := 1#32, ready := true, sqs := [({ id := 0, base := 4096, size := 4, cq := 0, prio := 0, head := 0, tail := 1 } : NvmeSq)], cqs := [({ id := 0, base := 8192, size := 4, vector := 0, ien := true } : NvmeCq)] }, caps := [4000000, 4000000, 4000000, 4000000, 0] } }
  let b := hostGather s e.prp1 e.prp2 4096
  (nvmeNext s = some (q, k, e)) ∧ (q.id = 0) ∧ (e.fuse = 0) ∧ (e.op = 13) ∧ (s.recorder.erase.sanStatus ≠ 2) ∧ (e.d10 % 16 = 0) ∧ (b = hostGather s e.prp1 e.prp2 4096) ∧ (leNat ((b.drop 26).take 1) % 16 = 0) ∧ (leNat (b.take 8) ≠ 0) ∧ (leNat ((b.drop 8).take 8) = leNat (b.take 8)) ∧ (((upto 17).find? fun j => decide (0 < j) && (nsOf s j).isNone) = some nid) ∧ (nsPlace s (leNat (b.take 8)) = some g) := by
  refine ⟨?_, ?_, ?_, ?_, ?_, ?_, ?_, ?_, ?_, ?_, ?_, ?_⟩ <;> first | decide +kernel | rfl

theorem test_NvmeAdminCommandsAct_14_namespaceAttachment_meets :
  let q := ({ id := 0, base := 4096, size := 4, cq := 0, prio := 0, head := 0, tail := 1 } : NvmeSq)
  let k := 0
  let e := ({ op := 21, fuse := 0, cid := 9, nsid := 1, prp1 := 12288, prp2 := 0, d10 := 0, d11 := 0, d12 := 0, d13 := 0 } : Sqe)
  let n := ({ nsid := 1, start := 0, sectors := 262144, attached := false } : RecNs)
  let s := { st [(hdrCtrl (pg 13 0), 1#32)] with hostMem := [(4096, 21#8), (4098, 9#8), (4100, 1#8), (4121, 48#8), (12288, 1#8)], recorder := { nvme := { cc := 1#32, ready := true, sqs := [({ id := 0, base := 4096, size := 4, cq := 0, prio := 0, head := 0, tail := 1 } : NvmeSq)], cqs := [({ id := 0, base := 8192, size := 4, vector := 0, ien := true } : NvmeCq)] }, ns := [{ nsid := 1, start := 0, sectors := 262144, attached := false }] } }
  (nvmeNext s = some (q, k, e)) ∧ (q.id = 0) ∧ (e.fuse = 0) ∧ (e.op = 21) ∧ (s.recorder.erase.sanStatus ≠ 2) ∧ (nsOf s e.nsid = some n) ∧ (e.d10 % 16 ≤ 1) ∧ (n.formatting = false) ∧ (leNat ((hostGather s e.prp1 e.prp2 4096).take 2) = 1) ∧ (leNat (((hostGather s e.prp1 e.prp2 4096).drop 2).take 2) = 0) ∧ (n.attached = decide (e.d10 % 16 = 1)) := by decide +kernel

theorem test_NvmeAdminCommandsAct_15_formatNvm_meets :
  let q := ({ id := 0, base := 4096, size := 4, cq := 0, prio := 0, head := 0, tail := 1 } : NvmeSq)
  let k := 0
  let e := ({ op := 128, fuse := 0, cid := 9, nsid := 1, prp1 := 0, prp2 := 0, d10 := 0, d11 := 0, d12 := 0, d13 := 0 } : Sqe)
  let n := ({ nsid := 1, start := 0, sectors := 262144, attached := true } : RecNs)
  let s := { st [(hdrCtrl (pg 13 0), 1#32)] with hostMem := [(4096, 128#8), (4098, 9#8), (4100, 1#8)], recorder := { nvme := { cc := 1#32, ready := true, sqs := [({ id := 0, base := 4096, size := 4, cq := 0, prio := 0, head := 0, tail := 1 } : NvmeSq)], cqs := [({ id := 0, base := 8192, size := 4, vector := 0, ien := true } : NvmeCq)] }, ns := [{ nsid := 1, start := 0, sectors := 262144, attached := true }] } }
  (nvmeNext s = some (q, k, e)) ∧ (q.id = 0) ∧ (e.fuse = 0) ∧ (e.op = 128) ∧ (s.recorder.erase.sanStatus ≠ 2) ∧ (nsOf s e.nsid = some n) ∧ (n.formatting = false) ∧ (s.recorder.erase.format = none) ∧ (e.d10 % 16 = 0) ∧ (bitsOf e.d10 11 9 ≤ 1) ∧ (arrayState s ≠ 4) := by decide +kernel

theorem test_NvmeAdminCommandsAct_16_sanitize_meets :
  let q := ({ id := 0, base := 4096, size := 4, cq := 0, prio := 0, head := 0, tail := 1 } : NvmeSq)
  let k := 0
  let e := ({ op := 132, fuse := 0, cid := 9, nsid := 0, prp1 := 0, prp2 := 0, d10 := 2, d11 := 0, d12 := 0, d13 := 0 } : Sqe)
  let s := { st [(hdrCtrl (pg 13 0), 1#32)] with hostMem := [(4096, 132#8), (4098, 9#8), (4136, 2#8)], recorder := { nvme := { cc := 1#32, ready := true, sqs := [({ id := 0, base := 4096, size := 4, cq := 0, prio := 0, head := 0, tail := 1 } : NvmeSq)], cqs := [({ id := 0, base := 8192, size := 4, vector := 0, ien := true } : NvmeCq)] } } }
  (nvmeNext s = some (q, k, e)) ∧ (q.id = 0) ∧ (e.fuse = 0) ∧ (e.op = 132) ∧ (s.recorder.erase.sanStatus ≠ 2) ∧ (s.recorder.erase.format = none) ∧ ((e.d10 % 8 = 2 ∨ e.d10 % 8 = 3)) := by decide +kernel

theorem test_NvmeAdminCommandsAct_17_sanitizeDone_meets :
  let s := { st [] with recorder := { erase := { sanStatus := 2 }, ns := [{ nsid := 1, start := 0, sectors := 262144, attached := true }] }, leaveGrants := [{ n := 23, at_ := 0, ramp := 0 }] }
  (granted s 23 = true) ∧ (s.recorder.erase.sanStatus = 2) := by decide +kernel

theorem test_NvmeCommandsComplete_1_getLogPage_meets :
  let q := ({ id := 0, base := 4096, size := 4, cq := 0, prio := 0, head := 0, tail := 1 } : NvmeSq)
  let k := 0
  let e := ({ op := 2, fuse := 0, cid := 9, nsid := 0, prp1 := 12288, prp2 := 0, d10 := 4128960, d11 := 0, d12 := 0, d13 := 0 } : Sqe)
  let c := ({ id := 0, base := 8192, size := 4, vector := 0, ien := true } : NvmeCq)
  let bs := List.replicate 320 (0#8 : Byte)
  let n := 256
  let s := { st [(hdrCtrl (pg 13 0), 1#32)] with hostMem := [(4096, 2#8), (4098, 9#8), (4121, 48#8), (4136, 192#8), (4138, 63#8)], recorder := { nvme := { cc := 1#32, ready := true, sqs := [({ id := 0, base := 4096, size := 4, cq := 0, prio := 0, head := 0, tail := 1 } : NvmeSq)], cqs := [({ id := 0, base := 8192, size := 4, vector := 0, ien := true } : NvmeCq)] } } }
  (nvmeNext s = some (q, k, e)) ∧ ((nv s).sqs = [q]) ∧ (q.aborted = []) ∧ ((nv s).cmds = []) ∧ (s.recorder.ops = []) ∧ ((nv s).aers = []) ∧ (cqOf s q.cq = some c) ∧ (c.waiting = []) ∧ ((c.tail + 1) % c.size ≠ c.head) ∧ (rbit s R.CNT_PS_CTRL 0 = false) ∧ (s.cnt.open_ = []) ∧ (e.fuse = 0) ∧ ((q.head + 1) % q.size = q.tail) ∧ (q.id = 0) ∧ (e.op = 2) ∧ (logPage s (e.d10 % 256) = some bs) ∧ (n = (e.d10 / 65536 + e.d11 % 65536 * 65536 + 1) * 4) ∧ (n ≤ 4096) ∧ (e.d12 + e.d13 * 2 ^ 32 ≤ bs.length) ∧ (e.prp1 % 4096 = 0) ∧ ((c.base + 16 * c.tail + 16 ≤ e.prp1 ∨ e.prp1 + 4096 ≤ c.base + 16 * c.tail)) := by decide +kernel

set_option maxRecDepth 100000 in
theorem test_NvmeCommandsComplete_2_identify_meets :
  let q := ({ id := 0, base := 4096, size := 4, cq := 0, prio := 0, head := 0, tail := 1 } : NvmeSq)
  let k := 0
  let e := ({ op := 6, fuse := 0, cid := 9, nsid := 0, prp1 := 12288, prp2 := 0, d10 := 2, d11 := 0, d12 := 0, d13 := 0 } : Sqe)
  let c := ({ id := 0, base := 8192, size := 4, vector := 0, ien := true } : NvmeCq)
  let s := { st [(hdrCtrl (pg 13 0), 1#32)] with hostMem := [(4096, 6#8), (4098, 9#8), (4121, 48#8), (4136, 2#8)], recorder := { nvme := { cc := 1#32, ready := true, sqs := [({ id := 0, base := 4096, size := 4, cq := 0, prio := 0, head := 0, tail := 1 } : NvmeSq)], cqs := [({ id := 0, base := 8192, size := 4, vector := 0, ien := true } : NvmeCq)] } } }
  let bs := (identify s e).2
  (nvmeNext s = some (q, k, e)) ∧ ((nv s).sqs = [q]) ∧ (q.aborted = []) ∧ ((nv s).cmds = []) ∧ (s.recorder.ops = []) ∧ ((nv s).aers = []) ∧ (cqOf s q.cq = some c) ∧ (c.waiting = []) ∧ ((c.tail + 1) % c.size ≠ c.head) ∧ (rbit s R.CNT_PS_CTRL 0 = false) ∧ (s.cnt.open_ = []) ∧ (e.fuse = 0) ∧ ((q.head + 1) % q.size = q.tail) ∧ (q.id = 0) ∧ (e.op = 6) ∧ (identify s e = (0, bs)) ∧ (bs.length = 4096) ∧ (e.prp1 % 4096 = 0) ∧ ((c.base + 16 * c.tail + 16 ≤ e.prp1 ∨ e.prp1 + 4096 ≤ c.base + 16 * c.tail)) := by
  refine ⟨?_, ?_, ?_, ?_, ?_, ?_, ?_, ?_, ?_, ?_, ?_, ?_, ?_, ?_, ?_, ?_, ?_, ?_, ?_⟩ <;> first | decide +kernel | rfl

theorem test_NvmeCommandsComplete_3_getFeatures_meets :
  let q := ({ id := 0, base := 4096, size := 4, cq := 0, prio := 0, head := 0, tail := 1 } : NvmeSq)
  let k := 0
  let e := ({ op := 10, fuse := 0, cid := 9, nsid := 0, prp1 := 0, prp2 := 0, d10 := 6, d11 := 0, d12 := 0, d13 := 0 } : Sqe)
  let c := ({ id := 0, base := 8192, size := 4, vector := 0, ien := true } : NvmeCq)
  let s := { st [(hdrCtrl (pg 13 0), 1#32)] with hostMem := [(4096, 10#8), (4098, 9#8), (4136, 6#8)], recorder := { nvme := { cc := 1#32, ready := true, sqs := [({ id := 0, base := 4096, size := 4, cq := 0, prio := 0, head := 0, tail := 1 } : NvmeSq)], cqs := [({ id := 0, base := 8192, size := 4, vector := 0, ien := true } : NvmeCq)] } } }
  (nvmeNext s = some (q, k, e)) ∧ ((nv s).sqs = [q]) ∧ (q.aborted = []) ∧ ((nv s).cmds = []) ∧ (s.recorder.ops = []) ∧ ((nv s).aers = []) ∧ (cqOf s q.cq = some c) ∧ (c.waiting = []) ∧ ((c.tail + 1) % c.size ≠ c.head) ∧ (rbit s R.CNT_PS_CTRL 0 = false) ∧ (s.cnt.open_ = []) ∧ (e.fuse = 0) ∧ ((q.head + 1) % q.size = q.tail) ∧ (q.id = 0) ∧ (e.op = 10) ∧ (e.d10 % 256 ∈ featIds) ∧ (e.d10 % 256 ≠ 7) ∧ (e.d10 % 256 ≠ 9) ∧ (bitsOf e.d10 10 8 = 0) := by decide +kernel

theorem test_NvmeCommandsComplete_4_flush_meets :
  let q := ({ id := 1, base := 4096, size := 4, cq := 1, prio := 0, head := 0, tail := 1 } : NvmeSq)
  let k := 0
  let e := ({ op := 0, fuse := 0, cid := 9, nsid := 1, prp1 := 0, prp2 := 0, d10 := 0, d11 := 0, d12 := 0, d13 := 0 } : Sqe)
  let c := ({ id := 1, base := 8192, size := 4, vector := 1, ien := true } : NvmeCq)
  let s := { st [(hdrCtrl (pg 13 0), 1#32)] with hostMem := [(4098, 9#8), (4100, 1#8)], recorder := { nvme := { cc := 1#32, ready := true, sqs := [({ id := 1, base := 4096, size := 4, cq := 1, prio := 0, head := 0, tail := 1 } : NvmeSq)], cqs := [({ id := 1, base := 8192, size := 4, vector := 1, ien := true } : NvmeCq)] }, ns := [{ nsid := 1, start := 0, sectors := 262144, attached := true }] } }
  (nvmeNext s = some (q, k, e)) ∧ ((nv s).sqs = [q]) ∧ (q.aborted = []) ∧ ((nv s).cmds = []) ∧ (s.recorder.ops = []) ∧ ((nv s).aers = []) ∧ (cqOf s q.cq = some c) ∧ (c.waiting = []) ∧ ((c.tail + 1) % c.size ≠ c.head) ∧ (rbit s R.CNT_PS_CTRL 0 = false) ∧ (s.cnt.open_ = []) ∧ (e.fuse = 0) ∧ ((q.head + 1) % q.size = q.tail) ∧ (q.id ≠ 0) ∧ (e.op = 0) ∧ (ioStatus s e 0 0 false = 0) ∧ (s.recorder.dirty = []) := by decide +kernel

theorem test_NvmeCommandsComplete_5_write_meets :
  let q := ({ id := 1, base := 4096, size := 4, cq := 1, prio := 0, head := 0, tail := 1 } : NvmeSq)
  let k := 0
  let e := ({ op := 1, fuse := 0, cid := 9, nsid := 1, prp1 := 12288, prp2 := 0, d10 := 0, d11 := 0, d12 := 0, d13 := 0 } : Sqe)
  let c := ({ id := 1, base := 8192, size := 4, vector := 1, ien := true } : NvmeCq)
  let s := { st [(hdrCtrl (pg 13 0), 1#32), (R.REC_DIRTY_LIMIT, 0x2000#32)] with hostMem := [(4096, 1#8), (4098, 9#8), (4100, 1#8), (4121, 48#8)], recorder := { nvme := { cc := 1#32, ready := true, sqs := [({ id := 1, base := 4096, size := 4, cq := 1, prio := 0, head := 0, tail := 1 } : NvmeSq)], cqs := [({ id := 1, base := 8192, size := 4, vector := 1, ien := true } : NvmeCq)] }, ns := [{ nsid := 1, start := 0, sectors := 262144, attached := true }] } }
  (nvmeNext s = some (q, k, e)) ∧ ((nv s).sqs = [q]) ∧ (q.aborted = []) ∧ ((nv s).cmds = []) ∧ (s.recorder.ops = []) ∧ ((nv s).aers = []) ∧ (cqOf s q.cq = some c) ∧ (c.waiting = []) ∧ ((c.tail + 1) % c.size ≠ c.head) ∧ (rbit s R.CNT_PS_CTRL 0 = false) ∧ (s.cnt.open_ = []) ∧ (e.fuse = 0) ∧ ((q.head + 1) % q.size = q.tail) ∧ (q.id ≠ 0) ∧ (e.op = 1) ∧ (ioStatus s e (lbaOf e) (nlb e) true = 0) ∧ (arrayState s ≠ 4) ∧ (writeFits s (sectorBytes * nlb e) = true) ∧ (cacheOn s = true) := by decide +kernel

theorem test_NvmeCommandsComplete_6_write_meets :
  let q := ({ id := 1, base := 4096, size := 4, cq := 1, prio := 0, head := 0, tail := 1 } : NvmeSq)
  let k := 0
  let e := ({ op := 1, fuse := 0, cid := 9, nsid := 1, prp1 := 12288, prp2 := 0, d10 := 0, d11 := 0, d12 := 0, d13 := 0 } : Sqe)
  let c := ({ id := 1, base := 8192, size := 4, vector := 1, ien := true } : NvmeCq)
  let s := { st [(hdrCtrl (pg 13 0), 1#32)] with hostMem := [(4096, 1#8), (4098, 9#8), (4100, 1#8), (4121, 48#8)], recorder := { nvme := { cc := 1#32, ready := true, sqs := [({ id := 1, base := 4096, size := 4, cq := 1, prio := 0, head := 0, tail := 1 } : NvmeSq)], cqs := [({ id := 1, base := 8192, size := 4, vector := 1, ien := true } : NvmeCq)] }, ns := [{ nsid := 1, start := 0, sectors := 262144, attached := true }], dirty := [{ v := 9, slot := 0, order := 0 }] } }
  (nvmeNext s = some (q, k, e)) ∧ ((nv s).sqs = [q]) ∧ (q.aborted = []) ∧ ((nv s).cmds = []) ∧ (s.recorder.ops = []) ∧ ((nv s).aers = []) ∧ (cqOf s q.cq = some c) ∧ (c.waiting = []) ∧ ((c.tail + 1) % c.size ≠ c.head) ∧ (rbit s R.CNT_PS_CTRL 0 = false) ∧ (s.cnt.open_ = []) ∧ (e.fuse = 0) ∧ ((q.head + 1) % q.size = q.tail) ∧ (q.id ≠ 0) ∧ (e.op = 1) ∧ (ioStatus s e (lbaOf e) (nlb e) true = 0) ∧ (arrayState s ≠ 4) ∧ (writeFits s (sectorBytes * nlb e) = false) := by decide +kernel

theorem test_NvmeCommandsComplete_7_writeAdmit_meets :
  let q := ({ id := 1, base := 4096, size := 4, cq := 1, prio := 0, head := 0, tail := 1 } : NvmeSq)
  let k := 0
  let e := ({ op := 1, fuse := 0, cid := 9, nsid := 1, prp1 := 12288, prp2 := 0, d10 := 0, d11 := 0, d12 := 0, d13 := 0 } : Sqe)
  let c := ({ id := 1, base := 8192, size := 4, vector := 1, ien := true } : NvmeCq)
  let x := ({ id := 0, sq := 2, cid := 7, op := 1, nsid := 1, v := 0, n := 1, prp1 := 0, prp2 := 0 } : NvmeCmd)
  let s := { st [(hdrCtrl (pg 13 0), 1#32), (R.REC_DIRTY_LIMIT, 0x2000#32)] with hostMem := [(4096, 1#8), (4098, 9#8), (4100, 1#8), (4121, 48#8)], recorder := { nvme := { cc := 1#32, ready := true, sqs := [({ id := 1, base := 4096, size := 4, cq := 1, prio := 0, head := 0, tail := 1 } : NvmeSq)], cqs := [({ id := 1, base := 8192, size := 4, vector := 1, ien := true } : NvmeCq)], writeWait := [{ id := 0, sq := 2, cid := 7, op := 1, nsid := 1, v := 0, n := 1, prp1 := 0, prp2 := 0 }] }, ns := [{ nsid := 1, start := 0, sectors := 262144, attached := true }] } }
  (nvmeNext s = some (q, k, e)) ∧ ((nv s).sqs = [q]) ∧ (q.aborted = []) ∧ ((nv s).cmds = []) ∧ (s.recorder.ops = []) ∧ ((nv s).aers = []) ∧ (cqOf s q.cq = some c) ∧ (c.waiting = []) ∧ ((c.tail + 1) % c.size ≠ c.head) ∧ (rbit s R.CNT_PS_CTRL 0 = false) ∧ (s.cnt.open_ = []) ∧ ((nv s).writeWait = [x]) ∧ (writeFits s (sectorBytes * x.n) = true) := by decide +kernel

theorem test_NvmeCommandsComplete_8_read_meets :
  let q := ({ id := 1, base := 4096, size := 4, cq := 1, prio := 0, head := 0, tail := 1 } : NvmeSq)
  let k := 0
  let e := ({ op := 2, fuse := 0, cid := 9, nsid := 1, prp1 := 12288, prp2 := 0, d10 := 0, d11 := 0, d12 := 0, d13 := 0 } : Sqe)
  let c := ({ id := 1, base := 8192, size := 4, vector := 1, ien := true } : NvmeCq)
  let d := ({ v := 0, slot := 1, order := 0 } : DirtySector)
  let s := { st [(hdrCtrl (pg 13 0), 1#32)] with hostMem := [(4096, 2#8), (4098, 9#8), (4100, 1#8), (4121, 48#8)], recorder := { nvme := { cc := 1#32, ready := true, sqs := [({ id := 1, base := 4096, size := 4, cq := 1, prio := 0, head := 0, tail := 1 } : NvmeSq)], cqs := [({ id := 1, base := 8192, size := 4, vector := 1, ien := true } : NvmeCq)] }, ns := [{ nsid := 1, start := 0, sectors := 262144, attached := true }], dirty := [{ v := 0, slot := 1, order := 0 }] }, mem := [(4100, 9#8)] }
  (nvmeNext s = some (q, k, e)) ∧ ((nv s).sqs = [q]) ∧ (q.aborted = []) ∧ ((nv s).cmds = []) ∧ (s.recorder.ops = []) ∧ ((nv s).aers = []) ∧ (cqOf s q.cq = some c) ∧ (c.waiting = []) ∧ ((c.tail + 1) % c.size ≠ c.head) ∧ (rbit s R.CNT_PS_CTRL 0 = false) ∧ (s.cnt.open_ = []) ∧ (e.fuse = 0) ∧ ((q.head + 1) % q.size = q.tail) ∧ (q.id ≠ 0) ∧ (e.op = 2) ∧ (ioStatus s e (lbaOf e) (nlb e) true = 0) ∧ (nlb e = 1) ∧ (dirtyOf s (cmdFor s q e (nlb e)).v = some d) ∧ (memPoisoned s false sectorBytes (dirtyAddr s d.slot) = false) ∧ (e.prp1 % 4096 = 0) ∧ ((c.base + 16 * c.tail + 16 ≤ e.prp1 ∨ e.prp1 + 4096 ≤ c.base + 16 * c.tail)) := by decide +kernel

set_option maxRecDepth 100000 in
theorem test_NvmeCommandsComplete_9_compare_meets :
  let q := ({ id := 1, base := 4096, size := 4, cq := 1, prio := 0, head := 0, tail := 1 } : NvmeSq)
  let k := 0
  let e := ({ op := 5, fuse := 0, cid := 9, nsid := 1, prp1 := 12288, prp2 := 0, d10 := 0, d11 := 0, d12 := 0, d13 := 0 } : Sqe)
  let c := ({ id := 1, base := 8192, size := 4, vector := 1, ien := true } : NvmeCq)
  let d := ({ v := 0, slot := 1, order := 0 } : DirtySector)
  let s := { st [(hdrCtrl (pg 13 0), 1#32)] with hostMem := [(4096, 5#8), (4098, 9#8), (4100, 1#8), (4121, 48#8)], recorder := { nvme := { cc := 1#32, ready := true, sqs := [({ id := 1, base := 4096, size := 4, cq := 1, prio := 0, head := 0, tail := 1 } : NvmeSq)], cqs := [({ id := 1, base := 8192, size := 4, vector := 1, ien := true } : NvmeCq)] }, ns := [{ nsid := 1, start := 0, sectors := 262144, attached := true }], dirty := [{ v := 0, slot := 1, order := 0 }] } }
  (nvmeNext s = some (q, k, e)) ∧ ((nv s).sqs = [q]) ∧ (q.aborted = []) ∧ ((nv s).cmds = []) ∧ (s.recorder.ops = []) ∧ ((nv s).aers = []) ∧ (cqOf s q.cq = some c) ∧ (c.waiting = []) ∧ ((c.tail + 1) % c.size ≠ c.head) ∧ (rbit s R.CNT_PS_CTRL 0 = false) ∧ (s.cnt.open_ = []) ∧ (e.fuse = 0) ∧ ((q.head + 1) % q.size = q.tail) ∧ (q.id ≠ 0) ∧ (e.op = 5) ∧ (ioStatus s e (lbaOf e) (nlb e) true = 0) ∧ (nlb e = 1) ∧ (dirtyOf s (cmdFor s q e (nlb e)).v = some d) ∧ (memPoisoned s false sectorBytes (dirtyAddr s d.slot) = false) ∧ (hostGather s e.prp1 e.prp2 sectorBytes = dirtyData s d) := by
  refine ⟨?_, ?_, ?_, ?_, ?_, ?_, ?_, ?_, ?_, ?_, ?_, ?_, ?_, ?_, ?_, ?_, ?_, ?_, ?_, ?_⟩ <;> first | decide +kernel | rfl

theorem test_NvmeCommandsComplete_10_compareAndWrite_meets :
  let q := ({ id := 1, base := 4096, size := 4, cq := 1, prio := 0, head := 0, tail := 2 } : NvmeSq)
  let k := 0
  let e := ({ op := 5, fuse := 1, cid := 9, nsid := 1, prp1 := 12288, prp2 := 0, d10 := 0, d11 := 0, d12 := 0, d13 := 0 } : Sqe)
  let c := ({ id := 1, base := 8192, size := 4, vector := 1, ien := true } : NvmeCq)
  let y := ({ op := 1, fuse := 2, cid := 10, nsid := 1, prp1 := 16384, prp2 := 0, d10 := 0, d11 := 0, d12 := 0, d13 := 0 } : Sqe)
  let s := { st [(hdrCtrl (pg 13 0), 1#32), (R.REC_MEDIA_MAP, 0x43210#32)] with hostMem := [(4096, 5#8), (4097, 1#8), (4098, 9#8), (4100, 1#8), (4121, 48#8), (4160, 1#8), (4161, 2#8), (4162, 10#8), (4164, 1#8), (4185, 64#8)], recorder := { nvme := { cc := 1#32, ready := true, sqs := [({ id := 1, base := 4096, size := 4, cq := 1, prio := 0, head := 0, tail := 2 } : NvmeSq)], cqs := [({ id := 1, base := 8192, size := 4, vector := 1, ien := true } : NvmeCq)] }, ns := [{ nsid := 1, start := 0, sectors := 262144, attached := true }] } }
  (nvmeNext s = some (q, k, e)) ∧ ((nv s).sqs = [q]) ∧ (q.aborted = []) ∧ ((nv s).cmds = []) ∧ (s.recorder.ops = []) ∧ ((nv s).aers = []) ∧ (cqOf s q.cq = some c) ∧ (c.waiting = []) ∧ ((c.tail + 1) % c.size ≠ c.head) ∧ (rbit s R.CNT_PS_CTRL 0 = false) ∧ (s.cnt.open_ = []) ∧ (q.id ≠ 0) ∧ (e.op = 5) ∧ (e.fuse = 1) ∧ (1 < (sqSlots q).length) ∧ (y = sqeAt s q ((q.head + 1) % q.size)) ∧ (y.op = 1) ∧ (y.fuse = 2) ∧ (e.nsid = y.nsid) ∧ (lbaOf e = lbaOf y) ∧ (nlb e = 1) ∧ (nlb y = 1) ∧ (ioStatus s e (lbaOf e) 1 true = 0) ∧ (arrayState s = 0) ∧ (s.recorder.lost = []) ∧ ((∀ m : Fin 4, memberPort s m < 5)) ∧ (dirtyOf s (cmdFor s q e (nlb e)).v = none) := by decide +kernel

theorem test_NvmeCommandsComplete_11_writeZeroes_meets :
  let q := ({ id := 1, base := 4096, size := 4, cq := 1, prio := 0, head := 0, tail := 1 } : NvmeSq)
  let k := 0
  let e := ({ op := 8, fuse := 0, cid := 9, nsid := 1, prp1 := 0, prp2 := 0, d10 := 0, d11 := 0, d12 := 0, d13 := 0 } : Sqe)
  let c := ({ id := 1, base := 8192, size := 4, vector := 1, ien := true } : NvmeCq)
  let s := { st [(hdrCtrl (pg 13 0), 1#32)] with hostMem := [(4096, 8#8), (4098, 9#8), (4100, 1#8)], recorder := { nvme := { cc := 1#32, ready := true, sqs := [({ id := 1, base := 4096, size := 4, cq := 1, prio := 0, head := 0, tail := 1 } : NvmeSq)], cqs := [({ id := 1, base := 8192, size := 4, vector := 1, ien := true } : NvmeCq)] }, ns := [{ nsid := 1, start := 0, sectors := 262144, attached := true }], dirty := [{ v := 0, slot := 1, order := 0 }] } }
  (nvmeNext s = some (q, k, e)) ∧ ((nv s).sqs = [q]) ∧ (q.aborted = []) ∧ ((nv s).cmds = []) ∧ (s.recorder.ops = []) ∧ ((nv s).aers = []) ∧ (cqOf s q.cq = some c) ∧ (c.waiting = []) ∧ ((c.tail + 1) % c.size ≠ c.head) ∧ (rbit s R.CNT_PS_CTRL 0 = false) ∧ (s.cnt.open_ = []) ∧ (e.fuse = 0) ∧ ((q.head + 1) % q.size = q.tail) ∧ (q.id ≠ 0) ∧ (e.op = 8) ∧ (ioStatus s e (lbaOf e) (nlb e) false = 0) ∧ (arrayState s ≠ 4) := by decide +kernel

theorem test_NvmeCommandsComplete_12_datasetManagement_meets :
  let q := ({ id := 1, base := 4096, size := 4, cq := 1, prio := 0, head := 0, tail := 1 } : NvmeSq)
  let k := 0
  let e := ({ op := 9, fuse := 0, cid := 9, nsid := 1, prp1 := 12288, prp2 := 0, d10 := 0, d11 := 4, d12 := 0, d13 := 0 } : Sqe)
  let c := ({ id := 1, base := 8192, size := 4, vector := 1, ien := true } : NvmeCq)
  let a := 1
  let s := { st [(hdrCtrl (pg 13 0), 1#32), (R.REC_MEDIA_MAP, 0x43210#32)] with hostMem := [(4096, 9#8), (4098, 9#8), (4100, 1#8), (4121, 48#8), (4140, 4#8), (12293, 4#8), (12296, 5#8)], recorder := { nvme := { cc := 1#32, ready := true, sqs := [({ id := 1, base := 4096, size := 4, cq := 1, prio := 0, head := 0, tail := 1 } : NvmeSq)], cqs := [({ id := 1, base := 8192, size := 4, vector := 1, ien := true } : NvmeCq)] }, ns := [{ nsid := 1, start := 0, sectors := 262144, attached := true }] } }
  (nvmeNext s = some (q, k, e)) ∧ ((nv s).sqs = [q]) ∧ (q.aborted = []) ∧ ((nv s).cmds = []) ∧ (s.recorder.ops = []) ∧ ((nv s).aers = []) ∧ (cqOf s q.cq = some c) ∧ (c.waiting = []) ∧ ((c.tail + 1) % c.size ≠ c.head) ∧ (rbit s R.CNT_PS_CTRL 0 = false) ∧ (s.cnt.open_ = []) ∧ (e.fuse = 0) ∧ ((q.head + 1) % q.size = q.tail) ∧ (q.id ≠ 0) ∧ (e.op = 9) ∧ (e.d10 % 256 = 0) ∧ (e.d11 = 4) ∧ (ioStatus s e (leNat (((hostGather s e.prp1 e.prp2 16).drop 8).take 8)) (leNat (((hostGather s e.prp1 e.prp2 16).drop 4).take 4)) false = 0) ∧ (a = ((cmdFor s q { e with d10 := 0, d11 := 0 } 0).v + leNat (((hostGather s e.prp1 e.prp2 16).drop 8).take 8) + 191) / 192) ∧ (a < ((cmdFor s q { e with d10 := 0, d11 := 0 } 0).v + leNat (((hostGather s e.prp1 e.prp2 16).drop 8).take 8) + leNat (((hostGather s e.prp1 e.prp2 16).drop 4).take 4)) / 192) := by decide +kernel

theorem test_RecorderCommandsAct_1_mediaCommandCompletion_meets :
  let port := (1 : Fin 5)
  let tag := 5
  let data := ([] : List Byte)
  let o := ({ why := .read 3 0, stripe := 2, row := 1, unit := 0, phase := 0, wants := [(5, 1, 0), (6, 2, 1)] } : RecOp)
  let s := { st [] with recorder := { ops := [{ why := .read 3 0, stripe := 2, row := 1, unit := 0, phase := 0, wants := [(5, 1, 0), (6, 2, 1)] }] } }
  ((s.recorder.ops.find? fun (x : RecOp) => x.wants.any fun (w : Nat × Nat × Nat) => w.1 == tag && w.2.1 == port.val) = some o) ∧ (o.phase ≠ 3) ∧ ((o.wants.filter fun (w : Nat × Nat × Nat) => w.1 != tag) ≠ []) := by decide +kernel

theorem test_RecorderCommandsAct_2_mediaFail_meets :
  let port := (1 : Fin 5)
  let m := 1
  let s := { st [(R.REC_MEDIA_MAP, 0x43210#32)] with recorder := {  } }
  (arrayState s = 0) ∧ ((lowest 4 fun k => memberPort s k == port.val) = some m) ∧ (s.recorder.lost.contains m = false) := by decide +kernel

theorem test_RecorderCommandsAct_4_mediaForce_meets :
  let who := Requester.host
  let v := 0x102#32
  let s := { st [(R.REC_MEDIA_MAP, 0x43210#32), (R.REC_PORT_STATE 4, 2#32)] with recorder := {  } }
  (rbit s R.CNT_PS_CTRL 1 = false) ∧ (pageTakes R.REC_MEDIA_FORCE s = true) ∧ (bitAt v 8 = true) ∧ (getBits v 2 0 ≤ 3) ∧ (arrayState s = 0) ∧ (spareReady s = true) := by decide +kernel

theorem test_RecorderCommandsAct_5_mediaMigrationStep_meets :
  let s := { st [(R.REC_MEDIA_MAP, 0x43210#32), (R.REC_ARRAY_STATE, 0x11#32)] with recorder := { caps := [60000000, 60000000, 60000000, 60000000, 60000000] }, leaveGrants := [{ n := 24, at_ := 0, ramp := 0 }] }
  (granted s 24 = true) ∧ ((arrayState s = 1 ∨ arrayState s = 3)) ∧ (s.recorder.ops = []) ∧ (s.recorder.pointer + 1 < arrayStripes s) := by decide +kernel

theorem test_RecorderCommandsAct_6_mediaRetiredClear_meets :
  let who := Requester.host
  let v := 2#32
  let p := 1
  let s := { st [(R.REC_MEDIA_RETIRED, 2#32), (R.REC_PORT_STATE 1, 4#32)] with recorder := {  } }
  (rbit s R.CNT_PS_CTRL 1 = false) ∧ (pageTakes R.REC_MEDIA_RETIRED s = true) ∧ (p < 5) ∧ (rbit s R.REC_MEDIA_RETIRED p = true) ∧ (bitAt v p = true) ∧ (portState_ s p = 4) := by decide +kernel

theorem test_RecorderCommandsAct_7_mediaPortUp_meets :
  let port := (1 : Fin 5)
  let n := 1000
  let u := 3#8
  let e := 9#16
  let m := 1
  let s := { st [(R.REC_MEDIA_MAP, 0x43210#32)] with recorder := {  } }
  (rbit s R.REC_MEDIA_RETIRED port = false) ∧ ((lowest 4 fun k => memberPort s k == port.val) = some m) ∧ (portState_ s port = 0) ∧ (s.recorder.lost.contains m = false) ∧ (s.recorder.caps.length = 5) := by decide +kernel

theorem test_RecorderCommandsAct_8_drain_meets :
  let d := ({ v := 65, slot := 0, order := 0 } : DirtySector)
  let s := { st [(R.REC_MEDIA_MAP, 0x43210#32)] with recorder := { dirty := [{ v := 65, slot := 0, order := 0 }] } }
  (arrayState s = 0) ∧ (s.recorder.flushing = false) ∧ (s.recorder.lost = []) ∧ ((∀ m : Fin 4, memberPort s m < 5)) ∧ (oldestDirty s = some d) ∧ (memPoisoned s false sectorBytes (dirtyAddr s d.slot) = false) ∧ ((rowDirty s (stripeOf d.v) (rowOf d.v)).length ≠ 3) := by decide +kernel

theorem test_RecorderCommandsAct_9_clipArm_meets :
  let who := Requester.host
  let v := 3#32
  let s := { st [(R.REC_CLIP_START, 7#32)] with recorder := {  } }
  (rbit s R.CNT_PS_CTRL 1 = false) ∧ (pageTakes R.REC_CLIP_CTRL s = true) ∧ (bitAt v 1 = true) ∧ (s.recorder.starts.length = 2) := by decide +kernel

theorem test_RecorderCommandsAct_10_clipStop_meets :
  let who := Requester.host
  let v := 5#32
  let s := { st [(R.REC_CLIP_STOP, 7#32)] with recorder := {  } }
  (rbit s R.CNT_PS_CTRL 1 = false) ∧ (pageTakes R.REC_CLIP_CTRL s = true) ∧ (bitAt v 2 = true) ∧ (s.recorder.stops.length = 2) := by decide +kernel

theorem test_AxisCommandsAct_1_currentLoopTick_meets :
  let u := [true, false]
  let v := [false, true, true]
  let a := (0 : Fin 8)
  let s := { st [(hdrCtrl (pg 14 0), 1#32), (R.MOT_AX_STATE 0, 1#32)] with mot := [{ pwmOn := true }, {}, {}, {}, {}, {}, {}, {}], inUse := [], leaveGrants := [{ n := 28, at_ := 0, ramp := 0 }] }
  (s.mot.length = 8) ∧ (motThere s = true) ∧ (motRuns (currentBits a u v s) = true) ∧ ((motAx (currentBits a u v s) a).pwmOn = true) := by decide +kernel

theorem test_AxisCommandsAct_2_velocityTick_meets :
  let a := (0 : Fin 8)
  let s := { st [(hdrCtrl (pg 14 0), 1#32), (R.MOT_AX_STATE 0, 1#32), (R.MOT_AX_POS 0, 5#32)] with mot := [{}, {}, {}, {}, {}, {}, {}, {}], inUse := [], leaveGrants := [{ n := 28, at_ := 0, ramp := 0 }] }
  (s.mot.length = 8) ∧ (motThere s = true) ∧ (motRuns s = true) := by decide +kernel

theorem test_AxisCommandsAct_3_positionTick_meets :
  let a := (0 : Fin 8)
  let s := { st [(hdrCtrl (pg 14 0), 1#32), (R.MOT_AX_STATE 0, 1#32)] with mot := [{ illegal := 3 }, {}, {}, {}, {}, {}, {}, {}], inUse := [], leaveGrants := [{ n := 28, at_ := 0, ramp := 0 }] }
  (s.mot.length = 8) ∧ (motThere s = true) ∧ (motRuns s = true) := by decide +kernel

theorem test_AxisCommandsAct_4_serialReadDone_meets :
  let raw := 0#48
  let crc := 0#8
  let stamp := 77
  let a := (0 : Fin 8)
  let s := { st [(hdrCtrl (pg 14 0), 1#32)] with mot := [{ serFails := 1 }, {}, {}, {}, {}, {}, {}, {}], inUse := [(R.MOT_AX_CFG 0, 8#32)], leaveGrants := [{ n := 28, at_ := 0, ramp := 0 }] }
  (s.mot.length = 8) ∧ (motThere s = true) ∧ (serialKind s a = some 2) ∧ (crc8 (bitsDown (ufld s (R.MOT_AX_ENC a) 9 4) (raw.toNat % 2 ^ ufld s (R.MOT_AX_ENC a) 9 4) ++ [false, false]) = crc.toNat) := by decide +kernel

theorem test_AxisCommandsAct_5_qeiEdge_meets :
  let x := true
  let y := false
  let a := (0 : Fin 8)
  let s := { st [(hdrCtrl (pg 14 0), 1#32)] with mot := [{}, {}, {}, {}, {}, {}, {}, {}], inUse := [], leaveGrants := [{ n := 28, at_ := 0, ramp := 0 }] }
  (s.mot.length = 8) ∧ (motThere s = true) ∧ (axSource s a = 0) ∧ ((quadPhase x y + 4 - quadPhase (motAx s a).qa (motAx s a).qb) % 4 = 1) := by decide +kernel

theorem test_AxisCommandsAct_6_indexEdge_meets :
  let a := (0 : Fin 8)
  let s := { st [(hdrCtrl (pg 14 0), 1#32)] with mot := [{}, {}, {}, {}, {}, {}, {}, {}], inUse := [], leaveGrants := [{ n := 28, at_ := 0, ramp := 0 }] }
  (s.mot.length = 8) ∧ (motThere s = true) := by decide +kernel

theorem test_AxisCommandsAct_7_gateFault_meets :
  let a := (0 : Fin 8)
  let s := { st [(hdrCtrl (pg 14 0), 1#32), (R.MOT_AX_STATE 0, 1#32)] with mot := [{ en := true }, {}, {}, {}, {}, {}, {}, {}], inUse := [], leaveGrants := [{ n := 28, at_ := 0, ramp := 0 }] }
  (s.mot.length = 8) ∧ (motThere s = true) ∧ (axState s a ≠ 0) ∧ (rbit s (R.MOT_AX_FAULT a) 0 = false) := by decide +kernel

theorem test_AxisCommandsAct_8_dsmLost_meets :
  let c := (2 : Fin 36)
  let a := (0 : Fin 8)
  let s := { st [(hdrCtrl (pg 14 0), 1#32)] with mot := [{}, {}, {}, {}, {}, {}, {}, {}], inUse := [], leaveGrants := [{ n := 28, at_ := 0, ramp := 0 }] }
  (s.mot.length = 8) ∧ (motThere s = true) ∧ (c.val < 32) := by decide +kernel

theorem test_AxisCommandsAct_9_offsetCalDone_meets :
  let x := (2048 : Int)
  let y := (1024 : Int)
  let a := (0 : Fin 8)
  let s := { st [(hdrCtrl (pg 14 0), 1#32), (R.MOT_AX_STATE 0, 1#32)] with mot := [{ cal := some (1024, 2048, 1024, 1024) }, {}, {}, {}, {}, {}, {}, {}], inUse := [], leaveGrants := [{ n := 28, at_ := 0, ramp := 0 }] }
  (s.mot.length = 8) ∧ (motThere s = true) ∧ ((motAx s a).cal = some (1024, x, 1024, y)) := by decide +kernel

theorem test_AxisCommandsAct_10_voltLimit_meets :
  let a := (0 : Fin 8)
  let s := { st [(hdrCtrl (pg 14 0), 1#32), (R.MOT_AX_STATE 0, 0x101#32)] with mot := [{ pwmOn := true, limitedAt := some 0 }, {}, {}, {}, {}, {}, {}, {}], inUse := [(R.MOT_AX_TIMES 0, 0x100002#32)], leaveGrants := [{ n := 28, at_ := 0, ramp := 0 }], now := 2000000 }
  (s.mot.length = 8) ∧ (motThere s = true) ∧ (axState s a = 1) ∧ (rbit s (R.MOT_AX_STATE a) 8 = true) ∧ (lasted s (motAx s a).limitedAt (ufld s (R.MOT_AX_TIMES a) 15 0) = true) ∧ (rbit s (R.MOT_AX_FAULT a) 5 = false) := by decide +kernel

theorem test_AxisCommandsAct_11_obsLost_meets :
  let a := (0 : Fin 8)
  let s := { st [(hdrCtrl (pg 14 0), 1#32), (R.MOT_AX_STATE 0, 1#32)] with mot := [{ pwmOn := true, badQuad := true, doubtAt := some 1 }, {}, {}, {}, {}, {}, {}, {}], inUse := [(R.MOT_AX_CFG 0, 20#32), (R.MOT_AX_OBS 0, 0x340#32)], leaveGrants := [{ n := 28, at_ := 0, ramp := 0 }], now := 3000001 }
  (s.mot.length = 8) ∧ (motThere s = true) ∧ (axState s a = 1) ∧ (axSource s a = 5) ∧ (lasted s (motAx s a).doubtAt (ufld s (R.MOT_AX_OBS a) 15 8) = true) ∧ (kindGood (motAx s a) (ufld s (R.MOT_AX_CFG a) 7 5) = false) := by decide +kernel

theorem test_AxisCommandsAct_12_reacqPulse_meets :
  let angle := 9#16
  let a := (0 : Fin 8)
  let s := { st [(hdrCtrl (pg 14 0), 1#32), (R.MOT_AX_STATE 0, 3#32)] with mot := [{ reacq := true }, {}, {}, {}, {}, {}, {}, {}], inUse := [(R.MOT_AX_OBS 0, 0x840000#32)], leaveGrants := [{ n := 28, at_ := 0, ramp := 0 }] }
  (s.mot.length = 8) ∧ (motThere s = true) ∧ (axState s a = 3) ∧ (ubit s (R.MOT_AX_OBS a) 23 = true) ∧ ((motAx s a).angles = []) := by decide +kernel

theorem test_AxisCommandsAct_13_reacqFail_meets :
  let a := (0 : Fin 8)
  let s := { st [(hdrCtrl (pg 14 0), 1#32), (R.MOT_AX_STATE 0, 3#32)] with mot := [{ reacq := true, openedAt := 5 }, {}, {}, {}, {}, {}, {}, {}], inUse := [(R.MOT_AX_TIMES 0, 0x10000#32)], leaveGrants := [{ n := 28, at_ := 0, ramp := 0 }], now := 1000005 }
  (s.mot.length = 8) ∧ (motThere s = true) ∧ ((motAx s a).reacq = true) ∧ (lasted s (some (motAx s a).openedAt) (brakeDelay s a) = true) := by decide +kernel

theorem test_AxisCommandsAct_14_brakeDelay_meets :
  let a := (0 : Fin 8)
  let s := { st [(hdrCtrl (pg 14 0), 1#32), (R.MOT_AX_STATE 0, 4#32), (R.MOT_BRK_STATE, 0#32)] with mot := [{ brakeDue := true, heldAt := 7 }, {}, {}, {}, {}, {}, {}, {}], inUse := [(R.MOT_AX_TIMES 0, 0x10000#32)], leaveGrants := [{ n := 28, at_ := 0, ramp := 0 }], now := 1000007 }
  (s.mot.length = 8) ∧ (motThere s = true) ∧ (axState s a = 4) ∧ ((motAx s a).brakeDue = true) ∧ (lasted s (some (motAx s a).heldAt) (brakeDelay s a) = true) := by decide +kernel

theorem test_AxisCommandsAct_15_cmdRun_meets :
  let who := Requester.host
  let a := (0 : Fin 8)
  let s := { st [(hdrCtrl (pg 14 0), 1#32)] with mot := [{}, {}, {}, {}, {}, {}, {}, {}], inUse := [], leaveGrants := [{ n := 28, at_ := 0, ramp := 0 }] }
  (s.mot.length = 8) ∧ (motThere s = true) ∧ (rbit s R.CNT_PS_CTRL 1 = false) ∧ (pageTakes (R.MOT_AX_CMD a) s = true) ∧ (axFault s a = 0#32) ∧ (motRuns s = true) ∧ ((axState s a = 0 ∨ axState s a = 4)) := by decide +kernel

theorem test_AxisCommandsAct_16_cmdHold_meets :
  let who := Requester.host
  let a := (0 : Fin 8)
  let s := { st [(hdrCtrl (pg 14 0), 1#32), (R.MOT_AX_STATE 0, 1#32)] with mot := [{ en := true, pwmOn := true }, {}, {}, {}, {}, {}, {}, {}], inUse := [], leaveGrants := [{ n := 28, at_ := 0, ramp := 0 }] }
  (s.mot.length = 8) ∧ (motThere s = true) ∧ (rbit s R.CNT_PS_CTRL 1 = false) ∧ (pageTakes (R.MOT_AX_CMD a) s = true) ∧ (axState s a ≠ 0) ∧ (axState s a ≠ 4) := by decide +kernel

theorem test_AxisCommandsAct_17_cmdOff_meets :
  let who := Requester.host
  let a := (0 : Fin 8)
  let s := { st [(hdrCtrl (pg 14 0), 1#32), (R.MOT_AX_STATE 0, 1#32)] with mot := [{ en := true, pwmOn := true }, {}, {}, {}, {}, {}, {}, {}], inUse := [], leaveGrants := [{ n := 28, at_ := 0, ramp := 0 }] }
  (s.mot.length = 8) ∧ (motThere s = true) ∧ (rbit s R.CNT_PS_CTRL 1 = false) ∧ (pageTakes (R.MOT_AX_CMD a) s = true) := by decide +kernel

theorem test_AxisCommandsAct_18_cmdAlign_meets :
  let who := Requester.host
  let a := (0 : Fin 8)
  let s := { st [(hdrCtrl (pg 14 0), 1#32)] with mot := [{ phase := 2 }, {}, {}, {}, {}, {}, {}, {}], inUse := [], leaveGrants := [{ n := 28, at_ := 0, ramp := 0 }] }
  (s.mot.length = 8) ∧ (motThere s = true) ∧ (rbit s R.CNT_PS_CTRL 1 = false) ∧ (pageTakes (R.MOT_AX_CMD a) s = true) ∧ (axFault s a = 0#32) ∧ (motRuns s = true) ∧ ((axState s a = 0 ∨ axState s a = 4)) := by decide +kernel

theorem test_AxisCommandsAct_19_alignPhaseEnd_meets :
  let a := (0 : Fin 8)
  let s := { st [(hdrCtrl (pg 14 0), 1#32), (R.MOT_AX_STATE 0, 2#32), (R.MOT_AX_POS 0, 6#32)] with mot := [{ phase := 1, phaseAt := 3 }, {}, {}, {}, {}, {}, {}, {}], inUse := [], leaveGrants := [{ n := 28, at_ := 0, ramp := 0 }], now := 100000003 }
  (s.mot.length = 8) ∧ (motThere s = true) ∧ (axState s a = 2) ∧ ((motAx s a).phase = 1) ∧ (lasted s (some (motAx s a).phaseAt) 100 = true) := by decide +kernel

theorem test_AxisCommandsAct_20_setpointPush_meets :
  let who := Requester.host
  let v := 1#32
  let a := (0 : Fin 8)
  let s := { st [(hdrCtrl (pg 14 0), 1#32), (R.MOT_AX_SP_TIME 0, 9#32)] with mot := [{ lastPush := some 9 }, {}, {}, {}, {}, {}, {}, {}], inUse := [], leaveGrants := [{ n := 28, at_ := 0, ramp := 0 }] }
  (s.mot.length = 8) ∧ (motThere s = true) ∧ (rbit s R.CNT_PS_CTRL 1 = false) ∧ (pageTakes (R.MOT_AX_SP_PUSH a) s = true) ∧ (bitAt v 0 = true) ∧ ((motAx s a).queue.length < 16) ∧ (((motAx s a).lastPush.all fun l => decide (l ≤ rlong s (R.MOT_AX_SP_TIME a))) = true) := by decide +kernel

theorem test_AxisCommandsAct_21_latchArm_meets :
  let who := Requester.host
  let v := 5#32
  let a := (0 : Fin 8)
  let s := { st [(hdrCtrl (pg 14 0), 1#32)] with mot := [{}, {}, {}, {}, {}, {}, {}, {}], inUse := [], leaveGrants := [{ n := 28, at_ := 0, ramp := 0 }] }
  (s.mot.length = 8) ∧ (motThere s = true) ∧ (pageTakes (R.MOT_AX_LATCH_CTRL a) s = true) ∧ (bitAt v 2 = true) := by decide +kernel

theorem test_AxisCommandsAct_22_latchAt_meets :
  let a := (0 : Fin 8)
  let s := { st [(hdrCtrl (pg 14 0), 1#32), (R.MOT_AX_LATCH_CTRL 0, 1#32), (R.MOT_AX_POS 0, 3#32)] with mot := [{ armed := true }, {}, {}, {}, {}, {}, {}, {}], inUse := [], leaveGrants := [{ n := 28, at_ := 0, ramp := 0 }] }
  (s.mot.length = 8) ∧ (motThere s = true) ∧ (motRuns s = true) ∧ ((motAx s a).armed = true) ∧ (rfld s (R.MOT_AX_LATCH_CTRL a) 1 0 = 1) ∧ (rlong s (R.MOT_AX_LATCH_AT a) ≤ merNow s) := by decide +kernel

theorem test_AxisCommandsAct_23_faultClear_meets :
  let who := Requester.host
  let v := 0x1FF#32
  let a := (0 : Fin 8)
  let s := { st [(hdrCtrl (pg 14 0), 1#32), (R.MOT_AX_FAULT 0, 0x101#32)] with mot := [{ gateLow := true }, {}, {}, {}, {}, {}, {}, {}], inUse := [], leaveGrants := [{ n := 28, at_ := 0, ramp := 0 }] }
  (s.mot.length = 8) ∧ (motThere s = true) ∧ (rbit s R.CNT_PS_CTRL 1 = false) ∧ (pageTakes (R.MOT_AX_FAULT a) s = true) := by decide +kernel

theorem test_AxisCommandsAct_24_filterOutput_meets :
  let c := (33 : Fin 36)
  let b := true
  let a := (0 : Fin 8)
  let s := { st [(hdrCtrl (pg 14 0), 1#32), (R.MOT_AX_STATE 0, 1#32)] with mot := [{}, {}, {}, {}, {}, {}, {}, {}], inUse := [], leaveGrants := [{ n := 28, at_ := 0, ramp := 0 }], sinc := (List.replicate 33 ({} : Sinc) ++ { count := 255, i1 := 3, i2 := 5, i3 := 9, last := true } :: List.replicate 2 ({} : Sinc)), now := 5 }
  (s.mot.length = 8) ∧ (motThere s = true) ∧ (32 ≤ c.val) ∧ (dsmOsr s ≤ (sincClock b (nth {} s.sinc c)).count) := by decide +kernel

theorem test_AxisCommandsAct_25_filterOutput_meets :
  let c := (0 : Fin 36)
  let b := false
  let a := (0 : Fin 8)
  let s := { st [(hdrCtrl (pg 14 0), 1#32), (R.MOT_AX_STATE 0, 1#32)] with mot := [{}, {}, {}, {}, {}, {}, {}, {}], inUse := [], leaveGrants := [{ n := 28, at_ := 0, ramp := 0 }], sinc := (List.replicate 0 ({} : Sinc) ++ { count := 255, i1 := 3, i2 := 5, i3 := 9, last := true } :: List.replicate 35 ({} : Sinc)), now := 5 }
  (s.mot.length = 8) ∧ (motThere s = true) ∧ (c.val < 32) ∧ (c.val % 4 = 0) ∧ (dsmOsr s ≤ (sincClock b (nth {} s.sinc c)).count) := by decide +kernel

theorem test_AxisCommandsAct_26_filterOutput_meets :
  let c := (2 : Fin 36)
  let bits := [true, false]
  let a := (0 : Fin 8)
  let s := { st [(hdrCtrl (pg 14 0), 1#32), (R.MOT_AX_STATE 0, 1#32)] with mot := [{}, {}, {}, {}, {}, {}, {}, {}], inUse := [], leaveGrants := [{ n := 28, at_ := 0, ramp := 0 }], sinc := (List.replicate 3 ({} : Sinc) ++ { count := 255, i1 := 3, i2 := 5, i3 := 9, last := true } :: List.replicate 32 ({} : Sinc)), now := 5 }
  (s.mot.length = 8) ∧ (motThere s = true) ∧ (s.sinc.length = 36) ∧ ((nth ({} : Sinc) s.sinc c).count + bits.length < dsmOsr s) := by decide +kernel

theorem test_AudioCommandsAct_1_audArm_meets :
  let who := Requester.host
  let v := 1#32
  let p := (0 : Fin 4)
  let s := { st [(hdrCtrl (pg 15 0), 1#32), (R.AUD_CTRL 0, 0x4000#32)] with aud := [{ begun := true }, {}, {}, {}], leaveGrants := [{ n := 29, at_ := 0, ramp := 0 }] }
  (s.aud.length = 4) ∧ (rbit s R.CNT_PS_CTRL 1 = false) ∧ (pageTakes (R.AUD_CMD p) s = true) ∧ (bitAt v 0 = true) ∧ (bitAt v 1 = false) ∧ (audArmed s p = false) ∧ (audConfigOk s p = true) := by decide +kernel

theorem test_AudioCommandsAct_2_audStop_meets :
  let who := Requester.host
  let v := 2#32
  let p := (0 : Fin 4)
  let s := { st [(hdrCtrl (pg 15 0), 1#32), (R.AUD_CMD 0, 4#32)] with aud := [{ begun := true }, {}, {}, {}], leaveGrants := [{ n := 29, at_ := 0, ramp := 0 }] }
  (s.aud.length = 4) ∧ (rbit s R.CNT_PS_CTRL 1 = false) ∧ (pageTakes (R.AUD_CMD p) s = true) ∧ (bitAt v 0 = false) ∧ (bitAt v 1 = true) ∧ (audArmed s p = true) := by decide +kernel

theorem test_AudioCommandsAct_3_audFrame_meets :
  let stamp := 10
  let bits := List.replicate 65 true
  let p := (0 : Fin 4)
  let s := { st [(hdrCtrl (pg 15 0), 1#32), (R.AUD_CMD 0, 4#32), (R.AUD_BLOCK 0, 4#32)] with aud := [{}, {}, {}, {}], leaveGrants := [{ n := 29, at_ := 0, ramp := 0 }] }
  (s.aud.length = 4) ∧ (audRuns s = true) ∧ (audArmed s p = true) ∧ ((audAt s p).begun = false) ∧ (audEarlyBy s p (audE s p stamp (rnat2 s (R.AUD_INDEX p))) = false) := by decide +kernel

theorem test_AudioCommandsAct_4_audClockLoss_meets :
  let p := (0 : Fin 4)
  let s := { st [(hdrCtrl (pg 15 0), 1#32), (R.AUD_CMD 0, 4#32)] with aud := [{}, {}, {}, {}], leaveGrants := [{ n := 29, at_ := 0, ramp := 0 }] }
  (s.aud.length = 4) ∧ (audRuns s = true) ∧ (audArmed s p = true) ∧ (pageThere s (audPage p) = true) ∧ (rbit s (hdrIntStat (audPage p)) 0 = false) := by decide +kernel

theorem test_AudioCommandsAct_5_dcoUpdate_meets :
  let p := (0 : Fin 4)
  let s := { st [(hdrCtrl (pg 15 0), 1#32)] with aud := [{ sumE := 5, countE := 1 }, {}, {}, {}], leaveGrants := [{ n := 29, at_ := 0, ramp := 0 }] }
  (s.aud.length = 4) ∧ (audRuns s = true) ∧ (rbit s R.AUD_DCO 1 = false) ∧ (rfld s R.AUD_DCO 5 4 = p.val) ∧ ((audAt s p).countE ≠ 0) := by decide +kernel

theorem test_TwoWireCommandsAct_1_twiGo_meets :
  let who := Requester.host
  let v := 0x80000142#32
  let b := (0 : Fin 4)
  let s := { st [(hdrCtrl (twiPage 0), 1#32), (R.TWI_CTRL 0, 1#32), (R.TWI_XSTAT 0, 0#32)] with twi := [{ clearFirst := true }, {}, {}, {}] }
  (s.twi.length = 4) ∧ (rbit s R.CNT_PS_CTRL 1 = false) ∧ (pageTakes (R.TWI_XFER b) s = true) ∧ (bitAt v 31 = true) ∧ (twiBusy s b = false) ∧ (enabled s (twiPage b) = true) ∧ (rbit s (R.TWI_CTRL b) 0 = true) ∧ ((∀ i : Fin 4, rget s (R.TWI_ABSENT b i) = 0#32)) ∧ (twiAddressed s b = false) ∧ ((twiAt s b).stuck = false) := by decide +kernel

theorem test_TwoWireCommandsAct_2_twiTransferDone_meets :
  let bs := [(5#8 : Byte)]
  let b := (0 : Fin 4)
  let s := { st [(hdrCtrl (twiPage 0), 1#32), (R.TWI_CTRL 0, 1#32), (R.TWI_XSTAT 0, 2#32)] with twi := [{ write := [1#8], read := 1 }, {}, {}, {}] }
  (s.twi.length = 4) ∧ (twiBusy s b = true) ∧ ((twiAt s b).retryDue = false) ∧ ((twiAt s b).goWaits = false) := by decide +kernel

theorem test_TwoWireCommandsAct_3_twiRetry_meets :
  let b := (0 : Fin 4)
  let s := { st [(hdrCtrl (twiPage 0), 1#32), (R.TWI_CTRL 0, 1#32), (R.TWI_XSTAT 0, 2#32)] with twi := [{ retryDue := true, addr := 80 }, {}, {}, {}] }
  (s.twi.length = 4) ∧ (twiBusy s b = true) ∧ ((twiAt s b).retryDue = true) := by decide +kernel

theorem test_TwoWireCommandsAct_4_stretchTimeout_meets :
  let b := (0 : Fin 4)
  let s := { st [(hdrCtrl (twiPage 0), 1#32), (R.TWI_CTRL 0, 1#32), (R.TWI_XSTAT 0, 2#32)] with twi := [{}, {}, {}, {}] }
  (s.twi.length = 4) ∧ (twiBusy s b = true) ∧ ((twiAt s b).goWaits = false) := by decide +kernel

theorem test_TwoWireCommandsAct_5_busStuck_meets :
  let sda := true
  let b := (0 : Fin 4)
  let s := { st [(hdrCtrl (twiPage 0), 1#32), (R.TWI_CTRL 0, 1#32), (R.TWI_XSTAT 0, 2#32)] with twi := [{}, {}, {}, {}] }
  (s.twi.length = 4) ∧ (twiBusy s b = true) ∧ ((twiAt s b).goWaits = false) := by decide +kernel

theorem test_TwoWireCommandsAct_6_targetAddressed_meets :
  let bs := [(7#8 : Byte)]
  let n := 0
  let b := (0 : Fin 4)
  let s := { st [(hdrCtrl (twiPage 0), 1#32), (R.TWI_CTRL 0, 2#32), (R.TWI_XSTAT 0, 0#32)] with twi := [{ tx := [9#8], rx := [1#8] }, {}, {}, {}] }
  (s.twi.length = 4) ∧ (enabled s (twiPage b) = true) ∧ (rbit s (R.TWI_CTRL b) 1 = true) ∧ ((twiAt s b).rx.length < 256) ∧ ((twiAt s b).tx.length < 256) := by decide +kernel

theorem test_TwoWireCommandsAct_7_tgtStretchExpiry_meets :
  let b := (0 : Fin 4)
  let s := { st [(hdrCtrl (twiPage 0), 1#32), (R.TWI_CTRL 0, 2#32), (R.TWI_XSTAT 0, 0#32)] with twi := [{ rx := List.replicate 32 1#8, rxWait := [3#8] }, {}, {}, {}] }
  (s.twi.length = 4) ∧ ((twiAt s b).rxWait ≠ []) := by decide +kernel

theorem test_TwoWireCommandsAct_8_tgtTxPush_meets :
  let who := Requester.host
  let v := 0xA5#32
  let b := (0 : Fin 4)
  let s := { st [(hdrCtrl (twiPage 0), 1#32), (R.TWI_CTRL 0, 2#32), (R.TWI_XSTAT 0, 0#32)] with twi := [{ tx := List.replicate 31 1#8 }, {}, {}, {}] }
  (s.twi.length = 4) ∧ (pageTakes (R.TWI_TGT_TX b) s = true) ∧ ((twiAt s b).tx.length < 32) ∧ ((twiAt s b).txWait = 0) := by decide +kernel

theorem test_TwoWireCommandsAct_9_tgtRxPop_meets :
  let who := Requester.host
  let x := (4#8 : Byte)
  let xs := [(6#8 : Byte)]
  let b := (0 : Fin 4)
  let s := { st [(hdrCtrl (twiPage 0), 1#32), (R.TWI_CTRL 0, 2#32), (R.TWI_XSTAT 0, 0#32)] with twi := [{ rx := [4#8, 6#8] }, {}, {}, {}] }
  (s.twi.length = 4) ∧ (rbit s R.CNT_PS_CTRL 1 = false) ∧ (pageTakes (R.TWI_TGT_RX b) s = true) ∧ ((twiAt s b).rx = x :: xs) ∧ ((twiAt s b).rxWait = []) := by decide +kernel

theorem test_TwoWireCommandsAct_10_busFree_meets :
  let sda := false
  let freed := true
  let b := (0 : Fin 4)
  let s := { st [(hdrCtrl (twiPage 0), 1#32), (R.TWI_CTRL 0, 2#32), (R.TWI_XSTAT 0, 0#32)] with twi := [{ rxWait := [4#8], stuck := true }, {}, {}, {}] }
  (s.twi.length = 4) ∧ ((twiAt s b).goWaits = false) ∧ ((twiAt s b).rx.length < 256) ∧ ((twiAt s b).tx.length < 256) := by decide +kernel

theorem test_FlashCommandsAct_1_flashRead_meets :
  let who := Requester.host
  let v := 0x100#32
  let s := st [(R.PLT_FLASH_ADDR, 0x1C00000#32)]
  (rbit s R.CNT_PS_CTRL 1 = false) ∧ (pageTakes R.PLT_FLASH_CMD s = true) ∧ (bitAt v 8 = true) ∧ (getBits v 1 0 = 0) ∧ (s.plt.flashOp = none) := by decide +kernel

theorem test_FlashCommandsAct_2_flashProgram_meets :
  let who := Requester.host
  let v := 0x101#32
  let s := st [(R.PLT_FLASH_ADDR, 0x1C00000#32), (R.PLT_FLASH_DATA 0, 0x1234#32)]
  (rbit s R.CNT_PS_CTRL 1 = false) ∧ (pageTakes R.PLT_FLASH_CMD s = true) ∧ (bitAt v 8 = true) ∧ (getBits v 1 0 = 1) ∧ (s.plt.flashOp = none) ∧ ((who = .binnacle ∨ flashAllowed s (rnat s R.PLT_FLASH_ADDR) 256 = true)) := by decide +kernel

theorem test_FlashCommandsAct_3_flashErase_meets :
  let who := Requester.host
  let v := 0x102#32
  let s := st [(R.PLT_FLASH_ADDR, 0x1C00000#32)]
  (rbit s R.CNT_PS_CTRL 1 = false) ∧ (pageTakes R.PLT_FLASH_CMD s = true) ∧ (bitAt v 8 = true) ∧ (getBits v 1 0 = 2) ∧ (s.plt.flashOp = none) ∧ ((who = .binnacle ∨ flashAllowed s (rnat s R.PLT_FLASH_ADDR) 65536 = true)) := by decide +kernel

theorem test_FlashCommandsAct_4_flashDone_meets :
  let o := ({ op := 0, addr := 0x1C00000, data := [] } : FlashOp)
  let s := { st [] with plt := { flash := [(0x1C00000, 5#8), (0x1C00001, 6#8)], flashOp := some { op := 0, addr := 0x1C00000, data := [] } } }
  (s.plt.flashOp = some o) ∧ (o.op = 0) := by decide +kernel

theorem test_FlashCommandsAct_5_flashDone_meets :
  let o := ({ op := 1, addr := 0x1C00000, data := List.replicate 256 4#8 } : FlashOp)
  let s := { st [] with plt := { flash := [(0x1C00000, 5#8), (0x1C00001, 6#8)], flashOp := some { op := 1, addr := 0x1C00000, data := List.replicate 256 4#8 } } }
  (s.plt.flashOp = some o) ∧ (o.op = 1) := by decide +kernel

theorem test_FlashCommandsAct_6_flashDone_meets :
  let o := ({ op := 2, addr := 0x1C00000, data := [] } : FlashOp)
  let s := { st [] with plt := { flash := [(0x1C00000, 5#8), (0x1C00001, 6#8)], flashOp := some { op := 2, addr := 0x1C00000, data := [] } } }
  (s.plt.flashOp = some o) ∧ (o.op = 2) := by decide +kernel

theorem test_FlashCommandsAct_7_fwSlotWrite_meets :
  let who := Requester.host
  let v := 0x30#32
  let s := st []
  (rbit s R.CNT_PS_CTRL 1 = false) ∧ (pageTakes R.PLT_FW_SLOT s = true) := by decide +kernel

theorem test_FlashCommandsAct_8_settingsSlotWrite_meets :
  let who := Requester.host
  let v := 0x10#32
  let s := st []
  (rbit s R.CNT_PS_CTRL 1 = false) ∧ (pageTakes R.PLT_SETTINGS_SLOT s = true) := by decide +kernel

theorem test_FlashCommandsAct_9_bootRecordWritten_meets :
  let r := ({ seq := 5, next := 1, prev := 0, incompA := true } : BootRec)
  let s := { st [(R.PLT_FW_SLOT, 0x100#32)] with plt := { bootQueue := [{ seq := 5, next := 1, prev := 0, incompA := true }] } }
  (s.plt.bootQueue = [r]) := by decide +kernel

theorem test_ResetSourcesAct_1_powerOn_meets :
  let s := st []
  (s.plt.trip = false) := by decide +kernel

theorem test_ResetSourcesAct_2_brownOutCore_meets :
  let s := { st [] with plt := { phase := .running } }
  (s.plt.phase = BootPhase.running) := by decide +kernel

theorem test_ResetSourcesAct_3_brownOutAon_meets :
  let s := { st [] with plt := { phase := .running } }
  (s.plt.phase = BootPhase.running) := by decide +kernel

theorem test_ResetSourcesAct_4_railPowerFail_meets :
  let s := { st [] with plt := { phase := .running } }
  (s.plt.phase = BootPhase.running) := by decide +kernel

theorem test_ResetSourcesAct_5_rstN_meets :
  let s := { st [] with plt := { phase := .running } }
  (s.plt.phase = BootPhase.running) := by decide +kernel

theorem test_ResetSourcesAct_6_rstNHeld_meets :
  let s := { st [] with plt := { phase := .held, cold := false } }
  (s.plt.phase = BootPhase.held) := by decide +kernel

theorem test_ResetSourcesAct_7_binnacleWatchdog_meets :
  let s := { st [(R.PLT_WDOG_BIN, 0x80000001#32)] with plt := { phase := .running }, now := 1000000 }
  (wdogOut s R.PLT_WDOG_BIN s.plt.kickBin = true) := by decide +kernel

theorem test_ResetSourcesAct_8_hostWatchdog_meets :
  let s := { st [(R.PLT_WDOG_HOST, 0x80000001#32)] with plt := { phase := .running }, now := 1000000 }
  (wdogOut s R.PLT_WDOG_HOST s.plt.kickHost = true) := by decide +kernel

theorem test_ResetSourcesAct_9_wdogBinKick_meets :
  let who := Requester.binnacle
  let v := 0x40000001#32
  let s := { st [] with plt := { phase := .running }, now := 7 }
  (rbit s R.CNT_PS_CTRL 1 = false) ∧ (pageTakes R.PLT_WDOG_BIN s = true) ∧ (bitAt v 30 = true) := by decide +kernel

theorem test_ResetSourcesAct_10_wdogHostKick_meets :
  let who := Requester.host
  let v := 0x40000001#32
  let s := { st [] with plt := { phase := .running }, now := 7 }
  (rbit s R.CNT_PS_CTRL 1 = false) ∧ (pageTakes R.PLT_WDOG_HOST s = true) ∧ (bitAt v 30 = true) := by decide +kernel

theorem test_ResetSourcesAct_11_startTimer_meets :
  let s := { st [] with plt := { phase := .running, inStart := true }, now := 30000000000 }
  (s.plt.inStart = true) ∧ (s.plt.phase = BootPhase.running) ∧ (s.plt.releasedAt + 30000000000 ≤ s.now) := by decide +kernel

theorem test_ResetSourcesAct_12_startOk_meets :
  let who := Requester.host
  let v := 1#32
  let s := { st [(R.PLT_START_COUNT, 2#32)] with plt := { phase := .running, inStart := true } }
  (rbit s R.CNT_PS_CTRL 1 = false) ∧ (pageTakes R.PLT_START_OK s = true) ∧ (s.plt.inStart = true) ∧ (s.plt.phase = BootPhase.running) ∧ (bitAt v 0 = true) := by decide +kernel

theorem test_ResetSourcesAct_13_startFail_meets :
  let who := Requester.host
  let v := 2#32
  let s := { st [] with plt := { phase := .running, inStart := true } }
  (rbit s R.CNT_PS_CTRL 1 = false) ∧ (pageTakes R.PLT_START_OK s = true) ∧ (s.plt.inStart = true) ∧ (s.plt.phase = BootPhase.running) ∧ (bitAt v 0 = false) ∧ (bitAt v 1 = true) := by decide +kernel

theorem test_ResetSourcesAct_14_softwareWarmReset_meets :
  let who := Requester.host
  let v := 0xA501#32
  let s := { st [] with plt := { phase := .running } }
  (rbit s R.CNT_PS_CTRL 1 = false) ∧ (pageTakes R.PLT_RESET_REQ s = true) ∧ (s.plt.phase = BootPhase.running) ∧ (getBits v 15 8 = 0xA5) ∧ (getBits v 1 0 = 1) := by decide +kernel

theorem test_ResetSourcesAct_15_softwareColdReset_meets :
  let who := Requester.host
  let v := 0xA502#32
  let s := { st [] with plt := { phase := .running } }
  (rbit s R.CNT_PS_CTRL 1 = false) ∧ (pageTakes R.PLT_RESET_REQ s = true) ∧ (s.plt.phase = BootPhase.running) ∧ (getBits v 15 8 = 0xA5) ∧ (getBits v 1 0 = 2) := by decide +kernel

theorem test_ResetSourcesAct_16_debugRequest_meets :
  let v := 1#32
  let s := { st [(R.DBG_LOCK, 1#32)] with plt := { phase := .running } }
  (s.plt.phase = BootPhase.running) ∧ (rbit s R.DBG_LOCK 0 = true) := by decide +kernel

theorem test_ResetSourcesAct_17_clockFailure_meets :
  let s := { st [] with plt := { phase := .running } }
  (s.plt.phase = BootPhase.running) := by decide +kernel

theorem test_ResetSourcesAct_18_binnacleLockup_meets :
  let s := { st [] with plt := { phase := .running } }
  (s.plt.phase = BootPhase.running) := by decide +kernel

theorem test_ResetSourcesAct_19_fabricDeadlock_meets :
  let s := { st [] with plt := { phase := .running } }
  (s.plt.phase = BootPhase.running) := by decide +kernel

theorem test_ResetSourcesAct_20_deadReckoningExit_meets :
  let who := Requester.host
  let v := 0x15A00#32
  let s := { st [(R.PLT_DR_CTRL, 1#32)] with plt := { phase := .running, deadReckoning := true } }
  (rbit s R.CNT_PS_CTRL 1 = false) ∧ (pageTakes R.PLT_DR_CTRL s = true) ∧ (s.plt.phase = BootPhase.running) ∧ (deadReckoning s = true) ∧ (getBits v 15 8 = 0x5A) ∧ (bitAt v 16 = true) := by decide +kernel

theorem test_ResetSourcesAct_21_coreReset_meets :
  let s := { st [] with plt := { phase := .quiesce }, stopped := 1, latch := [(4, 5#32)] }
  (s.plt.phase = BootPhase.quiesce) := by decide +kernel

theorem test_StartReleaseActs_1_rstNRelease_meets :
  let f := ({ balls := 0, bodyIntact := true, bist := [], margins := [], badJournal := [], spareBad := [] } : StartFacts)
  let s := { st [(R.PLT_START_COUNT, 3#32)] with now := 9, plt := { phase := .held } }
  (releasable s = true) ∧ (3 ≤ rnat s R.PLT_START_COUNT) := by decide +kernel

theorem test_StartReleaseActs_2_rstNRelease_meets :
  let f := ({ balls := 0, bodyIntact := true, bist := [], margins := [], badJournal := [], spareBad := [] } : StartFacts)
  let s := { st [] with now := 9, plt := { phase := .held } }
  (releasable s = true) ∧ (s.plt.deadReckoning = false) ∧ (rnat s R.PLT_START_COUNT < 3) ∧ ((bootCurrent s).isNone = true) := by decide +kernel

set_option maxRecDepth 100000 in
theorem test_StartReleaseActs_3_rstNRelease_meets :
  let rs := ([(R.CNV_CANVAS_WH, 0x001F001F#32), (R.CNV_FILL_TIME, 5#32), (R.CNV_WF_PERIOD, w32 (5000000 * 65536)), (R.CNV_WF_PERIOD + 4, w32 (5000000 * 65536 / 2 ^ 32)), (R.CNV_MON_RING, 1#32)] : List (Nat × Word))
  let s := { st [] with plt := { phase := .held, cold := false, image := some { slot := 0, version := 5, schema := 7, schemaMin := 7, secVer := 0, raises := false, hash := [] }, flash := (let cells := fun (a : Nat) (bs : List Byte) => (bs.zipIdx.filter fun x => x.1 != 0xFF#8).map fun x => (a + x.2, x.1); let h := leBytes 4 0x53455453 ++ leBytes 2 7 ++ [0#8, 0#8] ++ leBytes 4 1 ++ [1#8] ++ List.replicate 47 0#8; cells 0 (bootBytes { seq := 1, next := 0, prev := 1 }) ++ cells (settingsBase 0) (chartBytes (leBytes 4 0x43485254 ++ [0#8, 0#8, 0#8, 1#8] ++ List.replicate 56 0#8) 7 rs) ++ cells (settingsBase 0 + 0xFF000) (h ++ leBytes 4 (crc32 h))) } }
  let f := ({ balls := 0, bodyIntact := true, bist := [], margins := [], badJournal := [], spareBad := [] } : StartFacts)
  let k := 0
  let r := ({ seq := 1, next := 0, prev := 1 } : BootRec)
  let slot := 0
  let a := slotStarts slot (retained (rejectLooked true f.bodyIntact r (startOpens f s)) true f.bodyIntact slot) r (rejectLooked true f.bodyIntact r (startOpens f s))
  let n := 0
  let source := 0
  let b := (chartChoice f.balls.val a).2.2
  let set := 0
  let c := (settingsReady slot r b).2
  let schema := 7
  let q := 1
  let m := 1
  let role := 1
  let u := (recordsApply true 0 rs (setStep 8 (memWake (setStep 7 (lanesRecheck (chartActive n source f.balls.val role schema c)))))).2
  (releasable s = true) ∧ (s.plt.cold = false) ∧ (s.plt.deadReckoning = false) ∧ (rnat s R.PLT_START_COUNT < 3) ∧ (bootCurrent (startOpens f s) = some (k, r)) ∧ (chooseSlot (startOpens f s) true f.bodyIntact r = (some slot, r)) ∧ (a = slotStarts slot (retained (rejectLooked true f.bodyIntact r (startOpens f s)) true f.bodyIntact slot) r (rejectLooked true f.bodyIntact r (startOpens f s))) ∧ (chartChoice f.balls.val a = (n, source, b)) ∧ (settingsReady slot r b = (some set, c)) ∧ (settingsHeader c set = some (schema, q, m)) ∧ (chartAt c set n = some (role, rs)) ∧ (chartComplete c role rs = true) ∧ (recordsApply true 0 rs (setStep 8 (memWake (setStep 7 (lanesRecheck (chartActive n source f.balls.val role schema c))))) = (none, u)) := by
  refine ⟨by decide +kernel, rfl, rfl, by decide +kernel, by decide +kernel, by decide +kernel, rfl, Prod.ext (by decide +kernel) (Prod.ext (by decide +kernel) rfl), Prod.ext (by decide +kernel) rfl, by decide +kernel, by decide +kernel, by decide +kernel, Prod.ext (by decide +kernel) rfl⟩

theorem test_PowerLeaveActs_1_leaveEvaluate_meets :
  let w := ({ n := 28, at_ := 0 } : LeaveWait)
  let s := { st [] with leaveQueue := [{ n := 28, at_ := 0 }] }
  (s.leaveQueue = [w]) ∧ (s.leaveGrants = []) ∧ ((w.n = 28 ∨ w.n = 29)) ∧ (leaveAmount w.n ≤ rfld s R.PLT_LEAVE_BUDGET 8 0) ∧ (stepRate w.n (leaveRamp w.n) ≤ rfld s R.PLT_LEAVE_BUDGET 23 16) := by decide +kernel

theorem test_PowerLeaveActs_2_leaveTimeout_meets :
  let w := ({ n := 28, at_ := 0 } : LeaveWait)
  let s := { st [] with leaveQueue := [{ n := 4, at_ := 0 }, { n := 28, at_ := 0 }], now := 100000000000 }
  (w ∈ s.leaveQueue) ∧ (leaveOverdue s w = true) := by decide +kernel

theorem test_PowerLeaveActs_3_leaveBudgetWrite_meets :
  let who := Requester.host
  let v := 0x80020028#32
  let s := { st [] with leaveGrants := [{ n := 0, at_ := 0, ramp := 0 }, { n := 6, at_ := 0, ramp := 0 }] }
  (rbit s R.CNT_PS_CTRL 1 = false) ∧ (pageTakes R.PLT_LEAVE_BUDGET s = true) ∧ (40 ≤ getBits v 8 0) ∧ (getBits v 8 0 ≤ 400) ∧ (2 ≤ getBits v 23 16) ∧ (getBits v 23 16 ≤ 200) ∧ (bitAt v 31 = true) ∧ ((∀ g ∈ s.leaveGrants, g.n < 30)) := by decide +kernel

theorem test_ThermalActs_1_sensorReading_meets :
  let counts := [0, 5, 7] ++ List.replicate 29 9
  let s := st [(R.PLT_THERM_S 2, 0x10000#32), (R.PLT_THERM_EXCL, 4#32)]
  (thermRuns s = true) := by decide +kernel

theorem test_ThermalActs_2_pltThermPeakRead_meets :
  let who := Requester.host
  let s := { st [(R.PLT_THERM_PEAK, 0x320#32)] with plt := { peakHeld := true } }
  (rbit s R.CNT_PS_CTRL 1 = false) ∧ (pageTakes R.PLT_THERM_PEAK s = true) := by decide +kernel

theorem test_HoldUpActs_1_holdTest_meets :
  let s := { st [(R.PLT_HOLD_STATE, 0x20#32)] with plt := { phase := .running } }
  (s.plt.phase = BootPhase.running) ∧ (mainGood s = true) ∧ (s.recorder.flushing = false) ∧ (s.plt.test = HoldTest.none) := by decide +kernel

theorem test_HoldUpActs_2_holdTestNow_meets :
  let who := Requester.host
  let v := 0x10001#32
  let s := { st [(R.PLT_HOLD_STATE, 0x20#32)] with plt := { phase := .running } }
  (rbit s R.CNT_PS_CTRL 1 = false) ∧ (pageTakes R.PLT_HOLD_TEST s = true) ∧ (bitAt v 16 = true) ∧ (s.plt.phase = BootPhase.running) ∧ (mainGood s = true) ∧ (s.recorder.flushing = false) ∧ (s.plt.test = HoldTest.none) := by decide +kernel

theorem test_HoldUpActs_3_holdTestDischarge_meets :
  let a := 5000
  let b := 4900
  let s := { st [] with plt := { test := .settling } }
  (s.plt.test = HoldTest.settling) := by decide +kernel

theorem test_HoldUpActs_4_holdTestDone_meets :
  let v2 := 4800000
  let a := 5000000
  let b := 4900000
  let c := 47528
  let s := { st [(R.PLT_HOLD_LOAD, 100#32)] with plt := { test := .loaded 5000000 4900000 } }
  (s.plt.test = HoldTest.loaded a b) ∧ (v2 < b) ∧ (b ≤ a) ∧ (holdCap (rfld s R.PLT_HOLD_LOAD 15 0) a b v2 = some c) ∧ (c ≤ 16777000) := by decide +kernel

theorem test_HoldUpActs_5_holdEnergyUpdate_meets :
  let v := 5
  let s := { st [(R.PLT_HOLD_ENERGY, 100#32)] with plt := { phase := .running } }
  (s.plt.phase = BootPhase.running) ∧ ((rfld s R.PLT_HOLD_ENERGY 15 0 + 10 ≤ energyOf s v ∨ energyOf s v + 10 ≤ rfld s R.PLT_HOLD_ENERGY 15 0)) := by decide +kernel

theorem test_HoldUpActs_6_mainPowerLoss_meets :
  let s := { st [(R.PLT_HOLD_STATE, 0x20#32)] with plt := { phase := .running } }
  (s.plt.phase = BootPhase.running) ∧ (s.plt.lossActive = false) ∧ (onHoldup s = false) := by decide +kernel

theorem test_HoldUpActs_7_mainPowerGood_meets :
  let s := { st [(R.PLT_HOLD_STATE, 0x10#32)] with plt := { phase := .running } }
  (mainGood s = false) := by decide +kernel

theorem test_HoldUpActs_8_storeExhausted_meets :
  let s := { st [(R.PLT_HOLD_STATE, 0x10#32)] with plt := { phase := .running, lossActive := true } }
  (s.plt.lossActive = true) ∧ (mainGood s = false) := by decide +kernel

theorem test_HoldUpActs_9_flushDone_meets :
  let s := { st [(R.REC_AON_DIRTY, 3#32)] with plt := { phase := .running }, recorder := { flushing := true } }
  (flushOver s = true) ∧ (s.plt.lossActive = false) ∧ (s.plt.trip = false) ∧ (s.plt.phase = BootPhase.running) ∧ (deadReckoning s = false) := by decide +kernel

theorem test_HoldUpActs_10_logRecordWrite_meets :
  let e := ({ source := 1, inst := 0, kind := 2, at16 := 77, epochValid := false, breaks := 0, detail := [] } : LogEvent)
  let es := ([] : List LogEvent)
  let s := { st [] with logQueue := [e] }
  (s.logQueue = e :: es) ∧ (s.logLost = 0) := by decide +kernel

theorem test_HoldUpActs_11_sramCorrectedError_meets :
  let m := 3
  let row := 9
  let s := st []
  (s.plt.rows = []) := by decide +kernel

theorem test_HoldUpActs_12_sramCorrectedError_meets :
  let m := 3
  let row := 9
  let a := 1
  let b := 2
  let s := { st [] with plt := { rows := [{ macro_ := 3, row := 9, times := [1, 2] }] }, now := 5 }
  (s.plt.rows = [({ macro_ := m, row := row, times := [a, b] } : SramRow)]) ∧ (s.now ≤ a + 1000000000) ∧ (s.now ≤ b + 1000000000) ∧ (sramRowsUsed s m < 2) := by decide +kernel

theorem test_DebugActs_1_tokenVerify_meets :
  let who := Requester.host
  let v := 8#32
  let s := st [(R.DBG_TOKEN 0, 5#32)]
  (rbit s R.CNT_PS_CTRL 1 = false) ∧ (pageTakes R.DBG_LOCK s = true) ∧ (bitAt v 3 = true) ∧ (tokenFails s ≠ 3) ∧ (s.dbg.token = none) := by decide +kernel

theorem test_DebugActs_2_tokenVerifyDone_meets :
  let b := [(1#8 : Byte)]
  let k := 0
  let s := { st [(R.DBG_LOCK, 0x10#32)] with dbg := { token := some ([1#8], 0) } }
  (s.dbg.token = some (b, k)) := by decide +kernel

theorem test_DebugActs_7_binnacleHalt_meets :
  let s := st [(R.DBG_LOCK, 1#32)]
  (jtagServed s = true) := by decide +kernel

theorem test_DebugActs_8_binnacleStep_meets :
  let s := { st [(R.DBG_LOCK, 1#32)] with plt := { halted := true } }
  (jtagServed s = true) ∧ (s.plt.halted = true) := by decide +kernel

theorem test_DebugActs_9_jtagRegisterAccess_meets :
  let n := 16
  let v := 0#32
  let s := st [(R.DBG_LOCK, 1#32), (hdrErrCode 16, 0x210#32)]
  (jtagServed s = true) ∧ (n < 288) ∧ (pageThere s n = true) ∧ (s.fabricOpen = true) := by decide +kernel

theorem test_CounterActs_1_counterSelect_meets :
  let who := Requester.host
  let b := (3 : Fin 18)
  let c := (2 : Fin 8)
  let v := 0x200#32
  let s := st [(valAddr 3 2, 9#32)]
  (rbit s R.CNT_PS_CTRL 1 = false) ∧ (pageTakes (selAddr b c) s = true) := by decide +kernel

theorem test_CounterActs_2_counterClear_meets :
  let who := Requester.host
  let b := (3 : Fin 18)
  let v := 1#32
  let s := st [(valAddr 3 2, 9#32)]
  (rbit s R.CNT_PS_CTRL 1 = false) ∧ (pageTakes (R.CNT_CLEAR (b.val / 2) (b.val % 2)) s = true) ∧ (bitAt v 0 = true) := by decide +kernel

theorem test_CounterActs_3_snapshot_meets :
  let s := st [(R.CNT_CTRL, 1#32), (R.CNT_SIZE, 0x1000#32), (R.CNT_MASK, 1#32)]
  (rbit s R.CNT_CTRL 0 = true) ∧ (pageThere s (pg 17 0) = true) ∧ (blockResetting s (pg 17 0) = false) ∧ (snapshotAt s s.cnt.next ≤ merNow s) ∧ (s.cnt.writing = none) ∧ ((snapshotBytes s s.cnt.next).length ≤ dumpFree s) := by decide +kernel

theorem test_CounterActs_4_snapshotRecordDone_meets :
  let r := ({ bytes := [1#8], at16 := 5, values := [] } : CntRecord)
  let s := { st [(R.CNT_SIZE, 0x1000#32)] with cnt := { writing := some { bytes := [1#8], at16 := 5, values := [] } } }
  (s.cnt.writing = some r) ∧ (rnat s R.CNT_SIZE ≠ 0) := by decide +kernel

theorem test_InterruptCommandsFrame_meets : SamplingOff State.reset := by
  dsimp only [SamplingOff]
  decide +kernel

theorem test_PortAndLaneFrame_meets : SamplingOff State.reset := by
  dsimp only [SamplingOff]
  decide +kernel

theorem test_ColourCommandsFrame_meets : SamplingOff State.reset := by
  dsimp only [SamplingOff]
  decide +kernel

theorem test_CanvasPhotometryFrame_meets : SamplingOff State.reset := by
  dsimp only [SamplingOff]
  decide +kernel

theorem test_TilePortFrame_meets : SamplingOff State.reset := by
  dsimp only [SamplingOff]
  decide +kernel

theorem test_TimeAndSenderFrame_meets : SamplingOff State.reset := by
  dsimp only [SamplingOff]
  decide +kernel

theorem test_MemoryAccessFrame_meets : State.reset.memCtl.queue = [] := rfl

theorem test_EngineCommandsFrame_meets : SamplingOff State.reset := by
  dsimp only [SamplingOff]
  decide +kernel

theorem test_RecorderCommandsFrame_meets : SamplingOff State.reset := by
  dsimp only [SamplingOff]
  decide +kernel

theorem test_NvmeCommandsFrame_meets : SamplingOff State.reset := by
  dsimp only [SamplingOff]
  decide +kernel

theorem test_AxisCommandsFrame_meets : SamplingOff State.reset := by
  dsimp only [SamplingOff]
  decide +kernel

theorem test_BackgroundEventsFrame_meets : SamplingOff State.reset := by
  dsimp only [SamplingOff]
  decide +kernel

theorem test_TwoWireCommandsFrame_meets : SamplingOff State.reset := by
  dsimp only [SamplingOff]
  decide +kernel

theorem test_AudioCommandsFrame_meets : SamplingOff State.reset := by
  dsimp only [SamplingOff]
  decide +kernel

theorem test_FlashCommandsFrame_meets : SamplingOff State.reset := by
  dsimp only [SamplingOff]
  decide +kernel

theorem test_HoldUpFrame_meets : SamplingOff State.reset := by
  dsimp only [SamplingOff]
  decide +kernel

theorem test_JtagInstructionsFrame_meets : SamplingOff State.reset := by
  dsimp only [SamplingOff]
  decide +kernel

end Sys2Proof.Tests
end

section
/-! SUPPORT. The registers of a page's header, and the messages that a page's request brings (R33, R40). -/

namespace Sys2Proof.Proofs

open Sys2Proof Sys2Proof.Machine Sys2Proof.Safety Sys2Proof.Laws

/-! ### Lists of vectors -/

theorem mem_setInsert_self (xs : List Nat) (k : Nat) : k ∈ setInsert xs k := by
  induction xs with
  | nil => exact List.mem_singleton_self k
  | cons x xs ih =>
    unfold setInsert
    split
    · exact List.mem_cons_self
    · split
      · next e => exact e ▸ List.mem_cons_self
      · exact List.mem_cons_of_mem x ih

/-! ### Writes of a page's header -/

/-- No table has a row in the page header (R31). -/
theorem header_below_regTable (b : Nat) : ∀ r ∈ regTable b, 0x40 ≤ r.off := by
  have rows : ∀ b : Fin 19, (regTable b.val).all (fun r => decide (0x40 ≤ r.off)) = true := by decide +kernel
  by_cases hb : b < 19
  · exact fun r hr => of_decide_eq_true (List.all_eq_true.mp (rows ⟨b, hb⟩) r hr)
  · obtain ⟨k, rfl⟩ := Nat.exists_eq_add_of_le' (Nat.not_lt.mp hb)
    exact List.forall_mem_nil (fun r : RegDesc => 0x40 ≤ r.off)

theorem findReg_eq_none {p off : Nat} {rs : List RegDesc} (h : ∀ r ∈ rs, off < r.off) : findReg p off rs = none := by
  induction rs with
  | nil => rfl
  | cons r rs ih =>
    have miss : regMatch r p off = none := by
      unfold regMatch
      exact if_neg fun ⟨_, _, hoff⟩ => absurd (h r List.mem_cons_self) (Nat.not_lt.mpr hoff)
    unfold findReg
    rw [miss]
    exact ih fun q hq => h q (List.mem_cons_of_mem r hq)

theorem regAt_header {addr : Nat} (h : addr % 0x1000 < 0x40) : regAt addr = none :=
  findReg_eq_none fun r hr => Nat.lt_of_lt_of_le h (header_below_regTable _ r hr)

theorem debugClosed_header {addr : Nat} (h : addr % 0x1000 < 0x40) (s : State) : debugClosed s addr = false := by
  have scope : debugScope addr = none := by
    unfold debugScope R.DBG_TMUX_SEL R.DBG_RESET_REQ
    rw [if_neg (by omega), if_neg (by omega)]
  unfold debugClosed
  rw [scope]

/-- A write of a header word stores nothing of its own: it is counted (R37). -/
theorem writeWord_header {addr : Nat} {s : State} (h : addr % 0x1000 < 0x40) (taken : pageTakes addr s = true)
    (who : Requester) (v skip : Word) : writeWord who addr v skip s = countSeq (pageOf addr) s := by
  unfold writeWord
  simp [taken, debugClosed_header h, regAt_header h]

theorem rget_countSeq_plain (n : Nat) (s : State) {a : Nat} (h : Plain a) : rget (countSeq n s) a = rget s a := by
  refine rget_rinc_other 1 s ?_
  rintro rfl
  revert h
  unfold Plain hdrSeq pageBase
  omega

theorem rget_clearStat_plain (n : Nat) (mask : Word) (s : State) {a : Nat} (h : Plain a) :
    rget (clearStat n mask s) a = rget s a := by
  have hs : a ≠ hdrIntStat n ∧ a ≠ hdrErrInfo n ∧ a ≠ hdrErrCode n := by
    unfold Plain at h
    unfold hdrIntStat hdrErrInfo hdrErrCode pageBase
    omega
  obtain ⟨hstat, hinfo, hcode⟩ := hs
  unfold clearStat
  dsimp only
  split
  · rw [rget_rset_other _ _ hinfo, rget_rset_other _ _ hcode, rget_rset_other _ _ hstat]
  · exact rget_rset_other _ _ hstat

/-! ### Messages -/

theorem pageRequest_eq_of_regs {s t : State} (h : t.regs = s.regs) (n : Nat) : pageRequest t n = pageRequest s n := by
  unfold pageRequest
  rw [rget_eq_of_regs h, rget_eq_of_regs h]

/-- From `s` to `t` vector `v` has sent one message, or has its pending bit set where it is masked (R40). -/
def Signalled (v : Nat) (s t : State) : Prop :=
  (v ∈ s.msixOn → t.out = .msix v :: s.out ∧ t.msixPending = s.msixPending) ∧
  (v ∉ s.msixOn → t.out = s.out ∧ v ∈ t.msixPending)

theorem sendVector_signalled (v : Nat) (s : State) : Signalled v s (sendVector v s) := by
  unfold sendVector
  constructor <;> intro h
  · rw [if_pos (List.contains_iff_mem.mpr h)]
    exact ⟨rfl, rfl⟩
  · rw [if_neg (fun on => h (List.contains_iff_mem.mp on))]
    exact ⟨rfl, mem_setInsert_self _ v⟩

/-- Nothing of the messages differs: none was sent, and the masks and the pending bits are as they were. -/
structure MessagesKept (s u : State) : Prop where
  out : u.out = s.out
  msixOn : u.msixOn = s.msixOn
  msixPending : u.msixPending = s.msixPending

theorem pageRequest_resignal (n : Nat) (s : State) : pageRequest (resignal n s) n = pageRequest s n := by
  have ⟨_, _, _, regs, _⟩ := resignal_others s n
  exact pageRequest_eq_of_regs regs n

/-- A vector is signalled again exactly when the page's request is 1 (R40). -/
theorem resignal_signals {n : Nat} {s u : State} (kept : MessagesKept s u) :
    (pageRequest (resignal n u) n = true → Signalled n s (resignal n u)) ∧
    (pageRequest (resignal n u) n = false → (resignal n u).out = s.out) := by
  obtain ⟨out, on, pending⟩ := kept
  rw [pageRequest_resignal]
  unfold resignal
  constructor <;> intro req
  · have sent := sendVector_signalled n u
    unfold Signalled at sent ⊢
    rw [if_pos req]
    rwa [out, on, pending] at sent
  · rw [if_neg (by simp [req]), out]

/-- While the request is 0, events latch their bits and then signal the request as a write does. -/
theorem latchStat_of_low {n : Nat} (mask : Word) {s : State} (there : pageThere s n = true) (low : pageRequest s n = false) :
    latchStat n mask s = resignal n (rset (hdrIntStat n) (rget s (hdrIntStat n) ||| mask) s) := by
  unfold latchStat withRequest resignal
  simp [there, low]

/-! ### Writes of PG_INT_STAT and PG_INT_EN -/

/-- An access that is not sampled ends with the page's request. -/
theorem psRegister_resignal_off (who : Requester) (w : Bool) (addr n : Nat) {u : State} (off : PsOff u) :
    psRegister who w addr (resignal n u) = resignal n u := by
  have ⟨_, _, _, regs, _⟩ := resignal_others u n
  exact psRegister_off _ who w addr (psOff_congr (rget_eq_of_regs regs _) off)

theorem plain_psCtrl : Plain R.CNT_PS_CTRL := plain_of_body (by decide)

theorem intStatWrite_resignals {n : Nat} {s : State} (who : Requester) (v : Word) (off : PsOff s)
    (taken : pageTakes (hdrIntStat n) s = true) : ∃ u, MessagesKept s u ∧ intStatWrite who n v s = resignal n u := by
  have head : hdrIntStat n % 0x1000 < 0x40 := by unfold hdrIntStat pageBase; omega
  have offClear (m : Nat) : PsOff (clearStat n v (countSeq m s)) :=
    psOff_congr (by rw [rget_clearStat_plain _ _ _ plain_psCtrl, rget_countSeq_plain _ _ plain_psCtrl]) off
  unfold intStatWrite
  dsimp only
  rw [writeWord_header head taken, if_pos taken]
  split <;> exact ⟨_, by constructor <;> simp [countSeq, rinc], psRegister_resignal_off who true _ n (offClear _)⟩

theorem intEnWrite_resignals {n : Nat} {s : State} (who : Requester) (v : Word) (off : PsOff s)
    (taken : pageTakes (hdrIntEn n) s = true) : ∃ u, MessagesKept s u ∧ intEnWrite who n v s = resignal n u := by
  have head : hdrIntEn n % 0x1000 < 0x40 := by unfold hdrIntEn pageBase; omega
  have other : R.CNT_PS_CTRL ≠ hdrIntEn n := by unfold R.CNT_PS_CTRL hdrIntEn pageBase; omega
  unfold intEnWrite
  dsimp only
  rw [writeWord_header head taken, if_pos taken]
  refine ⟨_, ?_, psRegister_resignal_off who true _ n (psOff_congr ?_ off)⟩
  · constructor <;> simp [countSeq, rinc]
  · rw [rget_rset_other _ _ other, rget_countSeq_plain _ _ plain_psCtrl]

/-- Both writes of a page's interrupt registers end with the page's request (R40). -/
theorem intWrite_resignals {who : Requester} {page : Fin 288} {v : Word} {s t : State} (off : PsOff s)
    (write : exec (.pgIntStatClear who page v) s = .next t ∧ pageTakes (hdrIntStat page.val) s = true ∨
      exec (.pgIntEnWrite who page v) s = .next t ∧ pageTakes (hdrIntEn page.val) s = true) :
    ∃ u, MessagesKept s u ∧ t = resignal page.val u := by
  rcases write with ⟨run, taken⟩ | ⟨run, taken⟩
  · obtain ⟨u, kept, eq⟩ := intStatWrite_resignals who v off taken
    exact ⟨u, kept, by rw [← eq]; exact (Host.Outcome.next.inj run).symm⟩
  · obtain ⟨u, kept, eq⟩ := intEnWrite_resignals who v off taken
    exact ⟨u, kept, by rw [← eq]; exact (Host.Outcome.next.inj run).symm⟩

/-! ### Unmasking -/

/-- An unmasked vector is open, and a message held as pending goes out, once (R40). -/
theorem execMsixUnmask_sends (v : Fin 2048) (s : State) : ∃ t, execMsixUnmask v s = .next t ∧ v.val ∈ t.msixOn ∧
    (v.val ∈ s.msixPending → t.out = .msix v.val :: s.out ∧ t.msixPending = setErase s.msixPending v.val) ∧
    (v.val ∉ s.msixPending → t.out = s.out) := by
  have opened := mem_setInsert_self s.msixOn v.val
  unfold execMsixUnmask
  refine ⟨_, rfl, ?_⟩
  by_cases held : v.val ∈ s.msixPending
  · rw [if_pos (List.contains_iff_mem.mpr held)]
    exact ⟨opened, fun _ => ⟨rfl, rfl⟩, absurd held⟩
  · rw [if_neg (fun on => held (List.contains_iff_mem.mp on))]
    exact ⟨opened, fun on => absurd on held, fun _ => rfl⟩

/-- Settles O9: a rise and a write of the interrupt registers both come down to `resignal`, an unmasking to the pending bit. -/
theorem messagesSignalRequests : Obligations.MessagesSignalRequests := by
  unfold Obligations.MessagesSignalRequests
  refine ⟨?rise, ?write, execMsixUnmask_sends⟩
  case rise =>
    intro n mask s there low
    rw [latchStat_of_low mask there low]
    exact resignal_signals ⟨rfl, rfl, rfl⟩
  case write =>
    intro who page v s t off write
    obtain ⟨u, kept, rfl⟩ := intWrite_resignals (off.1 1) write
    obtain ⟨high, low⟩ := resignal_signals (n := page.val) kept
    exact ⟨fun req on => ((high req).1 on).1, fun req masked => (high req).2 masked, low⟩

end Sys2Proof.Proofs
end

section
/-! SUPPORT. A write of a page that is not used and yet acts: CNV_SELFREF (R28, R141, R355). -/

namespace Sys2Proof.Proofs

open Sys2Proof Sys2Proof.Machine Sys2Proof.Laws

/-- Outside a warm reset, the store of a write on a page that is not used changes nothing (R28). -/
theorem writeReg_absent {addr : Nat} {s : State} (absent : pageThere s (pageOf addr) = false) (awake : s.warmBegun = false)
    (who : Requester) (v skip : Word) : writeReg who addr v skip s = s := by
  have refused : pageTakes addr s = false := by
    unfold pageTakes
    rw [absent]
    rfl
  unfold writeReg writeWord untaken
  simp [refused, absent, awake]

/-- A register write of CNV_SELFREF stores, and then looks at the request bits whether or not its page took the write. -/
theorem exec_regWrite_selfref (who : Requester) (v : Word) (s : State) :
    exec (.regWrite who R.CNV_SELFREF v) s = .next (selfrefUpdate (writeReg who R.CNV_SELFREF v 0#32 s)) := rfl

theorem selfrefState_setSelfref {v : Nat} (hv : v < 4) (s : State) : selfrefState (setSelfref v s) = v := by
  unfold setSelfref
  split
  · assumption
  · have plain : Plain R.CNV_SELFREF := plain_of_body (by decide)
    have raised : selfrefState (raiseInt (pg 4 0) 3 (rsetFld R.CNV_SELFREF 9 8 v s)) =
        selfrefState (rsetFld R.CNV_SELFREF 9 8 v s) := by
      unfold selfrefState rfld
      rw [rget_raiseInt_plain _ _ _ plain]
    rw [raised]
    exact (rfld_rsetFld_same _ _ _ (by decide) (by decide)).trans (Nat.mod_eq_of_lt hv)

theorem selfrefState_scanStop (s : State) : selfrefState (scanStop s) = selfrefState s := by
  unfold scanStop
  split <;> rfl

/-- A request bit that is 1 while CNV scans starts the entry into self-refresh: STATE 1 (R141). -/
theorem selfrefState_selfrefUpdate {s : State} (asked : selfrefAsked s = true) (scanning : selfrefState s = 0) :
    selfrefState (selfrefUpdate s) = 1 := by
  unfold selfrefUpdate
  dsimp only
  rw [if_pos asked, if_pos (.inl scanning)]
  split
  · rw [selfrefState_scanStop, selfrefState_setSelfref (by decide)]
  · exact selfrefState_setSelfref (by decide) _

/-- Dead-reckoning mode is on, so that CNV's pages are not used (R355); HOST_REQ is 1, and the entry has not begun. -/
def selfrefHidden : State := rset R.CNV_SELFREF 1#32 (rset R.PLT_DR_CTRL 1#32 State.reset)

theorem selfrefHidden_absent : pageThere selfrefHidden (pageOf R.CNV_SELFREF) = false := by decide +kernel

theorem selfrefHidden_asked : selfrefAsked selfrefHidden = true := by decide +kernel

theorem selfrefHidden_scanning : selfrefState selfrefHidden = 0 := by decide +kernel

/-- Refutes O8: in Dead-reckoning mode CNV's page is not used, but a write of CNV_SELFREF there still acts on the request
bits. From a state with HOST_REQ 1 and STATE 0 it moves STATE to 1. -/
theorem not_absentPagesReadZero : ¬ Obligations.AbsentPagesReadZero := by
  unfold Obligations.AbsentPagesReadZero
  intro h
  have kept : exec (.regWrite .host R.CNV_SELFREF 0#32) selfrefHidden = .next selfrefHidden :=
    (h .host R.CNV_SELFREF 0#32 selfrefHidden (by decide) (by decide) (.inr (.inr selfrefHidden_absent))).2
  rw [exec_regWrite_selfref, writeReg_absent selfrefHidden_absent rfl] at kept
  have same : selfrefUpdate selfrefHidden = selfrefHidden := Host.Outcome.next.inj kept
  have moved := selfrefState_selfrefUpdate selfrefHidden_asked selfrefHidden_scanning
  rw [same, selfrefHidden_scanning] at moved
  exact absurd moved (by decide)

end Sys2Proof.Proofs
end

section
/-! SUPPORT. The white balance gains: their register rows and their range (R100, R121). -/

namespace Sys2Proof.Proofs

open Sys2Proof Sys2Proof.Machine

theorem w32_toNat (v : Word) : w32 v.toNat = v := BitVec.eq_of_toNat_eq (by simp [w32])

/-- The one field of a gain WB[c]: the whole word, a binary32 from 2^-8 to 2^8 (R100, R121). -/
def clrWbField : FieldDesc := fd 31 0 .rws 0 true .cold (.f32Range 0x3B800000#32 0x43800000#32)

/-- The row of CLR_WB_R, G and B on the two pipeline pages (R121). -/
def clrWbRow : RegDesc := rd 3 4 0x040 1 3 4 1 4 [clrWbField]

theorem regAt_CLR_WB : ∀ (p : Fin 2) (k : Fin 3), regAt (R.CLR_WB p.val k.val) = some (clrWbRow, 0) := by decide

/-- The range check of a binary32 register reads the written word as it is. -/
theorem inRange_f32Range (lo hi : F32) (v : Word) :
    inRange (.f32Range lo hi) v.toNat = (f32IsFinite v && f32Le lo v && f32Le v hi) := by
  unfold inRange
  rw [w32_toNat]

/-- Settles O15: the products are the definition's own, and each gain is the one field of its row in the table. -/
theorem whiteBalance : Obligations.WhiteBalance := by
  unfold Obligations.WhiteBalance
  refine ⟨fun u p v => rfl, fun p k => ⟨clrWbRow, regAt_CLR_WB p k, rfl, fun f hf => ?_⟩⟩
  obtain rfl : f = clrWbField := List.mem_singleton.mp hf
  exact ⟨rfl, rfl, rfl, inRange_f32Range 0x3B800000#32 0x43800000#32⟩

end Sys2Proof.Proofs
end

section
/-! SUPPORT. A warm reset that cuts a LUT load short: the bank's state, beside the shadowed fields of CLR_LUT_CTRL (R106, R347, R386). -/

namespace Sys2Proof.Proofs

open Sys2Proof Sys2Proof.Machine

/-- A core reset with no flush running is `coreReset` alone (R347, R393). -/
theorem exec_coreReset_of_quiesce {s : State} (quiet : s.plt.phase = .quiesce) (dry : (coreReset s).recorder.flushing = false) :
    exec .coreReset s = .next (coreReset s) := by
  change execCoreReset s = _
  unfold execCoreReset
  dsimp only
  rw [if_pos quiet, dry, if_neg Bool.false_ne_true]

/-- A START whose page takes it loads the bank that is not in use, if no load runs: the bank's state is LOADING, 1 (R106). -/
theorem exec_lutLoad_starts {who : Requester} {pipe : Fin 2} {v : Word} {s t : State}
    (written : writeReg who (R.CLR_LUT_LOAD pipe.val) v 0#32 s = t) (taken : pageTakes (R.CLR_LUT_LOAD pipe.val) s = true)
    (start : bitAt v 0 = true) (free : ufld t (R.CLR_LUT_CTRL pipe.val) 1 1 ≠ getBits v 1 1)
    (steady : commitPending t (pg 3 (3 + pipe.val)) = false) (idle : (clrAt t pipe.val).loading = none) :
    exec (.lutLoad who pipe v) s =
      .next (setLutState pipe.val (getBits v 1 1) 1 (setClr pipe.val
      { clrAt t pipe.val with loading := some (getBits v 1 1), loadSrc := rnat2 t (R.CLR_LUT_SRC pipe.val) } t)) := by
  change execLutLoad who pipe v s = _
  unfold execLutLoad
  simp [written, taken, start, free, steady, idle]

/-- START of a load of bank 1 of pipeline 0 is written to the reset state. -/
def lutLoadWritten : State := writeReg .host (R.CLR_LUT_LOAD 0) 3#32 0#32 State.reset

/-- The load runs: bank 1 is LOADING (R106). -/
def lutLoading : State :=
  setLutState 0 1 1 (setClr 0 { clrAt lutLoadWritten 0 with loading := some 1, loadSrc := rnat2 lutLoadWritten (R.CLR_LUT_SRC 0) } lutLoadWritten)

/-- The host has then requested a warm reset, which has not reached its core reset (R346, R347). -/
def lutLoadCut : State := resetRequest .host 0xA501#32 lutLoading

/-- The counterexample is reached from the reset state, by a load and a request. -/
theorem lutLoadCut_reached : exec (.lutLoad .host 0 3#32) State.reset = .next lutLoading ∧
    exec (.softwareWarmReset .host 0xA501#32) lutLoading = .next lutLoadCut := by
  refine ⟨?load, rfl⟩
  exact exec_lutLoad_starts (pipe := 0) (t := lutLoadWritten) rfl (by decide +kernel) (by decide) (by decide +kernel)
    (by decide +kernel) (by decide +kernel)

theorem lutLoadCut_quiesce : lutLoadCut.plt.phase = .quiesce := by decide +kernel

theorem lutLoadCut_not_flushing : (coreReset lutLoadCut).recorder.flushing = false := by decide +kernel

/-- CLR_LUT_CTRL holds the shadowed EN, BANK and SHAPER beside the two banks' states. -/
theorem shadowedAddr_CLR_LUT_CTRL : shadowedAddr (R.CLR_LUT_CTRL 0) = true := by decide +kernel

/-- The Warm column keeps the bank's state: LOADING (1). -/
theorem warmWord_lutLoadCut : warmWord lutLoadCut (R.CLR_LUT_CTRL 0) = 0x400#32 := by decide +kernel

/-- The core reset cuts the load and leaves the bank INVALID (2). -/
theorem rget_coreReset_lutLoadCut : rget (coreReset lutLoadCut) (R.CLR_LUT_CTRL 0) = 0x800#32 := by decide +kernel

/-- Refutes O12: CLR_LUT_CTRL holds shadowed fields and, beside them, the states of the LUT banks. A core reset that cuts a load
short turns the bank's state from LOADING to INVALID before the Warm values are taken, so the register ends at 0x800, where its
Warm value of the state before the core reset is 0x400. The state is reached from reset (`lutLoadCut_reached`). -/
theorem not_warmResetDiscardsStaged : ¬ Obligations.WarmResetDiscardsStaged := by
  unfold Obligations.WarmResetDiscardsStaged
  intro h
  obtain ⟨t, run, -, warm, -⟩ := h lutLoadCut lutLoadCut_quiesce
  have final : coreReset lutLoadCut = t :=
    Host.Outcome.next.inj ((exec_coreReset_of_quiesce lutLoadCut_quiesce lutLoadCut_not_flushing).symm.trans run)
  have held : rget t (R.CLR_LUT_CTRL 0) = warmWord lutLoadCut (R.CLR_LUT_CTRL 0) := (warm _ shadowedAddr_CLR_LUT_CTRL).1
  rw [← final, rget_coreReset_lutLoadCut, warmWord_lutLoadCut] at held
  exact absurd held (by decide)

end Sys2Proof.Proofs
end
